-- ==== Sys2Proof/Word.lean ====
section
/-! DEFINITION. The word types of the model and nothing else. -/

namespace Sys2Proof

/-- One byte of a frame, a memory or an NVM line. -/
abbrev Byte := BitVec 8

/-- A 32-bit word of the HX32 core (R519, 18_core.md) or a host window register (R37, 02_mailboxes.md). -/
abbrev Word := BitVec 32

/-- A byte string: a frame, a payload, an image, a key. -/
abbrev Bytes := List Byte

end Sys2Proof
end

