-- ==== Sys2Proof/Machine/Types.lean ====
section
/-! DEFINITION. The names the spec fixes (variants, transports, domains, modes, owners, resets) and the operand records of commands. -/

namespace Sys2Proof

/-- The two variants of R1 (00_scope.md). -/
inductive Part where
  | bz7460 | bz7464
  deriving DecidableEq, Repr

/-- The mailbox transports of R35 (02_mailboxes.md). -/
inductive Transport where
  | spi | can | eth
  deriving DecidableEq, Repr

/-- The twelve power domains in the order of R79 (03_commands.md). -/
inductive Domain where
  | svc | mema | memb | nvm | enc | rfd | net | vbus | scan | outA | outB | ana
  deriving DecidableEq, Repr

/-- The state of a power domain, R398 (14_power.md). -/
inductive DomState where
  | off | ret | on
  deriving DecidableEq, Repr

/-- The vehicle modes of R16 (01_system.md), codes 0 to 5. -/
inductive Mode where
  | transport | parked | approach | accessory | run | service
  deriving DecidableEq, Repr

/-- The ignition state, R17 and the MODE.GET row of 03_commands.md. -/
inductive Ign where
  | off | acc | run | crank
  deriving DecidableEq, Repr

/-- The lock state as MODE.GET codes it: 0 none, 1 LOCKED, 2 UNLOCKED. -/
inductive LockState where
  | none | locked | unlocked
  deriving DecidableEq, Repr

/-- Owner codes of R73 (03_commands.md). -/
inductive Owner where
  | dflt | spi | can | eth | service | ext
  deriving DecidableEq, Repr

/-- The power dies A and B, R10 table (01_system.md). -/
inductive Die where
  | a | b
  deriving DecidableEq, Repr

/-- The reset and start causes of R434 (15_clocks_resets.md). -/
inductive Cause where
  | por | bor | lpbo | pin | wdt | cfr | cmd | encr
  | shutdownSupply | transportExit
  | dom (d : Domain)
  deriving DecidableEq, Repr

/-- The classes of a rill message, R348 (12_confluence.md). -/
inductive Cls where
  | notice | recoverable | severe | grave
  deriving DecidableEq, Repr

/-- A rill message, R348 (12_confluence.md). -/
structure Rill where
  source : Nat := 0
  kind : Nat := 0
  cls : Cls := .notice
  island : Nat := 0
  seq : Nat := 0
  detail : Nat := 0
  deriving DecidableEq, Repr

/-- An IPv4 address and UDP port: where an MBX-ETH response goes (R46, 02_mailboxes.md). -/
structure Addr where
  ip : Nat := 0
  port : Nat := 0
  deriving DecidableEq, Repr

/-- A request as it stands after its header is read (R47): the operand of every mailbox command row. -/
structure Req where
  transport : Transport := .spi
  session : Nat := 0
  seq : Nat := 0
  async : Bool := false
  priv : Nat := 0
  auth : Bool := false
  mac : Bytes := []
  src : Addr := {}
  payload : Bytes := []
  /-- Device time in µs at which the request is checked. -/
  time : Nat := 0
  deriving DecidableEq, Repr

/-- A trigger level of mode policy that changes (R17, R18; 01_system.md): none is an invalid ignition source (R22) or no lock report. -/
inductive Trigger where
  | ign (v : Option Ign)
  | lock (v : LockState)
  | door (isOpen : Bool)
  | session
  | transport
  deriving DecidableEq, Repr

/-- A dip of a supply: its lowest level in mV and how long it stayed below its threshold in µs; VBAT under 2.8 V (R391, R435), V33 under 2.95 V, VCORE under 0.81 V (R397). -/
inductive Dip where
  | vbat (us : Nat)
  | v33 (mv us : Nat)
  | vcore (mv us : Nat)
  deriving DecidableEq, Repr

/-- How a key update goes (R307): its steps run to the end, the read-back of step 4 does not match, or it is still running when the next command comes. -/
inductive KeyRun where
  | done | mismatch | runs
  deriving DecidableEq, Repr

/-- What RLS.CAL measures (R173): the signals of two bursts on each channel, none where a measurement is invalid, and the MSNS reading. -/
structure CalMeas where
  a0 : Option Nat := none
  a1 : Option Nat := none
  b0 : Option Nat := none
  b1 : Option Nat := none
  msns : Nat := 0
  deriving DecidableEq, Repr

/-- What a monitor's comparators find at a tamper event (R323, R325): the LFSR bits driven on the 24 mesh lines and what their far ends read; the enclave core supply or V33 in mV, for so many ns; ENCK in kHz over 2 µs, or so many ns without an edge; the enclave temperature in °C. -/
inductive TamperSeen where
  | mesh (driven far : Nat)
  | core (mv ns : Nat)
  | v33 (mv ns : Nat)
  | clock (khz : Nat)
  | noEdge (ns : Nat)
  | temp (c : Int)
  deriving DecidableEq, Repr

/-- What the watch on XTAL25 finds (R431): a frequency in kHz over so many µs, or so many ns without an edge. -/
inductive XtalSeen where
  | freq (khz us : Nat)
  | noEdge (ns : Nat)
  deriving DecidableEq, Repr

/-- What the ECC of a load or fetch finds (R351, R383, R448): nothing, a corrected or an uncorrectable memory error, an uncorrectable program fetch. -/
inductive Ecc where
  | clean | corrected | uncorrected | fetchUncorr
  deriving DecidableEq, Repr

/-- A frame the device sends: a response or an event (R47, R50, R61; 02_mailboxes.md). -/
structure Frame where
  code : Nat := 0
  seq : Nat := 0
  session : Nat := 0
  async : Bool := false
  auth : Bool := false
  event : Bool := false
  priv : Nat := 0
  payload : Bytes := []
  mac : Bytes := []
  dest : Addr := {}
  /-- The abort record of the request that a response answers (R64); none for an event and for a refusal before acceptance. -/
  accId : Option Nat := none
  /-- The 802.1Q tag of a datagram: VLAN ID and priority code point (R250, 08_buses.md). -/
  vlan : Nat := 0
  pcp : Nat := 0
  deriving DecidableEq, Repr

/-- A UDP datagram received on the uplink (R46, R249, R250): addresses and ports, its VLAN ID (0 untagged), IPv6, fragmented. -/
structure Datagram where
  src : Addr := {}
  dst : Addr := {}
  vlan : Nat := 0
  v6 : Bool := false
  fragmented : Bool := false
  data : Bytes := []
  deriving DecidableEq, Repr

/-- A CAN frame on a bus (R238, 08_buses.md). `id` is the identifier without the 29-bit mark. -/
structure CanFrame where
  id : Nat := 0
  ext : Bool := false
  fd : Bool := false
  brs : Bool := false
  esi : Bool := false
  remote : Bool := false
  data : Bytes := []
  deriving DecidableEq, Repr

/-- The tasks of Smisa that R371 names, and all others (13_tdx.md). -/
inductive SmisaTask where
  | outputs | millrace | policy | lamps | wiper | motion | confluence | other
  deriving DecidableEq, Repr

/-- An upstream Millrace record, R212 table (07_millrace.md). -/
structure UpRecord where
  addr : Nat := 0
  kind : Nat := 0
  appliedValid : Bool := false
  failsafe : Bool := false
  relayed : Bool := false
  applied : Nat := 0
  data : Bytes := []
  deriving DecidableEq, Repr

/-- A downstream Millrace record, R212 table (07_millrace.md): kind 0 OUTPUT, 1 ADMIT, 2 REFUSE. -/
structure DownRecord where
  addr : Nat := 0
  kind : Nat := 0
  subst : Bool := false
  basis : Nat := 0
  reason : Nat := 0
  data : Bytes := []
  deriving DecidableEq, Repr

/-- A Millrace frame as received on a port, R211 (07_millrace.md): whether it carries a VLAN tag, its source address, and everything after its EtherType, padding included. -/
structure InputFrame where
  port : Nat := 0
  vlan : Bool := false
  src : Nat := 0
  pdu : Bytes := []
  deriving DecidableEq, Repr

end Sys2Proof
end

