-- ==== Sys2Proof/Syntax.lean ====
section
/-! DEFINITION. The commands and events of the device: one constructor per row of spec/opcode_table.json. A mailbox command row takes the request whose header has been read; a timed or physical event takes the device time `t` in µs at which it happens and what is measured; an HX32 row takes the fields of its format (R528, 18_core.md) in the register numbering of R519. -/

namespace Sys2Proof

/-- A command or event of the device, one constructor per row of the table. -/
inductive Instr where
  /-- REGISTER_WRITE: Host window opcode 0x02 writes a register that has no behaviour of its own (WIN_SCRATCH or a read-only field). (R37) -/
  | registerWrite (t : Nat) (off : Nat) (bytes : Bytes)
  /-- WIN_IRQ_WRITE: A write of ones to WIN_IRQ clears those bits, and INTN is re-evaluated. (R41) -/
  | winIrqWrite (t : Nat) (v : Word)
  /-- WIN_IRQEN_WRITE: A write to WIN_IRQEN changes which WIN_IRQ bits assert INTN. (R42) -/
  | winIrqenWrite (t : Nat) (v : Word)
  /-- EVFLUSH: Writing 1 to WIN_CTRL.EVFLUSH discards every queued event. (R41) -/
  | evflush (t : Nat)
  /-- RXDROP: Writing 1 to WIN_CTRL.RXDROP discards the head frame of the RX queue. (R41) -/
  | rxdrop (t : Nat)
  /-- WIN_ERR_WRITE: Any write to WIN_ERR clears the error COUNT. (R41) -/
  | winErrWrite (t : Nat)
  /-- UNKNOWN_OPCODE: An unknown opcode or unmapped offset makes the device ignore the rest of the assertion and record the error in WIN_ERR. (R38) -/
  | unknownOpcode (t : Nat) (op : Nat) (off : Nat) (n : Nat)
  /-- FRAME_WRITE: A frame written through the SPI host window is checked and accepted into a request slot or refused. (R51) -/
  | frameWrite (t : Nat) (bytes : Bytes)
  /-- FRAME_READ: A frame read shifts out the head RX frame and removes it only if every byte was clocked out. (R39) -/
  | frameRead (t : Nat) (n : Nat)
  /-- HSPI_WAKE: A falling edge on HSPI_CSN while SVC is not ON wakes the device, with READY within 5 ms. (R43) -/
  | hspiWake (t : Nat)
  /-- FIRST_FRAME: An MBX-CAN first frame is checked on its header and answered with flow status CTS or OVFLW. (R45) -/
  | firstFrame (t : Nat) (f : CanFrame)
  /-- CONSECUTIVE_FRAME: An MBX-CAN consecutive frame is added to the message and the frame is checked when the last one arrives. (R44) -/
  | consecutiveFrame (t : Nat) (f : CanFrame)
  /-- N_CR_TIMEOUT: The N_Cr timer expires and the frame ends short, to be checked as delivered. (R44) -/
  | nCrTimeout (t : Nat)
  /-- FLOW_CONTROL: A flow-control frame from the host lets the device continue a multi-frame response. (R44) -/
  | flowControl (t : Nat) (f : CanFrame)
  /-- N_BS_TIMEOUT: No flow control arrives within N_Bs and the device abandons the segmented transmission. (R44) -/
  | nBsTimeout (t : Nat)
  /-- MBX_ETH_DATAGRAM: A UDP datagram on the mailbox port is taken as one frame and checked. (R46) -/
  | mbxEthDatagram (t : Nat) (d : Datagram)
  /-- SESSION_IDLE_TIMEOUT: An authenticated session with no accepted request for its idle time closes. (R60) -/
  | sessionIdleTimeout (t : Nat) (tr : Transport) (id : Nat)
  /-- UNPROVEN_SESSION_TIMEOUT: A session opened by ENC.OPEN and not proven within 10 s closes. (R93) -/
  | unprovenSessionTimeout (t : Nat) (tr : Transport) (id : Nat)
  /-- SYS_INFO: Returns part, silicon code, versions, generations and serial. (R68) -/
  | sysInfo (r : Req)
  /-- SYS_STATUS: Returns mode, crank flag, VBAT, die temperatures, config state and RTC flag. (R68) -/
  | sysStatus (r : Req)
  /-- SYS_RESET: Sends its response and executes a CMD device reset or DOM reset within 10 ms. (R80) -/
  | sysReset (r : Req)
  /-- SYS_GETTIME: Returns RTC seconds, set flag, source and trim. (R68) -/
  | sysGettime (r : Req)
  /-- SYS_SETTIME: Sets the RTC and trim unless gPTP is the valid time source. (R81) -/
  | sysSettime (r : Req)
  /-- SYS_RESETLOG: Returns the eight newest reset-cause entries. (R440) -/
  | sysResetlog (r : Req)
  /-- SYS_WAKE: Returns the last-wake record. (R410) -/
  | sysWake (r : Req)
  /-- MODE_GET: Returns mode, crank flag, ignition, lock and transport flag. (R68) -/
  | modeGet (r : Req)
  /-- MODE_SET: Requests a mode transition under the mode rules and answers once it completes. (R82) -/
  | modeSet (r : Req)
  /-- MODE_HOLD: Makes the power controller refuse PARKED entry with HOST_HOLD for the given time. (R83) -/
  | modeHold (r : Req)
  /-- MODE_HOLD_EXPIRY: The hold time of MODE.HOLD ends and PARKED entry is allowed again. (R83) -/
  | modeHoldExpiry (t : Nat)
  /-- PWR_GET: Returns the state of each domain and the override mask. (R68) -/
  | pwrGet (r : Req)
  /-- PWR_SET: Overrides the state of one domain, or is refused with a refuser code. (R402) -/
  | pwrSet (r : Req)
  /-- PWR_REFUSALS: Returns the refusal counters and the last refuser. (R405) -/
  | pwrRefusals (r : Req)
  /-- OUT_GET: Returns owner, priority, mode, duties, current and fault flags of an object. (R85) -/
  | outGet (r : Req)
  /-- OUT_SET: Sets mode, duty and frequency of an owned channel. (R86) -/
  | outSet (r : Req)
  /-- OUT_CLAIM: Submits a claim on an object to the arbiter for the current arbitration step. (R74) -/
  | outClaim (r : Req)
  /-- OUT_RELEASE: Releases one or all claims of the requester. (R596) -/
  | outRelease (r : Req)
  /-- OUT_KEEP: Renews the lease of every claim of the requester. (R76) -/
  | outKeep (r : Req)
  /-- OUT_CLEAR: Ends a latch-off of a channel after a fault. (R86) -/
  | outClear (r : Req)
  /-- OUT_OWNERS: Returns owner and priority of the 56 device objects. (R68) -/
  | outOwners (r : Req)
  /-- OUT_STNOWNERS: Returns owner and priority of the 255 station objects. (R87) -/
  | outStnowners (r : Req)
  /-- LAMP_GET: Returns the request, level in force and first channel's compensation and duty of a lamp function. (R597) -/
  | lampGet (r : Req)
  /-- LAMP_SET: Sets a lamp function to auto, off or on at a level with a fade. (R137) -/
  | lampSet (r : Req)
  /-- LAMP_SCENE: Applies a Twill scene of function levels with one fade time. (R137) -/
  | lampScene (r : Req)
  /-- WIPE_GET: Returns wiper mode, rain intensity, blade wear and parked state. (R68) -/
  | wipeGet (r : Req)
  /-- WIPE_SET: Sets the wiper mode, sensitivity and interval. (R134) -/
  | wipeSet (r : Req)
  /-- WIPE_WASH: Runs the washer for the given duration with wipes during and after. (R136) -/
  | wipeWash (r : Req)
  /-- MOTN_GET: Returns actuator position, state and pinch count. (R68) -/
  | motnGet (r : Req)
  /-- MOTN_MOVE: Moves an actuator to a target position in the given manner. (R141) -/
  | motnMove (r : Req)
  /-- MOTN_STOP: Stops one actuator or all. (R68) -/
  | motnStop (r : Req)
  /-- MOTN_LEARN: Runs the actuator end to end and records travel, ripple count and current profile. (R140) -/
  | motnLearn (r : Req)
  /-- HAP_PLAY: Triggers a haptic effect at an amplitude. (R193) -/
  | hapPlay (r : Req)
  /-- HAP_ARM: Replaces the armed effect for later triggers. (R191) -/
  | hapArm (r : Req)
  /-- HAP_GET: Returns the armed effect, coil state, resistance and ignored-trigger count. (R196) -/
  | hapGet (r : Req)
  /-- IN_GET: Returns switch, wake pin and analog input states. (R153) -/
  | inGet (r : Req)
  /-- IN_WATCH: Sets the inputs whose debounced changes raise IN.CHANGE. (R149) -/
  | inWatch (r : Req)
  /-- KEY_GET: Returns key states and the frozen mask. (R161) -/
  | keyGet (r : Req)
  /-- RLS_GET: Returns rain intensity, light levels, light state and mount state. (R184) -/
  | rlsGet (r : Req)
  /-- RLS_CAL: Measures dry and mount references on a windscreen record and stores them. (R173) -/
  | rlsCal (r : Req) (m : CalMeas)
  /-- STN_LIST: Returns the station table with each station's state. (R68) -/
  | stnList (r : Req)
  /-- STN_GET: Returns a station's state, profile, last applied cycle, misses and inputs. (R224) -/
  | stnGet (r : Req)
  /-- STN_WRITE: Stores data in an owned station output image and names the first carrying cycle. (R91) -/
  | stnWrite (r : Req)
  /-- STN_CYCLE: Changes a port's cycle time from the next cycle instant. (R219) -/
  | stnCycle (r : Req)
  /-- BUS_GET: Returns a CAN or LIN channel's state and counters. (R243) -/
  | busGet (r : Req)
  /-- BUS_ROUTE: Replaces one entry of the working routing table. (R254) -/
  | busRoute (r : Req)
  /-- BUS_SEND: Queues a CAN frame for transmission and answers on acknowledgement. (R92) -/
  | busSend (r : Req)
  /-- BUS_SEND_ACK_TIMEOUT: A BUS.SEND frame not acknowledged within 20 ms is answered ST_TIMEOUT. (R92) -/
  | busSendAckTimeout (t : Nat) (ch : Nat)
  /-- BUS_LINSCHED: Selects a LIN schedule from the end of the running slot. (R248) -/
  | busLinsched (r : Req)
  /-- TAG_GET: Returns the tag state and last transaction number. (R264) -/
  | tagGet (r : Req)
  /-- TAG_ENABLE: Writes the tag enable flag in enclave NVM. (R263) -/
  | tagEnable (r : Req)
  /-- TAG_TXNLOG: Returns transaction records from the enclave log. (R286) -/
  | tagTxnlog (r : Req)
  /-- INS_GET: Returns insert presence, state, validity, transactions left and insertions. (R280) -/
  | insGet (r : Req)
  /-- INS_APDU: Passes a command APDU to the insert and returns its response APDU. (R92) -/
  | insApdu (r : Req)
  /-- ENC_CERT: Returns a chunk of the DIK certificate. (R298) -/
  | encCert (r : Req)
  /-- ENC_OPEN: Starts an authenticated session with an ECDH exchange signed by the DIK. (R313) -/
  | encOpen (r : Req)
  /-- ENC_PROVE: Verifies a credential certificate and signature and grants a privilege. (R315) -/
  | encProve (r : Req)
  /-- ENC_CLOSE: Closes the session that carries it after answering. (R93) -/
  | encClose (r : Req)
  /-- ENC_ATTEST: Builds and signs the attestation statement. (R300) -/
  | encAttest (r : Req)
  /-- ENC_KEYUPD: Unwraps and commits a new key into a key-store slot in two cells. (R307) -/
  | encKeyupd (r : Req) (run : KeyRun)
  /-- ENC_KEYINFO: Returns a slot's generation and algorithm. (R304) -/
  | encKeyinfo (r : Req)
  /-- ENC_COUNTER: Returns a monotonic counter. (R312) -/
  | encCounter (r : Req)
  /-- TMP_FLAGS: Returns the tamper sticky flags. (R336) -/
  | tmpFlags (r : Req)
  /-- TMP_LOG: Returns tamper log entries. (R342) -/
  | tmpLog (r : Req)
  /-- TMP_EXPORT: Builds a signed tamper log export at offset 0 or returns further chunks. (R344) -/
  | tmpExport (r : Req)
  /-- TMP_TEST: Stimulates a tamper monitor and reports detections. (R345) -/
  | tmpTest (r : Req) (found : Nat)
  /-- FLT_READ: Returns the newest fault history entries and the dropped-Notice count. (R358) -/
  | fltRead (r : Req)
  /-- FLT_COUNTERS: Returns recovery counters. (R362) -/
  | fltCounters (r : Req)
  /-- FLT_CLEAR: Clears recovery counters, and with 0xFF the dropped count and escalation history. (R364) -/
  | fltClear (r : Req)
  /-- TDX_STATUS: Returns replay and second-mismatch counts and window length. (R388) -/
  | tdxStatus (r : Req)
  /-- CFG_INFO: Returns the active Twill copy, sequence, CRC and write counts. (R477) -/
  | cfgInfo (r : Req)
  /-- CFG_BEGIN: Opens a configuration staging of a given length. (R95) -/
  | cfgBegin (r : Req)
  /-- CFG_DATA: Writes bytes into the open staging. (R95) -/
  | cfgData (r : Req)
  /-- CFG_COMMIT: Checks the staged image and writes it to the inactive Twill copy. (R474) -/
  | cfgCommit (r : Req) (runs : Bool)
  /-- CFG_READ: Returns bytes of the active Twill image. (R477) -/
  | cfgRead (r : Req)
  /-- CFG_ABORT: Abandons the open staging. (R95) -/
  | cfgAbort (r : Req)
  /-- CFG_STAGING_IDLE: Staging is abandoned after 30 s without CFG.DATA. (R95) -/
  | cfgStagingIdle (t : Nat)
  /-- LIFE_CLOCK: Returns the life clock and RTC. (R487) -/
  | lifeClock (r : Req)
  /-- LIFE_COUNTER: Returns life counters of a class. (R479) -/
  | lifeCounter (r : Req)
  /-- LIFE_NOTICES: Returns the stored service notices. (R490) -/
  | lifeNotices (r : Req)
  /-- LIFE_ACK: Acknowledges a service notice and resets the wear it concerns. (R491) -/
  | lifeAck (r : Req)
  /-- UPD_INFO: Returns bank versions, validity, pending state and floors. (R513) -/
  | updInfo (r : Req)
  /-- UPD_WRITE: Writes data to external flash, erasing a sector at its first byte. (R96) -/
  | updWrite (r : Req)
  /-- UPD_STAGE: Checks an image in external flash and records it as staged. (R502) -/
  | updStage (r : Req)
  /-- UPD_ACTIVATE: Sets PENDING, answers and restarts so that the copy runs. (R503) -/
  | updActivate (r : Req)
  /-- UPD_CONFIRM: Confirms the active bank and raises the floor of a kind. (R509) -/
  | updConfirm (r : Req) (runs : Bool)
  /-- EXT_INFO: Returns extension state, API level and image version. (R68) -/
  | extInfo (r : Req)
  /-- EXT_CTRL: Stops or starts the extension. (R548) -/
  | extCtrl (r : Req)
  /-- EXT_MSG: Passes a message to extension code and returns its reply. (R97) -/
  | extMsg (r : Req)
  /-- EXT_MSG_TIMEOUT: Extension code does not reply within 1 s and EXT.MSG is answered ST_TIMEOUT. (R97) -/
  | extMsgTimeout (t : Nat) (id : Nat)
  /-- DIAG_REQ: Carries one ISO 14229-1 request and returns its diagnostic response. (R102) -/
  | diagReq (r : Req)
  /-- DIAG_S3_TIMEOUT: 5000 ms without DIAG.REQ returns the extended session to default. (R102) -/
  | diagS3Timeout (t : Nat)
  /-- ARBITRATION_STEP: At the end of each 1 ms step the arbiter decides the collected claims. (R74) -/
  | arbitrationStep (t : Nat)
  /-- CLAIM_LEASE_EXPIRY: A claim's lease expires and ownership returns to the default owner. (R27) -/
  | claimLeaseExpiry (t : Nat) (obj : Nat)
  /-- TRIGGER_LEVEL_CHANGE: A change of ignition, lock, door, session or transport level makes mode policy evaluate the transition table. (R18) -/
  | triggerLevelChange (t : Nat) (tr : Trigger)
  /-- MODE_EVALUATION: Mode policy evaluates the trigger levels at least every 10 ms. (R18) -/
  | modeEvaluation (t : Nat)
  /-- WAKE0_QUALIFIED: WAKE0 active for 50 ms in TRANSPORT starts the device and clears the transport flag. (R154) -/
  | wake0Qualified (t : Nat)
  /-- APPROACH_LINGER_ELAPSED: The linger since lock and last door close elapses and APPROACH gives way to PARKED. (R18) -/
  | approachLingerElapsed (t : Nat)
  /-- APPROACH_TIMEOUT: No trigger change for the approach timeout in APPROACH leads to PARKED. (R18) -/
  | approachTimeout (t : Nat)
  /-- SERVICE_INACTIVITY: 30 min with no P3 frame ends SERVICE. (R18) -/
  | serviceInactivity (t : Nat)
  /-- CRANK_LIMIT: 30 s in CRANK ends the sub-state while RUN is kept. (R21) -/
  | crankLimit (t : Nat)
  /-- IGNITION_TIMEOUT: The ignition source becomes invalid; the last state is held. (R22) -/
  | ignitionTimeout (t : Nat)
  /-- IGNITION_INVALID_LIMIT: 10 min after IGN_LOST the ignition state is taken as OFF. (R22) -/
  | ignitionInvalidLimit (t : Nat)
  /-- LINK_LOSS: A power die without command or keep-alive for 2 ms applies its link-loss pattern. (R11) -/
  | linkLoss (t : Nat) (die : Die)
  /-- LINK_RETURN: The link to a power die returns and the control die sends each channel's drive within 1 ms. (R11) -/
  | linkReturn (t : Nat) (die : Die)
  /-- ENCLAVE_EVENT_TAKE: The service core takes completed-transaction events from the enclave buffer. (R14) -/
  | enclaveEventTake (t : Nat)
  /-- LIMIT_HOLD_EXPIRY: A high-side channel's limit-hold timer expires and it switches off with the over-current flag. (R107) -/
  | limitHoldExpiry (t : Nat) (obj : Nat) (onUs : Nat)
  /-- OVERCURRENT_TRIP: An HB, LS or GD channel reaches its trip level and switches off at once. (R107) -/
  | overcurrentTrip (t : Nat) (obj : Nat)
  /-- THERMAL_SHUTDOWN: A channel sensor reaches 175 °C and the channel switches off. (R109) -/
  | thermalShutdown (t : Nat) (obj : Nat) (temp : Int)
  /-- BOOTSTRAP_UNDERVOLTAGE: A GD bootstrap below 7.0 V turns both gates off as an over-current. (R105) -/
  | bootstrapUndervoltage (t : Nat) (obj : Nat)
  /-- RESTART_INTERVAL_EXPIRY: The auto-retry interval ends and the channel restarts if cool enough. (R110) -/
  | restartIntervalExpiry (t : Nat) (obj : Nat) (temp : Int)
  /-- SENSOR_COOLED: A thermally shut channel's sensor falls below 155 °C and its restart may proceed. (R109) -/
  | sensorCooled (t : Nat) (obj : Nat) (temp : Int)
  /-- RESTART_COUNT_RESTORE: 5 s of fault-free run restores the restarts left. (R111) -/
  | restartCountRestore (t : Nat) (obj : Nat)
  /-- INRUSH_WINDOW_END: 20 ms after switch-on the inrush window closes and the limit returns to I_LIM. (R108) -/
  | inrushWindowEnd (t : Nat) (obj : Nat)
  /-- PWM_PERIOD_START: At each PWM period start the sequencer computes the compensated duty and steps fades. (R121) -/
  | pwmPeriodStart (t : Nat) (obj : Nat) (mv : Nat) (ripples : Nat)
  /-- SENSE_SLOT: With ISMODE low each 100 µs slot selects the next ISNS source and samples it. (R115) -/
  | senseSlot (t : Nat) (sel : Nat) (x : Int)
  /-- OFF_STATE_CHECK: Every 100 ms an OFF channel is checked for short to battery and open load. (R117) -/
  | offStateCheck (t : Nat) (obj : Nat) (mv : Nat) (pulled : Nat)
  /-- ON_STATE_OPEN_LOAD: The on-state span ends and the open-load flag sets or clears. (R119) -/
  | onStateOpenLoad (t : Nat) (obj : Nat) (ma : Nat)
  /-- CRANK_THRESHOLD_CROSSING: A die's filtered V_bat crosses 6.0 V or a SUSPEND_BELOW threshold and crank policy holds or releases channels. (R123) -/
  | crankThresholdCrossing (t : Nat) (die : Die) (mv : Nat)
  /-- OVERVOLTAGE_OFF: A power die above 28.0 V switches every channel off. (R392) -/
  | overvoltageOff (t : Nat) (die : Die) (mv : Nat)
  /-- OVERVOLTAGE_RELEASE: A power die below 27.0 V releases its channels. (R392) -/
  | overvoltageRelease (t : Nat) (die : Die) (mv : Nat)
  /-- GOVERNOR_EVALUATION: Every 50 ms each die sheds or restores one channel against its threshold. (R125) -/
  | governorEvaluation (t : Nat) (die : Die) (temp : Int) (ma : List Nat)
  /-- WIPER_PARKED: The park switch reads parked and the wiper stops or continues its mode. (R135) -/
  | wiperParked (t : Nat)
  /-- PARK_TIMEOUT: The park switch does not read parked within 3 s; the motor stops with an over-current fault. (R135) -/
  | parkTimeout (t : Nat)
  /-- WIPER_STALL: Wiper current above the stall threshold for 500 ms stops the motor. (R135) -/
  | wiperStall (t : Nat) (ma : Nat)
  /-- STALL_RETRY: 2 s after a first stall the wiper retries once. (R135) -/
  | stallRetry (t : Nat)
  /-- WIPE_INTERVAL_EXPIRY: The interval wait ends and the next wipe starts. (R134) -/
  | wipeIntervalExpiry (t : Nat)
  /-- WASH_END: The washer duration ends and the post-wash wipes follow. (R136) -/
  | washEnd (t : Nat)
  /-- PINCH_DETECTED: Current above the learnt profile plus margin for 10 ms stops and reverses the actuator. (R142) -/
  | pinchDetected (t : Nat) (act : Nat) (ma : Nat) (ripples : Nat)
  /-- END_STOP_STALL: Stall current at an end stop stops the actuator and sets its position. (R141) -/
  | endStopStall (t : Nat) (act : Nat) (ma : Nat) (ripple : Nat) (profile : List Nat)
  /-- MOTION_TARGET_REACHED: The actuator reaches its target or reversal distance and stops. (R141) -/
  | motionTargetReached (t : Nat) (act : Nat) (ripples : Nat)
  /-- HOLD_TO_RUN_TIMEOUT: No further MOTN.MOVE within 200 ms under manner 2 stops the motion. (R89) -/
  | holdToRunTimeout (t : Nat) (act : Nat)
  /-- SWITCH_POLL: A switch input is polled and its debounce advanced. (R147) -/
  | switchPoll (t : Nat) (sw : Nat) (mv : Nat)
  /-- CONFIRM_BURST_POLL: In PARKED a 1 ms confirm poll advances a changed input towards a wake. (R151) -/
  | confirmBurstPoll (t : Nat) (sw : Nat) (mv : Nat)
  /-- SWITCH_STUCK_TIME: An input closed for longer than its stuck time raises a Notice. (R150) -/
  | switchStuckTime (t : Nat) (sw : Nat)
  /-- WAKE_PIN_FILTERED: A wake pin level holds for its filter time and its filtered state changes, waking if enabled. (R154) -/
  | wakePinFiltered (t : Nat) (pin : Nat)
  /-- ANALOG_SAMPLE: Every 10 ms the analog inputs are sampled and ladder codes advanced. (R156) -/
  | analogSample (t : Nat) (mvs : List Nat)
  /-- KEY_SCAN: A matrix scan is read, ghost rectangles and row faults evaluated, and keys debounced. (R160) -/
  | keyScan (t : Nat) (rows : List Nat) (idle : Nat)
  /-- KEY_STUCK_TIME: A key held beyond its stuck time raises a Notice. (R164) -/
  | keyStuckTime (t : Nat) (key : Nat)
  /-- ANY_KEY_SENSE: In PARKED every 50 ms the matrix is sensed and a second low reading wakes the device. (R163) -/
  | anyKeySense (t : Nat) (rows : Nat)
  /-- RAIN_MEASUREMENT: A rain burst gives a signal, coverage and intensity. (R174) -/
  | rainMeasurement (t : Nat) (s0 : Nat) (ok0 : Bool) (s1 : Nat) (ok1 : Bool)
  /-- INTENSITY_FALL: Coverage below the falling threshold for 2 s lowers the intensity by one. (R175) -/
  | intensityFall (t : Nat)
  /-- RAIN_SENSING_FAILED: Both rain channels failed for 10 s; FALLBACK intensity is used. (R177) -/
  | rainSensingFailed (t : Nat)
  /-- ALS_SAMPLE: Every 100 ms the light sensors are sampled and the light state evaluated. (R180) -/
  | alsSample (t : Nat) (raw0 : Nat) (ok0 : Bool) (raw1 : Nat) (ok1 : Bool)
  /-- LIGHT_STATE_DELAY_EXPIRY: A dark, light, tunnel-entry or tunnel-hold delay elapses and the light state changes. (R180) -/
  | lightStateDelayExpiry (t : Nat)
  /-- ALS_FAILED: A light sensor below its leakage floor or saturated for 1 s is failed. (R171) -/
  | alsFailed (t : Nat) (ch : Nat)
  /-- RAIN_LIGHT: Intensity at the rain-light threshold for 10 s puts rain-light functions on their dusk level. (R182) -/
  | rainLight (t : Nat)
  /-- MOUNT_MEASUREMENT: Every 250 ms MSNS is measured and the mount state updated. (R183) -/
  | mountMeasurement (t : Nat) (v : Nat)
  /-- HTRIG_EDGE: An enabled HTRIG edge plays the armed effect. (R190) -/
  | htrigEdge (t : Nat) (rising : Bool)
  /-- EFFECT_END: An effect's drive ends; the back-EMF window is sampled and the brake runs. (R203) -/
  | effectEnd (t : Nat) (bemf : Nat)
  /-- EFFECT_TIME_LIMIT: An effect reaches 60 ms and the bridge goes high-impedance. (R189) -/
  | effectTimeLimit (t : Nat)
  /-- I2T_UPDATE: Every 1 ms the coil heating estimate is updated. (R197) -/
  | i2tUpdate (t : Nat) (ma : Nat)
  /-- RESISTANCE_CHECK: Every second the coil resistance is measured and the coil state decided. (R201) -/
  | resistanceCheck (t : Nat) (mv : Nat) (ua : Nat)
  /-- HAPTIC_UNDERVOLTAGE: V_bat below 5.0 V stops a playing effect with no brake. (R198) -/
  | hapticUndervoltage (t : Nat) (mv : Nat)
  /-- CYCLE_INSTANT: At t0 of a cycle the controller sends CYCLE_START on the port. (R214) -/
  | cycleInstant (t : Nat) (port : Nat)
  /-- INPUT_FRAME: An INPUT frame is checked and its records accepted for the current cycle. (R215) -/
  | inputFrame (t : Nat) (f : InputFrame)
  /-- INPUT_DEADLINE: Snapshot closes, JOIN records are checked and station states evaluated. (R223) -/
  | inputDeadline (t : Nat) (port : Nat)
  /-- COMPUTE_COMPLETE: The output computation for a snapshot completes and OUTPUT frames are sent. (R217) -/
  | computeComplete (t : Nat) (port : Nat)
  /-- OUTPUTS_READY_DEADLINE: At t0 + 0.7 T_c without a completed computation the newest images are sent. (R217) -/
  | outputsReadyDeadline (t : Nat) (port : Nat)
  /-- RESIDUAL_FRAME: A non-Millrace frame in the residual window is bridged to the uplink, others discarded. (R233) -/
  | residualFrame (t : Nat) (port : Nat) (src : Nat) (millrace : Bool) (frame : Bytes)
  /-- RESIDUAL_UPLINK_FRAME: An uplink frame for a MAC learnt on a port is queued for its residual window. (R233) -/
  | residualUplinkFrame (t : Nat) (dst : Nat) (vlan : Nat) (frame : Bytes)
  /-- ENGINE_START: The Millrace engine starts with a new epoch and every station ABSENT. (R234) -/
  | engineStart (t : Nat)
  /-- KEY_LOAD_RETRY: Every 1 s a segment that could not load its key is retried. (R232) -/
  | keyLoadRetry (t : Nat)
  /-- T1S_ENERGY_DETECT: Signal on the wake port for 100 µs within 2 ms wakes the device. (R207) -/
  | t1sEnergyDetect (t : Nat) (port : Nat) (us : Nat)
  /-- CAN_FRAME_RECEIVED: A received CAN frame feeds mode sources, MBX-CAN and the routing table. (R255) -/
  | canFrameReceived (t : Nat) (ch : Nat) (f : CanFrame) (errs : Nat)
  /-- CAN_BUS_OFF_ENTRY: A CAN channel enters bus-off and discards routed frames. (R240) -/
  | canBusOffEntry (t : Nat) (ch : Nat)
  /-- BUS_OFF_RECOVERY: After 128 × 11 recessive bits and the recovery delay the channel recovers. (R240) -/
  | busOffRecovery (t : Nat) (ch : Nat)
  /-- WUF: A matching wake-up frame wakes the device and is stored for mode policy. (R245) -/
  | wuf (t : Nat) (f : CanFrame)
  /-- WAKE_ERROR_COUNT: The selective-wake frame error counter passes 32 and wakes the device. (R245) -/
  | wakeErrorCount (t : Nat) (count : Nat)
  /-- LIN_SLOT_END: A LIN schedule slot ends and the next frame is handled. (R247) -/
  | linSlotEnd (t : Nat) (ch : Nat) (resp : Option Bytes) (collision : Bool)
  /-- LIN_BUS_FAULT: A LIN bus dominant for more than 100 ms enters bus fault. (R243) -/
  | linBusFault (t : Nat) (ch : Nat) (ms : Nat)
  /-- LIN_SCHEDULE_START: 100 ms after the wake-up signal schedule 0 starts. (R248) -/
  | linScheduleStart (t : Nat) (ch : Nat)
  /-- LINK_POLL: Every 100 ms the uplink PHY link status is polled. (R249) -/
  | linkPoll (t : Nat) (up : Bool) (speed : Nat) (full : Bool)
  /-- GPTP_SYNC: A Sync message updates gPTP time and steps or trims the RTC. (R252) -/
  | gptpSync (t : Nat) (domain : Nat) (seq : Nat) (twoStep : Bool) (ns : Nat) (interval : Nat)
  /-- ANNOUNCE: An Announce message supplies the UTC offset. (R252) -/
  | announce (t : Nat) (domain : Nat) (valid : Bool) (offset : Int)
  /-- GPTP_INVALID: No Sync within 3 intervals ends gPTP validity. (R252) -/
  | gptpInvalid (t : Nat)
  /-- ARP_REQUEST: An ARP request is answered. (R250) -/
  | arpRequest (t : Nat) (vlan : Nat) (target : Nat) (sender : Nat)
  /-- ICMP_ECHO: An ICMP echo request is answered. (R250) -/
  | icmpEcho (t : Nat) (vlan : Nat) (target : Nat) (sender : Nat) (ident : Nat) (seq : Nat) (data : Bytes)
  /-- NTSCF_RECEIVED: A received NTSCF frame's CAN messages are transmitted per the routing table. (R257) -/
  | ntscfReceived (t : Nat) (vlan : Nat) (etherType : Nat) (pdu : Bytes)
  /-- BATCH_CLOSE: A stream's batch window closes and its NTSCF frame is sent. (R256) -/
  | batchClose (t : Nat) (stream : Nat)
  /-- BST: A DSRC BST is answered with a VST or ignored, and may log a refused attempt. (R268) -/
  | bst (t : Nat) (beacon : Nat) (channel : Nat) (profile : Nat) (efc : Bool) (context : Bytes)
  /-- GET: A DSRC GET of attributes is answered. (R269) -/
  | get (t : Nat) (bit : Bool) (link : Nat) (attrs : List Nat) (cred : Bytes)
  /-- SET: A DSRC SET of ReceiptData is accepted. (R269) -/
  | set (t : Nat) (bit : Bool) (link : Nat) (attr : Nat) (value : Bytes)
  /-- ACTION_GET_STAMPED: GET_STAMPED is answered with an authenticator and counts the transaction. (R270) -/
  | actionGetStamped (t : Nat) (bit : Bool) (link : Nat) (attrs : List Nat) (rnd : Bytes) (key : Nat) (cred : Bytes)
  /-- ACTION_SET_MMI: SET_MMI records a value for the transaction. (R267) -/
  | actionSetMmi (t : Nat) (bit : Bool) (link : Nat) (v : Nat)
  /-- ACTION_ECHO: ECHO is answered. (R267) -/
  | actionEcho (t : Nat) (bit : Bool) (link : Nat) (data : Bytes)
  /-- EVENT_REPORT: EVENT-REPORT release ends the DSRC transaction and logs its record. (R286) -/
  | eventReport (t : Nat) (bit : Bool) (link : Nat)
  /-- TRANSACTION_IDLE: 200 ms without a frame ends a DSRC transaction with outcome link lost. (R287) -/
  | transactionIdle (t : Nat)
  /-- SELECT: UHF Select is handled. (R271) -/
  | select (t : Nat) (target : Nat) (action : Nat) (bank : Nat) (ptr : Nat) (len : Nat) (mask : Bytes)
  /-- QUERY: UHF Query is handled. (R271) -/
  | query (t : Nat) (sel : Nat) (session : Nat) (target : Bool) (q : Nat)
  /-- QUERY_ADJUST: UHF QueryAdjust is handled. (R271) -/
  | queryAdjust (t : Nat) (session : Nat) (updn : Int)
  /-- QUERY_REP: UHF QueryRep is handled. (R271) -/
  | queryRep (t : Nat) (session : Nat)
  /-- ACK: UHF ACK is answered with PC and EPC. (R271) -/
  | ack (t : Nat) (rn : Nat)
  /-- NAK: UHF NAK is handled. (R271) -/
  | nak (t : Nat)
  /-- REQ_RN: UHF Req_RN is answered with a handle. (R271) -/
  | reqRn (t : Nat) (rn : Nat)
  /-- READ: UHF Read returns memory bank contents. (R272) -/
  | read (t : Nat) (bank : Nat) (ptr : Nat) (count : Nat) (handle : Nat)
  /-- ACCESS: UHF Access checks the access password. (R271) -/
  | access (t : Nat) (pw : Nat) (handle : Nat)
  /-- AUTHENTICATE: UHF Authenticate TAM1 is answered as a transaction of kind 1. (R274) -/
  | authenticate (t : Nat) (csi : Nat) (method : Nat) (keyId : Nat) (challenge : Bytes) (handle : Nat)
  /-- WRITE: UHF Write is answered with memory locked. (R271) -/
  | write (t : Nat) (handle : Nat)
  /-- BLOCKWRITE: UHF BlockWrite is answered with memory locked. (R271) -/
  | blockwrite (t : Nat) (handle : Nat)
  /-- BLOCKERASE: UHF BlockErase is answered with memory locked. (R271) -/
  | blockerase (t : Nat) (handle : Nat)
  /-- LOCK: UHF Lock is answered with memory locked. (R271) -/
  | lock (t : Nat) (handle : Nat)
  /-- KILL: UHF Kill is answered with memory locked. (R271) -/
  | kill (t : Nat) (handle : Nat)
  /-- UHF_FLAG_PERSISTENCE: An S1, S2, S3 or SL flag persistence time ends. (R271) -/
  | uhfFlagPersistence (t : Nat)
  /-- RF_FIELD_DETECT: A carrier above threshold for 100 µs in PARKED wakes the device. (R266) -/
  | rfFieldDetect (t : Nat) (us : Nat)
  /-- INSERTION: INS_DET present for 50 ms starts acceptance of the insert. (R279) -/
  | insertion (t : Nat)
  /-- INSERT_APDU_RESPONSE: An insert response arrives and acceptance proceeds or ends rejected. (R277) -/
  | insertApduResponse (t : Nat) (data : Bytes) (sw : Nat) (crcOk : Bool)
  /-- BWT_TIMEOUT: The insert does not answer within BWT and acceptance ends rejected. (R277) -/
  | bwtTimeout (t : Nat)
  /-- REMOVAL: INS_DET absent deactivates, zeroises the insert session and abandons any transaction. (R284) -/
  | removal (t : Nat)
  /-- INSERT_STATE_TICK: Every second the insert state is decided again. (R280) -/
  | insertStateTick (t : Nat)
  /-- WRITE_BACK: After a transaction the count and receipts are written back to the insert. (R283) -/
  | writeBack (t : Nat)
  /-- WRITE_BACK_RETRY: A failed write-back is retried once after 1 s. (R283) -/
  | writeBackRetry (t : Nat)
  /-- ENC_START: At each ENC start the enclave tests entropy, checks identity, cells, generations and tamper policy. (R308) -/
  | encStart (t : Nat) (entropyOk : Bool)
  /-- ENCLAVE_WATCHDOG_EXPIRY: The 100 ms enclave watchdog expires and causes an ENCR. (R294) -/
  | enclaveWatchdogExpiry (t : Nat)
  /-- ENCR: The enclave zeroises its SRAM and restarts Thean within 50 ms. (R294) -/
  | encr (t : Nat)
  /-- TAMPER_EVENT: A tamper monitor detects an event, which is counted and may raise an alarm. (R326) -/
  | tamperEvent (t : Nat) (seen : TamperSeen)
  /-- SLOW_CHECK: Every 4 s the mesh lines are driven high and low and compared. (R324) -/
  | slowCheck (t : Nat) (pass : Bool)
  /-- SLOW_CHECK_CONFIRM: A failing slow check is repeated every 50 µs until N or a pass. (R324) -/
  | slowCheckConfirm (t : Nat) (pass : Bool)
  /-- MONITOR_ARMED: A tamper monitor is armed 100 µs after its run condition begins. (R325) -/
  | monitorArmed (t : Nat) (source : Nat)
  /-- TAMPER_REARM: An alarmed source with no event for 10 s re-arms. (R326) -/
  | tamperRearm (t : Nat) (source : Nat)
  /-- TAMPER_LOG_WRITE: The enclave writes a pending record to the tamper log. (R340) -/
  | tamperLogWrite (t : Nat) (line : Nat)
  /-- NOTICE_ARRIVAL: A Notice rill message reaches the collector and is queued. (R357) -/
  | noticeArrival (t : Nat) (src : Nat) (kind : Nat) (island : Nat) (detail : Nat)
  /-- RECOVERABLE_ARRIVAL: A Recoverable rill message is queued for handling within 50 ms. (R354) -/
  | recoverableArrival (t : Nat) (src : Nat) (kind : Nat) (island : Nat) (detail : Nat)
  /-- SEVERE_ARRIVAL: A Severe rill message starts or extends the Severe reaction and issues its resets. (R359) -/
  | severeArrival (t : Nat) (src : Nat) (kind : Nat) (island : Nat) (detail : Nat)
  /-- GRAVE_ARRIVAL: A Grave message applies the hard safe pattern, halts the core and sets the Grave latch. (R365) -/
  | graveArrival (t : Nat) (src : Nat) (kind : Nat) (island : Nat) (detail : Nat)
  /-- QUIET_PERIOD_END: The quiet period passes and the Severe reaction ends. (R360) -/
  | quietPeriodEnd (t : Nat)
  /-- FAULT_HISTORY_TAKE: Smisa moves a message from the queue to the fault history and event log. (R358) -/
  | faultHistoryTake (t : Nat)
  /-- RECOVERABLE_ACK: Smisa or the Grave service acknowledges a handled Recoverable message. (R354) -/
  | recoverableAck (t : Nat)
  /-- ACK_TIMEOUT: No acknowledgement within 50 ms makes the collector issue ACK_TIMEOUT. (R354) -/
  | ackTimeout (t : Nat)
  /-- COLLECTOR_HANDSHAKE_MISS: AO misses the collector handshake for 4 ms and applies the Grave reaction itself. (R368) -/
  | collectorHandshakeMiss (t : Nat)
  /-- BRIDGE_TIMEOUT: A crossing not completed in 4 times its bound is abandoned. (R429) -/
  | bridgeTimeout (t : Nat) (near : Nat) (far : Nat) (ns : Nat)
  /-- XTAL25_FAIL: XTAL25 failure switches every PLL to the fallback oscillator and stops bus and radio timing. (R431) -/
  | xtal25Fail (t : Nat) (seen : XtalSeen)
  /-- AOK_FAIL: AOK without an edge for 250 µs hands AO to AORC. (R432) -/
  | aokFail (t : Nat) (noEdge : Nat)
  /-- AOK_RETRY: Every 60 s AOK is retried and takes over if it runs. (R432) -/
  | aokRetry (t : Nat) (runs : Bool)
  /-- AORC_CALIBRATION: Every 60 s with SVC ON AORC is calibrated against XTAL25. (R432) -/
  | aorcCalibration (t : Nat)
  /-- POWER_DIE_CLOCK_FAIL: A power die's clock outside ±10 % turns its channels off and stops the link. (R433) -/
  | powerDieClockFail (t : Nat) (die : Die) (khz : Nat)
  /-- REG_FAULT: V33 or VCORE out of regulation without BOR issues a Severe message. (R351) -/
  | regFault (t : Nat)
  /-- SENSOR_FAIL: A power die temperature sensor found implausible issues a Severe message. (R351) -/
  | sensorFail (t : Nat) (die : Die)
  /-- SEQ_PARITY: An output sequencer state error issues a Grave message. (R351) -/
  | seqParity (t : Nat) (die : Die)
  /-- TDX_WINDOW_COMPARE: A window's signatures are compared; a match releases stores, a mismatch replays. (R380) -/
  | tdxWindowCompare (t : Nat) (task : Option SmisaTask) (upset : Word) (addr : Bool)
  /-- SUPPLY_TRIGGER: VBAT below 5.5 V for more than 2 ms starts the supply shutdown. (R417) -/
  | supplyTrigger (t : Nat) (mv : Nat)
  /-- SHUTDOWN_BY_MODE_POLICY: Mode policy starts a shutdown towards PARKED asleep or TRANSPORT. (R417) -/
  | shutdownByModePolicy (t : Nat) (target : Nat)
  /-- SHUTDOWN_STEP_COMPLETE: A shutdown step completes and the next one runs. (R418) -/
  | shutdownStepComplete (t : Nat)
  /-- SUPPLY_RETURN: VBAT at 6.0 V for 1 ms aborts a shutdown before S3 or leads to a restart after it. (R420) -/
  | supplyReturn (t : Nat) (mv : Nat)
  /-- SUPPLY_RESTART: After a completed supply shutdown VBAT at 6.0 V for 10 ms restarts the device. (R424) -/
  | supplyRestart (t : Nat) (mv : Nat)
  /-- ENTRY_RETRY: A refused power-controller entry is retried when its refuser ceases or every 1 s. (R405) -/
  | entryRetry (t : Nat)
  /-- DOMAIN_ON: A domain reaches ON and its dependent start-up actions run. (R399) -/
  | domainOn (t : Nat) (d : Domain)
  /-- WAKE: A wake from PARKED asleep runs steps W1 to W6. (R412) -/
  | wake (t : Nat) (source : Nat)
  /-- WAKE_TIMER: The Twill wake interval expires in PARKED asleep. (R409) -/
  | wakeTimer (t : Nat)
  /-- WAKE_HELD_RELEASE: A wake held below 5.5 V proceeds once VBAT stays at 6.0 V for 10 ms. (R411) -/
  | wakeHeldRelease (t : Nat) (mv : Nat)
  /-- AWAKE_TIMER_EXPIRY: The awake timer expires and the shutdown towards asleep runs. (R414) -/
  | awakeTimerExpiry (t : Nat)
  /-- POR: Power cycling or AO loss resets the device and AO and runs the start-up sequence from U1. (R445) -/
  | por (t : Nat) (below28 : Nat) (below18 : Nat) (testPin : Bool) (isMode : Bool) (comparatorOk : Bool)
  /-- BOR: A brown-out resets the device and starts from U2. (R435) -/
  | bor (t : Nat) (d : Dip)
  /-- LPBO: The LP path at its limit for 20 µs resets the device. (R407) -/
  | lpbo (t : Nat) (ua : Nat) (us : Nat)
  /-- PIN_RESET: RSTN low for 1 µs holds the device in reset; release starts at U2 and may enter Rescue. (R436) -/
  | pinReset (t : Nat) (release : Bool) (lowNs : Nat) (csnLow : Bool) (heldMs : Nat)
  /-- WDT: A watchdog service missed or too early causes a WDT reset. (R437) -/
  | wdt (t : Nat) (gap : Nat)
  /-- DOM_RESET: A domain is taken through OFF and back to its state. (R438) -/
  | domReset (t : Nat) (d : Domain)
  /-- JOURNAL_FLUSH: Every 600 s a life journal frame is written and notices evaluated. (R481) -/
  | journalFlush (t : Nat)
  /-- FORMER_PAGE_ERASE: Within 1 s of an atomic write the former physical page is erased. (R452) -/
  | formerPageErase (t : Nat)
  /-- AUTO_CONFIRM: 1200 s of RUN confirms the active bank and raises the floors. (R510) -/
  | autoConfirm (t : Nat)
  /-- FLOOR_RAISE_RETRY: A floor raise the enclave could not serve is retried every 60 s. (R510) -/
  | floorRaiseRetry (t : Nat)
  /-- INACTIVE_BANK_CHECK: Smisa checks the inactive bank within 10 s of a start. (R513) -/
  | inactiveBankCheck (t : Nat)
  /-- EXTENSION_START: The extension starts thread 0 within 100 ms after U11. (R545) -/
  | extensionStart (t : Nat)
  /-- EXTENSION_RESTART: 1 s after a fault the extension restarts automatically. (R549) -/
  | extensionRestart (t : Nat)
  /-- TIME_SLICE: A 1 ms slice ends and the next thread of equal priority runs. (R546) -/
  | timeSlice (t : Nat)
  /-- SHARE_PERIOD: A new 10 ms period restores the extension share of COREK cycles. (R546) -/
  | sharePeriod (t : Nat)
  /-- SYSCALL_TIMEOUT: A waiting syscall's timeout or SLEEP time expires and the thread resumes. (R552) -/
  | syscallTimeout (t : Nat) (thread : Nat)
  /-- INTERRUPT: A pending interrupt above IPL is accepted and its vector entered. (R534) -/
  | interrupt (t : Nat) (source : Nat) (level : Nat)
  /-- ADDI: Add sign-extended immediate. (R530) -/
  | addi (rd : BitVec 5) (ra : BitVec 5) (imm : BitVec 16)
  /-- ANDI: AND with zero-extended immediate. (R530) -/
  | andi (rd : BitVec 5) (ra : BitVec 5) (imm : BitVec 16)
  /-- ORI: OR with zero-extended immediate. (R530) -/
  | ori (rd : BitVec 5) (ra : BitVec 5) (imm : BitVec 16)
  /-- XORI: XOR with zero-extended immediate. (R530) -/
  | xori (rd : BitVec 5) (ra : BitVec 5) (imm : BitVec 16)
  /-- LUI: Load immediate into the upper half. (R530) -/
  | lui (rd : BitVec 5) (imm : BitVec 16)
  /-- ADD: Register add. (R530) -/
  | add (rd : BitVec 5) (ra : BitVec 5) (rb : BitVec 5)
  /-- SUB: Register subtract. (R530) -/
  | sub (rd : BitVec 5) (ra : BitVec 5) (rb : BitVec 5)
  /-- AND: Register AND. (R530) -/
  | and (rd : BitVec 5) (ra : BitVec 5) (rb : BitVec 5)
  /-- OR: Register OR. (R530) -/
  | or (rd : BitVec 5) (ra : BitVec 5) (rb : BitVec 5)
  /-- XOR: Register XOR. (R530) -/
  | xor (rd : BitVec 5) (ra : BitVec 5) (rb : BitVec 5)
  /-- SLL: Shift left by register. (R531) -/
  | sll (rd : BitVec 5) (ra : BitVec 5) (rb : BitVec 5)
  /-- SRL: Logical shift right by register. (R531) -/
  | srl (rd : BitVec 5) (ra : BitVec 5) (rb : BitVec 5)
  /-- SRA: Arithmetic shift right by register. (R531) -/
  | sra (rd : BitVec 5) (ra : BitVec 5) (rb : BitVec 5)
  /-- ROR: Rotate right by register. (R530) -/
  | ror (rd : BitVec 5) (ra : BitVec 5) (rb : BitVec 5)
  /-- SLLI: Shift left by immediate. (R530) -/
  | slli (rd : BitVec 5) (ra : BitVec 5) (sh : BitVec 5)
  /-- SRLI: Logical shift right by immediate. (R530) -/
  | srli (rd : BitVec 5) (ra : BitVec 5) (sh : BitVec 5)
  /-- SRAI: Arithmetic shift right by immediate. (R530) -/
  | srai (rd : BitVec 5) (ra : BitVec 5) (sh : BitVec 5)
  /-- RORI: Rotate right by immediate. (R530) -/
  | rori (rd : BitVec 5) (ra : BitVec 5) (sh : BitVec 5)
  /-- MUL: Low 32 bits of a product. (R531) -/
  | mul (rd : BitVec 5) (ra : BitVec 5) (rb : BitVec 5)
  /-- MULH: High 32 bits of a signed product. (R530) -/
  | mulh (rd : BitVec 5) (ra : BitVec 5) (rb : BitVec 5)
  /-- MULHU: High 32 bits of an unsigned product. (R530) -/
  | mulhu (rd : BitVec 5) (ra : BitVec 5) (rb : BitVec 5)
  /-- DIV: Signed division rounded towards zero. (R531) -/
  | div (rd : BitVec 5) (ra : BitVec 5) (rb : BitVec 5)
  /-- DIVU: Unsigned division. (R531) -/
  | divu (rd : BitVec 5) (ra : BitVec 5) (rb : BitVec 5)
  /-- REM: Signed remainder. (R531) -/
  | rem (rd : BitVec 5) (ra : BitVec 5) (rb : BitVec 5)
  /-- REMU: Unsigned remainder. (R531) -/
  | remu (rd : BitVec 5) (ra : BitVec 5) (rb : BitVec 5)
  /-- LW: Load word. (R530) -/
  | lw (rd : BitVec 5) (ra : BitVec 5) (imm : BitVec 16) (ecc : Ecc)
  /-- LH: Load sign-extended halfword. (R530) -/
  | lh (rd : BitVec 5) (ra : BitVec 5) (imm : BitVec 16)
  /-- LHU: Load zero-extended halfword. (R530) -/
  | lhu (rd : BitVec 5) (ra : BitVec 5) (imm : BitVec 16)
  /-- LB: Load sign-extended byte. (R530) -/
  | lb (rd : BitVec 5) (ra : BitVec 5) (imm : BitVec 16)
  /-- LBU: Load zero-extended byte. (R530) -/
  | lbu (rd : BitVec 5) (ra : BitVec 5) (imm : BitVec 16)
  /-- SW: Store word. (R530) -/
  | sw (rd : BitVec 5) (ra : BitVec 5) (imm : BitVec 16)
  /-- SH: Store halfword. (R530) -/
  | sh (rd : BitVec 5) (ra : BitVec 5) (imm : BitVec 16)
  /-- SB: Store byte. (R530) -/
  | sb (rd : BitVec 5) (ra : BitVec 5) (imm : BitVec 16)
  /-- SWAP: Atomic swap of a register and a memory word as an uncached access. (R531) -/
  | swap (rd : BitVec 5) (ra : BitVec 5) (imm : BitVec 16)
  /-- BEQ: Branch if equal. (R529) -/
  | beq (ra : BitVec 5) (rb : BitVec 5) (off : BitVec 16)
  /-- BNE: Branch if not equal. (R529) -/
  | bne (ra : BitVec 5) (rb : BitVec 5) (off : BitVec 16)
  /-- BLT: Branch if signed less. (R529) -/
  | blt (ra : BitVec 5) (rb : BitVec 5) (off : BitVec 16)
  /-- BGE: Branch if signed greater or equal. (R529) -/
  | bge (ra : BitVec 5) (rb : BitVec 5) (off : BitVec 16)
  /-- BLTU: Branch if unsigned less. (R529) -/
  | bltu (ra : BitVec 5) (rb : BitVec 5) (off : BitVec 16)
  /-- BGEU: Branch if unsigned greater or equal. (R529) -/
  | bgeu (ra : BitVec 5) (rb : BitVec 5) (off : BitVec 16)
  /-- BEQI: Branch if equal to immediate. (R529) -/
  | beqi (ra : BitVec 5) (imm : BitVec 6) (off : BitVec 10)
  /-- BNEI: Branch if not equal to immediate. (R529) -/
  | bnei (ra : BitVec 5) (imm : BitVec 6) (off : BitVec 10)
  /-- BLTI: Branch if less than immediate. (R529) -/
  | blti (ra : BitVec 5) (imm : BitVec 6) (off : BitVec 10)
  /-- BGEI: Branch if greater or equal to immediate. (R529) -/
  | bgei (ra : BitVec 5) (imm : BitVec 6) (off : BitVec 10)
  /-- J: Jump. (R529) -/
  | j (off : BitVec 26)
  /-- CALL: Call writing lk without sliding the window. (R526) -/
  | call (off : BitVec 26)
  /-- CALLW: Call writing lk and sliding the window. (R526) -/
  | callw (off : BitVec 26)
  /-- JR: Jump to a register. (R530) -/
  | jr (ra : BitVec 5)
  /-- CALLR: Call to a register target. (R526) -/
  | callr (ra : BitVec 5)
  /-- CALLWR: Windowed call to a register target. (R526) -/
  | callwr (ra : BitVec 5)
  /-- RET: Return to lk. (R526) -/
  | ret
  /-- RETW: Slide the window back and return to lk. (R526) -/
  | retw
  /-- SYSC: Invoke a syscall by number. (R551) -/
  | sysc (n : BitVec 16)
  /-- TRET: Return from trap restoring PSR and PC. (R532) -/
  | tret
  /-- WSPILL: Store a whole frame to the save area. (R523) -/
  | wspill
  /-- WFILL: Refill a whole frame from the save area. (R523) -/
  | wfill
  /-- WFI: Wait for an interrupt. (R530) -/
  | wfi
  /-- HALT: Halt the core. (R530) -/
  | halt
  /-- CSRR: Read a control register. (R521) -/
  | csrr (rd : BitVec 5) (csr : BitVec 16)
  /-- CSRW: Write a control register. (R521) -/
  | csrw (ra : BitVec 5) (csr : BitVec 16)
  /-- VADD: Lane add. (R538) -/
  | vadd (rd : BitVec 5) (ra : BitVec 5) (rb : BitVec 5)
  /-- VADDS: Saturating lane add. (R538) -/
  | vadds (rd : BitVec 5) (ra : BitVec 5) (rb : BitVec 5)
  /-- VSUB: Lane subtract. (R538) -/
  | vsub (rd : BitVec 5) (ra : BitVec 5) (rb : BitVec 5)
  /-- VSUBS: Saturating lane subtract. (R538) -/
  | vsubs (rd : BitVec 5) (ra : BitVec 5) (rb : BitVec 5)
  /-- VAND: Lane AND. (R538) -/
  | vand (rd : BitVec 5) (ra : BitVec 5) (rb : BitVec 5)
  /-- VOR: Lane OR. (R538) -/
  | vor (rd : BitVec 5) (ra : BitVec 5) (rb : BitVec 5)
  /-- VXOR: Lane XOR. (R538) -/
  | vxor (rd : BitVec 5) (ra : BitVec 5) (rb : BitVec 5)
  /-- VMUL: Lane multiply, low 16 bits. (R538) -/
  | vmul (rd : BitVec 5) (ra : BitVec 5) (rb : BitVec 5)
  /-- VMAC: Multiply-accumulate into the lane accumulators. (R538) -/
  | vmac (ra : BitVec 5) (rb : BitVec 5)
  /-- VMSU: Multiply-subtract from the lane accumulators. (R538) -/
  | vmsu (ra : BitVec 5) (rb : BitVec 5)
  /-- VACLR: Clear accumulators and saturation flags. (R538) -/
  | vaclr
  /-- VACRD: Read accumulators shifted, rounded and saturated. (R538) -/
  | vacrd (rd : BitVec 5) (sh : BitVec 5)
  /-- VMOVG: Move a lane to a general register. (R538) -/
  | vmovg (rd : BitVec 5) (ra : BitVec 5) (lane : BitVec 5)
  /-- VMOVV: Move a general register into a lane. (R538) -/
  | vmovv (rd : BitVec 5) (ra : BitVec 5) (lane : BitVec 5)
  /-- VSPLAT: Copy a general register into every lane. (R538) -/
  | vsplat (rd : BitVec 5) (ra : BitVec 5)
  /-- VLD: Load 64 bits into a v register. (R541) -/
  | vld (rd : BitVec 5) (ra : BitVec 5) (imm : BitVec 16)
  /-- VST: Store a v register at commit. (R539) -/
  | vst (rd : BitVec 5) (ra : BitVec 5) (imm : BitVec 16)
  /-- CXV_DMA: Feed a CXV result stream to DMA at commit. (R541) -/
  | cxvDma (ra : BitVec 5)
  /-- SYSC_EXIT: Ends the calling thread, or the extension in thread 0. (R552) -/
  | syscExit
  /-- SYSC_THREAD: Starts a new extension thread. (R552) -/
  | syscThread
  /-- SYSC_YIELD: Yields the core. (R552) -/
  | syscYield
  /-- SYSC_SLEEP: Blocks the thread for a time. (R552) -/
  | syscSleep
  /-- SYSC_WAIT: Blocks for events with a timeout. (R552) -/
  | syscWait
  /-- SYSC_TIME: Returns life clock and RTC. (R552) -/
  | syscTime
  /-- SYSC_LASTFAULT: Returns the last fault cause, EPC and EADDR. (R552) -/
  | syscLastfault
  /-- SYSC_TDX: Sets or clears the thread's TDX mode bit. (R372) -/
  | syscTdx
  /-- SYSC_MSG_WAIT: Waits for an EXT.MSG message. (R552) -/
  | syscMsgWait
  /-- SYSC_MSG_REPLY: Replies to a waiting EXT.MSG. (R552) -/
  | syscMsgReply
  /-- SYSC_IN_GET: Reads input states in IN.GET layout. (R552) -/
  | syscInGet
  /-- SYSC_KEY_GET: Reads key states in KEY.GET layout. (R552) -/
  | syscKeyGet
  /-- SYSC_MODE_GET: Returns mode, ignition and lock. (R552) -/
  | syscModeGet
  /-- SYSC_WATCH: Selects watched inputs and keys for WAIT. (R552) -/
  | syscWatch
  /-- SYSC_OUT_CLAIM: Claims an object as owner code 5. (R552) -/
  | syscOutClaim
  /-- SYSC_OUT_RELEASE: Releases extension claims. (R552) -/
  | syscOutRelease
  /-- SYSC_OUT_SET: Sets an owned channel as OUT.SET. (R552) -/
  | syscOutSet
  /-- SYSC_OUT_GET: Reads an object in OUT.GET layout. (R552) -/
  | syscOutGet
  /-- SYSC_HAP_PLAY: Plays a haptic effect as HAP.PLAY. (R193) -/
  | syscHapPlay
  /-- SYSC_STN_GET: Reads a station in STN.GET layout. (R552) -/
  | syscStnGet
  /-- SYSC_STN_WRITE: Writes a station output image as STN.WRITE. (R552) -/
  | syscStnWrite
  /-- SYSC_CAN_FILTER: Sets or removes an extension CAN filter. (R552) -/
  | syscCanFilter
  /-- SYSC_CAN_RECV: Receives a filtered CAN frame. (R552) -/
  | syscCanRecv
  /-- SYSC_CAN_SEND: Sends a CAN frame as BUS.SEND. (R552) -/
  | syscCanSend
  /-- SYSC_ND_READ: Reads an extension data area. (R553) -/
  | syscNdRead
  /-- SYSC_ND_WRITE: Writes a logical page of an atomic area. (R553) -/
  | syscNdWrite
  /-- SYSC_ND_APPEND: Appends lines to a raw area. (R553) -/
  | syscNdAppend
  /-- SYSC_ND_ERASE: Erases a raw area. (R553) -/
  | syscNdErase
  /-- SYSC_SHA256: Hashes a buffer. (R552) -/
  | syscSha256
  /-- SYSC_RANDOM: Returns DRBG output. (R552) -/
  | syscRandom
  /-- SYSC_CMAC: Computes AES CMAC under an extension slot. (R554) -/
  | syscCmac
  /-- SYSC_GCM_SEAL: Encrypts and tags under an extension slot. (R554) -/
  | syscGcmSeal
  /-- SYSC_GCM_OPEN: Decrypts and verifies under an extension slot. (R554) -/
  | syscGcmOpen
  /-- SYSC_CTR_GET: Reads an extension monotonic counter. (R552) -/
  | syscCtrGet
  /-- SYSC_CTR_RAISE: Raises an extension monotonic counter. (R312) -/
  | syscCtrRaise
  /-- CAN_FRAME_TRANSMITTED: A queued CAN frame is sent and acknowledged on the bus, answering BUS.SEND with ST_OK and completing MBX-CAN delivery. (R92) -/
  | canFrameTransmitted (t : Nat) (ch : Nat) (errs : Nat)
  /-- RESIDUAL_WINDOW_OPEN: At t0 + 0.85 × T_c the residual window opens and queued uplink frames are sent on the port. (R233) -/
  | residualWindowOpen (t : Nat) (port : Nat)
  /-- GPTP_FOLLOW_UP: A Follow_Up message delivers the precise time of a two-step Sync. (R251) -/
  | gptpFollowUp (t : Nat) (domain : Nat) (seq : Nat) (ns : Nat)
  /-- PDELAY_RESPONSE: A peer delay response completes the peer delay measurement and updates the neighbour rate ratio that gPTP validity needs. (R251) -/
  | pdelayResponse (t : Nat) (peer : Option Nat) (t1 : Nat) (t2 : Nat) (t3 : Nat) (t4 : Nat)
  /-- LIFE_CLOCK_SECOND: Each second of AOK or AORC advances the life clock and RTC and accrues on-time, mode-time and wear counters. (R489) -/
  | lifeClockSecond (t : Nat)
  /-- EFFECT_BRAKE_END: The antiphase brake half-cycle ends, and with it the playing of the effect; the bridge goes high-impedance. (R188) -/
  | effectBrakeEnd (t : Nat)
  /-- UHF_FIELD_LOSS: The UHF carrier is lost and the S2, S3 and SL persistence times start. (R271) -/
  | uhfFieldLoss (t : Nat)
  /-- WAKE_PIN_EDGE: A level change on a WAKE pin starts its filter time, or in TRANSPORT its 50 ms WAKE0 qualification. (R154) -/
  | wakePinEdge (t : Nat) (pin : Nat) (high : Bool)
  /-- WIPER_SERVICE_POSITION: The SERVICE run time from park elapses and the wiper stops at the service position. (R465) -/
  | wiperServicePosition (t : Nat)
  deriving DecidableEq, Repr

end Sys2Proof
end

