-- ==== Sys2Proof/Decode.lean ====
section
/-! DEFINITION. The command that a word of the table spells, and the encoding of HX32 instructions as words (R519, R528, R530, R538; 18_core.md). -/

namespace Sys2Proof

/-- The command a word spells by the table's bits: no row of spec/opcode_table.json gives bits, so no word spells one. -/
def decodeTableWord (_nbits _w : Nat) : Option Instr := none

/-- Format R: op, rd, ra, rb, five zeros, func (R528). -/
def wordR (op : BitVec 6) (rd ra rb : BitVec 5) (func : BitVec 6) : Word := op ++ rd ++ ra ++ rb ++ 0#5 ++ func

/-- Format I: op, rd, ra, imm16 (R528). -/
def wordI (op : BitVec 6) (rd ra : BitVec 5) (imm : BitVec 16) : Word := op ++ rd ++ ra ++ imm

/-- Format BI: op, ra, five zeros, imm6, off10 (R528). -/
def wordBI (op : BitVec 6) (ra : BitVec 5) (imm : BitVec 6) (off : BitVec 10) : Word := op ++ ra ++ 0#5 ++ imm ++ off

/-- Format J: op, off26 (R528). -/
def wordJ (op : BitVec 6) (off : BitVec 26) : Word := op ++ off

/-- Bits 31 to 26 (R528). -/
def opOf (w : Word) : BitVec 6 := w.extractLsb' 26 6
/-- Bits 25 to 21 (R528). -/
def f25 (w : Word) : BitVec 5 := w.extractLsb' 21 5
/-- Bits 20 to 16 (R528). -/
def f20 (w : Word) : BitVec 5 := w.extractLsb' 16 5
/-- Bits 15 to 11 (R528). -/
def f15 (w : Word) : BitVec 5 := w.extractLsb' 11 5
/-- Bits 10 to 6, zero in format R (R528). -/
def z10 (w : Word) : BitVec 5 := w.extractLsb' 6 5
/-- Bits 5 to 0: func (R528). -/
def funcOf (w : Word) : BitVec 6 := w.extractLsb' 0 6
/-- Bits 15 to 0: imm16, off16, a number (R528). -/
def imm16 (w : Word) : BitVec 16 := w.extractLsb' 0 16
/-- Bits 15 to 10: imm6 (R528). -/
def imm6 (w : Word) : BitVec 6 := w.extractLsb' 10 6
/-- Bits 9 to 0: off10 (R528). -/
def off10 (w : Word) : BitVec 10 := w.extractLsb' 0 10
/-- Bits 25 to 0: off26 (R528). -/
def off26 (w : Word) : BitVec 26 := w.extractLsb' 0 26

/-- An HX32 instruction with its fields as the word holds them (R528, R530, R538). -/
inductive Hx32 where
  | addi (rd : BitVec 5) (ra : BitVec 5) (imm : BitVec 16)
  | andi (rd : BitVec 5) (ra : BitVec 5) (imm : BitVec 16)
  | ori (rd : BitVec 5) (ra : BitVec 5) (imm : BitVec 16)
  | xori (rd : BitVec 5) (ra : BitVec 5) (imm : BitVec 16)
  | lw (rd : BitVec 5) (ra : BitVec 5) (imm : BitVec 16)
  | lh (rd : BitVec 5) (ra : BitVec 5) (imm : BitVec 16)
  | lhu (rd : BitVec 5) (ra : BitVec 5) (imm : BitVec 16)
  | lb (rd : BitVec 5) (ra : BitVec 5) (imm : BitVec 16)
  | lbu (rd : BitVec 5) (ra : BitVec 5) (imm : BitVec 16)
  | sw (rd : BitVec 5) (ra : BitVec 5) (imm : BitVec 16)
  | sh (rd : BitVec 5) (ra : BitVec 5) (imm : BitVec 16)
  | sb (rd : BitVec 5) (ra : BitVec 5) (imm : BitVec 16)
  | swap (rd : BitVec 5) (ra : BitVec 5) (imm : BitVec 16)
  | vld (rd : BitVec 5) (ra : BitVec 5) (imm : BitVec 16)
  | vst (rd : BitVec 5) (ra : BitVec 5) (imm : BitVec 16)
  | lui (rd : BitVec 5) (imm : BitVec 16)
  | add (rd : BitVec 5) (ra : BitVec 5) (rb : BitVec 5)
  | sub (rd : BitVec 5) (ra : BitVec 5) (rb : BitVec 5)
  | and (rd : BitVec 5) (ra : BitVec 5) (rb : BitVec 5)
  | or (rd : BitVec 5) (ra : BitVec 5) (rb : BitVec 5)
  | xor (rd : BitVec 5) (ra : BitVec 5) (rb : BitVec 5)
  | sll (rd : BitVec 5) (ra : BitVec 5) (rb : BitVec 5)
  | srl (rd : BitVec 5) (ra : BitVec 5) (rb : BitVec 5)
  | sra (rd : BitVec 5) (ra : BitVec 5) (rb : BitVec 5)
  | ror (rd : BitVec 5) (ra : BitVec 5) (rb : BitVec 5)
  | slli (rd : BitVec 5) (ra : BitVec 5) (rb : BitVec 5)
  | srli (rd : BitVec 5) (ra : BitVec 5) (rb : BitVec 5)
  | srai (rd : BitVec 5) (ra : BitVec 5) (rb : BitVec 5)
  | rori (rd : BitVec 5) (ra : BitVec 5) (rb : BitVec 5)
  | mul (rd : BitVec 5) (ra : BitVec 5) (rb : BitVec 5)
  | mulh (rd : BitVec 5) (ra : BitVec 5) (rb : BitVec 5)
  | mulhu (rd : BitVec 5) (ra : BitVec 5) (rb : BitVec 5)
  | div (rd : BitVec 5) (ra : BitVec 5) (rb : BitVec 5)
  | divu (rd : BitVec 5) (ra : BitVec 5) (rb : BitVec 5)
  | rem (rd : BitVec 5) (ra : BitVec 5) (rb : BitVec 5)
  | remu (rd : BitVec 5) (ra : BitVec 5) (rb : BitVec 5)
  | vadd (rd : BitVec 5) (ra : BitVec 5) (rb : BitVec 5)
  | vadds (rd : BitVec 5) (ra : BitVec 5) (rb : BitVec 5)
  | vsub (rd : BitVec 5) (ra : BitVec 5) (rb : BitVec 5)
  | vsubs (rd : BitVec 5) (ra : BitVec 5) (rb : BitVec 5)
  | vand (rd : BitVec 5) (ra : BitVec 5) (rb : BitVec 5)
  | vor (rd : BitVec 5) (ra : BitVec 5) (rb : BitVec 5)
  | vxor (rd : BitVec 5) (ra : BitVec 5) (rb : BitVec 5)
  | vmul (rd : BitVec 5) (ra : BitVec 5) (rb : BitVec 5)
  | vmovg (rd : BitVec 5) (ra : BitVec 5) (rb : BitVec 5)
  | vmovv (rd : BitVec 5) (ra : BitVec 5) (rb : BitVec 5)
  | beq (ra : BitVec 5) (rb : BitVec 5) (off : BitVec 16)
  | bne (ra : BitVec 5) (rb : BitVec 5) (off : BitVec 16)
  | blt (ra : BitVec 5) (rb : BitVec 5) (off : BitVec 16)
  | bge (ra : BitVec 5) (rb : BitVec 5) (off : BitVec 16)
  | bltu (ra : BitVec 5) (rb : BitVec 5) (off : BitVec 16)
  | bgeu (ra : BitVec 5) (rb : BitVec 5) (off : BitVec 16)
  | beqi (ra : BitVec 5) (imm : BitVec 6) (off : BitVec 10)
  | bnei (ra : BitVec 5) (imm : BitVec 6) (off : BitVec 10)
  | blti (ra : BitVec 5) (imm : BitVec 6) (off : BitVec 10)
  | bgei (ra : BitVec 5) (imm : BitVec 6) (off : BitVec 10)
  | j (off : BitVec 26)
  | call (off : BitVec 26)
  | callw (off : BitVec 26)
  | jr (ra : BitVec 5)
  | callr (ra : BitVec 5)
  | callwr (ra : BitVec 5)
  | cxvDma (ra : BitVec 5)
  | ret
  | retw
  | tret
  | wspill
  | wfill
  | wfi
  | halt
  | vaclr
  | sysc (n : BitVec 16)
  | csrr (rd : BitVec 5) (csr : BitVec 16)
  | csrw (ra : BitVec 5) (csr : BitVec 16)
  | vmac (ra : BitVec 5) (rb : BitVec 5)
  | vmsu (ra : BitVec 5) (rb : BitVec 5)
  | vacrd (rd : BitVec 5) (n : BitVec 5)
  | vsplat (rd : BitVec 5) (ra : BitVec 5)
  deriving DecidableEq, Repr

/-- The instruction that a core command is; none for every other command. -/
def Instr.hx32 : Instr → Option Hx32
  | .addi rd ra imm => some (.addi rd ra imm)
  | .andi rd ra imm => some (.andi rd ra imm)
  | .ori rd ra imm => some (.ori rd ra imm)
  | .xori rd ra imm => some (.xori rd ra imm)
  | .lw rd ra imm _ => some (.lw rd ra imm)
  | .lh rd ra imm => some (.lh rd ra imm)
  | .lhu rd ra imm => some (.lhu rd ra imm)
  | .lb rd ra imm => some (.lb rd ra imm)
  | .lbu rd ra imm => some (.lbu rd ra imm)
  | .sw rd ra imm => some (.sw rd ra imm)
  | .sh rd ra imm => some (.sh rd ra imm)
  | .sb rd ra imm => some (.sb rd ra imm)
  | .swap rd ra imm => some (.swap rd ra imm)
  | .vld rd ra imm => some (.vld rd ra imm)
  | .vst rd ra imm => some (.vst rd ra imm)
  | .lui rd imm => some (.lui rd imm)
  | .add rd ra rb => some (.add rd ra rb)
  | .sub rd ra rb => some (.sub rd ra rb)
  | .and rd ra rb => some (.and rd ra rb)
  | .or rd ra rb => some (.or rd ra rb)
  | .xor rd ra rb => some (.xor rd ra rb)
  | .sll rd ra rb => some (.sll rd ra rb)
  | .srl rd ra rb => some (.srl rd ra rb)
  | .sra rd ra rb => some (.sra rd ra rb)
  | .ror rd ra rb => some (.ror rd ra rb)
  | .slli rd ra rb => some (.slli rd ra rb)
  | .srli rd ra rb => some (.srli rd ra rb)
  | .srai rd ra rb => some (.srai rd ra rb)
  | .rori rd ra rb => some (.rori rd ra rb)
  | .mul rd ra rb => some (.mul rd ra rb)
  | .mulh rd ra rb => some (.mulh rd ra rb)
  | .mulhu rd ra rb => some (.mulhu rd ra rb)
  | .div rd ra rb => some (.div rd ra rb)
  | .divu rd ra rb => some (.divu rd ra rb)
  | .rem rd ra rb => some (.rem rd ra rb)
  | .remu rd ra rb => some (.remu rd ra rb)
  | .vadd rd ra rb => some (.vadd rd ra rb)
  | .vadds rd ra rb => some (.vadds rd ra rb)
  | .vsub rd ra rb => some (.vsub rd ra rb)
  | .vsubs rd ra rb => some (.vsubs rd ra rb)
  | .vand rd ra rb => some (.vand rd ra rb)
  | .vor rd ra rb => some (.vor rd ra rb)
  | .vxor rd ra rb => some (.vxor rd ra rb)
  | .vmul rd ra rb => some (.vmul rd ra rb)
  | .vmovg rd ra rb => some (.vmovg rd ra rb)
  | .vmovv rd ra rb => some (.vmovv rd ra rb)
  | .beq ra rb off => some (.beq ra rb off)
  | .bne ra rb off => some (.bne ra rb off)
  | .blt ra rb off => some (.blt ra rb off)
  | .bge ra rb off => some (.bge ra rb off)
  | .bltu ra rb off => some (.bltu ra rb off)
  | .bgeu ra rb off => some (.bgeu ra rb off)
  | .beqi ra imm off => some (.beqi ra imm off)
  | .bnei ra imm off => some (.bnei ra imm off)
  | .blti ra imm off => some (.blti ra imm off)
  | .bgei ra imm off => some (.bgei ra imm off)
  | .j off => some (.j off)
  | .call off => some (.call off)
  | .callw off => some (.callw off)
  | .jr ra => some (.jr ra)
  | .callr ra => some (.callr ra)
  | .callwr ra => some (.callwr ra)
  | .cxvDma ra => some (.cxvDma ra)
  | .ret => some (.ret)
  | .retw => some (.retw)
  | .tret => some (.tret)
  | .wspill => some (.wspill)
  | .wfill => some (.wfill)
  | .wfi => some (.wfi)
  | .halt => some (.halt)
  | .vaclr => some (.vaclr)
  | .sysc n => some (.sysc n)
  | .csrr rd csr => some (.csrr rd csr)
  | .csrw ra csr => some (.csrw ra csr)
  | .vmac ra rb => some (.vmac ra rb)
  | .vmsu ra rb => some (.vmsu ra rb)
  | .vacrd rd n => some (.vacrd rd n)
  | .vsplat rd ra => some (.vsplat rd ra)
  | _ => none

/-- The word of an HX32 instruction (R528, R530, R538). A field that the instruction does not use is 0 (DESIGN CHOICE, log 42), and LUI's ra field is 24. -/
def hx32Encode : Hx32 → Word
  | .addi rd ra imm => wordI 0x01#6 rd ra imm
  | .andi rd ra imm => wordI 0x02#6 rd ra imm
  | .ori rd ra imm => wordI 0x03#6 rd ra imm
  | .xori rd ra imm => wordI 0x04#6 rd ra imm
  | .lui rd imm => wordI 0x05#6 rd 24#5 imm
  | .lw rd ra imm => wordI 0x10#6 rd ra imm
  | .lh rd ra imm => wordI 0x11#6 rd ra imm
  | .lhu rd ra imm => wordI 0x12#6 rd ra imm
  | .lb rd ra imm => wordI 0x13#6 rd ra imm
  | .lbu rd ra imm => wordI 0x14#6 rd ra imm
  | .sw rd ra imm => wordI 0x18#6 rd ra imm
  | .sh rd ra imm => wordI 0x19#6 rd ra imm
  | .sb rd ra imm => wordI 0x1A#6 rd ra imm
  | .swap rd ra imm => wordI 0x1C#6 rd ra imm
  | .vld rd ra imm => wordI 0x3D#6 rd ra imm
  | .vst rd ra imm => wordI 0x3E#6 rd ra imm
  | .add rd ra rb => wordR 0x00#6 rd ra rb 0x00#6
  | .sub rd ra rb => wordR 0x00#6 rd ra rb 0x01#6
  | .and rd ra rb => wordR 0x00#6 rd ra rb 0x02#6
  | .or rd ra rb => wordR 0x00#6 rd ra rb 0x03#6
  | .xor rd ra rb => wordR 0x00#6 rd ra rb 0x04#6
  | .sll rd ra rb => wordR 0x00#6 rd ra rb 0x08#6
  | .srl rd ra rb => wordR 0x00#6 rd ra rb 0x09#6
  | .sra rd ra rb => wordR 0x00#6 rd ra rb 0x0A#6
  | .ror rd ra rb => wordR 0x00#6 rd ra rb 0x0B#6
  | .slli rd ra rb => wordR 0x00#6 rd ra rb 0x0C#6
  | .srli rd ra rb => wordR 0x00#6 rd ra rb 0x0D#6
  | .srai rd ra rb => wordR 0x00#6 rd ra rb 0x0E#6
  | .rori rd ra rb => wordR 0x00#6 rd ra rb 0x0F#6
  | .mul rd ra rb => wordR 0x08#6 rd ra rb 0x00#6
  | .mulh rd ra rb => wordR 0x08#6 rd ra rb 0x01#6
  | .mulhu rd ra rb => wordR 0x08#6 rd ra rb 0x02#6
  | .div rd ra rb => wordR 0x08#6 rd ra rb 0x03#6
  | .divu rd ra rb => wordR 0x08#6 rd ra rb 0x04#6
  | .rem rd ra rb => wordR 0x08#6 rd ra rb 0x05#6
  | .remu rd ra rb => wordR 0x08#6 rd ra rb 0x06#6
  | .beq ra rb off => wordI 0x20#6 ra rb off
  | .bne ra rb off => wordI 0x21#6 ra rb off
  | .blt ra rb off => wordI 0x22#6 ra rb off
  | .bge ra rb off => wordI 0x23#6 ra rb off
  | .bltu ra rb off => wordI 0x24#6 ra rb off
  | .bgeu ra rb off => wordI 0x25#6 ra rb off
  | .beqi ra imm off => wordBI 0x28#6 ra imm off
  | .bnei ra imm off => wordBI 0x29#6 ra imm off
  | .blti ra imm off => wordBI 0x2A#6 ra imm off
  | .bgei ra imm off => wordBI 0x2B#6 ra imm off
  | .j off => wordJ 0x30#6 off
  | .call off => wordJ 0x31#6 off
  | .callw off => wordJ 0x32#6 off
  | .jr ra => wordR 0x33#6 0#5 ra 0#5 0x00#6
  | .callr ra => wordR 0x33#6 0#5 ra 0#5 0x01#6
  | .callwr ra => wordR 0x33#6 0#5 ra 0#5 0x02#6
  | .ret => wordR 0x33#6 0#5 0#5 0#5 0x03#6
  | .retw => wordR 0x33#6 0#5 0#5 0#5 0x04#6
  | .sysc n => wordI 0x38#6 0#5 0#5 n
  | .tret => wordR 0x39#6 0#5 0#5 0#5 0x00#6
  | .wspill => wordR 0x39#6 0#5 0#5 0#5 0x01#6
  | .wfill => wordR 0x39#6 0#5 0#5 0#5 0x02#6
  | .wfi => wordR 0x39#6 0#5 0#5 0#5 0x03#6
  | .halt => wordR 0x39#6 0#5 0#5 0#5 0x04#6
  | .csrr rd csr => wordI 0x3A#6 rd 0#5 csr
  | .csrw ra csr => wordI 0x3B#6 0#5 ra csr
  | .vadd rd ra rb => wordR 0x3C#6 rd ra rb 0x00#6
  | .vadds rd ra rb => wordR 0x3C#6 rd ra rb 0x01#6
  | .vsub rd ra rb => wordR 0x3C#6 rd ra rb 0x02#6
  | .vsubs rd ra rb => wordR 0x3C#6 rd ra rb 0x03#6
  | .vand rd ra rb => wordR 0x3C#6 rd ra rb 0x04#6
  | .vor rd ra rb => wordR 0x3C#6 rd ra rb 0x05#6
  | .vxor rd ra rb => wordR 0x3C#6 rd ra rb 0x06#6
  | .vmul rd ra rb => wordR 0x3C#6 rd ra rb 0x08#6
  | .vmac ra rb => wordR 0x3C#6 0#5 ra rb 0x10#6
  | .vmsu ra rb => wordR 0x3C#6 0#5 ra rb 0x11#6
  | .vaclr => wordR 0x3C#6 0#5 0#5 0#5 0x12#6
  | .vacrd rd n => wordR 0x3C#6 rd 0#5 n 0x13#6
  | .vmovg rd ra lane => wordR 0x3C#6 rd ra lane 0x18#6
  | .vmovv rd ra lane => wordR 0x3C#6 rd ra lane 0x19#6
  | .vsplat rd ra => wordR 0x3C#6 rd ra 0#5 0x1A#6
  | .cxvDma ra => wordR 0x3F#6 0#5 ra 0#5 0x00#6

/-- The ALU group (R530). -/
def hx32Alu (func : BitVec 6) (rd ra rb : BitVec 5) : Option Hx32 := match func.toNat with
  | 0x00 => some (.add rd ra rb)
  | 0x01 => some (.sub rd ra rb)
  | 0x02 => some (.and rd ra rb)
  | 0x03 => some (.or rd ra rb)
  | 0x04 => some (.xor rd ra rb)
  | 0x08 => some (.sll rd ra rb)
  | 0x09 => some (.srl rd ra rb)
  | 0x0A => some (.sra rd ra rb)
  | 0x0B => some (.ror rd ra rb)
  | 0x0C => some (.slli rd ra rb)
  | 0x0D => some (.srli rd ra rb)
  | 0x0E => some (.srai rd ra rb)
  | 0x0F => some (.rori rd ra rb)
  | _ => none

/-- The MULDIV group (R530). -/
def hx32MulDiv (func : BitVec 6) (rd ra rb : BitVec 5) : Option Hx32 := match func.toNat with
  | 0x00 => some (.mul rd ra rb)
  | 0x01 => some (.mulh rd ra rb)
  | 0x02 => some (.mulhu rd ra rb)
  | 0x03 => some (.div rd ra rb)
  | 0x04 => some (.divu rd ra rb)
  | 0x05 => some (.rem rd ra rb)
  | 0x06 => some (.remu rd ra rb)
  | _ => none

/-- The JUMP group; unused fields zero (R530). -/
def hx32Jump (func : BitVec 6) (rd ra rb : BitVec 5) : Option Hx32 := match func.toNat with
  | 0x00 => if rd == 0 && rb == 0 then some (.jr ra) else none
  | 0x01 => if rd == 0 && rb == 0 then some (.callr ra) else none
  | 0x02 => if rd == 0 && rb == 0 then some (.callwr ra) else none
  | 0x03 => if rd == 0 && ra == 0 && rb == 0 then some (.ret) else none
  | 0x04 => if rd == 0 && ra == 0 && rb == 0 then some (.retw) else none
  | _ => none

/-- The PRIV group (R530); its unused fields are 0 (DESIGN CHOICE, log 42). -/
def hx32Priv (func : BitVec 6) (rd ra rb : BitVec 5) : Option Hx32 := match func.toNat with
  | 0x00 => if rd == 0 && ra == 0 && rb == 0 then some (.tret) else none
  | 0x01 => if rd == 0 && ra == 0 && rb == 0 then some (.wspill) else none
  | 0x02 => if rd == 0 && ra == 0 && rb == 0 then some (.wfill) else none
  | 0x03 => if rd == 0 && ra == 0 && rb == 0 then some (.wfi) else none
  | 0x04 => if rd == 0 && ra == 0 && rb == 0 then some (.halt) else none
  | _ => none

/-- The CXV group (R538); a field that an operation does not use is 0 (DESIGN CHOICE, log 42). -/
def hx32Cxv (func : BitVec 6) (rd ra rb : BitVec 5) : Option Hx32 := match func.toNat with
  | 0x00 => some (.vadd rd ra rb)
  | 0x01 => some (.vadds rd ra rb)
  | 0x02 => some (.vsub rd ra rb)
  | 0x03 => some (.vsubs rd ra rb)
  | 0x04 => some (.vand rd ra rb)
  | 0x05 => some (.vor rd ra rb)
  | 0x06 => some (.vxor rd ra rb)
  | 0x08 => some (.vmul rd ra rb)
  | 0x10 => if rd == 0 then some (.vmac ra rb) else none
  | 0x11 => if rd == 0 then some (.vmsu ra rb) else none
  | 0x12 => if rd == 0 && ra == 0 && rb == 0 then some (.vaclr) else none
  | 0x13 => if ra == 0 then some (.vacrd rd rb) else none
  | 0x18 => some (.vmovg rd ra rb)
  | 0x19 => some (.vmovv rd ra rb)
  | 0x1A => if rb == 0 then some (.vsplat rd ra) else none
  | _ => none

/-- The instruction of a word (R528, R530, R538): none for a word that raises ILLEGAL by its encoding, an unlisted opcode or func or a non-zero zero field. A register field 26 to 31 is left to the instruction, which raises ILLEGAL for it (R519). -/
def hx32Decode (w : Word) : Option Hx32 :=
  let groupR := fun (g : BitVec 6 → BitVec 5 → BitVec 5 → BitVec 5 → Option Hx32) => if z10 w == 0 then g (funcOf w) (f25 w) (f20 w) (f15 w) else none
  match (opOf w).toNat with
  | 0x00 => groupR hx32Alu
  | 0x01 => some (.addi (f25 w) (f20 w) (imm16 w))
  | 0x02 => some (.andi (f25 w) (f20 w) (imm16 w))
  | 0x03 => some (.ori (f25 w) (f20 w) (imm16 w))
  | 0x04 => some (.xori (f25 w) (f20 w) (imm16 w))
  | 0x05 => if f20 w == 24 then some (.lui (f25 w) (imm16 w)) else none
  | 0x08 => groupR hx32MulDiv
  | 0x10 => some (.lw (f25 w) (f20 w) (imm16 w))
  | 0x11 => some (.lh (f25 w) (f20 w) (imm16 w))
  | 0x12 => some (.lhu (f25 w) (f20 w) (imm16 w))
  | 0x13 => some (.lb (f25 w) (f20 w) (imm16 w))
  | 0x14 => some (.lbu (f25 w) (f20 w) (imm16 w))
  | 0x18 => some (.sw (f25 w) (f20 w) (imm16 w))
  | 0x19 => some (.sh (f25 w) (f20 w) (imm16 w))
  | 0x1A => some (.sb (f25 w) (f20 w) (imm16 w))
  | 0x1C => some (.swap (f25 w) (f20 w) (imm16 w))
  | 0x20 => some (.beq (f25 w) (f20 w) (imm16 w))
  | 0x21 => some (.bne (f25 w) (f20 w) (imm16 w))
  | 0x22 => some (.blt (f25 w) (f20 w) (imm16 w))
  | 0x23 => some (.bge (f25 w) (f20 w) (imm16 w))
  | 0x24 => some (.bltu (f25 w) (f20 w) (imm16 w))
  | 0x25 => some (.bgeu (f25 w) (f20 w) (imm16 w))
  | 0x28 => if f20 w == 0 then some (.beqi (f25 w) (imm6 w) (off10 w)) else none
  | 0x29 => if f20 w == 0 then some (.bnei (f25 w) (imm6 w) (off10 w)) else none
  | 0x2A => if f20 w == 0 then some (.blti (f25 w) (imm6 w) (off10 w)) else none
  | 0x2B => if f20 w == 0 then some (.bgei (f25 w) (imm6 w) (off10 w)) else none
  | 0x30 => some (.j (off26 w))
  | 0x31 => some (.call (off26 w))
  | 0x32 => some (.callw (off26 w))
  | 0x33 => groupR hx32Jump
  | 0x38 => if f25 w == 0 && f20 w == 0 then some (.sysc (imm16 w)) else none
  | 0x39 => groupR hx32Priv
  | 0x3A => if f20 w == 0 then some (.csrr (f25 w) (imm16 w)) else none
  | 0x3B => if f25 w == 0 then some (.csrw (f20 w) (imm16 w)) else none
  | 0x3C => groupR hx32Cxv
  | 0x3D => some (.vld (f25 w) (f20 w) (imm16 w))
  | 0x3E => some (.vst (f25 w) (f20 w) (imm16 w))
  | 0x3F => groupR (fun func rd ra rb => if func == 0 && rd == 0 && rb == 0 then some (.cxvDma ra) else none)
  | _ => none

end Sys2Proof
end

