-- ==== Sys2Proof/Config.lean ====
section
/-! DEFINITION. What the spec leaves free or names by standard only: opaque constants with no body, so that no proof can see a value (log 7, log 8). -/

namespace Sys2Proof.Config

/-- A free value, drawn by a counter of State (log 7). -/
opaque free : Nat → Nat

/-- SHA-256 (R301, 10_enclave.md). -/
opaque sha256 : Bytes → Bytes

/-- AES CMAC, 16 bytes: key, data (R301). -/
opaque cmac : Bytes → Bytes → Bytes

/-- AES GCM with a 96-bit IV: key, IV, additional data, plaintext: ciphertext and 16-byte tag (R301). -/
opaque gcmSeal : Bytes → Bytes → Bytes → Bytes → Bytes × Bytes

/-- AES GCM opening: key, IV, additional data, ciphertext, tag (R301). -/
opaque gcmOpen : Bytes → Bytes → Bytes → Bytes → Bytes → Option Bytes

/-- AES-128 CCM under R318: key, nonce, additional data, data: ciphertext and 8-byte tag. -/
opaque ccmSeal : Bytes → Bytes → Bytes → Bytes → Bytes

/-- AES-128 CCM opening under R318. -/
opaque ccmOpen : Bytes → Bytes → Bytes → Bytes → Option Bytes

/-- TDES MAC of EN 15509: key set, key generation, data (R301). -/
opaque tdesMac : Bytes → Nat → Bytes → Bytes

/-- AES-128 block under ISO/IEC 29167-10 TAM1: key, challenge (R274, 09_tag.md). -/
opaque tam1 : Bytes → Bytes → Bytes

/-- HKDF-SHA256: salt, IKM, info, length (R301). -/
opaque hkdf : Bytes → Bytes → Bytes → Nat → Bytes

/-- ECDSA P-256 by the DIK over a byte string's SHA-256, 64 bytes (R299). -/
opaque dikSign : Bytes → Bytes

/-- ECDSA P-256 verification: public key, byte string, signature (R301). -/
opaque ecdsaOk : Bytes → Bytes → Bytes → Bool

/-- Whether 65 bytes are a valid uncompressed point on P-256 (R313). -/
opaque pointOk : Bytes → Bool

/-- The public point of a private value (R313). -/
opaque ecPublic : Nat → Bytes

/-- The x-coordinate of a private value times a public point, 32 bytes (R313, R317). -/
opaque ecdh : Nat → Bytes → Bytes

/-- What a certificate parser reads from a DER X.509 v3 certificate (R315, R279). -/
structure Cert where
  /-- The public key, uncompressed. -/
  key : Bytes := []
  /-- The key is on P-256 and the signature algorithm is ecdsa-with-SHA256. -/
  p256 : Bool := false
  /-- keyUsage includes digitalSignature; keyAgreement. -/
  digitalSignature : Bool := false
  keyAgreement : Bool := false
  /-- keyUsage includes keyCertSign. -/
  certSign : Bool := false
  /-- Validity in RTC seconds. -/
  notBefore : Nat := 0
  notAfter : Nat := 0
  /-- The signed bytes and the signature. -/
  tbs : Bytes := []
  sig : Bytes := []
  /-- Serial number. -/
  serial : Bytes := []
  deriving DecidableEq, Repr

/-- The X.509 parser (R296, R315): none where the bytes are no certificate. -/
opaque parseCert : Bytes → Option Cert

/-- A chain of two certificates split: insert certificate, operator certificate (R277). -/
opaque splitChain : Bytes → Option (Bytes × Bytes)

/-- A real power of a rational, used by voltage compensation and lamp wear (R122, R489): scaled by the caller. -/
opaque powScaled : Nat → Nat → Nat → Nat

/-- Wear of a gate driver's motor for one second in 1/1024 s, by the mean shunt voltage in µV (R489): the spec gives neither a shunt resistance nor an I_nom on GD channels (R463; log 123). -/
opaque motorWear : Int → Nat

/-- Lux of an ALS sample under a record's glass correction in 1/1000: the spec names no formula (R171, R172; log 7). -/
opaque lux : Nat → Nat → Nat

end Sys2Proof.Config
end

