-- ==== Sys2Proof/Machine/Bytes.lean ====
section
/-! DEFINITION. Byte strings: byte order, slices, list update, saturating counts, CRC-16 and CRC-32. -/

namespace Sys2Proof.Machine

/-- The byte of `n` at position `i` counted from the least significant. -/
def byteAt (n i : Nat) : Byte := BitVec.ofNat 8 (n >>> (8 * i))

/-- `w` bytes of `n`, big-endian (R8, 00_scope.md). -/
def be : Nat → Nat → Bytes
  | 0, _ => []
  | w + 1, n => byteAt n w :: be w n

/-- The number that bytes spell, big-endian (R8). -/
def beNat (b : Bytes) : Nat := b.foldl (fun acc x => acc * 256 + x.toNat) 0

/-- `w` bytes of `n`, little-endian: HX32 memory (R519, 18_core.md). -/
def le : Nat → Nat → Bytes
  | 0, _ => []
  | w + 1, n => BitVec.ofNat 8 n :: le w (n / 256)

/-- The number that bytes spell, little-endian (R519). -/
def leNat : Bytes → Nat
  | [] => 0
  | x :: r => x.toNat + 256 * leNat r

/-- One byte as a number; 0 beyond the end. -/
def byte (b : Bytes) (i : Nat) : Nat := (b.getD i 0).toNat

/-- `n` bytes from offset `i`. -/
def slice (b : Bytes) (i n : Nat) : Bytes := (b.drop i).take n

/-- The big-endian field of `n` bytes at offset `i`. -/
def field (b : Bytes) (i n : Nat) : Nat := beNat (slice b i n)

/-- A byte from a number. -/
def b8 (n : Nat) : Byte := BitVec.ofNat 8 n

/-- A flag as a number. -/
def bit (p : Bool) : Nat := if p then 1 else 0

/-- Bit `i` of `n`. -/
def tbit (n i : Nat) : Bool := n.testBit i

/-- The number whose bit i is element i of the list. -/
def mask : List Bool → Nat
  | [] => 0
  | p :: r => bit p + 2 * mask r

/-- Bits `lo` to `lo + w - 1` of `n`. -/
def bits (n lo w : Nat) : Nat := (n >>> lo) % 2 ^ w

/-- One more, saturating at `m`. -/
def satInc (m n : Nat) : Nat := if n < m then n + 1 else m

/-- Sum that saturates at `m`. -/
def satAdd (m n k : Nat) : Nat := min m (n + k)

/-- Every byte is zero. -/
def allZero (b : Bytes) : Bool := b.all (fun x => x == 0)

/-- Every byte is 0xFF. -/
def allOnes (b : Bytes) : Bool := b.all (fun x => x == 0xFF)

/-- A byte string padded with `c` or cut to `n` bytes. -/
def padTo (n : Nat) (c : Byte) (b : Bytes) : Bytes := b.take n ++ List.replicate (n - b.length) c

/-- A two's complement number of `w` bits. -/
def sext (w n : Nat) : Int := if n % 2 ^ w < 2 ^ (w - 1) then ((n % 2 ^ w : Nat) : Int) else ((n % 2 ^ w : Nat) : Int) - ((2 ^ w : Nat) : Int)

/-- An integer as `w` bytes, two's complement, big-endian. -/
def beInt (w : Nat) (i : Int) : Bytes := be w (i % ((2 ^ (8 * w) : Nat) : Int)).toNat

/-- Element `i` replaced by `f` of itself; unchanged beyond the end. -/
def modAt {α : Type} (f : α → α) : Nat → List α → List α
  | _, [] => []
  | 0, x :: r => f x :: r
  | i + 1, x :: r => x :: modAt f i r

/-- Element `i` replaced. -/
def setAt {α : Type} (i : Nat) (x : α) (l : List α) : List α := modAt (fun _ => x) i l

/-- Bytes written over a string from offset `i`, cut at its end. -/
def writeAt (b : Bytes) (i : Nat) (d : Bytes) : Bytes := b.take i ++ d.take (b.length - i) ++ b.drop (i + d.length)

/-- The value of key `k` in a list of pairs, 0 when absent. -/
def lookupN (k : Nat) : List (Nat × Nat) → Nat
  | [] => 0
  | (a, v) :: r => if a == k then v else lookupN k r

/-- The value of key `k`, if listed. -/
def lookup? {α : Type} (k : Nat) : List (Nat × α) → Option α
  | [] => none
  | (a, v) :: r => if a == k then some v else lookup? k r

/-- Key `k` set to `v`, in place or at the end. -/
def setN {α : Type} (k : Nat) (v : α) : List (Nat × α) → List (Nat × α)
  | [] => [(k, v)]
  | (a, w) :: r => if a == k then (k, v) :: r else (a, w) :: setN k v r

/-- One step of CRC-16/CCITT-FALSE by a bit (R48, 02_mailboxes.md). -/
def crc16Bit (crc : BitVec 16) : BitVec 16 := if crc.msb then (crc <<< 1) ^^^ 0x1021#16 else crc <<< 1

/-- One byte into CRC-16/CCITT-FALSE (R48). -/
def crc16Byte (crc : BitVec 16) (b : Byte) : BitVec 16 :=
  let c := crc ^^^ ((b.zeroExtend 16) <<< 8)
  crc16Bit (crc16Bit (crc16Bit (crc16Bit (crc16Bit (crc16Bit (crc16Bit (crc16Bit c)))))))

/-- CRC-16/CCITT-FALSE: polynomial 0x1021, initial 0xFFFF, not reflected, no final XOR (R48). -/
def crc16 (b : Bytes) : Nat := (b.foldl crc16Byte 0xFFFF#16).toNat

/-- One step of the reflected CRC-32 by a bit (R452, 16_persistent.md). -/
def crc32Bit (crc : BitVec 32) : BitVec 32 := if crc.getLsbD 0 then (crc >>> 1) ^^^ 0xEDB88320#32 else crc >>> 1

/-- One byte into CRC-32/ISO-HDLC (R452). -/
def crc32Byte (crc : BitVec 32) (b : Byte) : BitVec 32 :=
  let c := crc ^^^ (b.zeroExtend 32)
  crc32Bit (crc32Bit (crc32Bit (crc32Bit (crc32Bit (crc32Bit (crc32Bit (crc32Bit c)))))))

/-- CRC-32/ISO-HDLC (R452). -/
def crc32 (b : Bytes) : Nat := (~~~ (b.foldl crc32Byte 0xFFFFFFFF#32)).toNat

end Sys2Proof.Machine
end

