-- ==== Sys2Proof/Machine/Crypto.lean ====
section
/-! DEFINITION. The cryptographic operations of R301 (10_enclave.md) as the meanings call them. -/

namespace Sys2Proof.Machine

/-- SHA-256 (R301). -/
def sha256 (b : Bytes) : Bytes := Config.sha256 b

/-- AES CMAC (R301). -/
def cmac (key b : Bytes) : Bytes := Config.cmac key b

end Sys2Proof.Machine
end

