-- ==== Sys2Proof/Machine/Mem.lean ====
section
/-! DEFINITION. Byte memory as a canonical list of cells: addresses strictly rising, and no cell equal to what an unlisted address reads as. The default byte is a parameter: 0 for the memories of the core, 0xFF for the external flash. -/

namespace Sys2Proof.Machine

/-- The byte at an address: the listed one, or the default. -/
def memRead (dflt : Byte) : List Host.Cell → Nat → Byte
  | [], _ => dflt
  | (k, v) :: r, a => if k == a then v else memRead dflt r a

/-- The cell of an address removed. -/
def memErase : List Host.Cell → Nat → List Host.Cell
  | [], _ => []
  | (k, v) :: r, a => if k == a then memErase r a else (k, v) :: memErase r a

/-- A cell inserted in order, before the first greater address. -/
def memInsert : List Host.Cell → Nat → Byte → List Host.Cell
  | [], a, b => [(a, b)]
  | (k, v) :: r, a, b => if a < k then (a, b) :: (k, v) :: r else (k, v) :: memInsert r a b

/-- A byte written: writing the default removes the cell. -/
def memWrite (dflt : Byte) (m : List Host.Cell) (a : Nat) (b : Byte) : List Host.Cell :=
  if b == dflt then memErase m a else memInsert (memErase m a) a b

/-- Bytes written at rising addresses. -/
def memStore (dflt : Byte) (m : List Host.Cell) (a : Nat) : Bytes → List Host.Cell
  | [] => m
  | b :: r => memStore dflt (memWrite dflt m a b) (a + 1) r

/-- `n` bytes from an address. -/
def memLoad (dflt : Byte) (m : List Host.Cell) (a : Nat) : Nat → Bytes
  | 0 => []
  | n + 1 => memRead dflt m a :: memLoad dflt m (a + 1) n

/-- The cells outside `[lo, lo + n)`. -/
def memClear (m : List Host.Cell) (lo n : Nat) : List Host.Cell :=
  m.filter (fun c => !(decide (lo ≤ c.1) && decide (c.1 < lo + n)))

/-- Addresses strictly rise. -/
def memSorted : List Host.Cell → Bool
  | [] => true
  | (a, _) :: r => r.all (fun c => decide (a < c.1)) && memSorted r

/-- The canonical form. -/
def memWf (dflt : Byte) (m : List Host.Cell) : Bool := memSorted m && m.all (fun c => c.2 != dflt)

end Sys2Proof.Machine
end

