-- ==== Sys2Proof/Machine/TwillTypes.lean ====
section
/-! DEFINITION. The working copy of a Twill image as records (R456 to R472, 16_persistent.md); every field's default is the built-in default of R478. -/

namespace Sys2Proof.Machine

/-- Source descriptor, R460. `kind` is IGN_KIND or LOCK_KIND of R459: 0 CAN, 1 switch, 2 ladder, 3 station, 0xFF none. -/
structure SrcDesc where
  kind : Nat := 0xFF
  loc : Nat := 0
  ext : Bool := false
  id : Nat := 0
  byte : Nat := 0
  shift : Nat := 0
  width : Nat := 0
  map : List Nat := [0xFF, 0xFF, 0xFF, 0xFF]
  deriving DecidableEq, Repr

/-- Mode policy record, R459; the built-in sources are those of R478 and R460. -/
structure TwMode where
  ign : SrcDesc := { kind := 1, loc := 0, map := [0x00, 0xFF, 0x01, 0xFF] }
  lock : SrcDesc := {}
  srcTimeoutMs : Nat := 500
  lingerS : Nat := 30
  approachToS : Nat := 300
  doorSw : Nat := 0
  approachWake : Nat := 0
  approachSw : Nat := 0
  deriving DecidableEq, Repr

/-- Power and wake record, R461. -/
structure TwPower where
  asleep : List Nat := List.replicate 12 0
  awake10ms : Nat := 200
  wakeIntS : Nat := 0
  extV33 : Nat := 0
  wakePort : Nat := 0xFF
  rIsns : Nat := 470
  govA : Nat := 140
  govB : Nat := 140
  hystA : Nat := 10
  hystB : Nat := 10
  wdtMs : Nat := 100
  deriving DecidableEq, Repr

/-- Mailbox transports record, R462; built-in: MBX-CAN on CAN0 0x6F0/0x6F8, MBX-ETH off (R478). -/
structure TwTransports where
  spiCeil : Nat := 1
  canCeil : Nat := 0
  ethCeil : Nat := 0
  canCh : Nat := 0
  canReq : Nat := 0x6F0
  canRsp : Nat := 0x6F8
  canBrs : Bool := false
  stmin : Nat := 0
  nCrMs : Nat := 150
  ethPort : Nat := 0
  idleS : Nat := 600
  lease10ms : Nat := 100
  deriving DecidableEq, Repr

/-- Channel record, R463; defaults of R478 (I_LIM, dead time, VDS and gain depend on the group: `TwChannel.builtin`). -/
structure TwChannel where
  object : Nat := 0
  owner : Nat := 0
  prio : Nat := 0
  ilim : Nat := 0
  inrush : Nat := 1
  k : Nat := 0
  vref : Nat := 130
  restart : Nat := 3
  retryMs : Nat := 100
  holdUs : Nat := 1000
  pwm : Nat := 200
  crank : Nat := 0
  crankV : Nat := 0
  park : Bool := false
  diag : Bool := false
  settleUs : Nat := 200
  onstate : Nat := 0
  inom : Nat := 0
  dead : Nat := 0
  vds : Nat := 0
  shuntG : Nat := 0
  deriving DecidableEq, Repr

/-- Lamp function record, R464. -/
structure TwLamp where
  func : Nat := 0
  ch : List Nat := []
  level : List Nat := [0, 0, 0, 0]
  modes : Nat := 0
  rainLight : Bool := false
  fadeMs : Nat := 0
  deriving DecidableEq, Repr

/-- Lamp scene record, R464. -/
structure TwScene where
  scene : Nat := 0
  fadeMs : Nat := 0
  entries : List (Nat × Nat) := []
  deriving DecidableEq, Repr

/-- Wiper record, R465. -/
structure TwWiper where
  pair : Nat := 0
  parkSw : Nat := 0
  parkLvl : Bool := false
  washer : Nat := 0xFF
  low : Nat := 1000
  high : Nat := 1000
  parkD : Nat := 2000
  stall : Nat := 0
  postwipe : Nat := 3
  confirm : Bool := true
  reverse : Bool := false
  serviceMs : Nat := 100
  deriving DecidableEq, Repr

/-- Motion actuator record, R465. -/
structure TwMotion where
  act : Nat := 0
  pair : Nat := 0
  zone : Nat := 0
  margin : Nat := 0
  reversal : Nat := 200
  stall : Nat := 0
  openFirst : Bool := false
  deriving DecidableEq, Repr

/-- One switch input of R466. -/
structure TwSwitch where
  toBatt : Bool := false
  wet10 : Bool := false
  wake : Nat := 0
  stuckS : Nat := 0
  deriving DecidableEq, Repr

/-- Switch inputs and wake pins record, R466; SW0 built-in as R478. -/
structure TwInputs where
  pollMs : Nat := 5
  debounce : Nat := 3
  input : List TwSwitch := { toBatt := true, wake := 3 } :: List.replicate 23 {}
  pinEn : Nat := 1
  pinPol : Nat := 0
  pinFiltMs : Nat := 10
  deriving DecidableEq, Repr

/-- One ladder band of R466 (R157). -/
structure TwBand where
  low : Nat := 0
  high : Nat := 0
  code : Nat := 0
  deriving DecidableEq, Repr

/-- Analog input record, R466. -/
structure TwAnalog where
  input : Nat := 0
  pullup : Bool := false
  ladder : Bool := false
  debounce : Nat := 3
  bands : List TwBand := []
  deriving DecidableEq, Repr

/-- Key matrix record, R466; built-in: not scanned (R478). -/
structure TwKeys where
  scanned : Bool := false
  diode : Bool := false
  scanMs : Nat := 5
  debounce : Nat := 3
  stuckS : Nat := 0
  deriving DecidableEq, Repr

/-- Windscreen calibration record, R172 (05_inputs.md). -/
structure TwScreen where
  record : Nat := 0
  ledMa : Nat := 20
  burst : Nat := 16
  periodMs : Nat := 10
  sref0 : Nat := 0
  sref1 : Nat := 0
  thr : List Nat := []
  hyst : Nat := 0
  fallback : Nat := 0
  als0Gain : Nat := 1000
  als1Gain : Nat := 1000
  deriving DecidableEq, Repr

/-- Rain policy record, R467; the default MAP is that of R178. -/
structure TwRain where
  record : Nat := 0
  sens : Nat := 1
  map : List Nat := [0, 15, 10, 6, 3, 0x40, 0x40, 0x40, 0x40, 0x40, 0x41, 0x41, 0x41, 0x41, 0x41, 0x41]
  m1Start : Nat := 0
  m1Len : Nat := 0
  m2Start : Nat := 0
  m2Len : Nat := 0
  deriving DecidableEq, Repr

/-- Light policy record, R467. -/
structure TwLight where
  tDusk : Nat := 1000
  tNight : Nat := 50
  tTun : Nat := 300
  darkS : Nat := 5
  holdS : Nat := 3
  lightS : Nat := 30
  rainLight : Nat := 0
  deriving DecidableEq, Repr

/-- One key binding of the haptic record, R186 (06_haptics.md). -/
structure TwBind where
  key : Nat := 0
  effect : Nat := 0
  amp : Nat := 1
  edge : Nat := 1
  deriving DecidableEq, Repr

/-- Haptic record, R186 (06_haptics.md). -/
structure TwHaptic where
  fRes : Nat := 100
  vLimit : Nat := 20
  bemfThr : Nat := 10
  qMax : Nat := 10
  tau : Nat := 1
  htrig : Nat := 0
  htrigAmp : Nat := 1
  armed : Nat := 0xFF
  binds : List TwBind := []
  deriving DecidableEq, Repr

/-- Millrace port record, R468. -/
structure TwPort where
  port : Nat := 0
  enabled : Bool := false
  auth : Bool := false
  residual : Bool := false
  code : Nat := 0
  nodes : Nat := 2
  mac : Bytes := []
  vlan : Nat := 0
  keySlot : Nat := 0xFF
  deriving DecidableEq, Repr

/-- Millrace station record, R468. -/
structure TwStation where
  addr : Nat := 0
  port : Nat := 0
  relay : Nat := 0
  node : Nat := 1
  profile : Nat := 0
  ilen : Nat := 0
  olen : Nat := 0
  timeout : Nat := 3
  isRelay : Bool := false
  dauth : Bool := false
  dnodes : Nat := 0
  dkeySlot : Nat := 0xFF
  park : Bytes := []
  deriving DecidableEq, Repr

/-- Millrace dependency record, R469. -/
structure TwDep where
  src : Nat := 0
  byte : Nat := 0
  shift : Nat := 0
  width : Nat := 1
  policy : Nat := 0
  tkind : Nat := 0
  target : Nat := 0
  tbyte : Nat := 0
  tshift : Nat := 0
  dflt : Nat := 0
  inhibit : Nat := 0
  deriving DecidableEq, Repr

/-- CAN channel record, R470. -/
structure TwCan where
  ch : Nat := 0
  enabled : Bool := false
  selWake : Bool := false
  nominal : Nat := 2
  dataRate : Nat := 0
  spN : Nat := 800
  spD : Nat := 800
  recoveryMs : Nat := 100
  wufRate : Nat := 0
  wufDlc : Nat := 0
  wufId : Nat := 0
  wufMask : Nat := 0
  wufData : Bytes := List.replicate 8 0
  filters : List (Nat × Nat) := []
  deriving DecidableEq, Repr

/-- One LIN frame entry of R470. -/
structure TwLinFrame where
  id : Nat := 0
  len : Nat := 1
  responder : Bool := false
  data : Bytes := []
  deriving DecidableEq, Repr

/-- One LIN slot of R470: kind 0 unconditional, 1 event-triggered, 2 sporadic, 3 request, 4 response. -/
structure TwLinSlot where
  id : Nat := 0
  kind : Nat := 0
  ms : Nat := 5
  data : Bytes := []
  deriving DecidableEq, Repr

/-- One LIN schedule table of R470. -/
structure TwLinSched where
  num : Nat := 0
  collide : Nat := 0xFF
  slots : List TwLinSlot := []
  deriving DecidableEq, Repr

/-- LIN channel record, R470. -/
structure TwLin where
  ch : Nat := 0
  enabled : Bool := false
  rate : Nat := 100
  enhanced : Nat := 0
  frames : List TwLinFrame := []
  scheds : List TwLinSched := []
  deriving DecidableEq, Repr

/-- Uplink and time record, R471; built-in: uplink off (R478). -/
structure TwUplink where
  enabled : Bool := false
  rxDelay : Bool := false
  txDelay : Bool := false
  gptp : Bool := false
  phy : Nat := 0
  vlan : Nat := 1
  pcp : Nat := 0
  mac : Bytes := []
  ipv4 : Nat := 0
  mask : Nat := 0
  gateway : Nat := 0
  utcOff : Nat := 37
  deriving DecidableEq, Repr

/-- Routing table entry, R254 (08_buses.md). -/
structure TwRoute where
  enabled : Bool := false
  toCan : Bool := false
  ext : Bool := false
  channel : Nat := 0
  id : Nat := 0
  mask : Nat := 0
  stream : Nat := 0
  batch : Nat := 0
  deriving DecidableEq, Repr

/-- Stream record, R471. -/
structure TwStream where
  stream : Nat := 0
  pcp : Nat := 0
  vlan : Nat := 1
  id : Nat := 0
  dest : Bytes := []
  deriving DecidableEq, Repr

/-- Tag record, R262 (09_tag.md); absent counts as every flag clear. -/
structure TwTag where
  enabled : Bool := false
  identity : Bool := false
  fieldDetect : Bool := false
  dsrc : Bool := false
  uhf : Bool := false
  logRefused : Bool := false
  deriving DecidableEq, Repr

/-- Response, N and W of one tamper source, R328 (11_tamper.md). -/
structure TamperRule where
  response : Nat := 1
  n : Nat := 1
  w : Nat := 1
  deriving DecidableEq, Repr

/-- Tamper policy record, R328; the defaults are those of R330. -/
structure TwTamper where
  lock : Bool := false
  rules : List TamperRule := [⟨1, 3, 2⟩, ⟨1, 2, 10⟩, ⟨1, 2, 10⟩, ⟨1, 5, 50⟩, ⟨1, 1, 1⟩, ⟨1, 1, 1⟩]
  deriving DecidableEq, Repr

/-- Confluence record, R352 (12_confluence.md): quiet period in 10 ms, limit, raise entries (source, kind, class). -/
structure TwConfluence where
  quiet : Nat := 200
  limit : Nat := 8
  raises : List (Nat × Nat × Nat) := []
  deriving DecidableEq, Repr

/-- Life and prognostics record, R489 to R491. -/
structure TwLife where
  bladeRated : Nat := 200
  bladePct : Nat := 90
  eolPct : Nat := 90
  slotRated : Nat := 500
  rated : List Nat := List.replicate 56 0
  deriving DecidableEq, Repr

/-- One DIAG data identifier of R472. -/
structure TwDid where
  did : Nat := 0
  writable : Bool := false
  value : Bytes := []
  deriving DecidableEq, Repr

/-- The Twill working copy (R443, R475): with no record of a type, the built-in defaults of R478 stand. -/
structure Twill where
  mode : TwMode := {}
  power : TwPower := {}
  transports : TwTransports := {}
  channels : List TwChannel := []
  softSafe : List Nat := List.replicate 56 0
  lamps : List TwLamp := []
  scenes : List TwScene := []
  wiper : Option TwWiper := none
  motion : List TwMotion := []
  inputs : TwInputs := {}
  analog : List TwAnalog := []
  keys : TwKeys := {}
  screens : List TwScreen := []
  rain : Option TwRain := none
  light : Option TwLight := none
  haptic : Option TwHaptic := none
  ports : List TwPort := []
  stations : List TwStation := []
  deps : List TwDep := []
  can : List TwCan := [{ ch := 0, enabled := true }]
  lin : List TwLin := []
  uplink : TwUplink := {}
  routes : List TwRoute := []
  streams : List TwStream := []
  tag : TwTag := {}
  tamper : TwTamper := {}
  confluence : TwConfluence := {}
  tdxL : Nat := 32
  life : TwLife := {}
  dids : List TwDid := []
  deriving DecidableEq, Repr

end Sys2Proof.Machine
end

