-- ==== Sys2Proof/Machine/StateA.lean ====
section
/-! DEFINITION. The parts of State: AO, mailbox, power, outputs, inputs and haptics. Every field's default is its reset value; a docstring names the rule and where the reset value comes from (spec, or log 3: DESIGN CHOICE, the spec gives none). -/

namespace Sys2Proof.Machine

/-- Pins, supplies and temperatures as last measured: what the world presents to the device. -/
structure Env where
  /-- VBAT at VBAT_C in mV, 16 bits (R390, 14_power.md). Reset: DESIGN CHOICE 13000 (log 3, the typical supply of 20_electrical.md). -/
  vbat : Nat := 13000
  /-- Level of WAKE0..WAKE3 as electrical level high, 4 bits (R153, 05_inputs.md). Reset: DESIGN CHOICE low (log 3). -/
  wakeLevel : List Bool := List.replicate 4 false
  /-- ISMODE strap level, 1 bit (R564, 19_package.md). Reset: low, the 50 kΩ pull-down of R560. -/
  isModePin : Bool := false
  /-- TEST strap level, 1 bit (R564, 19_package.md). Reset: low, the 50 kΩ pull-down of R560. -/
  testPin : Bool := false
  /-- RSTN level, 1 bit (R436, 15_clocks_resets.md). Reset: high, the pull-up of R560. -/
  rstn : Bool := true
  /-- INS_DET reads present, 1 bit (R563, 19_package.md). Reset: absent, the pull-up of R560. -/
  insDet : Bool := false
  /-- ISEL4..ISEL0 as the host drives them while ISMODE is high, 5 bits (R112, 04_outputs.md). Reset: 0, the pull-downs of R560. -/
  isel : Nat := 0
  /-- Die temperatures control, A, B in °C (SYS.STATUS row, 03_commands.md). Reset: DESIGN CHOICE 25 (log 3, T_a of 20_electrical.md). -/
  temps : List Int := [25, 25, 25]
  /-- What the next RLS.CAL measures (R173): set by the row RLS_CAL. Reset: DESIGN CHOICE nothing valid (log 3). -/
  cal : CalMeas := {}
  /-- How the next key update goes (R307): set by the row ENC_KEYUPD. Reset: DESIGN CHOICE done (log 3). -/
  keyRun : KeyRun := .done
  /-- The next floor raise of UPD.CONFIRM is still running when the next command comes (R509): set by the row UPD_CONFIRM. Reset: DESIGN CHOICE no (log 3). -/
  raiseRuns : Bool := false
  /-- The next Twill commit is still running when the next command comes (R474): set by the row CFG_COMMIT. Reset: DESIGN CHOICE no (log 3). -/
  commitRuns : Bool := false
  /-- The TDX comparator passes every step of the test of R387, as the last POR found it. Reset: DESIGN CHOICE it passes (log 76). -/
  comparator : Bool := true
  /-- Stimuli of TMP.TEST that the monitor detects (R346; log 95). Reset: DESIGN CHOICE 0 (log 3). -/
  found : Nat := 0
  /-- Voltages present on SW0 to SW23 in mV (R145, 05_inputs.md), as the row SWITCH_POLL brings them, polled or not: what the initial debounce of R155 reads. Reset: DESIGN CHOICE 6500, between the thresholds (log 3). -/
  swMv : List Nat := List.replicate 24 6500
  deriving DecidableEq, Repr

/-- One-time programmable and factory content. -/
structure Otp where
  /-- Part number, 2 values (R1, 00_scope.md). Reset: kept for ever; DESIGN CHOICE bz7460 (log 4). -/
  part : Part := .bz7460
  /-- Device serial, 64 bits (SYS.INFO row, 03_commands.md). Reset: kept; DESIGN CHOICE 0 (log 4). -/
  serial : Nat := 0
  /-- Falnal root hash, 32 bytes (R496, 17_images.md). Reset: kept; DESIGN CHOICE empty (log 4). -/
  rootHash : Bytes := []
  /-- OEM image key hash, 32 bytes or none (R496). Reset: kept; DESIGN CHOICE none (log 4). -/
  oemHash : Option Bytes := none
  /-- Hard safe pattern, 56 values 0 OFF, 1 ON, 2 HOLD (R129, 04_outputs.md). Reset: an unprogrammed block gives OFF for every channel. -/
  hardSafe : List Nat := List.replicate 56 0
  /-- Hash of the DIK certificate, 32 bytes (R296, 10_enclave.md). Reset: kept; the hash of the factory certificate (log 4). -/
  certHash : Bytes := Config.sha256 (List.replicate 512 0)
  /-- Production lock fuse, 1 bit (R347, 11_tamper.md). Reset: intact until blown. -/
  prodLock : Bool := false
  /-- Program flash as read by the boot ROM: see Images. The external flash meets R501, 1 bit (17_images.md). Reset: DESIGN CHOICE true (log 4). -/
  extFlashOk : Bool := true
  /-- Size of the external flash in bytes (R501). Reset: DESIGN CHOICE 8 MB, the least R501 allows (log 4). -/
  extFlashSize : Nat := 8388608
  deriving DecidableEq, Repr

/-- An abort record of R64 (02_mailboxes.md). -/
structure AbortRec where
  /-- The record's number among those ever made (model's own: names the record that a response delivers). -/
  id : Nat := 0
  transport : Transport := .spi
  code : Nat := 0
  seq : Nat := 0
  session : Nat := 0
  async : Bool := false
  priv : Nat := 0
  src : Addr := {}
  deriving DecidableEq, Repr

/-- A pending tamper record of R340 (11_tamper.md): key source, kind; COUNT and first times. -/
structure TamperPending where
  source : Nat := 0
  kind : Nat := 0
  count : Nat := 0
  life : Nat := 0
  utc : Nat := 0
  rtcSet : Bool := false
  deriving DecidableEq, Repr

/-- A Severe or Grave message with its arrival stamp (R358, 12_confluence.md). -/
structure Stamped where
  msg : Rill := {}
  stamp : Nat := 0
  deriving DecidableEq, Repr

/-- The Grave record of R365: first Grave message, life clock, RTC. -/
structure GraveRec where
  msg : Rill := {}
  stamp : Nat := 0
  life : Nat := 0
  rtc : Nat := 0
  rtcSet : Bool := false
  deriving DecidableEq, Repr

/-- What the always-on region holds (R442, 15_clocks_resets.md). -/
structure Ao where
  /-- AO validity marker, 1 bit (R441, R337). Reset: valid. -/
  valid : Bool := true
  /-- RTC UTC seconds since 2000, 32 bits (R488, 16_persistent.md). Reset: reads not set; DESIGN CHOICE 0 for the seconds (log 3). -/
  rtc : Nat := 0
  /-- RTC set flag, 1 bit (R488). Reset: not set. -/
  rtcSet : Bool := false
  /-- RTC source: 0 none, 1 host, 2 gPTP (SYS.GETTIME row, 03_commands.md). Reset: 0 none. -/
  rtcSource : Nat := 0
  /-- RTC trim in 0.1 ppm, signed 16 bits (R81, 03_commands.md). Reset: DESIGN CHOICE 0 (log 3). -/
  trim : Int := 0
  /-- Trim gathered towards a whole second, in 0.1 µs (R488, model's own resolution). Reset: DESIGN CHOICE 0 (log 3). -/
  trimAcc : Int := 0
  /-- Life clock in seconds, 32 bits (R487, 16_persistent.md). Reset: counts from the first power-on; 0 there. -/
  life : Nat := 0
  /-- Tamper sticky flags, 16 bits (R336, 11_tamper.md). Reset: clear since AO loss (R337). -/
  sticky : Nat := 0
  /-- Alarmed sources 1..6, 6 bits (R327). Reset: clear since AO loss (R337). -/
  alarmed : List Nat := []
  /-- Pending tamper records in order of first alarm (R340). Reset: none (R337). -/
  tamperPending : List TamperPending := []
  /-- Last-wake record: source code, RTC, life clock (R410, 14_power.md). Reset: code 0x00 (R441). -/
  wakeSource : Nat := 0
  wakeRtc : Nat := 0
  wakeLife : Nat := 0
  /-- Wake sources active while VBAT is below 5.5 V, held (R411). Reset: none. -/
  wakeHeld : Option Nat := none
  /-- Refusal counters by refuser code 1..9, 16 bits each (R405). Reset: cleared by POR (R442). -/
  refusals : List Nat := List.replicate 9 0
  /-- Last refuser code, 0 none (R405). Reset: DESIGN CHOICE 0 (log 3). -/
  lastRefuser : Nat := 0
  /-- Reset-cause history, newest first, at most 8 (cause code, life clock) (R440). Reset: no entry. -/
  history : List (Nat × Nat) := []
  /-- Grave latch and Grave record (R365). Reset: clear. -/
  grave : Option GraveRec := none
  /-- Severe reaction running, with the arrival stamp of its latest Severe arrival in µs of `now` (R361). Reset: none. -/
  severeAt : Option Nat := none
  /-- Recovery counters by source 0..255, 8 bits each: the non-zero ones as (source, count) (R362). Reset: 0. -/
  recovery : List (Nat × Nat) := []
  /-- Life-clock seconds of Severe reaction starts, at most 255, newest first (R363). Reset: none. -/
  severeStarts : List Nat := []
  /-- Copies of Severe and Grave messages not yet raised as FLT.RILL, oldest first, at most 8 (R358). Reset: none. -/
  rillCopies : List Stamped := []
  /-- Abort records in arrival order (R64, 02_mailboxes.md). Reset: none. -/
  aborts : List AbortRec := []
  /-- Abort records made so far (model's own: the next record's number). Reset: 0. -/
  accepted : Nat := 0
  /-- Millrace epoch, 8 bits; none while unknown (R234, 07_millrace.md). Reset: unknown after AO loss. -/
  epoch : Option Nat := none
  /-- TDX replay and second-mismatch counters, 16 bits each (R388, 13_tdx.md). Reset: 0. -/
  tdxReplays : Nat := 0
  tdxSecond : Nat := 0
  /-- Life-clock seconds of recent LPBOs, newest first (R408, 14_power.md). Reset: none. -/
  lpbos : List Nat := []
  /-- R408 blocks low-power entries until the next transition out of PARKED. Reset: no. -/
  lpBlocked : Bool := false
  /-- AO is clocked from AORC because AOK has failed (R432, 15_clocks_resets.md). Reset: no. -/
  onAorc : Bool := false
  /-- AOK_FAIL waits to be issued once SVC is ON (R432). Reset: no. -/
  aokFailHeld : Bool := false
  /-- AORC has been calibrated against XTAL25 (R432). Reset: no. -/
  aorcCal : Bool := false
  deriving DecidableEq, Repr

/-- A cached response of R57 (02_mailboxes.md): none while the request runs. -/
structure CacheEntry where
  seq : Nat := 0
  code : Nat := 0
  resp : Option Frame := none
  deriving DecidableEq, Repr

/-- A mailbox session (R58, R59; 02_mailboxes.md). Session 0 of a transport is one of these with id 0. -/
structure Session where
  id : Nat := 0
  transport : Transport := .spi
  priv : Nat := 0
  /-- Privilege sought in ENC.OPEN, 1 to 4 (R313). -/
  sought : Nat := 0
  /-- Proven by ENC.PROVE (R93). Session 0 needs no proof. -/
  proven : Bool := true
  /-- Key-store slot of the anchor that granted the privilege (R315). -/
  anchor : Option Nat := none
  /-- Highest sequence h (R55); none before the first request. -/
  h : Option Nat := none
  /-- Session counter, 32 bits (R56). -/
  ctr : Nat := 0
  /-- Event counter, 16 bits (R50). -/
  evSeq : Nat := 0
  /-- Consecutive MAC failures (R53). -/
  macFails : Nat := 0
  /-- Lost events, 16 bits, saturating (R63). -/
  lost : Nat := 0
  /-- Response cache of the last 64 accepted sequence numbers, newest first (R57). -/
  cache : List CacheEntry := []
  /-- Session keys K_hd, K_dh, K_w (R314). -/
  kHd : Bytes := []
  kDh : Bytes := []
  kW : Bytes := []
  /-- ENC.OPEN transcript values Q_H, N_H, Q_D, N_D (R313). -/
  qH : Bytes := []
  nH : Bytes := []
  qD : Bytes := []
  nD : Bytes := []
  /-- Source of the most recent accepted request on ETH (R46). -/
  src : Option Addr := none
  /-- When the idle time runs out, µs (R60). -/
  idleAt : Nat := 0
  /-- When an unproven session closes, µs (R93). -/
  proveAt : Nat := 0
  deriving DecidableEq, Repr

/-- A request in a slot: accepted and running, or waiting for its turn in the ordered lane (R54). -/
structure Slot where
  code : Nat := 0
  req : Req := {}
  /-- Started: its handler ran and its response is still to come. -/
  started : Bool := false
  /-- The status of steps 11 to 13 of R51 that refuses it in its turn. -/
  refuse : Option Nat := none
  /-- Answered, and the response (by its abort record) still waits for a place in the SPI RX queue (R54). -/
  done : Option Nat := none
  deriving DecidableEq, Repr

/-- An MBX-CAN reception in progress (R44, R45). -/
structure CanRx where
  ffDl : Nat := 0
  bytes : Bytes := []
  nextSn : Nat := 1
  /-- When N_Cr expires, µs. -/
  crAt : Nat := 0
  deriving DecidableEq, Repr

/-- An MBX-CAN segmented transmission in progress (R44). -/
structure CanTx where
  frame : Frame := {}
  /-- Message bytes put into CAN frames so far. -/
  sent : Nat := 0
  /-- A CAN frame of the message is in the transmit queue, until `asAt` µs (N_As). -/
  queued : Bool := true
  asAt : Nat := 0
  /-- Flow control is awaited, until `fcAt` µs (N_Bs). -/
  waitFc : Bool := false
  fcAt : Nat := 0
  /-- Consecutive frames left in the block; none: no limit (BS 0). -/
  left : Option Nat := none
  deriving DecidableEq, Repr

/-- One mailbox transport (R35). -/
structure Port where
  /-- The transport is served (R36). Reset: 0, not before U10 (R444). -/
  served : Bool := false
  /-- Request slots in use, at most 8 (R35). Reset: none used, SLOTS 0x8 (R41). -/
  slots : List Slot := []
  /-- Frames queued for the host, oldest first: responses and at most 32 events (R63); on SPI the RX queue of 40 frames. Reset: empty (R41). -/
  out : List Frame := []
  /-- Source of the most recent accepted unauthenticated request on ETH (R46). Reset: none. -/
  src0 : Option Addr := none
  deriving DecidableEq, Repr

/-- The mailbox (02_mailboxes.md). -/
structure Mbx where
  spi : Port := {}
  can : Port := {}
  eth : Port := {}
  /-- Open sessions, session 0 of each served transport included (R58, R59). Reset: none open. -/
  sessions : List Session := []
  /-- MBX-CAN reassembly and segmented sending (R44). Reset: none. -/
  canRx : Option CanRx := none
  canTx : Option CanTx := none
  /-- MBX-CAN flow-control frames sent: (flow status 0 CTS or 2 OVFLW, BS, STmin), newest first (R44, R45). Reset: none. -/
  flowSent : List (Nat × Nat × Nat) := []
  /-- Events raised while a request executes wait here and follow its response (R62): code, least privilege, payload. Reset: none. -/
  hold : Option (List (Nat × Nat × Bytes)) := none
  /-- Resets that follow the delivery of a response: its abort record and the cause (R80, R96). Reset: none. -/
  resetAfter : List (Nat × Cause) := []
  deriving DecidableEq, Repr

/-- The SPI host window (R41, 02_mailboxes.md). WIN_ID, SLOTS, RXCNT, RXLEN and INTN are computed. -/
structure Win where
  /-- WIN_STAT.READY, 1 bit (R41). Reset: 0. -/
  ready : Bool := false
  /-- WIN_STAT.RESCUE, 1 bit (R41). Reset: 0. -/
  rescue : Bool := false
  /-- WIN_IRQ[5:0] (R41). Reset: 0x20. -/
  irq : BitVec 6 := 0x20
  /-- WIN_IRQEN[5:0] (R41). Reset: 0x27. -/
  irqEn : BitVec 6 := 0x27
  /-- WIN_ERR.CODE, 8 bits (R41). Reset: 0. -/
  errCode : Nat := 0
  /-- WIN_ERR.COUNT, 16 bits (R41). Reset: 0. -/
  errCount : Nat := 0
  /-- WIN_SCRATCH, 32 bits (R41). Reset: 0. -/
  scratch : Word := 0
  /-- Bytes shifted out on HSPI_SDO in the last assertion (R37, R39). Reset: DESIGN CHOICE none (log 3). -/
  miso : Bytes := []
  deriving DecidableEq, Repr

/-- Mode policy (01_system.md). -/
structure ModeSt where
  /-- Vehicle mode, 3 bits (R16). Reset: PARKED as starting point (R23). -/
  mode : Mode := .parked
  /-- CRANK sub-state, 1 bit (R21). Reset: no. -/
  crank : Bool := false
  /-- CRANK was left on its 30 s limit and the source still reports CRANK (R21). Reset: no. -/
  crankSpent : Bool := false
  /-- When CRANK reaches 30 s, µs (R21). Reset: none. -/
  crankEnd : Option Nat := none
  /-- Ignition state, last valid (R17, R22). Reset: DESIGN CHOICE OFF before a first valid report (log 3). -/
  ign : Ign := .off
  /-- The ignition source is valid (R22). Reset: DESIGN CHOICE no report yet: false (log 3). -/
  ignValid : Bool := false
  /-- The lock source is valid (R229, R460). Reset: no. -/
  lockValid : Bool := false
  /-- When the source times out, and when an invalid ignition becomes OFF, µs (R22). Reset: none. -/
  ignTimeoutAt : Option Nat := none
  ignOffAt : Option Nat := none
  /-- Lock state (R17). Reset: none, no lock source reported. -/
  lock : LockState := .none
  /-- Door-open summary by switch inputs and dependencies (R459). Reset: DESIGN CHOICE closed (log 3). -/
  door : Bool := false
  /-- A dependency of target kind 2 counts a door open (R469). Reset: no (log 3). -/
  depDoor : Bool := false
  /-- Time of the last lock, last door close, last trigger change, entry to APPROACH, µs (R18). Reset: DESIGN CHOICE 0 (log 3). -/
  lockAt : Nat := 0
  doorAt : Nat := 0
  trigAt : Nat := 0
  /-- A wake source configured as approach woke the device (R18). Reset: no. -/
  approachWake : Bool := false
  /-- MODE.HOLD: end in µs and the session that set it (transport, id) (R83). Reset: none; a hold never survives a reset (R101). -/
  hold : Option (Nat × Transport × Nat) := none
  /-- Last frame of the P3 session in SERVICE, µs (R18). Reset: DESIGN CHOICE 0 (log 3). -/
  serviceAt : Nat := 0
  /-- Session of the service session that entered SERVICE (R18). Reset: none. -/
  serviceSess : Option (Transport × Nat) := none
  /-- Raw value read from the ignition and lock sources (R460). Reset: none. -/
  ignRaw : Option Nat := none
  lockRaw : Option Nat := none
  /-- The last transition: old mode, new mode, cause (R20). Reset: none. -/
  lastNotify : Option (Mode × Mode × Nat) := none
  deriving DecidableEq, Repr

/-- The shutdown sequence in progress (R417, R418; 14_power.md): target 0 supply, 1 PARKED asleep, 2 TRANSPORT; step 1..5. -/
structure Shutdown where
  target : Nat := 0
  step : Nat := 1
  /-- Supply returned after the start of S3 (R422); a wake waits (R421). -/
  supplyBack : Bool := false
  wake : Option Nat := none
  /-- A change of trigger level before S3 of a shutdown by mode policy calls for its abort (R420): none between commands. -/
  abort : Bool := false
  deriving DecidableEq, Repr

/-- Power domains and the power controller (14_power.md). -/
structure Pwr where
  /-- State of the twelve domains by domain code (R398). Reset: OFF until the start-up sequence raises them (R444). -/
  dom : List DomState := List.replicate 12 .off
  /-- Overrides in force by domain code (R402). Reset: none. -/
  override : List (Option DomState) := List.replicate 12 none
  /-- Regulator in full mode, 1 bit; low-power mode, 1 bit (R394, R395). Reset: neither; U2 sets full mode (R444). -/
  full : Bool := false
  lowPower : Bool := false
  /-- PARKED asleep (R400). Reset: awake. -/
  asleep : Bool := false
  /-- Shutdown in progress (R418). Reset: none. -/
  shutdown : Option Shutdown := none
  /-- A supply shutdown has completed and only AO runs (R424). Reset: no. -/
  supplyOff : Bool := false
  /-- When the awake timer expires, µs (R414). Reset: none. -/
  awakeAt : Option Nat := none
  /-- When the last wake from PARKED asleep was recorded, µs: a source of a lower code within the same AOK period takes its place (R410). Reset: none. -/
  wokenAt : Option Nat := none
  /-- When PARKED asleep was entered, µs: the wake interval counts from it (R409). Reset: none. -/
  asleepAt : Option Nat := none
  /-- Entries the controller makes for itself, refused and counted, waiting for a retry: domain and target state, or low-power mode (none) (R405). Reset: none. -/
  retry : List (Option Domain × DomState) := []
  /-- An entry to PARKED, asleep included, was refused and counted, and waits for its retry (R405). Reset: no. -/
  parkRefused : Bool := false
  /-- TEST held the boot ROM at U4 (R564). Reset: no. -/
  testHeld : Bool := false
  /-- RSTN holds the device in reset (R436). Reset: no. -/
  inReset : Bool := false
  /-- A start that waits for VBAT to reach 6.0 V, with its cause (R445). Reset: none. -/
  waiting : Option Cause := none
  /-- Running on the fallback oscillator since XTAL25 failed (R431). Reset: no. -/
  fallback : Bool := false
  /-- XTAL25 runs (R431). Reset: DESIGN CHOICE runs (log 3). -/
  xtalOk : Bool := true
  /-- Service-core watchdog: when the last service was, µs (R437). Reset: DESIGN CHOICE 0 (log 3). -/
  wdtAt : Nat := 0
  deriving DecidableEq, Repr

/-- What a channel drives: mode 0 OFF, 1 ON, 2 PWM, 3 LOW; duty in 0.01 %; frequency in Hz (R72, R85). -/
structure Drive where
  mode : Nat := 0
  duty : Nat := 0
  freq : Nat := 200
  deriving DecidableEq, Repr

/-- A linear fade of D_req (R137, 04_outputs.md): from, to in 0.01 %, start and end in µs. -/
structure Fade where
  start : Nat := 0
  target : Nat := 0
  t0 : Nat := 0
  t1 : Nat := 0
  deriving DecidableEq, Repr

/-- A claim waiting for the end of the arbitration step (R74). `ext` is true for the syscall of thread `slot`. -/
structure Claim where
  owner : Owner := .spi
  object : Nat := 0
  prio : Nat := 1
  sess : Option (Transport × Nat) := none
  req : Option Req := none
  thread : Nat := 0
  /-- The claim of DIAG.REQ service 0x2F: the adjustment that follows it, 0 OFF or 1 ON (R102). -/
  diag : Option Nat := none
  deriving DecidableEq, Repr

/-- Ownership of an object, device channel or station image (R25 to R28, R76). -/
structure Own where
  /-- Owner code (R73). Reset: default owner (R442). -/
  owner : Owner := .dflt
  /-- Claim priority, 0 for a default owner (R26). Reset: 0. -/
  prio : Nat := 0
  /-- When the lease runs out, µs; none for extension code (R76, R550). Reset: none. -/
  leaseAt : Option Nat := none
  /-- Session the claim is bound to (R76). Reset: none. -/
  sess : Option (Transport × Nat) := none
  deriving DecidableEq, Repr

/-- The switches of a channel: high and low side in the on-phase and in the off-phase, and the dead time between them in ns (R104). -/
structure Sides where
  onHigh : Bool := false
  onLow : Bool := false
  offHigh : Bool := false
  offLow : Bool := false
  deadNs : Nat := 0
  deriving DecidableEq, Repr

/-- One protected channel or gate driver (04_outputs.md). -/
structure Chan where
  /-- Ownership (R25). Reset: default owner. -/
  own : Own := {}
  /-- The owner's request (R85, R86). Reset: OFF, the default owner's request (R144). -/
  req : Drive := {}
  /-- The default owner's present request (R144). Reset: OFF (R478). -/
  dflt : Drive := {}
  /-- The drive applied (R132). Reset: OFF (R144). -/
  drive : Drive := {}
  /-- The rank of R132 that decides the drive, 1 to 7 (R133). Reset: 1, off before the first output control (R144). -/
  rank : Nat := 1
  /-- The switches under the drive (R104). Reset: all off (R144). -/
  sides : Sides := {}
  /-- On-edge of the PWM within its period, in 0.01 % of it (R106). Reset: 0, no PWM runs. -/
  phase : Nat := 0
  /-- Fault flags of R85 bits 0 to 5: over-current, thermal, open load, short to battery, latched off, shed. Reset: clear (R442). -/
  oc : Bool := false
  thermal : Bool := false
  openLoad : Bool := false
  shortBat : Bool := false
  latched : Bool := false
  shed : Bool := false
  /-- Restarts left, 0 to 15 (R110). Reset: the configured count (R442 clears them to it). -/
  restarts : Nat := 3
  /-- A restart waits: when the interval ends, µs (R110). Reset: none. -/
  retryAt : Option Nat := none
  /-- After thermal shutdown the sensor has not yet read below 155 °C (R109). Reset: no. -/
  hot : Bool := false
  /-- Inrush window end, µs (R108). Reset: none. -/
  inrushAt : Option Nat := none
  /-- Since when the channel has run fault-free, µs (R111). Reset: none. -/
  cleanAt : Option Nat := none
  /-- Held off by crank policy (R123). Reset: no. -/
  held : Bool := false
  /-- Mode and D_req taken by HOLD when a safe pattern was applied (R129). Reset: OFF. -/
  holdDrive : Drive := {}
  /-- Measured on-phase current in mA, 16 bits (R116). Reset: DESIGN CHOICE 0 (log 3). -/
  current : Nat := 0
  /-- Own temperature in °C (R103). Reset: DESIGN CHOICE 25 (log 3). -/
  temp : Int := 25
  /-- Consecutive failing and passing off-state checks, short to battery and open load (R120). Reset: 0. -/
  sbFail : Nat := 0
  sbPass : Nat := 0
  olFail : Nat := 0
  olPass : Nat := 0
  /-- On-phase current in mA measured over the last 50 ms, once such a span has passed since the last switch-on, and when that was, µs (R126). Reset: none. -/
  measured : Option Nat := none
  onAt : Option Nat := none
  /-- Running fade (R137). Reset: none. -/
  fade : Option Fade := none
  deriving DecidableEq, Repr

/-- One power die (R11, R125, R392). -/
structure DieSt where
  /-- Supply of the die filtered over 1 ms, mV (R121). Reset: DESIGN CHOICE 13000 (log 3). -/
  vbat : Nat := 13000
  /-- Supply samples of the last 1 ms with their times in µs, since the domain last reached ON (R121). Reset: none. -/
  window : List (Nat × Nat) := []
  /-- Crank policy by supply: V_bat below 6.0 V (R123). Reset: no. -/
  lowV : Bool := false
  /-- Over-voltage hold, R392. Reset: no. -/
  overV : Bool := false
  /-- The link is lost and the link-loss pattern applied (R11). Reset: no. -/
  linkLost : Bool := false
  /-- The die's own clock monitor turned every channel off (R433). Reset: no. -/
  clockFail : Bool := false
  /-- Objects shed by the governor, most recent first (R128). Reset: none. -/
  shed : List Nat := []
  /-- Since when the die has stayed below threshold minus hysteresis, µs (R128). Reset: none. -/
  coolAt : Option Nat := none
  deriving DecidableEq, Repr

/-- A lamp function (R137, R138, R597). -/
structure Lamp where
  /-- Request: 0 auto, 1 off, 2 on (LAMP.SET row). Reset: 0 auto (R138 return). -/
  req : Nat := 0
  /-- Level held by request 2 or a scene, 8 bits. Reset: 0. -/
  level : Nat := 0
  /-- Level the light policy gives (R182). Reset: 0. -/
  auto : Nat := 0
  deriving DecidableEq, Repr

/-- Wiper motion phases (R134, R135). -/
inductive WipePhase where
  | parked | stopped | wiping | parking | waiting | toService | atService | stallWait
  deriving DecidableEq, Repr

/-- The wiper service (R134 to R136, R178, R179). -/
structure Wiper where
  /-- Mode 0 to 6 (R134). Reset: DESIGN CHOICE 0 auto (log 3). -/
  mode : Nat := 0
  /-- Sensitivity 0 to 3 (R175). Reset: SENS of the rain policy, built-in 1 (R467). -/
  sens : Nat := 1
  /-- Interval in s for mode 2, 2 to 30. Reset: DESIGN CHOICE 2 (log 3). -/
  interval : Nat := 2
  phase : WipePhase := .parked
  /-- Duty in force on the bridge, 0.01 %. Reset: 0. -/
  duty : Nat := 0
  /-- When the interval, the park time-out, the stall retry or the service run ends, µs. Reset: none. -/
  waitAt : Option Nat := none
  parkAt : Option Nat := none
  /-- A first stall was retried (R135). Reset: no. -/
  stalled : Bool := false
  /-- What a first stall interrupted: the phase, the duty and the rest of its run in µs (R135). Reset: parked, 0, 0. -/
  stallPhase : WipePhase := .parked
  stallDuty : Nat := 0
  stallLeft : Nat := 0
  /-- Stopped by a second stall until the next WIPE.SET (R135). Reset: no. -/
  dead : Bool := false
  /-- Washer end in µs and wipes still to follow the wash (R136). Reset: none. -/
  washAt : Option Nat := none
  postWipes : Nat := 0
  /-- The washer ran during the present wipe (R490). Reset: no. -/
  washedWipe : Bool := false
  /-- When the park switch last read unparked, µs: blade-mask windows count from it (R176). Reset: none. -/
  unparkAt : Option Nat := none
  /-- Park switch reads parked (R135). Reset: DESIGN CHOICE parked (log 3). -/
  parkSw : Bool := true
  deriving DecidableEq, Repr

/-- An actuator of the motion service (R139 to R143). -/
structure Actuator where
  /-- Position in ‰; state: 0 idle, 1 moving, 2 pinch reversal, 3 unlearnt. Reset: kept in the journal; unlearnt until learnt (R140). -/
  pos : Nat := 0
  state : Nat := 3
  /-- Pinch events, 16 bits (MOTN.GET row). Reset: DESIGN CHOICE 0 (log 3). -/
  pinches : Nat := 0
  target : Nat := 0
  manner : Nat := 0
  /-- Moving towards open. -/
  opening : Bool := false
  /-- The present run: position and time in µs at its start, ripples counted since (R139). Reset: 0. -/
  startPos : Nat := 0
  startAt : Nat := 0
  ripples : Nat := 0
  /-- Hold-to-run end, µs (R89). -/
  htrAt : Option Nat := none
  /-- Time of the last pinch, µs (R142). -/
  pinchAt : Option Nat := none
  /-- A second pinch holds the actuator until a new MOTN.MOVE (R142). -/
  pinchHeld : Bool := false
  /-- The position is uncertain after a shutdown without S2 (R143). Reset: no. -/
  uncertain : Bool := false
  /-- Renormalising run to the open end stop first (R143). -/
  renorm : Bool := false
  /-- Learn in progress: 0 none, 1 to the open stop, 2 to the closed stop (R140). -/
  learn : Nat := 0
  learnStart : Nat := 0
  learnReq : Option Req := none
  /-- Learnt: travel in ms, ripple count, 50-bin current profile (R140, R486); survives every reset. -/
  travel : Nat := 0
  ripple : Nat := 0
  profile : List Nat := []
  deriving DecidableEq, Repr

/-- The output side: 56 channels, the dies, services, arbitration (04_outputs.md, 03_commands.md). -/
structure Outs where
  /-- 56 channels by object number (R72). -/
  chans : List Chan := List.replicate 56 {}
  dieA : DieSt := {}
  dieB : DieSt := {}
  /-- Claims collected in the open arbitration step (R74). Reset: none. -/
  claims : List Claim := []
  /-- Outputs are under control (from U9 on, R144). Reset: no. -/
  control : Bool := false
  /-- Parking values of step S1 apply (R131). Reset: no. -/
  parking : Bool := false
  /-- Lamp functions 0..31 (R137). -/
  lamps : List Lamp := List.replicate 32 {}
  wiper : Wiper := {}
  acts : List Actuator := List.replicate 4 {}
  /-- ISMODE as sampled at U4 (R112). Reset: low. -/
  isMode : Bool := false
  /-- Selection shown on ISEL or chosen by the host, and the ADC's sample in µA (R115). Reset: 0. -/
  isel : Nat := 0
  isns : Nat := 0
  isnsFault : Bool := false
  /-- Voltage on ISNS in µV at that sample (R114). Reset: 0. -/
  isnsUv : Nat := 0
  /-- Shunt voltages in µV sampled in the present second, sum and number, of GD0/1 and GD2/3 (R116, R489). Reset: none. -/
  shunts : List (Int × Nat) := [(0, 0), (0, 0)]
  /-- Millrace dependencies drive kind 0 targets through the default owner (R469): held last fresh values by dependency index. Reset: none. -/
  depHold : List (Nat × Nat) := []
  deriving DecidableEq, Repr

/-- A switch input (R145 to R151). -/
structure SwSt where
  /-- Debounced state: closed (R147). Reset: lost; R155 polls it again. DESIGN CHOICE open (log 3). -/
  closed : Bool := false
  /-- Last reading, kept between the thresholds (R145), and the count of equal consecutive readings that differ from the debounced state. -/
  reading : Bool := false
  count : Nat := 0
  /-- Confirm burst in progress (R151). -/
  burst : Bool := false
  /-- Stuck time counted in µs and whether STUCK was raised (R150). -/
  stuckUs : Nat := 0
  stuckRaised : Bool := false
  /-- Time of the last poll, µs; none after time without polling, which pauses the stuck count (R150). -/
  lastAt : Option Nat := none
  /-- Wetting current of the last poll in mA: 2 or 10 (R146). Reset: 2. -/
  wetMa : Nat := 2
  deriving DecidableEq, Repr

/-- A wake pin (R153, R154). -/
structure PinSt where
  /-- Filtered state: active. Reset: inactive until the level has held for its filter time (R153). -/
  active : Bool := false
  /-- When the present level has held for its filter time, µs (R154). Reset: none. -/
  dueAt : Option Nat := none
  /-- In TRANSPORT, when WAKE0 has been high for its 50 ms, or low for the 1 ms that arms it, µs (R154). Reset: none. -/
  qualAt : Option Nat := none
  /-- The pin has read inactive since PARKED or TRANSPORT was entered, so it may wake (R154). -/
  armed : Bool := true
  deriving DecidableEq, Repr

/-- An analog input (R156 to R158). -/
structure AnSt where
  /-- Sample in mV; 0xFFFF while ANA is not ON. Reset: 0xFFFF. -/
  mv : Nat := 0xFFFF
  /-- Ladder code, 0xFF invalid (R158). Reset: 0xFF. -/
  code : Nat := 0xFF
  /-- The band of the last sample by its place in the record, 0xFF for none, and the consecutive samples in it (R157). Reset: none. -/
  cand : Nat := 0xFF
  count : Nat := 0
  deriving DecidableEq, Repr

/-- A ghost rectangle that freezes four keys (R165): rows r1 < r2, columns c1 < c2, and open counts of its corners. -/
structure Rect where
  r1 : Nat := 0
  r2 : Nat := 0
  c1 : Nat := 0
  c2 : Nat := 0
  openCounts : List Nat := [0, 0, 0, 0]
  deriving DecidableEq, Repr

/-- A key of the matrix (R160). -/
structure KeySt where
  pressed : Bool := false
  raw : Bool := false
  count : Nat := 0
  /-- Pressed time in µs towards the stuck time, and whether it is reported stuck (R164). -/
  heldUs : Nat := 0
  stuck : Bool := false
  deriving DecidableEq, Repr

/-- The scanner (05_inputs.md). -/
structure Scan where
  sw : List SwSt := List.replicate 24 {}
  pins : List PinSt := List.replicate 4 {}
  an : List AnSt := List.replicate 8 {}
  keys : List KeySt := List.replicate 64 {}
  rects : List Rect := []
  /-- Rows in row fault, and counts of idle-phase readings (R162). Reset: none. -/
  rowFault : List Bool := List.replicate 8 false
  rowCount : List Nat := List.replicate 8 0
  /-- Rows low in the last any-key sense (R163). Reset: none. -/
  senseLow : List Bool := List.replicate 8 false
  /-- IN.WATCH mask, bits 23:0 SW, 27:24 WAKE (R149). Reset: DESIGN CHOICE 0 (log 3). -/
  watch : Nat := 0
  /-- States carried by the last IN.CHANGE, or after start-up (R149). Reset: 0. -/
  reported : Nat := 0
  /-- Key states last reported before SCAN left ON (R155). Reset: 0. -/
  keysReported : Nat := 0
  /-- Polling is suspended below 4.5 V (R148). Reset: no. -/
  suspended : Bool := false
  /-- Time of the last IN.CHANGE, µs: at most one in a poll period (R149). Reset: none. -/
  inChangeAt : Option Nat := none
  /-- A watched input has completed a change that no IN.CHANGE has answered yet (R149). Reset: no. -/
  changeDue : Bool := false
  /-- When the first such change was completed, µs (R149). Reset: none. -/
  changeAt : Option Nat := none
  /-- Time of the last matrix scan, µs (R164). Reset: none. -/
  keyAt : Option Nat := none
  /-- The next KEY_SCAN gives the key states after a start (1) or after SCAN's return to ON (2), under R155; 0 none. Reset: 0. -/
  fresh : Nat := 0
  deriving DecidableEq, Repr

/-- Rain, light and mount sensing (05_inputs.md). -/
structure Rls where
  /-- Intensity 0 to 15 (R175). Reset: 0. -/
  intensity : Nat := 0
  /-- Working references of the two channels (R174). Reset: the dry reference at each start. -/
  ref0 : Nat := 0
  ref1 : Nat := 0
  /-- Coverage readings in the last second: (time, ‰) (R174). Reset: none. -/
  cover : List (Nat × Nat) := []
  /-- Channel 0 and 1 failed (R170). Reset: no. -/
  fail0 : Bool := false
  fail1 : Bool := false
  /-- Since when both have failed, and since when C has stayed below the falling threshold, µs (R177, R175). Reset: none. -/
  failAt : Option Nat := none
  fallAt : Option Nat := none
  /-- Rain sensing has failed (R177). Reset: no. -/
  failed : Bool := false
  /-- Last downward drift of the working references, µs (R174). Reset: 0. -/
  driftAt : Nat := 0
  /-- Last five ALS samples in lux, newest first (R171). Reset: none. -/
  als0 : List Nat := []
  als1 : List Nat := []
  /-- Sensors failed, and since when out of range, µs (R171). Reset: no. -/
  alsFail0 : Bool := false
  alsFail1 : Bool := false
  alsBad0 : Option Nat := none
  alsBad1 : Option Nat := none
  /-- Light state 0 day, 1 dusk, 2 tunnel, 3 night (R180). Reset: 3 night (R181). -/
  light : Nat := 3
  /-- Since when each condition of R180 rows 2 to 8 has held, µs. Reset: none. -/
  since : List (Option Nat) := List.replicate 7 none
  /-- Rain-light: since when at or above the threshold, or below it, µs, and whether it is in force (R182). Reset: none. -/
  rlUp : Option Nat := none
  rlDown : Option Nat := none
  rainLight : Bool := false
  /-- Mount removed, and consecutive readings low or high (R183). Reset: fitted. -/
  removed : Bool := false
  low : Nat := 0
  high : Nat := 0
  /-- Signals of the last burst, none where invalid, and the last MSNS reading: what RLS.CAL measures (R173). Reset: DESIGN CHOICE none (log 3). -/
  sig0 : Option Nat := none
  sig1 : Option Nat := none
  msns : Option Nat := none
  /-- Stored dry references by channel and mount reference (R173, snapshot page 0): kept through every reset. -/
  dry0 : Option Nat := none
  dry1 : Option Nat := none
  mountRef : Option Nat := none
  deriving DecidableEq, Repr

/-- The phase of a playing effect (R188). -/
inductive HapPhase where
  | drive | bemf | brake
  deriving DecidableEq, Repr

/-- A playing effect. -/
structure Play where
  effect : Nat := 0
  amp : Nat := 0
  /-- V_peak in mV (R187). -/
  vpeak : Nat := 0
  t0 : Nat := 0
  phase : HapPhase := .drive
  /-- The order of the trigger that started it within its driver period (R195): 0 HTRIG, 1 key binding, 2 command or extension. -/
  rank : Nat := 2
  /-- When the back-EMF window ends, µs, and the peak sampled in it, mV (R188, R203). -/
  windowAt : Nat := 0
  bemf : Nat := 0
  /-- V_peak of the brake in mV: that of the last drive cycle (R188). -/
  brakeMv : Nat := 0
  /-- When the brake of one half-cycle ends, µs (R188). -/
  brakeAt : Nat := 0
  deriving DecidableEq, Repr

/-- The haptic sequencer (06_haptics.md). -/
structure Hap where
  /-- Armed effect, none is 0xFF (R191). Reset: ARMED at each start. -/
  armed : Nat := 0xFF
  playing : Option Play := none
  /-- Ignored-trigger count, 16 bits (R196). Reset: 0. -/
  ignored : Nat := 0
  /-- Q in 1/65536 A²·ms (R197). Reset: 0. -/
  q : Nat := 0
  /-- The I²t episode holds triggers, and its Notice was raised (R197). Reset: no. -/
  blocked : Bool := false
  noticed : Bool := false
  /-- Coil state missing, shorted, stalled (R204). Reset: good. -/
  missing : Bool := false
  shorted : Bool := false
  stalled : Bool := false
  /-- Last results above 100 Ω, below 1 Ω, between, and below the back-EMF threshold, consecutive (R201, R203). Reset: 0. -/
  nHigh : Nat := 0
  nLow : Nat := 0
  nGood : Nat := 0
  nStall : Nat := 0
  /-- Coil resistance in 10 mΩ (R201). Reset: DESIGN CHOICE 0 (log 3). -/
  res : Nat := 0
  /-- A resistance measurement under way: when its 500 µs end, µs, and its result in 10 mΩ; and when the last began (R201). Reset: none. -/
  testing : Option (Nat × Nat) := none
  testAt : Option Nat := none
  /-- The bridge drives (false: high-impedance) (R185). Reset: high-impedance. -/
  bridge : Bool := false
  deriving DecidableEq, Repr

end Sys2Proof.Machine
end

