-- ==== Sys2Proof/Machine/StateB.lean ====
section
/-! DEFINITION. The parts of State: Millrace, vehicle buses, tag and insert, enclave, tamper and Confluence fabric. Every field's default is its reset value; a docstring names the rule and where the reset value comes from (spec, or log 3: DESIGN CHOICE, the spec gives none). -/

namespace Sys2Proof.Machine

/-- The states of a station at the controller, R223 (07_millrace.md); `refused` is JOINING, refused. -/
inductive StnState where
  | absent | joining | refused | active | stale | lost
  deriving DecidableEq, Repr

/-- A JOIN record held until the input deadline (R221): the path it came on and its data (R212). -/
structure JoinRec where
  port : Nat := 0
  relayed : Bool := false
  relay : Option Nat := none
  profile : Nat := 0
  ilen : Nat := 0
  olen : Nat := 0
  caps : Nat := 0
  node : Nat := 0
  serial : Nat := 0
  deriving DecidableEq, Repr

/-- One station address at the controller (07_millrace.md). -/
structure Station where
  /-- State (R223). Reset: ABSENT, at engine start. -/
  st : StnState := .absent
  /-- Fresh count, consecutive cycles without a record, cycles without any record while refused (R223). Reset: 0. -/
  fresh : Nat := 0
  missRow : Nat := 0
  silent : Nat := 0
  /-- Missed-cycle count, 16 bits, saturating (R224). Reset: 0. -/
  missed : Nat := 0
  /-- Profile ID of the last JOIN record, 32 bits (R224). Reset: 0. -/
  profile : Nat := 0
  /-- Serial last admitted (R222). Reset: none. -/
  serial : Option Nat := none
  /-- Last applied cycle, with whether one was ever reported (R225). Reset: none. -/
  applied : Option Nat := none
  /-- It has reported an applied cycle at or after the first one that carried the parking image (R235). Reset: no. -/
  parked : Bool := false
  /-- Inputs last accepted (R216). Reset: none. -/
  data : Bytes := []
  /-- Data of the INPUT record of this cycle, and the JOIN record of this cycle (R215, R221). Reset: none. -/
  got : Option Bytes := none
  join : Option JoinRec := none
  /-- ADMIT due (some 0) or REFUSE due with its reason (R221). Reset: none. -/
  answer : Option Nat := none
  /-- Output image, OLEN bytes (R88, R91). Reset: DESIGN CHOICE all zero (log 3). -/
  image : Bytes := []
  /-- The default owner's value of that image, which it takes back when a claim ends (R27, R228). Reset: DESIGN CHOICE all zero (log 3). -/
  dflt : Bytes := []
  /-- Ownership of object 0x0100 + address (R25). Reset: default owner. -/
  own : Own := {}
  deriving DecidableEq, Repr

/-- A CYCLE_START frame as sent (R211, R212). -/
structure CycleStart where
  epoch : Nat := 0
  cycle : Nat := 0
  code : Nat := 0
  gptp : Bool := false
  failsafe : Bool := false
  stop : Bool := false
  time : Nat := 0
  offset : Nat := 0
  nodes : Nat := 0
  /-- The frame from destination address to padding (R8, R211). -/
  wire : Bytes := []
  deriving DecidableEq, Repr

/-- An OUTPUT frame as sent (R212, R213). -/
structure OutFrame where
  epoch : Nat := 0
  cycle : Nat := 0
  records : List DownRecord := []
  /-- The frame from destination address to padding (R8, R211). -/
  wire : Bytes := []
  deriving DecidableEq, Repr

/-- One port of the Millrace engine (R214). -/
structure Engine where
  /-- The port runs cycles (R234). Reset: stopped. -/
  running : Bool := false
  /-- The segment key could not be loaded and the segment waits (R232). Reset: no. -/
  keyWait : Bool := false
  /-- A run that opens with the clearing frame has sent it (R234). Reset: no. -/
  cleared : Bool := false
  /-- Cycle number, 16 bits; none before the first cycle of the epoch (R215). Reset: none. -/
  cycle : Option Nat := none
  /-- CODE of the running cycle and the one STN.CYCLE asked for (R219). Reset: 0. -/
  code : Nat := 0
  nextCode : Option Nat := none
  /-- t0 of the running cycle, µs (R214). Reset: 0. -/
  t0 : Nat := 0
  /-- The input deadline of this cycle has passed (R215). Reset: no. -/
  closed : Bool := false
  /-- OUTPUT frames of this cycle have been sent. Reset: no. -/
  outSent : Bool := false
  /-- Newest completed computation: basis and (address, SUBST, image) (R217). Reset: none. -/
  computed : Option (Nat × List (Nat × Bool × Bytes)) := none
  /-- Images of the snapshot that is being computed (R217, R218). Reset: none. -/
  computing : Option (Nat × List (Nat × Bool × Bytes)) := none
  /-- When COMPUTE_LATE was last raised, µs (R217). Reset: none. -/
  lateAt : Option Nat := none
  /-- Shutdown of R235: first cycle that carried the parking image, and cycles run since. Reset: none. -/
  parkFirst : Option Nat := none
  parkCycles : Nat := 0
  /-- A Severe reaction held the soft safe pattern when the cycle began: no OUTPUT record goes out in it (R237). Reset: no. -/
  held : Bool := false
  /-- The source addresses of frames that opened with a record of the sender's own, and whose it was: a relay's further frames are known by them (R213). Reset: none. -/
  senders : List (Nat × Nat) := []
  /-- JOIN records of this cycle whose address is no station of this port, and the reasons they are refused for (R221). Reset: none. -/
  strays : List (Nat × JoinRec) := []
  refusals : List (Nat × Nat) := []
  /-- The next CYCLE_START of the port carries STOP (R235). Reset: no. -/
  stopNext : Bool := false
  /-- Last CYCLE_START and the OUTPUT frames of the last output phase. Reset: none. -/
  start : Option CycleStart := none
  sent : List OutFrame := []
  /-- Residual window: queued uplink frames (at most 16) and learnt MAC addresses (R233). Reset: none. -/
  resQueue : List (Nat × Bytes) := []
  learnt : List Nat := []
  /-- Residual frames sent on the port in the last window (R233). Reset: none. -/
  resSent : List (Nat × Bytes) := []
  deriving DecidableEq, Repr

/-- The Millrace engine in the NET domain (07_millrace.md). -/
structure Mill where
  /-- The engine runs (R234). Reset: stopped. -/
  on : Bool := false
  /-- Epoch of the run, 8 bits (R234). Reset: DESIGN CHOICE 0 (log 3). -/
  epoch : Nat := 0
  /-- A start of the engine is due: NET has reached ON, or a shutdown aborted after the engine had stopped (R234, R235). Reset: no. -/
  startDue : Bool := false
  /-- The present run opens with the clearing frame (R234). Reset: no. -/
  clearing : Bool := false
  /-- Engine start, µs (R212 TIME). Reset: 0. -/
  startAt : Nat := 0
  ports : List Engine := List.replicate 4 {}
  /-- Stations by address; entry 0 is the controller and is unused (R208). -/
  stn : List Station := List.replicate 256 {}
  /-- Discarded frames and tag failures by segment number, 16 bits, saturating (R212, R232). Reset: 0. -/
  discards : List (Nat × Nat) := []
  tagFails : List (Nat × Nat) := []
  /-- When TAG_FAIL was last raised, by segment, µs (R232). Reset: none. -/
  tagFailAt : List (Nat × Nat) := []
  /-- A segment key waits to be loaded: when the next try is due, µs (R232). Reset: none. -/
  keyRetryAt : Option Nat := none
  /-- A shutdown by mode policy runs the parking images (R235). Reset: no. -/
  parking : Bool := false
  /-- Segment keys loaded at engine start: segment number and key (R232, R310). Reset: none. -/
  keys : List (Nat × Bytes) := []
  /-- Relays whose downstream segment waits for its key (R232). Reset: none. -/
  segWait : List Nat := []
  /-- Station states have changed outside an input deadline and the dependencies are to be carried out (R208, R228). Reset: no. -/
  depsDue : Bool := false
  deriving DecidableEq, Repr

/-- Who put a frame into a CAN transmit queue (R241). -/
inductive CanOrigin where
  | routed (stream : Nat)
  | mailbox
  | busSend (t : Transport) (sess seq : Nat)
  | ext (thread : Nat)
  deriving DecidableEq, Repr

/-- An entry of a CAN transmit queue. -/
structure CanTxEntry where
  frame : CanFrame := {}
  origin : CanOrigin := .mailbox
  /-- Order of arrival in the queue: the oldest routed frame is the one dropped (R241). -/
  arr : Nat := 0
  /-- When the frame of a BUS.SEND times out, µs (R92). -/
  dueAt : Nat := 0
  deriving DecidableEq, Repr

/-- A CAN channel (R238 to R245). -/
structure CanChan where
  /-- BUS.GET state 0 to 4 (R243). Reset: 0 off. -/
  state : Nat := 0
  /-- TEC and REC, 8 bits each. Reset: 0 (ISO 11898-1; DESIGN CHOICE, log 3). -/
  tec : Nat := 0
  rec_ : Nat := 0
  /-- Bus-off count, 16 bits, saturating (R240). Reset: DESIGN CHOICE 0 (log 3). -/
  busOff : Nat := 0
  /-- Transmit queue of 32 frames in sending order (R241). Reset: empty. -/
  queue : List CanTxEntry := []
  /-- BUS.SEND frames waiting for a queue entry (R241). Reset: none. -/
  waiting : List CanTxEntry := []
  /-- Earliest end of bus-off: the recovery delay after its entry, µs (R240). Reset: none. -/
  recoverAt : Option Nat := none
  /-- Arrivals in the queue so far (model's own: orders CanTxEntry.arr). Reset: 0. -/
  arrivals : Nat := 0
  /-- Received remote frames, 16 bits (R238). Reset: DESIGN CHOICE 0 (log 3). -/
  remotes : Nat := 0
  /-- Frame error counter of selective wake (R245). Reset: 0. -/
  wakeErr : Nat := 0
  /-- WUF that woke the device: identifier, DLC, data (R245). Reset: none. -/
  wuf : Option CanFrame := none
  /-- Frames that have left on the bus, newest first, the newest 64 (log 9). Reset: none. -/
  sent : List CanFrame := []
  /-- Restricted operation mode (R238): the channel receives and does not transmit. Reset: DESIGN CHOICE no; the spec gives no way to enter it (log 100). -/
  restricted : Bool := false
  deriving DecidableEq, Repr

/-- What a LIN commander puts on the bus in a slot: the protected identifier, and the data and checksum where it publishes them (R247). -/
structure LinOut where
  pid : Byte := 0
  data : Bytes := []
  deriving DecidableEq, Repr

/-- A LIN channel (R246 to R248). -/
structure LinChan where
  /-- BUS.GET state 0 to 3 (R243). Reset: 0 off. -/
  state : Nat := 0
  /-- Running schedule, slot index, schedule selected from the end of the slot (R248). Reset: 0. -/
  sched : Nat := 0
  slot : Nat := 0
  next : Option Nat := none
  /-- Schedule to return to after a collision-resolving table (R247). Reset: none. -/
  resume : Option (Nat × Nat) := none
  /-- Responder frames without response or with checksum error, 16 bits, saturating (R243). Reset: DESIGN CHOICE 0 (log 3). -/
  errors : Nat := 0
  /-- When schedule 0 starts after the wake-up signal, µs (R248). Reset: none. -/
  startAt : Option Nat := none
  /-- Go-to-sleep command sent; wake-up signal sent (R248). Reset: no. -/
  slept : Bool := false
  woken : Bool := false
  /-- Frames sent, newest first, the newest 16 (log 9). Reset: none. -/
  sent : List LinOut := []
  deriving DecidableEq, Repr

/-- What a frame on the uplink carries (R233, R250, R251, R256): an NTSCF PDU, an ARP or ICMP echo answer, a bridged frame, a peer delay request or response. -/
inductive UpBody where
  | ntscf (pdu : Bytes)
  | arp (ip : Nat)
  | icmp (ip ident seq : Nat) (data : Bytes)
  | bridged (port : Nat) (vlan : Nat) (frame : Bytes)
  | pdelayReq (seq : Nat)
  | pdelayResp (seq : Nat)
  deriving DecidableEq, Repr

/-- A frame the device sends on the uplink: destination where the spec names it, EtherType, 802.1Q tag as VLAN ID and priority code point (none: untagged), and what it carries (R250, R253). -/
structure UpOut where
  dest : Bytes := []
  etherType : Nat := 0
  tag : Option (Nat × Nat) := none
  body : UpBody
  deriving DecidableEq, Repr

/-- An IEEE 1722 stream at run time (R256 to R258). -/
structure StreamSt where
  /-- Next sequence number, 8 bits (R256). Reset: DESIGN CHOICE 0 (log 3). -/
  seq : Nat := 0
  /-- Open batch: when it closes, µs, and its messages (R256). Reset: none. -/
  closeAt : Option Nat := none
  batch : List Bytes := []
  /-- Routing counters, 16 bits, saturating, 0 at each start (R258): dropped, discarded, sequence gaps. -/
  dropped : Nat := 0
  discarded : Nat := 0
  gaps : Nat := 0
  /-- Sequence number of the last NTSCF frame received (R257). Reset: none. -/
  rxSeq : Option Nat := none
  deriving DecidableEq, Repr

/-- gPTP on the uplink (R251, R252). -/
structure Gptp where
  /-- gPTP valid (08_buses.md, terms). Reset: not valid. -/
  valid : Bool := false
  /-- Last Sync, µs, and sync interval in µs. Reset: none; DESIGN CHOICE 125000 (log 3). -/
  syncAt : Option Nat := none
  interval : Nat := 125000
  /-- Two-step Sync waiting for its Follow_Up: its sequence number and local time (R251). Reset: none. -/
  twoStep : Option (Nat × Nat) := none
  /-- Neighbour rate ratio, scaled by 10^9, once measured; last peer delay response (t3, t4 in ns); peer delay in ns (R251). Reset: none. -/
  ratio : Option Nat := none
  lastPd : Option (Nat × Nat) := none
  delay : Nat := 0
  /-- gPTP seconds minus RTC seconds relation: last gPTP time in ns and the local µs it holds at. Reset: none. -/
  time : Option (Nat × Nat) := none
  /-- UTC offset of the last Announce that carried a valid one (R252). Reset: none. -/
  utc : Option Int := none
  /-- Peer delay measurement: when the next Pdelay_Req is due, µs, and its sequence number (R251). Reset: 0. -/
  pdAt : Nat := 0
  pdSeq : Nat := 0
  deriving DecidableEq, Repr

/-- The Ethernet uplink and the gateway (R249 to R258). -/
structure Uplink where
  /-- Link up, speed in Mbit/s as the PHY reports (R249). Reset: DESIGN CHOICE down (log 3). -/
  link : Bool := false
  speed : Nat := 0
  gptp : Gptp := {}
  /-- Working routing table (R254). Reset: Twill's table, loaded at start; empty before. -/
  routes : List TwRoute := []
  streams : List StreamSt := List.replicate 8 {}
  /-- Messages with no stream that were discarded and counted (R257): 16 bits. Reset: 0 (R258). -/
  discarded : Nat := 0
  /-- Frames sent on the uplink, the newest 40 (log 9). Reset: none. -/
  sent : List UpOut := []
  deriving DecidableEq, Repr

/-- The vehicle buses (08_buses.md). -/
structure Buses where
  can : List CanChan := List.replicate 2 {}
  lin : List LinChan := List.replicate 4 {}
  up : Uplink := {}
  deriving DecidableEq, Repr

/-- Contract data of R278 (09_tag.md). -/
structure Contract where
  id : Nat := 0
  notBefore : Nat := 0
  notAfter : Nat := 0
  txnCeiling : Nat := 0
  insCeiling : Nat := 0
  profile : Nat := 0
  eqsMount : Nat := 0
  eqsForced : Nat := 0
  eqsSticky : Bool := false
  keygen : Nat := 0
  epc : Bytes := []
  user : Bytes := []
  attrs : List (Nat × Bytes) := []
  deriving DecidableEq, Repr

/-- A transaction record of R286. -/
structure TxnRec where
  txn : Nat := 0
  utc : Nat := 0
  life : Nat := 0
  kind : Nat := 0
  outcome : Nat := 0
  phase : Nat := 0
  rtcSet : Bool := false
  counted : Bool := false
  receipt : Bool := false
  mmi : Nat := 0
  beacon : Nat := 0
  hash : Nat := 0
  deriving DecidableEq, Repr

/-- Errors a UHF tag answers with (R271, R274). -/
inductive UhfErr where
  | memLocked | memOverrun | unsupported
  deriving DecidableEq, Repr

/-- What a radio of the tag sends: a VST (private LID, channel, subcarrier profile, context marks, EquipmentOBUId, OBU random number), attributes (none where not available), answers to SET, GET_STAMPED, SET_MMI and ECHO; on UHF an RN16 or handle, PC with EPC and CRC-16, memory words, a TAM1 response, an error; `joined` are the answers to concatenated APDUs, sent in one frame (R267 to R274, 09_tag.md). -/
inductive AirOut where
  | vst (lid channel profile : Nat) (marks : List Bytes) (obu rnd : Nat)
  | attrs (l : List (Nat × Option Bytes))
  | setAnswer (ok : Bool)
  | stamped (l : List (Nat × Option Bytes)) (mac : Bytes)
  | mmi (v : Nat)
  | echo (d : Bytes)
  | rn16 (v : Nat)
  | epc (pc : Nat) (epc : Bytes) (crc : Nat)
  | handle (v : Nat)
  | words (d : Bytes) (handle : Nat)
  | tam1 (d : Bytes) (handle : Nat)
  | error (e : UhfErr) (handle : Nat)
  | joined (first next : AirOut)
  deriving DecidableEq, Repr

/-- A running DSRC transaction (R259 to R270). -/
structure Dsrc where
  beacon : Nat := 0
  profile : Nat := 0
  channel : Nat := 0
  phase : Nat := 0
  utc : Nat := 0
  life : Nat := 0
  rtcSet : Bool := false
  counted : Bool := false
  receipt : Bool := false
  mmi : Nat := 0
  /-- LLC sequence bit of the last frame and the last response, sent again for a repeated frame (R267). -/
  lastBit : Option Bool := none
  lastResp : Option AirOut := none
  /-- The last frame was a repeated one, and its last APDU carried out succeeded (R267). -/
  repeated : Bool := false
  lastOk : Bool := true
  /-- OBU random number of the VST, over which an access credential is computed (EN 15509; log 24). -/
  rnd : Nat := 0
  /-- Last downlink frame addressed to the tag, µs (R287). -/
  lastAt : Nat := 0
  deriving DecidableEq, Repr

/-- An open insert session in enclave SRAM (terms of 09_tag.md). -/
structure InsSession where
  serial : Bytes := []
  contract : Contract := {}
  dsrcKeys : Bytes := []
  uhfKey : Bytes := []
  deriving DecidableEq, Repr

/-- An insert record of enclave NVM (R282). -/
structure InsRec where
  serial : Bytes := []
  insertions : Nat := 0
  committed : Nat := 0
  /-- A reservation is held: the committed count is one above the transactions used (R281). -/
  reserved : Bool := false
  receipt1 : Bytes := []
  receipt2 : Bytes := []
  /-- Order of the last insertion: larger is newer (R282). -/
  last : Nat := 0
  deriving DecidableEq, Repr

/-- The insert interface since its activation (R275, R277): the ATR and the PPS sent; Fi and Di in force, IFSD; BWT and CWT in µs; when the insert must have answered, µs; T=1 retransmissions used. -/
structure CardLink where
  atr : Bytes := []
  pps : Bytes := []
  fi : Nat := 372
  di : Nat := 1
  ifsd : Nat := 254
  bwt : Nat := 0
  cwt : Nat := 0
  bwtAt : Nat := 0
  retries : Nat := 0
  deriving DecidableEq, Repr

/-- Acceptance in progress (R279): what the enclave gathered so far. -/
structure Accept where
  /-- Step of R277: 0 ATR awaited, 1 SELECT, 2 GET CERTIFICATE, 3 AUTHENTICATE, 4 KEY AGREE, 5 READ CONTRACT, 6 READ KEYS; 7 the answer to PPS awaited (R275). -/
  step : Nat := 0
  chain : Bytes := []
  challenge : Bytes := []
  /-- Public key of the insert certificate, and the private value of the ephemeral pair, zeroised after derivation (R317). -/
  insKey : Bytes := []
  secret : Nat := 0
  kSm : Bytes := []
  ctr : Nat := 0
  contract : Bytes := []
  serial : Bytes := []
  /-- Raise the insertion count (not when present at start-up, R282). -/
  raise : Bool := true
  deriving DecidableEq, Repr

/-- UHF tag on air (R271). -/
structure Uhf where
  /-- Inventoried flags S0..S3 (false A, true B) and SL (R271). Reset: A and clear (ISO/IEC 18000-63; DESIGN CHOICE, log 3). -/
  s0 : Bool := false
  s1 : Bool := false
  s2 : Bool := false
  s3 : Bool := false
  sl : Bool := false
  /-- When S1, and when S2, S3 and SL lapse, µs (R271). Reset: none. -/
  s1At : Option Nat := none
  fieldLossAt : Option Nat := none
  /-- Tag state: 0 ready, 1 arbitrate, 2 reply, 3 acknowledged, 4 open, 5 secured. Reset: 0. -/
  phase : Nat := 0
  slot : Nat := 0
  q : Nat := 0
  /-- RN16 or handle in force. Reset: 0. -/
  rn : Nat := 0
  session : Nat := 0
  /-- A first half of the access password was accepted. Reset: no. -/
  accessHalf : Bool := false
  /-- An Access command has completed, so the user bank can be read (R272). Reset: no. -/
  accessed : Bool := false
  deriving DecidableEq, Repr

/-- The tag and the insert (09_tag.md). -/
structure Tag where
  /-- Tag state 0 to 4 (R264). Reset: 0 disabled, with no Twill. -/
  state : Nat := 0
  /-- Enable flag in enclave NVM (R263). Reset: set when the device leaves final test; kept through every reset. -/
  enableFlag : Bool := true
  txn : Option Dsrc := none
  /-- Beacons answered with a VST: beacon and time, µs (R268). Reset: none. -/
  vstSent : List (Nat × Nat) := []
  /-- Beacons with a refused-attempt record: beacon and time, µs (R287). Reset: none. -/
  refusedAt : List (Nat × Nat) := []
  /-- Number of the last transaction record, 32 bits (R286). Reset: kept; DESIGN CHOICE 0 before the first (log 4). -/
  lastTxn : Nat := 0
  /-- Transaction log, newest 512 records, newest first (R286). Reset: kept; empty before the first. -/
  log : List TxnRec := []
  /-- Completed-transaction event buffer of 32, oldest first (R14). Reset: empty. -/
  buffer : List TxnRec := []
  uhf : Uhf := {}
  /-- Insert state 0 absent, 1 checking, 2 valid, 3 expired, 4 exhausted, 5 rejected (INS.GET row). Reset: 0 absent. -/
  ins : Nat := 0
  sess : Option InsSession := none
  accept : Option Accept := none
  /-- INS_DET has read present since, µs (R276). Reset: none. -/
  detAt : Option Nat := none
  /-- Insert records, at most 16 (R282). Reset: kept; empty. -/
  recs : List InsRec := []
  /-- INS_VCC is on (R276). Reset: off. -/
  vcc : Bool := false
  /-- A write-back is due or running: when, µs, and whether it is the retry (R283). Reset: none. -/
  wbAt : Option Nat := none
  wbRetry : Bool := false
  /-- The write-back that runs: 0 ATR awaited, 1 the answer to PPS, 2 the answer to UPDATE COUNTER (R275, R283). Reset: none. -/
  wb : Option Nat := none
  /-- The insert interface (R275). Reset: none active. -/
  link : CardLink := {}
  /-- Forced removal recorded; mount-removed and forced-removal bits held sticky (R285). Reset: no. -/
  forced : Bool := false
  stickyMount : Bool := false
  /-- INS.APDU that runs or waits for a transaction's end: transport, session, sequence number, APDU (R92). Reset: none. -/
  apdu : Option (Transport × Nat × Nat × Bytes) := none
  apduAt : Nat := 0
  /-- The INS.APDU has gone to the insert, so that it runs and the tag is silent (R264). Reset: no. -/
  apduRuns : Bool := false
  /-- Command APDU the device sent last to the insert, and what the radios answered to the last air command. Reset: none. -/
  insSent : Option Bytes := none
  air : Option AirOut := none
  /-- RF field wake: not answering before, µs (R266). Reset: 0. -/
  readyAt : Nat := 0
  deriving DecidableEq, Repr

/-- One key-store cell (R307): generation tag, algorithm, usage, key; `ok` its CRC. -/
structure Cell where
  gen : Nat := 0
  alg : Nat := 0
  usage : Nat := 0
  key : Bytes := []
  ok : Bool := true
  deriving DecidableEq, Repr

/-- A key-store slot (R304 to R311). -/
structure KeySlot where
  a : Option Cell := none
  b : Option Cell := none
  /-- Generation counter G, 32 bits, never decreases (R308). Reset: kept; DESIGN CHOICE 0 (log 4). -/
  g : Nat := 0
  /-- Key updates over life (R311). Reset: kept; 0. -/
  updates : Nat := 0
  deriving DecidableEq, Repr

/-- A key update in progress (R307): its slot, the new cell, G before it, its request, when it began in µs, committed, and cut by an ENCR before its answer (R309). -/
structure KeyUpdate where
  slot : Nat := 0
  cell : Cell := {}
  g : Nat := 0
  req : Req := {}
  startAt : Nat := 0
  committed : Bool := false
  cut : Bool := false
  deriving DecidableEq, Repr

/-- A floor raise in progress (R312, R509): its kind, the value, its request, when it began in µs, and cut by an ENCR. -/
structure RaiseRun where
  kind : Nat := 0
  value : Nat := 0
  req : Req := {}
  startAt : Nat := 0
  cut : Bool := false
  deriving DecidableEq, Repr

/-- A tamper log entry (R338). -/
structure TamperEntry where
  life : Nat := 0
  utc : Nat := 0
  source : Nat := 0
  kind : Nat := 0
  rtcSet : Bool := false
  count : Nat := 0
  chain : Nat := 0
  deriving DecidableEq, Repr

/-- One tamper monitor at run time (R325, R326). -/
structure Monitor where
  /-- Armed: its run condition has held for 100 µs (R325). Reset: no. -/
  armed : Bool := false
  /-- When it arms, µs. Reset: none. -/
  armAt : Option Nat := none
  /-- Event times in the sliding window, µs, newest first (R326). Reset: none. -/
  events : List Nat := []
  /-- Last event while alarmed, µs, and passing slow checks in a row (R326). Reset: 0. -/
  lastAt : Nat := 0
  passes : Nat := 0
  deriving DecidableEq, Repr

/-- The key store as it leaves final test: the DIK in slot 0 and the personalisation anchor in slot 3 (R296, R304); their values are DESIGN CHOICE zero (log 4). -/
def factorySlots : List KeySlot :=
  [({ a := some { alg := 3 } } : KeySlot), ({} : KeySlot), ({} : KeySlot), { a := some { alg := 4, usage := 8, key := List.replicate 65 0 } }] ++ List.replicate 28 ({} : KeySlot)

/-- The Damask enclave and the Organza shield (10_enclave.md, 11_tamper.md). -/
structure Enc where
  /-- Thean runs (R292, R294); in the segregated state it serves the basic set only (R320). Reset: not available. -/
  avail : Bool := false
  /-- Segregated state (R320). Reset: no. -/
  segregated : Bool := false
  /-- Certificate fault found at ENC start (R297). Reset: no. -/
  certFault : Bool := false
  /-- KSK intact (R333). Reset: kept; intact. -/
  ksk : Bool := true
  /-- DIK certificate, at most 1024 bytes (R291). Reset: kept; DESIGN CHOICE 512 zero bytes stand for it (log 4). -/
  cert : Bytes := List.replicate 512 0
  /-- The 32 slots (R304). Reset: kept; what final test writes (log 4). -/
  slots : List KeySlot := factorySlots
  /-- Monotonic counters 0 to 7, 32 bits (R312). Reset: kept; DESIGN CHOICE 0 (log 4). -/
  counters : List Nat := List.replicate 8 0
  /-- Day (life clock / 86400) and key updates counted in it (R311). Reset: kept; 0. -/
  dayNo : Nat := 0
  dayUpdates : Nat := 0
  /-- Key updates in progress (R307). Reset: none. -/
  updating : List KeyUpdate := []
  /-- Floor raises in progress (R312, R509). Reset: none. -/
  raising : List RaiseRun := []
  /-- When the enclave watchdog expires, µs (R294). Reset: DESIGN CHOICE 0 (log 3). -/
  wdtAt : Nat := 0
  /-- When Thean restarts after an ENCR, µs (R294). Reset: none. -/
  restartAt : Option Nat := none
  /-- DRBG requests since the last reseed (R301). Reset: 0, reseeded at each ENC start. -/
  drbg : Nat := 0
  /-- Signed tamper export kept, with the session it belongs to (R344). Reset: none. -/
  export_ : Option (Transport × Nat × Bytes) := none
  /-- Working and stored tamper policy (R331). Reset: kept; the defaults of R330. -/
  policy : List TamperRule := ({} : TwTamper).rules
  /-- Tamper log entries written so far, entry 0 first (R338). Reset: kept; DESIGN CHOICE empty (log 4). -/
  log : List TamperEntry := []
  /-- Overflow counters for sources 1 to 7, 16 bits (R343). Reset: kept; 0. -/
  overflow : List Nat := List.replicate 7 0
  /-- Monitors 1 to 6 (R325). -/
  mon : List Monitor := List.replicate 6 {}
  /-- Confirm burst of the slow check runs: events so far (R324). Reset: none. -/
  confirm : Option Nat := none
  /-- When the next check of the confirm burst is due, µs (R324). Reset: DESIGN CHOICE 0 (log 3). -/
  confirmAt : Nat := 0
  /-- When the next slow check is due, µs (R324). Reset: DESIGN CHOICE 0 (log 3). -/
  slowAt : Nat := 0
  deriving DecidableEq, Repr

/-- A queued rill message (R356). -/
structure QEntry where
  msg : Rill := {}
  stamp : Nat := 0
  /-- The microsecond of its arrival (R369). -/
  at_ : Nat := 0
  /-- A Recoverable message still to be acknowledged, and when ACK_TIMEOUT follows, µs (R354). -/
  unacked : Bool := false
  ackAt : Nat := 0
  /-- It sits in one of entries 57 to 64 (R356). -/
  reserved : Bool := false
  deriving DecidableEq, Repr

/-- The Confluence collector and Smisa's fault history (12_confluence.md). -/
structure Fab where
  /-- Queue of 64, arrival order (R356). Reset: empty. -/
  queue : List QEntry := []
  /-- Recoverable messages already taken but not yet acknowledged (R354). Reset: none. -/
  taken : List QEntry := []
  /-- Dropped-Notice count, 16 bits, saturating (R357). Reset: 0. -/
  dropped : Nat := 0
  /-- Fault history, at most 80, newest first (R358). Reset: empty (held in SRAM). -/
  history : List Stamped := []
  /-- Arrival counter offset: µs of `now` at which it read 0 (R350). Reset: 0. -/
  arrival0 : Nat := 0
  /-- SEQ of the next message by source: (source, next) (R350). Reset: 0. -/
  seq : List (Nat × Nat) := []
  /-- Notices written to the event log: (source, kind, time µs, suppressed since) (R358). Reset: none. -/
  noticeAt : List (Nat × Nat × Nat × Nat) := []
  /-- Messages held in a source whose island is stopped, oldest first (R594). Reset: none. -/
  held : List Rill := []
  deriving DecidableEq, Repr

end Sys2Proof.Machine
end

