-- ==== Sys2Proof/Machine/StateC.lean ====
section
/-! DEFINITION. The parts of State: the HX32 core, TDX and extension threads, data NVM, life records, images and update. Every field's default is its reset value; a docstring names the rule and where the reset value comes from (spec, or log 3: DESIGN CHOICE, the spec gives none). -/

namespace Sys2Proof.Machine

/-- The processor status register, R520 (18_core.md). -/
structure Psr where
  u : Bool := false
  ie : Bool := false
  tw : Bool := false
  tdx : Bool := false
  ipl : Nat := 0
  deriving DecidableEq, Repr

/-- An MPU region, R536: base, size 2^log2 (0: off), user and supervisor permission (0 none, 1 R, 2 RX, 3 RW, 4 RWX), device type. -/
structure MpuRegion where
  base : Nat := 0
  log2 : Nat := 0
  user : Nat := 0
  sup : Nat := 0
  device : Bool := false
  deriving DecidableEq, Repr

/-- The CXV state of R538: v0..v7, four accumulators and flags. -/
structure Cxv where
  v : Vector (BitVec 64) 8 := Vector.replicate 8 0
  acc : Vector Int 4 := Vector.replicate 4 0
  flag : Vector Bool 4 := Vector.replicate 4 false
  deriving DecidableEq, Repr

/-- What a thread waits for (R552). -/
inductive Waiting where
  | sleep
  | events (mask : Nat)
  | msg (buf maxLen : Nat)
  | claim (object : Nat)
  | canRecv (buf : Nat)
  | canSend
  deriving DecidableEq, Repr

/-- The registers of the running thread (R519, R520, R521, R522). -/
structure Regs where
  /-- k0..k7, 32 bits each (R519). Reset: DESIGN CHOICE 0 (log 3). -/
  k : Vector Word 8 := Vector.replicate 8 0
  /-- lk, 32 bits (R519). Reset: DESIGN CHOICE 0 (log 3). -/
  lk : Word := 0
  /-- Window registers: 8 frames of 12 registers, 32 bits each (R522). Reset: DESIGN CHOICE 0 (log 3). -/
  ring : Vector Word 96 := Vector.replicate 96 0
  /-- Program counter, 32 bits (R529). Reset: DESIGN CHOICE 0, the base of the boot ROM (log 3). -/
  pc : Word := 0
  /-- PSR (R520). Reset: DESIGN CHOICE supervisor mode, all bits 0 (log 3). -/
  psr : Psr := {}
  /-- WSTATE fields CWP 3 bits, RES 3 bits, DEPTH 16 bits (R521). Reset: DESIGN CHOICE CWP 0, RES 1, DEPTH 0 (log 3). -/
  cwp : Nat := 0
  res : Nat := 1
  depth : Nat := 0
  /-- WSP, WLIMIT, WTOP, 32 bits each (R521). Reset: DESIGN CHOICE 0 (log 3). -/
  wsp : Nat := 0
  wlimit : Nat := 0
  wtop : Nat := 0
  /-- CXV state (R538). Reset: 0, as R542 starts every extension thread. -/
  cxv : Cxv := {}
  deriving DecidableEq, Repr

/-- An extension thread (R545 to R547). -/
structure Thread where
  live : Bool := false
  prio : Nat := 0
  /-- Registers saved while the thread does not run. -/
  regs : Regs := {}
  wait : Option Waiting := none
  /-- When the wait times out, µs; none never (R552). -/
  dueAt : Option Nat := none
  /-- Pending WAIT events of the thread (R552). -/
  events : Nat := 0
  deriving DecidableEq, Repr

/-- A store held in the confirm buffer (R375): address, bytes. -/
structure Held where
  addr : Nat := 0
  bytes : Bytes := []
  deriving DecidableEq, Repr

/-- A closed window whose comparison is due (R380): its checkpoint, number of instructions and of held stores, both signatures, whether an address mismatched (R376), and whether it is the one instruction of an uncached access that waits for the match (R378). -/
structure ClosedWin where
  check : Regs := {}
  count : Nat := 0
  held : Nat := 0
  misr : Word := 0
  shadow : Word := 0
  bad : Bool := false
  access : Bool := false
  deriving DecidableEq, Repr

/-- The TDX unit (13_tdx.md). -/
structure Tdx where
  /-- A window is open, and its number of primary instructions (R377). Reset: none. -/
  open_ : Bool := false
  count : Nat := 0
  /-- Confirm buffer of 16, program order (R375). Reset: empty. -/
  buffer : List Held := []
  /-- Primary signature, 32 bits (R376). Reset: 0 at each window. -/
  misr : Word := 0
  /-- Shadow signature, 32 bits, and whether an address mismatch was found (R374, R376). Reset: 0 and no at each window. -/
  shadow : Word := 0
  bad : Bool := false
  /-- Shadow accumulators of the MAC lanes, 40 bits, which hold the negated value, and their saturation flags (R385, R386). Reset: 0, taken from the accumulators at each window. -/
  shAcc : Vector Int 4 := Vector.replicate 4 0
  shFlag : Vector Bool 4 := Vector.replicate 4 false
  /-- Closed windows whose comparison is due, oldest first (R380). Reset: none. -/
  closed : List ClosedWin := []
  /-- The address of an uncached access whose window has matched, so that it may leave the core (R378). Reset: none. -/
  passed : Option Word := none
  /-- The Smisa task whose window replays (R30, R381). Reset: none. -/
  smisa : Option SmisaTask := none
  /-- Checkpoint of the running window (R384, R386). Reset: none. -/
  check : Option Regs := none
  /-- The window runs as a replay, which closes at the same instruction as the first pass, so many after its first (R381). Reset: no. -/
  replay : Bool := false
  replayLen : Nat := 0
  /-- A second mismatch stopped the core until the DOM reset of SVC (R382). Reset: no. -/
  stopped : Bool := false
  deriving DecidableEq, Repr

/-- The H4 core (18_core.md). -/
structure Core where
  r : Regs := {}
  /-- EPC, EPSR, ECAUSE, EADDR, VBR (R521). Reset: DESIGN CHOICE 0 (log 3). -/
  epc : Word := 0
  epsr : Psr := {}
  ecause : Nat := 0
  eaddr : Word := 0
  vbr : Word := 0
  /-- MPU regions 0 to 15 (R536). Reset: DESIGN CHOICE all off, so supervisor mode is open and user mode closed (log 3). -/
  mpu : List MpuRegion := List.replicate 16 {}
  /-- CYCLE, 64 bits, and the latched CYCLEH (R521). Reset: DESIGN CHOICE 0 (log 3). -/
  cycle : Nat := 0
  cycleH : Nat := 0
  /-- The core is halted (R524, R365, HALT). Reset: no. -/
  halted : Bool := false
  /-- WFI waits for an interrupt (R530). Reset: no. -/
  wfi : Bool := false
  /-- Level of each of 128 interrupt sources, 0 disabled, and the pending ones (R534). Reset: DESIGN CHOICE disabled, none pending (log 3). -/
  levels : List Nat := List.replicate 128 0
  pend : List Nat := []
  /-- Memory MEMA, MEMB, TCM, extension data window, boot ROM and bank window: canonical list of (address, byte) (R543). Reset: DESIGN CHOICE an unlisted byte reads 0 (log 5). -/
  mem : List Host.Cell := []
  /-- CXV result stream fed to DMA by the last DMA form (R530). Reset: none. -/
  dma : List (BitVec 64) := []
  tdx : Tdx := {}
  deriving DecidableEq, Repr

/-- EXT.INFO states: 0 none, 1 stopped, 2 running, 3 refused (R548, R514). -/
inductive ExtState where
  | none | stopped | running | refused
  deriving DecidableEq, Repr

/-- A message in the EXT.MSG queue (R552). -/
structure ExtMsg where
  id : Nat := 0
  t : Transport := .spi
  sess : Nat := 0
  seq : Nat := 0
  data : Bytes := []
  /-- Taken by MSG_WAIT; when it times out, µs (R97). -/
  taken : Bool := false
  dueAt : Nat := 0
  deriving DecidableEq, Repr

/-- Extension code (18_core.md). -/
structure Ext where
  /-- State (R548). Reset: none present. -/
  st : ExtState := .none
  threads : List Thread := List.replicate 4 {}
  /-- Thread whose registers the core holds (R546). Reset: DESIGN CHOICE 0 (log 3). -/
  cur : Nat := 0
  /-- Automatic restarts since the start of SVC or EXT.CTRL start (R549). Reset: 0. -/
  restarts : Nat := 0
  /-- When the automatic restart is due, µs (R549). Reset: none. -/
  restartAt : Option Nat := none
  /-- When the first start is due after U11, µs (R545). Reset: none. -/
  startAt : Option Nat := none
  /-- Last fault: cause, EPC, EADDR (R549). Reset: zeros. -/
  fault : Nat × Word × Word := (0, 0, 0)
  msgs : List ExtMsg := []
  nextMsg : Nat := 0
  /-- CAN filters 0 to 7: channel, identifier, 29-bit, mask (R552). Reset: none. -/
  filters : List (Option (Nat × Nat × Bool × Nat)) := List.replicate 8 Option.none
  rx : List (Nat × CanFrame) := []
  /-- Watched switch mask and keys (R552). Reset: DESIGN CHOICE 0 (log 3). -/
  watchSw : Nat := 0
  watchKeys : Nat := 0
  /-- COREK cycles left in this 10 ms period (R546). Reset: 1 000 000. -/
  share : Nat := 1000000
  /-- Frozen while SVC is in RET (R547). Reset: no. -/
  frozen : Bool := false
  /-- Atomic-page sector count the partition was divided for (R493). Reset: kept; DESIGN CHOICE 0 (log 4). -/
  sectors : Nat := 0
  deriving DecidableEq, Repr

/-- A Twill copy partition (R473): image bytes and stamp (sequence, LENGTH, CRC), none while half-written. -/
structure TwillCopy where
  image : Bytes := []
  stamp : Option (Nat × Nat × Nat) := none
  deriving DecidableEq, Repr

/-- A configuration staging (R95, 03_commands.md). -/
structure Staging where
  owner : Owner := .spi
  t : Transport := .spi
  sess : Nat := 0
  length : Nat := 0
  /-- Written bytes, 4-byte words by offset: (offset, bytes) newest first. -/
  data : List (Nat × Bytes) := []
  idleAt : Nat := 0
  deriving DecidableEq, Repr

/-- One frame of the life journal (R480): number, shutdown flag, life clock, RTC, data (class, index, value), complete. -/
structure JFrame where
  num : Nat := 0
  shutdown : Bool := false
  life : Nat := 0
  rtc : Nat := 0
  data : List (Nat × Nat × Nat) := []
  closed : Bool := true
  /-- Line of the ring that holds the opening line, counted over life (R449, R482). -/
  line : Nat := 0
  deriving DecidableEq, Repr

/-- A life counter: class, index, value; `dirty` since its newest valid frame (R479, R481). -/
structure LifeCtr where
  cls : Nat := 0
  idx : Nat := 0
  val : Nat := 0
  flushed : Nat := 0
  /-- Order of the oldest unwritten change (R483); 0 when written. -/
  since : Nat := 0
  /-- Line of the ring, counted over life, that holds the newest written value (R482). -/
  line : Nat := 0
  deriving DecidableEq, Repr

/-- An event log entry (R492). -/
structure LogEntry where
  life : Nat := 0
  utc : Nat := 0
  rtcSet : Bool := false
  msg : Rill := {}
  rep : Nat := 0
  /-- Device entry kind: 0 none, 1 TWILL_REJECT, 2 DTC_CLEAR. -/
  device : Nat := 0
  deriving DecidableEq, Repr

/-- A service notice (R490): code, object, life clock, RTC; `stored` in the snapshot area. -/
structure Notice where
  code : Nat := 0
  object : Nat := 0
  life : Nat := 0
  utc : Nat := 0
  rtcSet : Bool := false
  stored : Bool := true
  deriving DecidableEq, Repr

/-- An atomic logical page of the extension data partition (R451, R452). -/
structure APage where
  data : Option Bytes := none
  stamp : Nat := 0
  writes : Nat := 0
  /-- When the former physical page is erased, µs (R452). -/
  eraseAt : Option Nat := none
  deriving DecidableEq, Repr

/-- A raw-append area (R453): lines written; none a poisoned line; erases. -/
structure RawArea where
  lines : List (Option Bytes) := []
  erases : Nat := 0
  /-- An erase was interrupted: the area is erased again before it is next written (R450). Reset: kept; no. -/
  eraseAgain : Bool := false
  deriving DecidableEq, Repr

/-- What an operation of the data NVM changes, with what it would leave behind when it is cut (R450 to R453): an extension page with its old content, lines appended to an extension area, an area erased with its old lines, a journal frame and an event log entry with what stood before them. -/
inductive NvmWork where
  | page (area page : Nat) (old : APage)
  | append (area first : Nat)
  | erase (area : Nat) (old : List (Option Bytes))
  | frame (f : JFrame) (lines : Nat) (journal : List JFrame) (life : List LifeCtr) (evict : Option Nat) (positions : Option (List Nat))
  | entry (index : Nat) (log : List LogEntry)
  deriving DecidableEq, Repr

/-- An operation of the data NVM in progress (R447, R450): its times in µs and its work. -/
structure NvmOp where
  startAt : Nat := 0
  endAt : Nat := 0
  work : NvmWork
  deriving DecidableEq, Repr

/-- A Twill commit in progress (R474): its target, image and CRC, its new sequence number, its request and when it began. -/
structure CommitRun where
  target : Nat := 0
  img : Bytes := []
  crc : Nat := 0
  seq : Nat := 0
  req : Req
  startAt : Nat := 0
  deriving DecidableEq, Repr

/-- The diagnostic session (R102). -/
structure Diag where
  extended : Bool := false
  s3At : Nat := 0
  /-- DTC status updates pause: the DTCs and statuses as they stood (R102). Reset: none. -/
  dtcHold : Option (List (Nat × Nat)) := none
  /-- Learn routine: actuator and result 0 none, 1 running, 2 done, 3 failed. -/
  learn : Nat := 0
  deriving DecidableEq, Repr

/-- Data NVM and life records (16_persistent.md). -/
structure Nvm where
  copyA : TwillCopy := {}
  copyB : TwillCopy := {}
  /-- Active copy: 0 A, 1 B, none absent (R475). Reset: absent, no copy has been written. -/
  active : Option Nat := none
  staging : Option Staging := none
  /-- Working Twill (R475, R478). Reset: the built-in defaults. -/
  tw : Twill := {}
  /-- Journal frames, newest first (R480). Reset: kept; empty. -/
  journal : List JFrame := []
  nextFrame : Nat := 0
  /-- Head of the ring: lines written over life (R482). Reset: kept; 0. -/
  head : Nat := 0
  /-- The head entered a new sector: the next frame copies what lies only in the oldest one, which is then erased (R482). Reset: kept; no. -/
  evict : Option Nat := none
  /-- Life counters, the non-zero ones (R479). Reset: kept; every counter never written reads 0 (R482). -/
  life : List LifeCtr := []
  tick : Nat := 0
  /-- Wear and on-time fractions by object in 1/1024 s (R489). Reset: 0. -/
  frac : List Nat := List.replicate 56 0
  /-- Life clock of the last journal frame (R481). Reset: 0. -/
  lastFlush : Nat := 0
  /-- Life clock at the entry to TRANSPORT or PARKED asleep, and the mode: their seconds are added at the wake (R479). Reset: none. -/
  sleepLife : Option (Nat × Nat) := none
  /-- Event log, newest first, at most 1792 (R492). Reset: kept; empty. -/
  log : List LogEntry := []
  /-- Service notices (R490). Reset: kept; none. -/
  notices : List Notice := []
  /-- Replacement life clocks of snapshot page 8: code, object, life (R491). Reset: kept; none. -/
  bases : List (Nat × Nat × Nat) := []
  /-- Trim in snapshot page 0 (R488). Reset: kept; DESIGN CHOICE 0 (log 3). -/
  trim : Int := 0
  /-- Snapshot writes per logical page (R455). Reset: kept; 0. -/
  snapWrites : List Nat := List.replicate 16 0
  /-- Positions of actuators in the newest shutdown frame (R143, R480). Reset: kept; none. -/
  positions : Option (List Nat) := none
  /-- Writable DIDs: page and value (R493). Reset: kept; none. -/
  dids : List (Nat × Bytes) := []
  didPages : List APage := List.replicate 8 {}
  /-- Extension areas 0 to 12: atomic pages, and raw lines (R553). Reset: kept; empty. -/
  atomic : List (List APage) := List.replicate 13 (List.replicate 8 {})
  raw : List RawArea := List.replicate 13 {}
  /-- Poisoned lines read since the start of SVC, by offset (R448). Reset: none. -/
  poisonRead : List Nat := []
  /-- Offsets of poisoned lines outside the extension data (R448, R453). Reset: kept; none. -/
  poisons : List Nat := []
  /-- Operations in progress (R450). Reset: none. -/
  ops : List NvmOp := []
  /-- The Twill commit in progress (R474). Reset: none. -/
  commit : Option CommitRun := none
  diag : Diag := {}
  deriving DecidableEq, Repr

/-- The kinds of image, R495. -/
structure Header where
  kind : Nat := 0
  flags : Nat := 0
  length : Nat := 0
  imageVer : Nat := 0
  secVer : Nat := 0
  entry : Nat := 0
  revs : List Nat := []
  gen : Bytes := []
  bodyHash : Bytes := []
  fKey : Bytes := []
  fSig : Bytes := []
  oKey : Bytes := []
  oSig : Bytes := []
  deriving DecidableEq, Repr

/-- A region of a bank (R494): the raw header bytes and the body; none when erased. -/
abbrev Region := Option (Bytes × Bytes)

/-- The header bytes of an image programmed at final test: the generations of R319; DESIGN CHOICE LENGTH 256, image and security version 1, Smisa API level 1 (log 4). -/
def factoryHeader (kind : Byte) (gen : Bytes) : Bytes :=
  padTo 512 0 ([0x42, 0x59, 0x49, 0x4D, 1, kind, 2, 1] ++ be 4 256 ++ be 4 1 ++ be 4 1 ++ be 4 0 ++ padTo 16 0 [0x0B, 0x01] ++ gen)

/-- The Smisa image of final test (R319, R495; log 4). -/
def factorySmisa : Region := some (factoryHeader 0 [3, 2, 2, 3, 0, 1, 0, 0], List.replicate 256 0)

/-- The Thean image of final test (R319, R495; log 4). -/
def factoryThean : Region := some (factoryHeader 1 [2, 1, 3, 0, 0, 0, 0, 0], List.replicate 256 0)

/-- One bank (R494). -/
structure Bank where
  /-- Smisa and Thean are the images of final test, whose hash and signatures the boot ROM accepts (R496, R497). Reset: kept; DESIGN CHOICE no but for bank A (log 4). -/
  factorySm : Bool := false
  factoryTh : Bool := false
  smisa : Region := none
  thean : Region := none
  ext : Region := none
  /-- The last copy into this bank failed: it does not verify until a copy succeeds (R507). Reset: kept; no. -/
  failed : Bool := false
  /-- Checked since this start, and the result (R513). Reset: not checked. -/
  checked : Bool := false
  verifies : Bool := false
  deriving DecidableEq, Repr

/-- The bank-select record (R499). -/
structure BankSel where
  seq : Nat := 0
  active : Nat := 0
  transport : Bool := false
  confA : Bool := true
  confB : Bool := false
  pending : Bool := false
  trialFailed : Bool := false
  failedA : Bool := false
  failedB : Bool := false
  trials : Nat := 0
  result : Nat := 0
  staged : List Bool := [false, false, false]
  stage : List (Nat × Nat) := [(0, 0), (0, 0), (0, 0)]
  deriving DecidableEq, Repr

/-- A copy in progress (R506): when its steps end in µs, its target, and the record as it stands before K6. -/
structure CopyRun where
  endAt : Nat := 0
  target : Nat := 0
  before : BankSel := {}
  deriving DecidableEq, Repr

/-- Boot, images and update (17_images.md). -/
structure Boot where
  /-- Bank-select record (R499). Reset: neither copy readable: ACTIVE 0, CONF_A set, every other field zero. -/
  sel : BankSel := {}
  /-- Writes to the boot-control partition are counter 0x51 index 1. Banks A and B (R494). Reset: DESIGN CHOICE the factory Smisa and Thean run (log 4). -/
  bankA : Bank := { factorySm := true, factoryTh := true, smisa := factorySmisa, thean := factoryThean }
  bankB : Bank := {}
  /-- The copy of this start, until its steps have taken their time (R506). Reset: none. -/
  copy : Option CopyRun := none
  /-- External flash, canonical list of (address, byte), unlisted reads 0xFF (R501). Reset: DESIGN CHOICE erased (log 4). -/
  flash : List Host.Cell := []
  /-- The SFDP tables were read since this start (R501). Reset: no. -/
  sfdp : Bool := false
  /-- What runs: 0 nothing yet, 1 Smisa, 2 Grave service, 3 Rescue (R500, R517, R366). Reset: 0. -/
  runs : Nat := 0
  /-- SMISA_HASH of this start, 32 bytes (R497). Reset: DESIGN CHOICE zero (log 3). -/
  smisaHash : Bytes := List.replicate 32 0
  /-- Seconds in RUN since Smisa's start (R510). Reset: 0. -/
  runSecs : Nat := 0
  /-- Automatic confirmation done in this start of SVC (R510). Reset: no. -/
  autoDone : Bool := false
  /-- A floor raise is to be retried: when, µs (R510). Reset: none. -/
  floorRetryAt : Option Nat := none
  /-- Segregation on a trial: CMD reset after S5 (R511). Reset: no. -/
  trialReset : Bool := false
  /-- Cause of the last start, as SYS.STARTED carries it (R65). Reset: POR. -/
  cause : Cause := .por
  /-- Start of the device, µs (R445). Reset: 0. -/
  startAt : Nat := 0
  deriving DecidableEq, Repr

end Sys2Proof.Machine
end

