-- ==== Sys2Proof/Machine/State.lean ====
section
/-! DEFINITION. The state of the device, its faults and refusals, and its reset. -/

namespace Sys2Proof.Machine

/-- Reasons the model stops with a fault. -/
inductive Fault where
  /-- No meaning raises it: every effect the spec gives ends in a next state. It stands here so that the type is not empty. Safe: a stop. -/
  | none
  deriving DecidableEq, Repr

/-- Reasons the model refuses a command. -/
inductive Refusal where
  /-- Raised by the dispatch for a row that has no meaning yet. Safe: a stop. -/
  | notModelled (mnemonic : String)
  deriving DecidableEq, Repr

/-- The state of the device: every register, buffer, counter, mode and pin the spec names, and the queue of commands that wait. -/
structure State where
  /-- Device time in µs since the model began: the model's own clock, which every timed event carries forward. Reset: DESIGN CHOICE 0 (log 6). -/
  now : Nat := 0
  /-- Number of free values drawn: the model's own field (log 7). Reset: DESIGN CHOICE 0 (log 7). -/
  freeCtr : Nat := 0
  env : Env := {}
  otp : Otp := {}
  ao : Ao := {}
  mbx : Mbx := {}
  win : Win := {}
  mode : ModeSt := {}
  pwr : Pwr := {}
  outs : Outs := {}
  scan : Scan := {}
  rls : Rls := {}
  hap : Hap := {}
  mill : Mill := {}
  bus : Buses := {}
  tag : Tag := {}
  enc : Enc := {}
  fab : Fab := {}
  core : Core := {}
  ext : Ext := {}
  nvm : Nvm := {}
  boot : Boot := {}
  /-- A reset that a Confluence reaction has called for and that is still to be executed (R351): none between commands. Reset: none. -/
  resetDue : Option Cause := none
  /-- A wake that an event has called for and that is still to be executed, by its source code (R409): none between commands. Reset: none. -/
  wakeDue : Option Nat := none
  /-- Follow-up work is left to the end of the command: a trigger level changed, a slot or a thread became ready (model's own field, log 18): false between commands. Reset: no. -/
  work : Bool := false
  /-- Commands that wait, first in, first out (model's own queue). Reset: empty. -/
  pending : List Instr := []
  deriving DecidableEq, Repr

/-- The device with its POR asserted and before step U1 of the start-up sequence (R444, 15_clocks_resets.md): every field at the reset value its docstring names. -/
def State.reset : State := {}

end Sys2Proof.Machine
end

