-- ==== Sys2Proof/Machine/Base.lean ====
section
/-! DEFINITION. Small operations every family uses: time, domains, free values, life counters, sessions, frames and events. -/

namespace Sys2Proof.Machine

/-- Time carried forward to `t` µs; it never goes back (log 6). -/
def advance (t : Nat) (s : State) : State := { s with now := max s.now t }

/-- `n` milliseconds in µs. -/
def ms (n : Nat) : Nat := n * 1000

/-- `n` seconds in µs. -/
def sec (n : Nat) : Nat := n * 1000000

/-- A deadline has been reached. -/
def due (d : Option Nat) (s : State) : Bool := match d with
  | some x => decide (x ≤ s.now)
  | none => false

/-- A free value and the state that has drawn it (log 7). -/
def draw (s : State) : Nat × State := (Config.free s.freeCtr, { s with freeCtr := s.freeCtr + 1 })

/-- `n` free bytes, one draw each (log 7). -/
def drawBytes : Nat → State → Bytes × State
  | 0, s => ([], s)
  | n + 1, s => let d := draw s; let r := drawBytes n d.2; (b8 d.1 :: r.1, r.2)

/-- A request to the DRBG counted; the 65 536th reseeds it (R301). -/
def drbgRequest (s : State) : State := { s with enc := { s.enc with drbg := (s.enc.drbg + 1) % 65536 } }

/-- A number from the DRBG (R301): free (log 7). -/
def random (s : State) : Nat × State := let d := draw s; (d.1, drbgRequest d.2)

/-- `n` bytes from the DRBG, one request (R301): free (log 7). -/
def randomBytes (n : Nat) (s : State) : Bytes × State := let d := drawBytes n s; (d.1, drbgRequest d.2)

/-- The code of a domain, R79 (03_commands.md). -/
def domCode : Domain → Nat
  | .svc => 0 | .mema => 1 | .memb => 2 | .nvm => 3 | .enc => 4 | .rfd => 5
  | .net => 6 | .vbus => 7 | .scan => 8 | .outA => 9 | .outB => 10 | .ana => 11

/-- The domain of a code, R79. -/
def domOf : Nat → Option Domain
  | 0 => some .svc | 1 => some .mema | 2 => some .memb | 3 => some .nvm | 4 => some .enc | 5 => some .rfd
  | 6 => some .net | 7 => some .vbus | 8 => some .scan | 9 => some .outA | 10 => some .outB | 11 => some .ana
  | _ => none

/-- Cause codes of R434 (15_clocks_resets.md). -/
def causeCode : Cause → Nat
  | .por => 1 | .bor => 2 | .lpbo => 3 | .pin => 4 | .wdt => 5 | .cfr => 6 | .cmd => 7 | .encr => 8
  | .shutdownSupply => 9 | .transportExit => 10 | .dom d => 16 + domCode d

/-- An entry of the reset-cause history, newest first, 8 at most (R440, 15_clocks_resets.md). -/
def addHistory (c : Cause) (a : Ao) : Ao := { a with history := ((causeCode c, a.life) :: a.history).take 8 }

/-- The state of a domain. -/
def domSt (s : State) (d : Domain) : DomState := s.pwr.dom.getD (domCode d) .off

/-- A domain is ON. -/
def isOn (s : State) (d : Domain) : Bool := domSt s d == .on

/-- Smisa runs: SVC is ON, the boot ROM has started it, and the core is not halted (R371, R500). -/
def smisaRuns (s : State) : Bool := isOn s .svc && s.boot.runs == 1 && !s.core.halted

/-- The mode code of R16 (01_system.md). -/
def modeCode : Mode → Nat
  | .transport => 0 | .parked => 1 | .approach => 2 | .accessory => 3 | .run => 4 | .service => 5

/-- The mode of a code. -/
def modeOf : Nat → Option Mode
  | 0 => some .transport | 1 => some .parked | 2 => some .approach | 3 => some .accessory | 4 => some .run | 5 => some .service
  | _ => none

/-- Owner codes, R73 (03_commands.md). -/
def ownerCode : Owner → Nat
  | .dflt => 0 | .spi => 1 | .can => 2 | .eth => 3 | .service => 4 | .ext => 5

/-- The owner that a transport is. -/
def ownerOf : Transport → Owner
  | .spi => .spi | .can => .can | .eth => .eth

/-- A life counter raised by `n`, saturating at 0xFFFF_FFFE (R479, 16_persistent.md). -/
def bumpList (cls idx n tick : Nat) : List LifeCtr → List LifeCtr
  | [] => [{ cls := cls, idx := idx, val := min 0xFFFFFFFE n, since := tick }]
  | c :: r =>
    if c.cls == cls && c.idx == idx then
      { c with val := satAdd 0xFFFFFFFE c.val n, since := if c.since == 0 then tick else c.since } :: r
    else c :: bumpList cls idx n tick r

/-- A life counter raised by `n` (R479); no change when `n` is 0. -/
def bump (cls idx n : Nat) (s : State) : State :=
  if n == 0 then s
  else { s with nvm := { s.nvm with life := bumpList cls idx n (s.nvm.tick + 1) s.nvm.life, tick := s.nvm.tick + 1 } }

/-- A life counter's value; 0 when never written (R482). -/
def lifeCtr (s : State) (cls idx : Nat) : Nat :=
  match s.nvm.life.find? (fun c => c.cls == cls && c.idx == idx) with
  | some c => c.val
  | none => 0

/-- A life counter set to a value (R491 sets wear to 0; class 0x50 index 14 holds a day). -/
def setLife (cls idx v : Nat) (s : State) : State :=
  { s with nvm := { s.nvm with
      life := (s.nvm.life.filter (fun c => !(c.cls == cls && c.idx == idx))) ++ [{ cls := cls, idx := idx, val := v, since := s.nvm.tick + 1 }],
      tick := s.nvm.tick + 1 } }

/-- The RTC as a stamp: 0 while not set (R488, 16_persistent.md). -/
def utcStamp (s : State) : Nat := if s.ao.rtcSet then s.ao.rtc else 0

/-- The port of a transport. -/
def getPort (s : State) : Transport → Port
  | .spi => s.mbx.spi | .can => s.mbx.can | .eth => s.mbx.eth

/-- A transport's port changed. -/
def modPort (t : Transport) (f : Port → Port) (s : State) : State :=
  match t with
  | .spi => { s with mbx := { s.mbx with spi := f s.mbx.spi } }
  | .can => { s with mbx := { s.mbx with can := f s.mbx.can } }
  | .eth => { s with mbx := { s.mbx with eth := f s.mbx.eth } }

/-- An open session of a transport (R58, R59; 02_mailboxes.md). -/
def findSession (s : State) (t : Transport) (id : Nat) : Option Session :=
  s.mbx.sessions.find? (fun x => x.transport == t && x.id == id)

/-- A session changed. -/
def modSession (t : Transport) (id : Nat) (f : Session → Session) (s : State) : State :=
  { s with mbx := { s.mbx with sessions := s.mbx.sessions.map (fun x => if x.transport == t && x.id == id then f x else x) } }

/-- A session proven by an operator anchor in slots 24 to 27 (R315, 10_enclave.md). -/
def isOperator (x : Session) : Bool := match x.anchor with
  | some a => decide (24 ≤ a)
  | none => false

/-- The privilege of a session: nothing above P0 before it is proven (R93, 03_commands.md). -/
def sessPriv (x : Session) : Nat := if x.proven then x.priv else 0

/-- A service session: proven at P3 or above, not an operator session (R18, R25; 01_system.md). -/
def isService (x : Session) : Bool := x.id != 0 && x.proven && decide (3 ≤ x.priv) && !isOperator x

/-- Bit `n` of WIN_IRQ set (R41). -/
def winIrq (n : Nat) (s : State) : State := { s with win := { s.win with irq := s.win.irq ||| ((1 : BitVec 6) <<< n) } }

/-- An error recorded in WIN_ERR (R38, R41): the code, the count, and WIN_IRQ.ERR. -/
def winErr (code : Nat) (s : State) : State :=
  winIrq 4 { s with win := { s.win with errCode := code, errCount := satInc 0xFFFF s.win.errCount } }

/-- The FLAGS byte of a frame (R47). -/
def frameFlags (f : Frame) (response : Bool) : Nat :=
  bit f.async + 2 * bit f.auth + 4 * bit response + 8 * bit f.event

/-- The header bytes 0 to 13 of a frame the device sends (R47). -/
def header14 (f : Frame) : Bytes :=
  [0x03, b8 (frameFlags f (!f.event))] ++ be 2 f.code ++ be 2 f.seq ++ be 2 f.payload.length ++ be 4 f.session ++ [b8 f.priv, 0]

/-- The 16 header bytes with HCRC (R47, R48). -/
def header16 (f : Frame) : Bytes := header14 f ++ be 2 (crc16 (header14 f))

/-- A frame as the bytes on the transport (R49). -/
def frameBytes (f : Frame) : Bytes := header16 f ++ f.payload ++ (if f.auth then padTo 8 0 f.mac else [])

/-- The MAC of a frame the device sends in a session (R49, R316): K_dh, the session counter, header, payload. -/
def frameMac (x : Session) (f : Frame) : Bytes := (cmac x.kDh (be 4 x.ctr ++ header16 f ++ f.payload)).take 8

/-- An IPv4 address that the uplink sends to: in its subnet, or through a gateway (R471). -/
def reachable (s : State) (ip : Nat) : Bool :=
  let u := s.nvm.tw.uplink
  u.gateway != 0 || (ip &&& u.mask) == (u.ipv4 &&& u.mask)

/-- The SPI frames that `f` keeps stay queued: a frame that waited behind the RX queue of 40 enters it with WIN_IRQ.RX, and the slot of a response that has entered is free, with WIN_IRQ.SLOT where none was (R41, R54). -/
def rxLeave (f : List Frame → List Frame) (s : State) : State :=
  let q := f s.mbx.spi.out
  let waits := (q.drop 40).filterMap (fun x => x.accId)
  let slots := s.mbx.spi.slots.filter (fun x => match x.done with
    | some n => waits.contains n
    | none => true)
  let s1 := modPort .spi (fun p => { p with out := q, slots := slots }) s
  let s2 := if (f (s.mbx.spi.out.take 40)).length < min 40 q.length then winIrq 0 s1 else s1
  if decide (8 ≤ s.mbx.spi.slots.length) && decide (slots.length < 8) then winIrq 1 s2 else s2

/-- A frame handed to a transport: queued for the host; on SPI a frame that enters the RX queue of 40 raises WIN_IRQ.RX (R41). A datagram leaves at once with the device's VLAN tag (R250), where its address can be reached (R471); the newest 40 stay visible (log 9). -/
def pushFrame (t : Transport) (f : Frame) (s : State) : State :=
  match t with
  | .spi => let s1 := modPort .spi (fun p => { p with out := p.out ++ [f] }) s; if s.mbx.spi.out.length < 40 then winIrq 0 s1 else s1
  | .can => { modPort .can (fun p => { p with out := p.out ++ [f] }) s with work := true }
  | .eth => if reachable s f.dest.ip then
      modPort .eth (fun p => { p with out := (p.out ++ [{ f with vlan := s.nvm.tw.uplink.vlan, pcp := s.nvm.tw.uplink.pcp }]).drop ((p.out.length + 1) - 40) }) s else s

/-- Events queued on a transport (R63). -/
def eventCount (p : Port) : Nat := (p.out.filter (fun f => f.event)).length

/-- The oldest queued event removed, with its session (R63). -/
def dropOldestEvent : List Frame → List Frame × Option Nat
  | [] => ([], none)
  | f :: r => if f.event then (r, some f.session) else let d := dropOldestEvent r; (f :: d.1, d.2)

/-- Room made for one event on a full queue (R63): the oldest is dropped and counted; SPI sets WIN_IRQ.EVLOST. A datagram never waits. -/
def makeRoom (t : Transport) (s : State) : State :=
  if t == .eth || decide (eventCount (getPort s t) < 32) then s
  else
    let d := dropOldestEvent (getPort s t).out
    let s1 := if t == .spi then rxLeave (fun q => (dropOldestEvent q).1) s else modPort t (fun p => { p with out := d.1 }) s
    let s2 := match d.2 with
      | some id => modSession t id (fun x => { x with lost := satInc 0xFFFF x.lost }) s1
      | none => s1
    if t == .spi then winIrq 3 s2 else s2

/-- The address an event of a session goes to on ETH (R46). -/
def eventDest (s : State) (x : Session) : Option Addr :=
  if x.transport == .eth then (if x.id == 0 then (getPort s .eth).src0 else x.src) else some {}

/-- One event frame put in a session (R50, R61, R63). -/
def putEvent (t : Transport) (id code priv : Nat) (payload : Bytes) (s : State) : State :=
  match findSession s t id with
  | none => s
  | some x =>
    match eventDest s x with
    | none => s
    | some a =>
      let f : Frame := { code := code, seq := x.evSeq, session := id, auth := id != 0, event := true, priv := priv, payload := payload, dest := a }
      let s1 := modSession t id (fun y => { y with evSeq := (y.evSeq + 1) % 65536 }) (makeRoom t s)
      pushFrame t { f with mac := if id == 0 then [] else frameMac x f } s1

/-- An event in one session, with SYS.EVLOST before it when events of the session were lost (R63). -/
def eventTo (t : Transport) (id code priv : Nat) (payload : Bytes) (s : State) : State :=
  match findSession s t id with
  | none => s
  | some x =>
    let s1 := if x.lost == 0 then s
      else putEvent t id 0x01E1 0 (0 :: be 2 x.lost) (modSession t id (fun y => { y with lost := 0 }) s)
    putEvent t id code priv (0 :: payload) s1

/-- An event sent to every open session at or above its least privilege on every served transport (R62, R98). -/
def emitEvent (code priv : Nat) (payload : Bytes) (s : State) : State :=
  s.mbx.sessions.foldl (fun acc x =>
    if (getPort acc x.transport).served && decide (priv ≤ sessPriv x) then eventTo x.transport x.id code priv payload acc else acc) s

/-- An event raised: at once, or after the response of the request that executes (R62). -/
def event (code priv : Nat) (payload : Bytes) (s : State) : State :=
  match s.mbx.hold with
  | some l => { s with mbx := { s.mbx with hold := some (l ++ [(code, priv, payload)]) } }
  | none => emitEvent code priv payload s

/-- The events held during a request sent in order, and no more held (R62). -/
def releaseEvents (s : State) : State :=
  match s.mbx.hold with
  | some l => l.foldl (fun acc e => emitEvent e.1 e.2.1 e.2.2 acc) { s with mbx := { s.mbx with hold := none } }
  | none => s

/-- A step that completes earlier requests: the events it causes follow its responses (R62). -/
def eventsAfter (f : State → State) (s : State) : State :=
  if s.mbx.hold.isSome then f s else releaseEvents (f { s with mbx := { s.mbx with hold := some [] } })

/-- WAIT event `k` becomes pending for every live extension thread (R552). -/
def raiseExt (k : Nat) (s : State) : State :=
  { s with ext := { s.ext with threads := s.ext.threads.map (fun t => if t.live then { t with events := t.events ||| 2 ^ k } else t) },
           work := s.work || s.ext.threads.any (fun t => t.live) }

/-- Switch polling suspended below 4.5 V (R148, R150): counts in progress are dropped, and the stuck time counts up to here and pauses. -/
def suspendPolls (s : State) : State :=
  { s with scan := { s.scan with suspended := true, sw := s.scan.sw.map (fun w =>
      { w with count := 0, burst := false, lastAt := none,
               stuckUs := if w.closed && w.reading then w.stuckUs + (s.now - w.lastAt.getD s.now) else w.stuckUs }) } }

/-- VBAT as measured at VBAT_C; below 4.5 V switch polling is suspended (R148). -/
def setVbat (mv : Nat) (s : State) : State :=
  let s1 := { s with env := { s.env with vbat := mv } }
  if mv < 4500 then suspendPolls s1 else s1

/-- The working Twill (R475, R478). -/
def tw (s : State) : Twill := s.nvm.tw

/-- The silicon code B1 (R3, R4; 00_scope.md). -/
def silicon : Nat := 0x0B01

end Sys2Proof.Machine
end

