-- ==== Sys2Proof/Machine/Drive.lean ====
section
/-! DEFINITION. Channel groups, configuration and the one operation that decides what each channel drives (R103 to R133, 04_outputs.md). -/

namespace Sys2Proof.Machine

/-- The channel groups of R103, HSA split by current class. -/
inductive Group where
  | hsa10 | hsa3 | hsb | hb | ls | gd
  deriving DecidableEq, Repr

/-- The group of an object number, R72 (03_commands.md). -/
def groupOf (o : Nat) : Group :=
  if o < 4 then .hsa10 else if o < 16 then .hsa3 else if o < 28 then .hsb else if o < 36 then .hb else if o < 52 then .ls else .gd

/-- The power die of a channel, the die table of 01_system.md. -/
def dieOf (o : Nat) : Die := if o < 16 then .a else .b

/-- The domain of a power die. -/
def dieDom : Die → Domain
  | .a => .outA
  | .b => .outB

/-- A die's state. -/
def getDie (s : State) : Die → DieSt
  | .a => s.outs.dieA
  | .b => s.outs.dieB

/-- A die's state changed. -/
def modDie (d : Die) (f : DieSt → DieSt) (s : State) : State :=
  match d with
  | .a => { s with outs := { s.outs with dieA := f s.outs.dieA } }
  | .b => { s with outs := { s.outs with dieB := f s.outs.dieB } }

/-- A channel. -/
def getChan (s : State) (o : Nat) : Chan := s.outs.chans.getD o {}

/-- A channel changed. -/
def modChan (o : Nat) (f : Chan → Chan) (s : State) : State :=
  { s with outs := { s.outs with chans := modAt f o s.outs.chans } }

/-- The built-in channel configuration of an object (R478, 16_persistent.md). -/
def builtinChannel (o : Nat) : TwChannel :=
  match groupOf o with
  | .hsa10 => { object := o, ilim := 6000 }
  | .hsa3 => { object := o, ilim := 2000 }
  | .hsb => { object := o, ilim := 1000 }
  | .gd => { object := o, dead := 1000, vds := 100, shuntG := 20 }
  | _ => { object := o }

/-- A channel's configuration: its Twill record or the built-in one (R463). -/
def chanCfg (s : State) (o : Nat) : TwChannel :=
  match (tw s).channels.find? (fun c => c.object == o) with
  | some c => c
  | none => builtinChannel o

/-- A lamp-type channel: compensation exponent 1 or 2 (terms of 04_outputs.md). -/
def lampType (c : TwChannel) : Bool := c.k == 1 || c.k == 2

/-- A channel has current sense (R103). -/
def hasSense (o : Nat) : Bool := decide (o < 28)

/-- Over-current hold-off: a restart waits (R110). -/
def tripped (c : Chan) : Bool := c.retryAt.isSome || c.latched || c.hot

/-- The drive of a safe value: 0 OFF, 1 ON at 100 %, 2 HOLD (R129). -/
def safeDrive (v : Nat) (c : Chan) : Drive :=
  if v == 1 then { mode := 1, duty := 10000, freq := c.req.freq } else if v == 2 then c.holdDrive else { freq := c.req.freq }

/-- The hard safe pattern bears on the outputs: Grave latch (R365) or Rescue (R518). -/
def hardPattern (s : State) : Bool := s.ao.grave.isSome || s.boot.runs == 3

/-- A link-loss or hard pattern bears on a channel (rank 2 of R132). -/
def rank2 (s : State) (o : Nat) : Bool := hardPattern s || (getDie s (dieOf o)).linkLost

/-- The soft safe pattern bears on the outputs (rank 3 of R132): a Severe reaction runs (R359, R361). -/
def rank3 (s : State) : Bool := s.ao.severeAt.isSome

/-- Crank policy is in force for a die (R123). -/
def crankInForce (s : State) (d : Die) : Bool := s.mode.crank || decide ((getDie s d).vbat < 6000)

/-- A channel is held off by crank policy (R123, R124). -/
def crankHeld (s : State) (o : Nat) : Bool :=
  let c := chanCfg s o
  crankInForce s (dieOf o) &&
    (c.crank == 1 || (c.crank == 2 && decide ((getDie s (dieOf o)).vbat < c.crankV * 100)))

/-- The channels of a motor pair (R465). -/
def pairChannels (p : Nat) : Nat × Nat :=
  match p with
  | 0 => (52, 53) | 1 => (54, 55) | 2 => (28, 29) | 3 => (30, 31) | 4 => (32, 33) | _ => (34, 35)

/-- A channel of the wiper's pair. -/
def isWiperChannel (s : State) (o : Nat) : Bool :=
  match (tw s).wiper with
  | some c => (pairChannels c.pair).1 == o || (pairChannels c.pair).2 == o
  | none => false

/-- A parking value of step S1 bears on a channel (rank 5 of R132); not on the wiper's pair while the wiper parks in that step (R136, R418; log 116). -/
def rank5 (s : State) (o : Nat) : Bool := s.outs.parking && !(isWiperChannel s o && s.outs.wiper.phase == .parking)

/-- The request that ranks 2 to 7 of R132 leave for a channel, before compensation and hardware protection. -/
def wanted (s : State) (o : Nat) (c : Chan) : Drive :=
  if rank2 s o then safeDrive (s.otp.hardSafe.getD o 0) c
  else if rank3 s then safeDrive ((tw s).softSafe.getD o 0) c
  else if c.shed then { freq := c.req.freq }
  else if rank5 s o then safeDrive (if (chanCfg s o).park then 1 else 0) c
  else if crankHeld s o then { freq := c.req.freq }
  else c.req

/-- Rank 1 of R132 and what stands above it: the die unpowered, out of control, over-voltage, its clock failed, a trip, a latch-off. -/
def forcedOff (s : State) (o : Nat) (c : Chan) : Bool :=
  !isOn s (dieDom (dieOf o)) || !s.outs.control || (getDie s (dieOf o)).overV || (getDie s (dieOf o)).clockFail || tripped c

/-- The rank of R132 that decides a channel. -/
def rankOf (s : State) (o : Nat) (c : Chan) : Nat :=
  if forcedOff s o c then 1 else if rank2 s o then 2 else if rank3 s then 3 else if c.shed then 4
  else if rank5 s o then 5 else if crankHeld s o then 6 else 7

/-- D_req × (V_ref / V_bat)^k, at most 100 %, rounded to the nearest 0.01 % (R121). -/
def compensate (k vrefMv vbat d : Nat) : Nat :=
  if k == 0 then d
  else if vbat == 0 then (if d == 0 then 0 else 10000)
  else min 10000 ((2 * (d * vrefMv ^ k) + vbat ^ k) / (2 * vbat ^ k))

/-- The duty applied for a wanted drive (R105, R106, R121, R122). -/
def appliedDuty (cfg : TwChannel) (o vbat : Nat) (d : Drive) : Nat :=
  let raw := if d.mode == 0 then 0 else if d.mode == 3 then 0 else if d.mode == 1 then 10000 else d.duty
  let comp := if lampType cfg && (d.mode == 1 || d.mode == 2) then compensate cfg.k (cfg.vref * 100) vbat raw else raw
  let capped := if groupOf o == .gd then min comp 9980 else comp
  if (d.mode == 2 || (lampType cfg && d.mode == 1)) && decide (capped * 100 < 10 * d.freq) then 0 else capped

/-- A wanted drive at the frequency it runs at: a lamp-type channel ON runs as PWM at its Twill frequency (R122). -/
def atFreq (cfg : TwChannel) (d : Drive) : Drive := if lampType cfg && d.mode == 1 then { d with freq := cfg.pwm } else d

/-- The drive applied to a channel (R121, R122, R132). -/
def driveOf (s : State) (o : Nat) (c : Chan) : Drive :=
  if forcedOff s o c then { freq := c.req.freq }
  else let w := atFreq (chanCfg s o) (wanted s o c); { w with duty := appliedDuty (chanCfg s o) o (getDie s (dieOf o)).vbat w }

/-- A pattern or a parking value drives a channel on, whatever its request (ranks 2, 3 and 5 of R132). -/
def drivenOn (s : State) (o : Nat) (c : Chan) : Bool :=
  (rank2 s o || rank3 s || rank5 s o) && (wanted s o { c with shed := false }).mode != 0

/-- What a changed request or a pattern ends: an OFF request cancels a waiting restart and leaves the shed list where no pattern or parking value drives the channel on, and a safe or link-loss pattern takes it off the shed list (R111, R127, R128, R130). -/
def settleChan (s : State) (o : Nat) (c : Chan) : Chan :=
  if c.req.mode == 0 && !drivenOn s o c then { c with retryAt := none, shed := false }
  else if c.shed && (rank2 s o || rank3 s) then { c with shed := false } else c

/-- The switches under a drive (R104): a half-bridge or gate driver in PWM drives its high side in the on-phase and its low side in the off-phase with a dead time between, LOW holds the low side on, and a gate driver ON has the low-side pulse of R105; the other groups have one switch. -/
def sidesOf (cfg : TwChannel) (o : Nat) (d : Drive) : Sides :=
  match groupOf o with
  | .ls => { onLow := d.mode == 1 || d.mode == 2 }
  | .hb => { onHigh := d.mode == 1 || d.mode == 2, onLow := d.mode == 3, offLow := d.mode == 2 || d.mode == 3, offHigh := d.mode == 1, deadNs := 1000 }
  | .gd => { onHigh := d.mode == 1 || d.mode == 2, onLow := d.mode == 3, offLow := d.mode != 0, deadNs := cfg.dead }
  | _ => { onHigh := d.mode == 1 || d.mode == 2 }

/-- A channel runs PWM: by its request, or ON on a lamp-type channel (R122). -/
def runsPwm (s : State) (o : Nat) (c : Chan) : Bool := c.drive.mode == 2 || (lampType (chanCfg s o) && c.drive.mode == 1)

/-- A running PWM keeps its drive until its next period starts, but for hardware protection and a safe or link-loss pattern (R121, R133; log 117). -/
def keepsPeriod (s : State) (o : Nat) (c : Chan) : Bool :=
  runsPwm s o c && (decide (4 ≤ rankOf s o c) || (rankOf s o c == c.rank && c.rank != 1))

/-- A fault-free run: ON or PWM with no flag of R85 set (R111). -/
def faultFree (s : State) (o : Nat) (c : Chan) : Bool :=
  (c.drive.mode == 1 || c.drive.mode == 2) &&
    !(c.oc || c.thermal || c.openLoad || c.shortBat || c.latched || c.shed || rank2 s o || rank3 s || c.inrushAt.isSome)

/-- What a channel becomes when its drive is decided again, at the start of its PWM period or between: a switch-on from OFF clears the trip flags, opens an inrush window on a lamp-type channel, and starts the fault-free run and the current estimate afresh; the counts of R120 restart between OFF and on (R108, R111, R120, R126). -/
def redrive (start : Bool) (s : State) (o : Nat) (c : Chan) : Chan :=
  let c0 := settleChan s o c
  let keep := !start && keepsPeriod s o c0
  let d := if keep then c0.drive else driveOf s o c0
  let rise := d.mode != 0 && c0.drive.mode == 0
  let fall := d.mode == 0 && c0.drive.mode != 0
  let c1 := { c0 with drive := d, held := crankHeld s o, sides := sidesOf (chanCfg s o) o d, rank := if keep then c0.rank else rankOf s o c0 }
  let c2 := if rise then
      { c1 with oc := false, thermal := false, measured := none, onAt := some s.now,
                inrushAt := if lampType (chanCfg s o) && d.mode != 3 then some (s.now + ms 20) else none }
    else if fall then { c1 with inrushAt := none, onAt := none } else c1
  let c3 := if rise || fall then { c2 with sbFail := 0, sbPass := 0, olFail := 0, olPass := 0 } else c2
  { c3 with cleanAt := if faultFree s o c3 then some (c.cleanAt.getD s.now) else none }

/-- A function of position and element mapped over a list. -/
def mapIdx {α β : Type} (f : Nat → α → β) : Nat → List α → List β
  | _, [] => []
  | i, x :: r => f i x :: mapIdx f (i + 1) r

/-- Switch-ons from OFF between two lists of channels counted (class 0x02 of R479). -/
def countSwitchOns (old new : List Chan) (s : State) : State :=
  ((old.zip new).zipIdx).foldl (fun acc e =>
    if e.1.1.drive.mode == 0 && e.1.2.drive.mode != 0 then bump 0x02 e.2 1 acc else acc) s

/-- The PWM channels of a list by die and frequency, in object order. -/
def pwmPeers (s : State) (cs : List Chan) : List (Nat × Die × Nat) :=
  cs.zipIdx.filterMap (fun e => if runsPwm s e.2 e.1 then some (e.2, dieOf e.2, e.1.drive.freq) else none)

/-- The on-edge of a channel among the peers of its die and frequency: they share the period evenly in object order (R106; log 118). -/
def edgeOf (peers : List (Nat × Die × Nat)) (o : Nat) (c : Chan) : Nat :=
  let mine := peers.filter (fun e => e.2.1 == dieOf o && e.2.2 == c.drive.freq)
  match mine.findIdx? (fun e => e.1 == o) with
  | some k => k * 10000 / mine.length
  | none => 0

/-- The on-edges of every channel placed (R106). -/
def stagger (s : State) (cs : List Chan) : List Chan :=
  let peers := pwmPeers s cs
  mapIdx (fun o c => { c with phase := if peers.isEmpty then 0 else edgeOf peers o c }) 0 cs

/-- Every channel's drive decided again under R132; a running PWM takes it at its next period (R133). -/
def applyDrives (s : State) : State :=
  let new := stagger s (mapIdx (redrive false s) 0 s.outs.chans)
  countSwitchOns s.outs.chans new { s with outs := { s.outs with chans := new } }

/-- A sample of a die's supply: V_bat is the average of the last 1 ms, or of what has been sampled since the domain reached ON (R121). -/
def sampleSupply (now mv : Nat) (d : DieSt) : DieSt :=
  let w := (now, mv) :: d.window.filter (fun e => decide (now < e.1 + 1000))
  let v := (w.map (fun e => e.2)).sum / w.length
  { d with window := w, vbat := v, lowV := decide (v < 6000) }

/-- The mirror ratio k of a channel with current sense (R103). -/
def mirrorK (o : Nat) : Nat := match groupOf o with
  | .hsa10 => 5000 | .hsa3 => 1500 | _ => 500

/-- The hardware ceiling on the inrush limit in mA (R108). -/
def inrushCeiling (o : Nat) : Nat := match groupOf o with
  | .hsa10 => 60000 | .hsa3 => 18000 | _ => 9000

/-- The current limit of a high-side channel in mA: I_LIM, and in the inrush window I_LIM times the inrush factor up to the ceiling (R107, R108). -/
def limitMa (s : State) (o : Nat) : Nat :=
  let c := chanCfg s o
  if (getChan s o).inrushAt.isSome then min (c.ilim * c.inrush) (inrushCeiling o) else c.ilim

/-- The instant a safe or link-loss pattern is applied: HOLD keeps the mode and D_req in force (R129), and a channel that the pattern drives leaves the shed list (R127). -/
def takeHold (s : State) (p : Nat → Bool) : State :=
  { s with outs := { s.outs with chans := mapIdx (fun o c =>
      if p o then { c with holdDrive := { wanted s o c with mode := if forcedOff s o c && !tripped c then 0 else (wanted s o c).mode } } else c) 0 s.outs.chans } }

/-- Fault flags of R85: the pattern flag shows a pattern that drives the channel after precedence, so not under rank 1 of R132 (DEDUCED, log 39). -/
def faultFlags (s : State) (o : Nat) : Nat :=
  let c := getChan s o
  bit c.oc + 2 * bit c.thermal + 4 * bit c.openLoad + 8 * bit c.shortBat + 16 * bit c.latched + 32 * bit c.shed +
    64 * bit (!forcedOff s o c && (rank2 s o || rank3 s)) + 128 * bit c.inrushAt.isSome

/-- OUT.FAULT: object, flags, restarts left (R98, R110); extension code that owns the object gets its WAIT event 6 (R552). -/
def outFault (o : Nat) (s : State) : State :=
  let s1 := event 0x10E0 0 (be 2 o ++ be 2 (faultFlags s o) ++ [b8 (getChan s o).restarts]) s
  if (getChan s o).own.owner == .ext then raiseExt 6 s1
  else s1

end Sys2Proof.Machine
end

