-- ==== Sys2Proof/Machine/Wire.lean ====
section
/-! DEFINITION. Millrace frames as bytes, and the parts of the engine that sending them needs (R8, R9, R211, R212, R231; 07_millrace.md). -/

namespace Sys2Proof.Machine

/-- A port of the engine. -/
def getEngine (s : State) (p : Nat) : Engine := s.mill.ports.getD p {}

/-- A port changed. -/
def modEngine (p : Nat) (f : Engine → Engine) (s : State) : State := { s with mill := { s.mill with ports := modAt f p s.mill.ports } }

/-- The record of an enabled port (R468). -/
def portCfg (s : State) (p : Nat) : Option TwPort := (tw s).ports.find? (fun x => x.port == p && x.enabled)

/-- gPTP time in ns now (R251): the last received time and the local time since it, by the neighbour rate ratio. -/
def gptpNow (s : State) : Nat :=
  match s.bus.up.gptp.time with
  | some (ns, at_) => ns + (s.now - at_) * 1000 * (s.bus.up.gptp.ratio.getD 1000000000) / 1000000000
  | none => 0

/-- The TAG of a PDU: the first 4 bytes of its CMAC under the segment's key (R231). -/
def millTag (s : State) (seg : Nat) (pdu : Bytes) : Bytes := (cmac ((lookup? seg s.mill.keys).getD []) pdu).take 4

/-- The PDU of a frame the controller sends on a port: header, body and, on a segment with authentication, the tag (R211, R231). -/
def millPdu (s : State) (p type epoch cycle : Nat) (body : Bytes) : Bytes :=
  let auth := ((portCfg s p).getD {}).auth
  let pdu := [0x02, b8 type, b8 (bit auth), b8 epoch] ++ be 2 p ++ be 2 cycle ++ be 2 body.length ++ body
  if auth then pdu ++ millTag s p pdu else pdu

/-- A frame the controller sends, from the destination address to the padding; the Ethernet FCS that follows is left to the MAC (R211, log 129). -/
def millFrame (s : State) (p type epoch cycle : Nat) (body : Bytes) : Bytes :=
  let pdu := millPdu s p type epoch cycle body
  [0x03, 0x00, 0x88, 0xB5, 0x00, 0x00] ++ ((portCfg s p).getD {}).mac ++ [0x88, 0xB5] ++ pdu ++ List.replicate (46 - pdu.length) 0

/-- The body of a CYCLE_START frame (R212). -/
def startBody (c : CycleStart) : Bytes :=
  be 8 c.time ++ be 4 c.offset ++ [b8 c.code, b8 (bit c.gptp + 2 * bit c.failsafe + 4 * bit c.stop), b8 c.nodes, 0]

/-- A CYCLE_START with the bytes it goes out as. -/
def sentStart (s : State) (p : Nat) (c : CycleStart) : CycleStart := { c with wire := millFrame s p 1 c.epoch c.cycle (startBody c) }

/-- A downstream record as bytes (R212). -/
def downBytes (r : DownRecord) : Bytes := [b8 r.addr, b8 (r.kind + 16 * bit r.subst)] ++ be 2 r.basis ++ [b8 r.data.length, b8 r.reason] ++ r.data

/-- An OUTPUT frame with the bytes it goes out as. -/
def sentFrame (s : State) (p : Nat) (f : OutFrame) : OutFrame := { f with wire := millFrame s p 3 f.epoch f.cycle (f.records.flatMap downBytes) }

/-- A CYCLE_START sent now (R212): the nominal instant `t0` as gPTP time in ns while gPTP is valid and otherwise since engine start, and the time from there to the transmission, which begins as the command runs (log 129). -/
def cycleStartAt (s : State) (p n t0 : Nat) (failsafe stop : Bool) : CycleStart :=
  let g := s.bus.up.gptp.valid
  let c : CycleStart :=
    { epoch := s.mill.epoch, cycle := n, code := (getEngine s p).code, gptp := g, failsafe := failsafe, stop := stop,
      time := if g then gptpNow s - (s.now - t0) * 1000 else (t0 - s.mill.startAt) * 1000,
      offset := (s.now - t0) * 1000, nodes := ((portCfg s p).getD {}).nodes }
  sentStart s p c

end Sys2Proof.Machine
end

