-- ==== Sys2Proof/Machine/Confl.lean ====
section
/-! DEFINITION. Rill messages: how a source issues one, how the collector queues it and what its class does (12_confluence.md). -/

namespace Sys2Proof.Machine

/-- The catalogue of R351: class, and whether a DOM reset of SVC (1) or a CFR (2) goes with it; none where the kind does not exist. -/
def catalogue (src kind : Nat) : Option (Cls × Nat) :=
  match src, kind with
  | 0x01, 1 => some (.severe, 1) | 0x01, 2 => some (.severe, 1) | 0x01, 3 => some (.severe, 1) | 0x01, 4 => some (.severe, 1)
  | 0x02, 1 => some (.notice, 0) | 0x02, 2 => some (.severe, 1) | 0x02, 3 => some (.grave, 0)
  | 0x04, 1 => some (.notice, 0) | 0x04, 2 => some (.severe, 1)
  | 0x05, 1 => some (.notice, 0) | 0x05, 2 => some (.severe, 1) | 0x05, 3 => some (.recoverable, 0)
  | 0x08, 1 => some (.severe, 0)
  | 0x09, 1 => some (.severe, 0) | 0x09, 2 => some (.notice, 0)
  | 0x0A, 1 => some (.severe, 2)
  | 0x10, 1 => some (.severe, 0) | 0x10, 2 => some (.severe, 0) | 0x10, 3 => some (.grave, 0)
  | 0x11, 1 => some (.severe, 0) | 0x11, 2 => some (.severe, 0) | 0x11, 3 => some (.grave, 0)
  | 0x12, 1 => some (.notice, 0)
  | 0x18, 1 => some (.notice, 0)
  | 0x19, 1 => some (.notice, 0) | 0x19, 2 => some (.notice, 0)
  | 0x1A, 1 => some (.notice, 0)
  | 0x1B, 1 => some (.notice, 0) | 0x1B, 2 => some (.notice, 0)
  | 0x20, 1 => some (.notice, 0) | 0x20, 2 => some (.notice, 0) | 0x20, 3 => some (.notice, 0)
  | 0x20, 4 => some (.notice, 0) | 0x20, 5 => some (.notice, 0) | 0x20, 6 => some (.notice, 0)
  | 0x21, 1 => some (.notice, 0)
  | 0x28, 1 => some (.notice, 0) | 0x28, 2 => some (.notice, 0)
  | 0x32, 1 => some (.recoverable, 0) | 0x32, 2 => some (.notice, 0) | 0x32, 3 => some (.notice, 0) | 0x32, 4 => some (.notice, 0)
  | 0x33, 1 => some (.notice, 0) | 0x33, 2 => some (.recoverable, 0) | 0x33, 3 => some (.notice, 0) | 0x33, 4 => some (.notice, 0)
  | 0x38, 1 => some (.notice, 0)
  | 0x40, 1 => some (.recoverable, 0)
  | 0x7F, 1 => some (.grave, 0) | 0x7F, 2 => some (.severe, 2) | 0x7F, 3 => some (.grave, 0) | 0x7F, 4 => some (.severe, 0)
  | _, _ => none

/-- The class value of R348. -/
def clsCode : Cls → Nat
  | .notice => 0 | .recoverable => 1 | .severe => 2 | .grave => 3

/-- The class of a code. -/
def clsOf : Nat → Cls
  | 0 => .notice | 1 => .recoverable | 2 => .severe | _ => .grave

/-- A kind's class: the catalogue's, or the one Twill raises it to (R352). -/
def classOf (s : State) (src kind : Nat) : Cls :=
  let base := match catalogue src kind with
    | some (c, _) => c
    | none => .notice
  match (tw s).confluence.raises.find? (fun e => e.1 == src && e.2.1 == kind) with
  | some e => if decide (clsCode base < e.2.2) && decide (e.2.2 ≤ 2) then clsOf e.2.2 else base
  | none => base

/-- The 8 bytes of a rill message (R348). -/
def rillBytes (m : Rill) : Bytes :=
  [b8 m.source, b8 (m.kind * 4 + clsCode m.cls), b8 m.island, b8 m.seq] ++ be 4 m.detail

/-- AOK, or AORC while AORC clocks AO (R349, R594). -/
def aoIsland (s : State) : Nat := if s.ao.onAorc then 0x01 else 0x00

/-- The island a source reports (R594); sources with several name it at the call. -/
def islandOf (s : State) (src kind : Nat) : Nat :=
  match src with
  | 0x05 => 0x04
  | 0x09 => if kind == 1 then 0x02 else 0x01
  | 0x0A => aoIsland s
  | 0x10 => if kind == 1 then 0x02 else 0x0B
  | 0x11 => if kind == 1 then 0x02 else 0x0C
  | 0x18 => 0x0A | 0x19 => 0x0A
  | 0x1A => 0x0D | 0x1B => 0x0D
  | 0x20 => 0x08
  | 0x21 => 0x09
  | 0x32 => 0x05
  | 0x33 => if isOn s .enc then 0x05 else aoIsland s
  | 0x7F => if kind == 1 then aoIsland s else 0x02
  | 0x08 => 0x02
  | 0x12 => 0x0B
  | _ => 0x03

/-- The arrival counter: 32 bits of µs since the collector was reset (R350). -/
def arrivalStamp (s : State) : Nat := (s.now - s.fab.arrival0) % 4294967296

/-- A message dropped by kind: the first one of a class out of the queue. -/
def dropFirst (p : QEntry → Bool) : List QEntry → List QEntry
  | [] => []
  | e :: r => if p e then r else e :: dropFirst p r

/-- The newest one that fits dropped. -/
def dropLast (p : QEntry → Bool) (q : List QEntry) : List QEntry :=
  (q.take (q.length - 1 - (q.reverse.findIdx p))) ++ (q.drop (q.length - (q.reverse.findIdx p)))

/-- A queue entry's class. -/
def isCls (c : Cls) (e : QEntry) : Bool := e.msg.cls == c

/-- General entries in use: any but 57 to 64 (R356). -/
def generalUsed (q : List QEntry) : Nat := (q.filter (fun e => !e.reserved)).length

/-- The message that takes the place of another takes its entry. -/
def inPlace (e : QEntry) (old : Option QEntry) : QEntry := { e with reserved := (old.getD {}).reserved }

/-- A message put behind every earlier one; messages of one microsecond stand by ascending source (R369). -/
def place (e : QEntry) : List QEntry → List QEntry
  | [] => [e]
  | x :: r => if x.at_ == e.at_ && decide (e.msg.source < x.msg.source) then e :: x :: r else x :: place e r

/-- A message queued under R356 and R357: the queue, whether a Notice was lost, and whether QUEUE_LOST follows. -/
def enqueue (e : QEntry) (q : List QEntry) : List QEntry × Bool × Bool :=
  let hasN := q.any (isCls .notice)
  let hasR := q.any (isCls .recoverable)
  if generalUsed q < 56 then (place e q, false, false)
  else match e.msg.cls with
  | .notice =>
    if hasN then (place e (dropFirst (isCls .notice) q), true, false) else (q, true, false)
  | .recoverable =>
    if hasN then (place e (dropFirst (isCls .notice) q), true, false)
    else if hasR then (place e (dropLast (isCls .recoverable) q), false, true)
    else (q, false, true)
  | _ =>
    if q.length < 64 then (place { e with reserved := true } q, false, false)
    else if hasN then (place (inPlace e (q.find? (isCls .notice))) (dropFirst (isCls .notice) q), true, false)
    else if hasR then (place (inPlace e (q.find? (isCls .recoverable))) (dropFirst (isCls .recoverable) q), false, false)
    else (q, false, true)

/-- A wake called for while SVC is not ON or the device is asleep (R355, R409): executed when the command ends, with the lowest code of those called for (R410). -/
def callWake (source : Nat) (s : State) : State := { s with wakeDue := some (min source (s.wakeDue.getD source)) }

/-- The rank of coinciding causes, first lowest: POR, BOR, LPBO, PIN, WDT, CFR, CMD, DOM by domain code, ENCR, then the starts without a reset (R439). -/
def resetRank : Cause → Nat
  | .por => 0 | .bor => 1 | .lpbo => 2 | .pin => 3 | .wdt => 4 | .cfr => 5 | .cmd => 6
  | .dom d => 7 + domCode d
  | .encr => 20 | .shutdownSupply => 21 | .transportExit => 22

/-- A reset called for, executed when the command ends (R351); of coinciding causes the first in rank is kept and absorbs the other (R439). -/
def callReset (c : Cause) (s : State) : State :=
  match s.resetDue with
  | none => { s with resetDue := some c }
  | some x => if resetRank c < resetRank x then { s with resetDue := some c } else s

/-- The copy of a Severe or Grave message in AO, at most 8, the oldest dropped (R358). -/
def keepCopy (m : Rill) (stamp : Nat) (s : State) : State :=
  let l := s.ao.rillCopies ++ [{ msg := m, stamp := stamp }]
  { s with ao := { s.ao with rillCopies := l.drop (l.length - 8) } }

/-- A message stamped and queued; the third component is whether QUEUE_LOST follows (R357). -/
def queueMsg (m : Rill) (s : State) : State × Bool :=
  let e : QEntry := { msg := m, stamp := arrivalStamp s, at_ := s.now, unacked := m.cls == .recoverable, ackAt := s.now + ms 50 }
  let r := enqueue e s.fab.queue
  ({ s with fab := { s.fab with queue := r.1, dropped := if r.2.1 then satInc 0xFFFF s.fab.dropped else s.fab.dropped } }, r.2.2)

/-- One CYCLE_START with FAILSAFE and STOP on each running port, and the engine stops (R237, R236). -/
def failsafeStop (s : State) : State :=
  if s.mill.on then
    { s with mill := { s.mill with
        on := false,
        ports := mapIdx (fun n (p : Engine) => if p.running then
          { p with running := false, start := some (cycleStartAt s n ((p.cycle.getD 0xFFFF + 1) % 65536) s.now true true) } else p) 0 s.mill.ports } }
  else s

/-- The haptic bridge goes high-impedance and a playing effect ends (R199, 06_haptics.md). -/
def hapticOff (s : State) : State := { s with hap := { s.hap with playing := none, testing := none, bridge := false } }

/-- The HARD reaction of R365: hard safe pattern, core halted, Grave latch with the first Grave message, Millrace and haptics stopped, and the DOM reset of SVC of R366 called for. A later Grave message leaves the record as it is. -/
def graveReact (m : Rill) (stamp : Nat) (s : State) : State :=
  match s.ao.grave with
  | some _ => s
  | none =>
    let s1 := takeHold s (fun _ => true)
    let s2 := { s1 with ao := { s1.ao with grave := some { msg := m, stamp := stamp, life := s1.ao.life, rtc := utcStamp s1, rtcSet := s1.ao.rtcSet } },
                        core := { s1.core with halted := true } }
    callReset (.dom .svc) (applyDrives (hapticOff (failsafeStop s2)))

/-- Recovery counter of a source raised, 8 bits saturating (R362). -/
def bumpRecovery (src : Nat) (s : State) : State :=
  { s with ao := { s.ao with recovery := setN src (satInc 0xFF (lookupN src s.ao.recovery)) s.ao.recovery } }

/-- The next SEQ of a source, and the state that has used it (R350). -/
def nextSeq (src : Nat) (s : State) : Nat × State :=
  let n := lookupN src s.fab.seq
  (n, { s with fab := { s.fab with seq := setN src ((n + 1) % 256) s.fab.seq } })

/-- A Severe reaction starts or its quiet period restarts (R359); what the kind resets is called for (R351). -/
def severeReact (m : Rill) (s : State) : State :=
  let rst := match catalogue m.source m.kind with
    | some (_, n) => n
    | none => 0
  let s1 := match s.ao.severeAt with
    | some _ => { s with ao := { s.ao with severeAt := some s.now } }
    | none =>
      let h := takeHold s (fun _ => true)
      applyDrives { h with ao := { h.ao with severeAt := some h.now } }
  if rst == 1 then callReset (.dom .svc) s1 else if rst == 2 then callReset .cfr s1 else s1

/-- Starts of Severe reactions within the last 86 400 life-clock seconds, the present one among them (R363). -/
def recentStarts (s : State) : Nat := 1 + (s.ao.severeStarts.filter (fun t => decide (s.ao.life < t + 86400))).length

/-- A Severe arrival, its queueing done: the seconds of R510 start again, recovery counter, escalation beyond LIMIT (the second component), reaction (R359, R363). -/
def severeArrive (m : Rill) (s : State) : State × Bool :=
  let s1 := bumpRecovery m.source { s with boot := { s.boot with runSecs := 0 } }
  if s1.ao.severeAt.isSome then (severeReact m s1, false)
  else
    let s2 := { s1 with ao := { s1.ao with severeStarts := (s1.ao.life :: s1.ao.severeStarts).take 255 } }
    if (tw s2).confluence.limit < recentStarts s1 then (s2, true) else (severeReact m s2, false)

/-- The message ESCALATED that follows an escalating Severe message: queued, copied and reacted to as Grave (R363, R365). -/
def escalate (m : Rill) (s : State) : State :=
  let q := nextSeq 0x7F s
  let e : Rill := { source := 0x7F, kind := 0x03, cls := .grave, island := 0x02, seq := q.1, detail := field (rillBytes m) 0 4 }
  let s1 := keepCopy e (arrivalStamp q.2) (queueMsg e q.2).1
  graveReact e (arrivalStamp s1) s1

/-- QUEUE_LOST: itself Severe, it finds no entry it may use and takes none where the queue is full of its class (R357). -/
def queueLost (s : State) : State :=
  let q := nextSeq 0x7F s
  let e : Rill := { source := 0x7F, kind := 0x04, cls := .severe, island := 0x02, seq := q.1 }
  let s1 := keepCopy e (arrivalStamp q.2) (queueMsg e q.2).1
  let r := severeArrive e s1
  if r.2 then escalate e r.1 else r.1

/-- A message arrives at the collector: queued, copied, reacted to by its class (R354 to R365); above Notice it wakes the device when SVC is not ON (R355). -/
def arrive (m : Rill) (s : State) : State :=
  let q := queueMsg m s
  let s1 := if m.cls == .severe || m.cls == .grave then keepCopy m (arrivalStamp q.1) q.1 else q.1
  let s2 := if m.cls != .notice && !isOn s1 .svc then callWake 0x70 s1 else s1
  let s3 := match m.cls with
    | .notice => s2
    | .recoverable => s2
    | .severe => let r := severeArrive m s2; if r.2 then escalate m r.1 else r.1
    | .grave => graveReact m (arrivalStamp s2) s2
  if q.2 then queueLost s3 else s3

/-- A source issues a message from a given island (R350, R594). -/
def issueAt (src kind island detail : Nat) (s : State) : State :=
  let q := nextSeq src s
  arrive { source := src, kind := kind, cls := classOf s src kind, island := island, seq := q.1, detail := detail } q.2

/-- An island runs (R349): the islands of a domain while it is ON, the others always. -/
def islandRuns (s : State) (i : Nat) : Bool := match i with
  | 0x03 => isOn s .svc
  | 0x04 => isOn s .nvm
  | 0x05 => isOn s .enc
  | 0x06 => isOn s .rfd
  | 0x07 => isOn s .rfd
  | 0x08 => isOn s .net
  | 0x09 => isOn s .vbus
  | 0x0A => isOn s .scan
  | 0x0B => isOn s .outA
  | 0x0C => isOn s .outB
  | 0x0D => isOn s .ana
  | _ => true

/-- A condition reported: issued, or held in its source while its island is stopped (R594). -/
def report (src kind island detail : Nat) (s : State) : State :=
  if islandRuns s island then issueAt src kind island detail s
  else { s with fab := { s.fab with held := s.fab.held ++ [{ source := src, kind := kind, island := island, detail := detail }] } }

/-- Held messages whose island runs again are issued, oldest first (R594). -/
def flushHeld (s : State) : State :=
  let l := s.fab.held.filter (fun m => islandRuns s m.island)
  l.foldl (fun acc m => issueAt m.source m.kind m.island m.detail acc) { s with fab := { s.fab with held := s.fab.held.filter (fun m => !islandRuns s m.island) } }

/-- A source issues a message from its own island, or holds it while that is stopped (R350, R594). -/
def issue (src kind detail : Nat) (s : State) : State := report src kind (islandOf s src kind) detail s

end Sys2Proof.Machine
end

