-- ==== Sys2Proof/Machine/Mailbox.lean ====
section
/-! DEFINITION. The mailbox below the commands: the CAN transmit queue, MBX-CAN segmentation, responses, delivery, sessions and their close (R35 to R67, 02_mailboxes.md; R241, 08_buses.md). -/

namespace Sys2Proof.Machine

/-- A CAN channel. -/
def getCan (s : State) (ch : Nat) : CanChan := s.bus.can.getD ch {}

/-- A CAN channel changed. -/
def modCan (ch : Nat) (f : CanChan → CanChan) (s : State) : State :=
  { s with bus := { s.bus with can := modAt f ch s.bus.can } }

/-- A frame of the routing table's making. -/
def isRouted (e : CanTxEntry) : Bool := match e.origin with
  | .routed _ => true
  | _ => false

/-- Sending order: ascending identifier; on one number the 11-bit identifier first (R241; log 14). -/
def canBefore (a b : CanFrame) : Bool := decide (a.id < b.id) || (a.id == b.id && !a.ext && b.ext)

/-- A frame put in its place: after every frame that is not later in the sending order (R241). -/
def canInsert (e : CanTxEntry) : List CanTxEntry → List CanTxEntry
  | [] => [e]
  | x :: r => if canBefore e.frame x.frame then e :: x :: r else x :: canInsert e r

/-- The routed frame that arrived first. -/
def oldestRouted (q : List CanTxEntry) : Option CanTxEntry :=
  q.foldl (fun acc e => if isRouted e then (match acc with
    | none => some e
    | some o => if e.arr < o.arr then some e else acc) else acc) none

/-- A dropped routed frame counted for its stream (R241, R258). -/
def countDropped (e : CanTxEntry) (s : State) : State :=
  match e.origin with
  | .routed n => { s with bus := { s.bus with up := { s.bus.up with streams := modAt (fun x => { x with dropped := satInc 0xFFFF x.dropped }) n s.bus.up.streams } } }
  | _ => s

/-- A frame handed to a channel's transmit queue of 32 (R241): on a full queue the oldest routed frame gives way; with none, a routed frame is dropped and any other waits. -/
def canQueue (ch : Nat) (e : CanTxEntry) (s : State) : State :=
  let c := getCan s ch
  let e := { e with arr := c.arrivals }
  let s1 := modCan ch (fun c => { c with arrivals := c.arrivals + 1 }) s
  if c.queue.length < 32 then modCan ch (fun c => { c with queue := canInsert e c.queue }) s1
  else match oldestRouted c.queue with
  | some o => countDropped o (modCan ch (fun c => { c with queue := canInsert e (c.queue.filter (fun x => x.arr != o.arr)) }) s1)
  | none => if isRouted e then countDropped e s1 else modCan ch (fun c => { c with waiting := c.waiting ++ [e] }) s1

/-- Waiting frames take the entries that have become free, in their order (R241). -/
def canRefill (ch : Nat) (s : State) : State :=
  modCan ch (fun c => { c with
    queue := (c.waiting.take (32 - c.queue.length)).foldl (fun q e => canInsert e q) c.queue,
    waiting := c.waiting.drop (32 - c.queue.length) }) s

/-- A frame has left on a channel's bus: the newest 64 stay visible (log 9). -/
def noteSent (f : CanFrame) (c : CanChan) : CanChan := { c with sent := (f :: c.sent).take 64 }

/-- The CAN FD frame lengths above 8 (R44). -/
def fdLen (n : Nat) : Nat :=
  if n ≤ 8 then 8 else if n ≤ 12 then 12 else if n ≤ 16 then 16 else if n ≤ 20 then 20 else if n ≤ 24 then 24
  else if n ≤ 32 then 32 else if n ≤ 48 then 48 else 64

/-- A CAN frame of MBX-CAN on the response identifier, padded with 0xCC (R44). -/
def isoFrame (s : State) (b : Bytes) : CanFrame :=
  let c := (tw s).transports
  { id := c.canRsp % 536870912, ext := c.canRsp.testBit 31, fd := true, brs := c.canBrs, data := padTo (fdLen b.length) 0xCC b }

/-- The first CAN frame of a message: a single frame of up to 62 bytes, or a first frame with 62 bytes (R44). -/
def isoFirst (m : Bytes) : Bytes × Nat :=
  if m.length ≤ 62 then ([0x00, b8 m.length] ++ m, m.length)
  else ([b8 (0x10 + m.length / 256), b8 m.length] ++ m.take 62, 62)

/-- The consecutive frame that carries the bytes from `sent` on (R44). -/
def isoNext (m : Bytes) (sent : Nat) : Bytes := b8 (0x20 + ((sent - 62) / 63 + 1) % 16) :: (m.drop sent).take 63

/-- An MBX-CAN frame queued on the channel that carries the transport. -/
def isoQueue (b : Bytes) (s : State) : State :=
  canQueue (tw s).transports.canCh { frame := isoFrame s b, origin := .mailbox } s

/-- The next frame of MBX-CAN starts when none is being sent (R44). -/
def canKick (s : State) : State :=
  match s.mbx.canTx, s.mbx.can.out with
  | none, f :: r =>
    let m := isoFirst (frameBytes f)
    isoQueue m.1 { s with mbx := { s.mbx with can := { s.mbx.can with out := r }, canTx := some { frame := f, sent := m.2, queued := true, asAt := s.now + ms 1000 } } }
  | _, _ => s

/-- Flow control sent by the device: CTS 0 or OVFLW 2, BS 0 and the STmin of Twill (R44, R45). -/
def sendFlow (fs : Nat) (s : State) : State :=
  let s1 := { s with mbx := { s.mbx with flowSent := (fs, 0, (tw s).transports.stmin) :: s.mbx.flowSent } }
  isoQueue [b8 (0x30 + fs), 0, b8 (tw s).transports.stmin] s1

/-- The abort record of a request: the oldest under its transport, session and sequence number (R64). -/
def recordOf (s : State) (t : Transport) (sess seq : Nat) : Option Nat :=
  (s.ao.aborts.find? (fun a => a.transport == t && a.session == sess && a.seq == seq)).map (fun a => a.id)

/-- The host has received a response: the abort record it answers goes (R64), and a reset that waited for it is called for (R80). -/
def delivered (f : Frame) (s : State) : State :=
  match f.accId with
  | none => s
  | some n =>
    let s1 := { s with ao := { s.ao with aborts := s.ao.aborts.filter (fun a => a.id != n) } }
    match s1.mbx.resetAfter.find? (fun e => e.1 == n) with
    | some e => callReset e.2 { s1 with mbx := { s1.mbx with resetAfter := s1.mbx.resetAfter.filter (fun x => x.1 != n) } }
    | none => s1

/-- A frame leaves on a transport; a datagram whose address can be reached is delivered at once (R64, R471). -/
def sendFrame (t : Transport) (f : Frame) (s : State) : State :=
  let s1 := pushFrame t f s
  if t == .eth && reachable s f.dest.ip then delivered f s1 else s1

/-- The response frame of a request (R50, R61). -/
def responseFrame (code status : Nat) (body : Bytes) (r : Req) : Frame :=
  { code := code, seq := r.seq, session := r.session, async := r.async, priv := r.priv, payload := b8 status :: body, dest := r.src }

/-- A response that carries no MAC: refusals of steps 3 to 10 (R52, R61). -/
def respondPlain (code status : Nat) (body : Bytes) (r : Req) (s : State) : State :=
  sendFrame r.transport (responseFrame code status body r) s

/-- A response to an accepted request: with a MAC while its authenticated session is open (R61, R316). -/
def respond (code status : Nat) (body : Bytes) (r : Req) (s : State) : State :=
  let f := { responseFrame code status body r with accId := recordOf s r.transport r.session r.seq }
  match findSession s r.transport r.session with
  | some x => if r.session == 0 then sendFrame r.transport f s
      else let g := { f with auth := true }; sendFrame r.transport { g with mac := frameMac x g } s
  | none => sendFrame r.transport f s

/-- The response kept in the session's cache (R57). -/
def cacheResponse (r : Req) (f : Frame) (s : State) : State :=
  modSession r.transport r.session (fun x => { x with cache := x.cache.map (fun e => if e.seq == r.seq && e.resp.isNone then { e with resp := some f } else e) }) s

/-- The first slot that matches, removed. -/
def dropSlot (sess seq : Nat) : List Slot → List Slot
  | [] => []
  | x :: r => if x.req.session == sess && x.req.seq == seq then r else x :: dropSlot sess seq r

/-- A slot freed; a slot that becomes free while SLOTS is 0 sets WIN_IRQ.SLOT (R41, R54). -/
def freeSlot (t : Transport) (sess seq : Nat) (s : State) : State :=
  let full := decide (8 ≤ (getPort s t).slots.length)
  let s1 := { modPort t (fun p => { p with slots := dropSlot sess seq p.slots }) s with work := true }
  if full && t == .spi then winIrq 1 s1 else s1

/-- The slot of a request whose response waits behind a full RX queue stays in use until the response enters it (R54; log 15). -/
def holdSlot (n sess seq : Nat) (s : State) : State :=
  { modPort .spi (fun p => { p with slots := p.slots.map (fun x => if x.req.session == sess && x.req.seq == seq then { x with done := some n } else x) }) s with work := true }

/-- A request ends: its response is cached and handed to the transport, and its slot is free (R54, R57). -/
def finish (code status : Nat) (body : Bytes) (r : Req) (s : State) : State :=
  let s1 := respond code status body r (cacheResponse r (responseFrame code status body r) s)
  match recordOf s r.transport r.session r.seq with
  | some n => if r.transport == .spi && decide (40 ≤ s.mbx.spi.out.length) then holdSlot n r.session r.seq s1 else freeSlot r.transport r.session r.seq s1
  | none => freeSlot r.transport r.session r.seq s1

/-- A running request that ends outside its own command: found by its place, and finished; nothing when it no longer waits. -/
def complete (t : Transport) (sess seq status : Nat) (body : Bytes) (s : State) : State :=
  match (getPort s t).slots.find? (fun x => x.started && x.done.isNone && x.req.session == sess && x.req.seq == seq) with
  | some x => finish x.code status body x.req s
  | none => s

/-- A running request named by its request record. -/
def completeReq (r : Req) (status : Nat) (body : Bytes) (s : State) : State := complete r.transport r.session r.seq status body s

/-- The owner code a session acts as (terms of 03_commands.md). -/
def requesterOf (s : State) (t : Transport) (sess : Nat) : Owner :=
  match findSession s t sess with
  | some x => if isService x then .service else ownerOf t
  | none => ownerOf t

/-- A channel goes back to its default owner, with that owner's present request (R27). -/
def releaseChan (c : Chan) : Chan := { c with own := {}, req := c.dflt }

/-- A station's output image goes back to its default owner, with that owner's present value; a parking image stays (R27, R235). -/
def releaseStn (parking : Bool) (x : Station) : Station := { x with own := {}, image := if parking then x.image else x.dflt }

/-- Every claim that satisfies `p` goes back to the default owner (R27). -/
def releaseWhere (p : Own → Bool) (s : State) : State :=
  applyDrives { s with
    outs := { s.outs with chans := s.outs.chans.map (fun c => if c.own.owner != .dflt && p c.own then releaseChan c else c) },
    mill := { s.mill with stn := s.mill.stn.map (fun x => if x.own.owner != .dflt && p x.own then releaseStn s.mill.parking x else x) } }

/-- A session closes (R60): its claims lapse (R27), its hold ends (R83), and what belongs to it alone goes: a kept tamper export (R344), the staging of no one else. -/
def closeSession (t : Transport) (id : Nat) (s : State) : State :=
  match findSession s t id with
  | none => s
  | some _ =>
    let s1 := { s with mbx := { s.mbx with sessions := s.mbx.sessions.filter (fun x => !(x.transport == t && x.id == id)) }, work := s.work || s.mode.mode == .service }
    let s2 := releaseWhere (fun o => o.sess == some (t, id)) s1
    let s3 := match s2.mode.hold with
      | some (_, t', i) => if t' == t && i == id then { s2 with mode := { s2.mode with hold := none } } else s2
      | none => s2
    match s3.enc.export_ with
    | some (t', i, _) => if t' == t && i == id then { s3 with enc := { s3.enc with export_ := none } } else s3
    | none => s3

/-- Every authenticated session that satisfies `p` closes. -/
def closeAuth (p : Session → Bool) (s : State) : State :=
  (s.mbx.sessions.filter (fun x => x.id != 0 && p x)).foldl (fun acc x => closeSession x.transport x.id acc) s

/-- The unauthenticated ceiling of a transport (R35, R462). -/
def ceiling (s : State) : Transport → Nat
  | .spi => (tw s).transports.spiCeil
  | .can => (tw s).transports.canCeil
  | .eth => (tw s).transports.ethCeil

/-- MBX-ETH is configured: the uplink and its port are enabled (R462, R471). -/
def ethConfigured (s : State) : Bool := (tw s).uplink.enabled && (tw s).transports.ethPort != 0

/-- The consecutive frames that carry a message from byte `sent` on, at most `n` of them (R44). -/
def isoRest (m : Bytes) : Nat → Nat → List Bytes
  | 0, _ => []
  | n + 1, sent => if m.length ≤ sent then [] else isoNext m sent :: isoRest m n (sent + 63)

/-- The CAN frames of a whole message (R44). -/
def isoAll (m : Bytes) : List Bytes := (isoFirst m).1 :: isoRest m 17 (isoFirst m).2

/-- An entry of MBX-CAN in a transmit queue. -/
def isMailbox (e : CanTxEntry) : Bool := match e.origin with
  | .mailbox => true
  | _ => false

/-- A frame of MBX-CAN that carries a message, no flow control. -/
def isoData (e : CanTxEntry) : Bool := isMailbox e && byte e.frame.data 0 / 16 != 3

/-- The CAN frames that the message being sent still has to hand to the bus (R44). -/
def isoLeft (s : State) : List Bytes := match s.mbx.canTx with
  | none => []
  | some x =>
    let inQueue := (getCan s (tw s).transports.canCh).queue.any (fun e => isMailbox e && byte e.frame.data 0 / 16 == 2)
    isoRest (frameBytes x.frame) 17 (if inQueue then x.sent + 63 else x.sent)

/-- What MBX-CAN has queued is sent (R36): the frames in the transmit queue, the rest of the message in progress, then each message queued; on a channel that is off the bus they are discarded. The host's flow control counts as given (log 101). -/
def canClose (s : State) : State :=
  let ch := (tw s).transports.canCh
  let c := getCan s ch
  let msgs := (match s.mbx.canTx with
    | some x => [x.frame]
    | none => []) ++ s.mbx.can.out
  let bytes := isoLeft s ++ (s.mbx.can.out.map (fun f => isoAll (frameBytes f))).flatten
  let frames := (c.queue.filter isMailbox).map (fun e => e.frame) ++ bytes.map (isoFrame s)
  let s1 := { s with mbx := { s.mbx with can := { s.mbx.can with out := [] }, canTx := none, canRx := none } }
  let s2 := modCan ch (fun c => { c with queue := c.queue.filter (fun e => !isMailbox e) }) s1
  if c.state == 1 || c.state == 2 then
    msgs.foldl (fun acc f => delivered f acc) (modCan ch (fun c => frames.foldl (fun c f => noteSent f c) c) s2)
  else s2

/-- A transport stops being served (R36): what is queued is sent (on SPI it stands in the RX queue for the host to read; log 101), its sessions close, and it serves no more. -/
def stopTransport (t : Transport) (s : State) : State :=
  if (getPort s t).served then
    let s1 := if t == .can then canClose s else s
    let s2 := closeAuth (fun x => x.transport == t) s1
    let s3 := closeSession t 0 s2
    let s4 := modPort t (fun p => { p with served := false, slots := [] }) s3
    if t == .spi then { s4 with win := { s4.win with ready := false } } else s4
  else s

/-- A response with status ST_ABORTED from an abort record (R65). -/
def sendAborted (a : AbortRec) (s : State) : State :=
  let r : Req := { transport := a.transport, session := a.session, seq := a.seq, async := a.async, priv := a.priv, src := a.src }
  sendFrame a.transport { responseFrame a.code 0x10 [] r with accId := some a.id } s

/-- A transport begins to be served (R58, R65): session 0 opens, `SYS.STARTED` with the reset cause where a restart precedes, then ST_ABORTED for each abort record in arrival order, but for one whose response still stands in the RX queue (R54; without a restart: log 102). -/
def serveTransport (t : Transport) (started : Option Bytes) (s : State) : State :=
  if (getPort s t).served then s
  else
    let s1 := modPort t (fun p => { p with served := true, slots := [] }) s
    let s2 := { s1 with mbx := { s1.mbx with sessions := s1.mbx.sessions ++ [{ id := 0, transport := t, priv := ceiling s1 t, src := (getPort s t).src0 }] } }
    let s3 := match started with
      | some b => eventTo t 0 0x01E0 0 b s2
      | none => s2
    let s4 := (s3.ao.aborts.filter (fun a => a.transport == t && !(getPort s3 t).out.any (fun f => f.accId == some a.id))).foldl (fun acc a => sendAborted a acc) s3
    if t == .spi then winIrq 2 { s4 with win := { s4.win with ready := true } } else s4

/-- INTN is asserted (R42). -/
def intnAsserted (s : State) : Bool := (s.win.irq &&& s.win.irqEn) != 0

/-- Frames in the SPI RX queue: 40 at most, further ones wait inside the device (R41; log 15). -/
def rxCount (s : State) : Nat := min 40 s.mbx.spi.out.length

/-- Free request slots of a transport (R35). -/
def freeSlots (s : State) (t : Transport) : Nat := 8 - (getPort s t).slots.length

end Sys2Proof.Machine
end

