-- ==== Sys2Proof/Machine/Shadow.lean ====
section
/-! DEFINITION. What the shadow of an instruction computes: the transform table of R373, each entry on the complemented or negated operands and transformed back, and the signature of R376 (13_tdx.md). -/

namespace Sys2Proof.Machine

/-- Add: ~(~a + ~b + 1) (R373). -/
def shAdd {w : Nat} (a b : BitVec w) : BitVec w := ~~~(~~~a + ~~~b + 1)

/-- Subtract: ~(~a + b) (R373). -/
def shSub {w : Nat} (a b : BitVec w) : BitVec w := ~~~(~~~a + b)

/-- AND by its dual OR (R373). -/
def shAnd {w : Nat} (a b : BitVec w) : BitVec w := ~~~(~~~a ||| ~~~b)

/-- OR by its dual AND (R373). -/
def shOr {w : Nat} (a b : BitVec w) : BitVec w := ~~~(~~~a &&& ~~~b)

/-- XOR: ~a ^ ~b (R373). -/
def shXor {w : Nat} (a b : BitVec w) : BitVec w := ~~~a ^^^ ~~~b

/-- Shift left, the complement filled with ones (R373). -/
def shSll {w : Nat} (a : BitVec w) (n : Nat) : BitVec w := ~~~((~~~a <<< n) ||| ~~~(BitVec.allOnes w <<< n))

/-- Logical shift right, the complement filled with ones (R373). -/
def shSrl {w : Nat} (a : BitVec w) (n : Nat) : BitVec w := ~~~((~~~a >>> n) ||| ~~~(BitVec.allOnes w >>> n))

/-- Arithmetic shift right: the sign of the complement is the inverted fill (R373). -/
def shSra {w : Nat} (a : BitVec w) (n : Nat) : BitVec w := ~~~((~~~a).sshiftRight n)

/-- Rotate right (R373). -/
def shRor {w : Nat} (a : BitVec w) (n : Nat) : BitVec w := ~~~((~~~a).rotateRight n)

/-- Multiply, low bits: −((−a) × b) (R373). -/
def shMul {w : Nat} (a b : BitVec w) : BitVec w := -((-a) * b)

/-- Data that the shadow receives complemented (R374). -/
def shData {w : Nat} (a : BitVec w) : BitVec w := ~~~(~~~a)

/-- a = b on the complements (R373). -/
def shEq {w : Nat} (a b : BitVec w) : Bool := ~~~a == ~~~b

/-- a < b, signed, as ~a > ~b (R373). -/
def shSlt {w : Nat} (a b : BitVec w) : Bool := (~~~b).slt (~~~a)

/-- a < b, unsigned, as ~a > ~b (R373). -/
def shUlt {w : Nat} (a b : BitVec w) : Bool := (~~~b).ult (~~~a)

/-- One word folded into a signature: shift under the polynomial 0x04C1_1DB7, then XOR (R376; the order is a DESIGN CHOICE, log 10). -/
def misrFold (m w : Word) : Word := (if m.msb then (m <<< 1) ^^^ 0x04C11DB7#32 else m <<< 1) ^^^ w

/-- A 64-bit result as the one word that is folded (R376; DESIGN CHOICE, log 10). -/
def vecWord (v : BitVec 64) : Word := misrFold (misrFold 0 (v.truncate 32)) ((v >>> 32).truncate 32)

/-- Stored data as the one word that is folded: the data itself up to 4 bytes (R376; DESIGN CHOICE, log 10). -/
def dataWord (b : Bytes) : Word := if b.length ≤ 4 then BitVec.ofNat 32 (leNat b) else vecWord (BitVec.ofNat 64 (leNat b))

end Sys2Proof.Machine
end

