-- ==== Sys2Proof/Machine/CoreOps.lean ====
section
/-! DEFINITION. The HX32 core as shared operations: registers, MPU, memory, TDX windows, register windows, traps (18_core.md, 13_tdx.md). -/

namespace Sys2Proof.Machine

/-- The exit address (terms of 18_core.md). -/
def exitAddr : Nat := 0xFFFFFFF0

/-- A register field that names a register: 0 to 25 (R519). -/
def regOk (f : BitVec 5) : Bool := decide (f.toNat < 26)

/-- The ring position of window register w`i`: w0 to w11 in frame CWP, w12 to w15 the next frame's w0 to w3 (terms, R522). -/
def wIndex (cwp i : Nat) : Nat := if i < 12 then (cwp % 8) * 12 + i else ((cwp + 1) % 8) * 12 + (i - 12)

/-- A register read (R519): z reads 0. -/
def readReg (r : Regs) (f : BitVec 5) : Word :=
  let n := f.toNat
  if n < 8 then r.k.getD n 0
  else if n < 24 then r.ring.getD (wIndex r.cwp (n - 8)) 0
  else if n == 25 then r.lk
  else 0

/-- A register write (R519): writes to z are discarded. -/
def writeReg (r : Regs) (f : BitVec 5) (v : Word) : Regs :=
  let n := f.toNat
  if n < 8 then { r with k := r.k.setIfInBounds n v }
  else if n < 24 then { r with ring := r.ring.setIfInBounds (wIndex r.cwp (n - 8)) v }
  else if n == 25 then { r with lk := v }
  else r

/-- The running registers changed. -/
def modRegs (f : Regs → Regs) (s : State) : State := { s with core := { s.core with r := f s.core.r } }

/-- The MPU region that decides an address: the highest-numbered that contains it (R536). -/
def mpuRegion (m : List MpuRegion) (a : Nat) : Option MpuRegion :=
  m.reverse.find? (fun r => decide (8 ≤ r.log2) && decide (r.base ≤ a) && decide (a < r.base + 2 ^ r.log2))

/-- Whether a permission allows an access: 0 fetch, 1 load, 2 store (R536). -/
def permits (perm acc : Nat) : Bool :=
  match acc with
  | 0 => perm == 2 || perm == 4
  | 1 => decide (1 ≤ perm)
  | _ => perm == 3 || perm == 4

/-- The MPU check of one address in a mode (R536, R537). -/
def mpuOk (c : Core) (user : Bool) (acc a : Nat) : Bool :=
  match mpuRegion c.mpu a with
  | some r => permits (if user then r.user else r.sup) acc
  | none => !user

/-- The MPU check of a span, byte by byte. -/
def mpuSpan (c : Core) (user : Bool) (acc a : Nat) : Nat → Bool
  | 0 => true
  | n + 1 => mpuOk c user acc a && mpuSpan c user acc (a + 1) n

/-- Device memory counts as uncached (R536, R378). -/
def isDevice (c : Core) (a : Nat) : Bool := match mpuRegion c.mpu a with
  | some r => r.device
  | none => false

/-- The active bank (R499). -/
def activeBank (s : State) : Bank := if s.boot.sel.active == 0 then s.boot.bankA else s.boot.bankB

/-- The other bank. -/
def inactiveBank (s : State) : Bank := if s.boot.sel.active == 0 then s.boot.bankB else s.boot.bankA

/-- A region's byte: erased reads 0xFF (R494; DESIGN CHOICE for an erased program flash, log 5). -/
def regionByte (r : Region) (o : Nat) : Byte := match r with
  | some (h, b) => if o < 512 then h.getD o 0xFF else b.getD (o - 512) 0xFF
  | none => 0xFF

/-- The byte the core reads at an address, the confirm buffer left aside (R494, R543): the active bank window, with 0 in the Thean region, and memory. -/
def coreByte (s : State) (a : Nat) : Byte :=
  if 0x10000000 ≤ a ∧ a < 0x10380000 then regionByte (activeBank s).smisa (a - 0x10000000)
  else if 0x10380000 ≤ a ∧ a < 0x10480000 then regionByte (activeBank s).ext (a - 0x10380000)
  else if 0x10480000 ≤ a ∧ a < 0x10500000 then 0
  else memRead 0 s.core.mem a

/-- The newest held store that covers an address gives its byte (R374). -/
def heldByte (l : List Held) (a : Nat) : Option Byte :=
  match l.reverse.find? (fun h => decide (h.addr ≤ a) && decide (a < h.addr + h.bytes.length)) with
  | some h => h.bytes[a - h.addr]?
  | none => none

/-- `n` bytes as a load of the present task sees them (R374). -/
def loadBytes (s : State) (a : Nat) : Nat → Bytes
  | 0 => []
  | n + 1 => (match heldByte s.core.tdx.buffer a with
      | some b => b
      | none => coreByte s a) :: loadBytes s (a + 1) n

/-- A range of program flash: stores do not change it (R494). -/
def isFlash (a : Nat) : Bool := decide (0x10000000 ≤ a) && decide (a < 0x10500000)

/-- Bytes put into memory; the boot ROM and the bank window keep theirs. -/
def storeMem (a : Nat) (b : Bytes) (s : State) : State :=
  if isFlash a || decide (a < 0x10000) then s
  else { s with core := { s.core with mem := memStore 0 s.core.mem a b } }

/-- The window length L (R472). -/
def tdxLen (s : State) : Nat := (tw s).tdxL

/-- Held stores of the windows that are closed already. -/
def heldClosed (t : Tdx) : Nat := (t.closed.map (fun w => w.held)).sum

/-- The TDX unit with every window and every held store dropped (R381, R382). -/
def emptyTdx (t : Tdx) : Tdx :=
  { t with buffer := [], closed := [], open_ := false, count := 0, misr := 0, shadow := 0, bad := false, check := none, passed := none }

/-- The running window closes: its comparison is due (R377, R380). -/
def closeWindow (s : State) : State :=
  let t := s.core.tdx
  if t.open_ && t.count == 0 && decide (t.buffer.length ≤ heldClosed t) then
    { s with core := { s.core with tdx := { t with open_ := false, check := none } } }
  else if t.open_ then
    let w : ClosedWin := { check := t.check.getD s.core.r, count := t.count, held := t.buffer.length - heldClosed t, misr := t.misr, shadow := t.shadow, bad := t.bad }
    { s with core := { s.core with tdx := { t with open_ := false, count := 0, misr := 0, shadow := 0, bad := false, check := none, closed := t.closed ++ [w] } } }
  else s

/-- An integer saturated to a 40-bit accumulator (R386, R538). -/
def sat40 (x : Int) : Int := max (-549755813888) (min 549755813887 x)

/-- A window opens with its checkpoint before an instruction of a TDX task (R377, R384); the shadow accumulators hold the negated values, one below them where the lane has saturated (R385, R386; DEDUCED, log 136). -/
def openWindow (s : State) : State :=
  if s.core.r.psr.tdx && !s.core.tdx.open_ then
    let x := s.core.r.cxv
    { s with core := { s.core with tdx := { s.core.tdx with
        open_ := true, count := 0, misr := 0, shadow := 0, bad := false, check := some s.core.r,
        shAcc := x.acc.mapIdx (fun i a => if x.flag.getD i false then -1 - a else sat40 (-a)),
        shFlag := x.flag.mapIdx (fun i p => p || x.acc.getD i 0 == -549755813888) } } }
  else s

/-- The instructions a window takes: L, or in a replay as many as its first pass (R377, R381). -/
def winLen (s : State) : Nat := if s.core.tdx.replay && s.core.tdx.closed.isEmpty then s.core.tdx.replayLen else tdxLen s

/-- An instruction counted, its result and address folded into the primary signature and the shadow's into the other; the window closes at its last instruction, and at once where the addresses differ (R374, R376, R377). -/
def foldPair (res ea shRes shEa : Word) (s : State) : State :=
  if s.core.tdx.open_ then
    let t := s.core.tdx
    let s1 := { s with core := { s.core with tdx := { t with
      count := t.count + 1, misr := misrFold (misrFold t.misr res) ea, shadow := misrFold (misrFold t.shadow shRes) shEa, bad := t.bad || ea != shEa } } }
    if decide (winLen s ≤ t.count + 1) || ea != shEa then closeWindow s1 else s1
  else s

/-- An instruction whose shadow finds what its primary found. -/
def foldWindow (res ea : Word) (s : State) : State := foldPair res ea res ea s

/-- A store of the present task: into the confirm buffer in a TDX task, to memory otherwise (R375). -/
def storeBytes (a : Nat) (b : Bytes) (s : State) : State :=
  if s.core.r.psr.tdx then { s with core := { s.core with tdx := { s.core.tdx with buffer := s.core.tdx.buffer ++ [{ addr := a, bytes := b }] } } }
  else storeMem a b s

/-- A closed window's stores released in program order: the first `n` of the buffer (R380). -/
def releaseStores : Nat → State → State
  | 0, s => s
  | n + 1, s => match s.core.tdx.buffer with
    | [] => s
    | h :: r => releaseStores n (storeMem h.addr h.bytes { s with core := { s.core with tdx := { s.core.tdx with buffer := r } } })

/-- The current thread may run: live, not waiting, its share not used up (R546, R547). -/
def threadRuns (s : State) : Bool :=
  let t := s.ext.threads.getD s.ext.cur {}
  s.ext.st == .running && t.live && t.wait.isNone && decide (0 < s.ext.share) && !s.ext.frozen

/-- The core executes instructions: SVC ON with firmware running, not halted, not waiting, and in user mode with a thread that may run. -/
def canRun (s : State) : Bool :=
  isOn s .svc && s.boot.runs == 1 && !s.core.halted && !s.core.wfi && !s.core.tdx.stopped && (!s.core.r.psr.u || threadRuns s)

/-- The vector of a cause: VBR + 4 × cause (R532). -/
def vector (s : State) (off : Nat) : Word := s.core.vbr + BitVec.ofNat 32 (4 * off)

/-- The core halts on a double trap (R524). -/
def doubleTrap (s : State) : State := issue 0x01 0x01 0 { s with core := { s.core with halted := true } }

/-- One save record: the window's 12 registers and the seal word (R523). -/
def saveRecord (r : Regs) (frame : Nat) : Bytes :=
  ((List.range 12).flatMap (fun i => le 4 (r.ring.getD ((frame % 8) * 12 + i) 0).toNat)) ++
    le 4 (r.depth % 65536 + 65536 * (65535 - r.depth % 65536))

/-- The oldest resident frame: RES − 1 frames below CWP. -/
def oldestFrame (r : Regs) : Nat := (r.cwp + 8 - (r.res - 1)) % 8

/-- One window spilled to the record below WSP, when 52 bytes remain above WLIMIT (R523). -/
def spillOne (s : State) : Option State :=
  let r := s.core.r
  if r.wlimit + 52 ≤ r.wsp then
    some (modRegs (fun x => { x with wsp := r.wsp - 52, depth := (r.depth + 1) % 65536, res := r.res - 1 })
      (storeMem (r.wsp - 52) (saveRecord r (oldestFrame r)) s))
  else none

/-- WFULL: two windows spilled, or one at the end of the area, or none (R523). -/
def wfull (s : State) : Option State :=
  match spillOne s with
  | none => none
  | some s1 => some ((spillOne s1).getD s1)

/-- Whether the seal word of the record at WSP matches DEPTH − 1 (R523). -/
def sealOk (s : State) : Bool :=
  let r := s.core.r
  let w := leNat (loadBytes s (r.wsp + 48) 4)
  w == (r.depth - 1) % 65536 + 65536 * (65535 - (r.depth - 1) % 65536)

/-- The frame below the oldest resident window refilled from the record at WSP (R523); none on a seal mismatch. -/
def refillOne (s : State) : Option State :=
  let r := s.core.r
  if sealOk s then
    let f := (oldestFrame r + 7) % 8
    let ws := (List.range 12).map (fun i => BitVec.ofNat 32 (leNat (loadBytes s (r.wsp + 4 * i) 4)))
    some (modRegs (fun x => { x with ring := (List.range 12).foldl (fun g i => g.setIfInBounds (f * 12 + i) (ws.getD i 0)) x.ring,
                                     wsp := r.wsp + 52, depth := r.depth - 1, res := r.res + 1 }) s)
  else none

/-- The state a trap saves at entry: EPC, EPSR, ECAUSE, EADDR (R532). -/
def saveTrap (cause : Nat) (epc eaddr : Word) (s : State) : State :=
  { s with core := { s.core with epc := epc, epsr := s.core.r.psr, ecause := cause, eaddr := eaddr } }

/-- The window one frame on (R522). -/
def slide (s : State) : State := modRegs (fun r => { r with cwp := (r.cwp + 1) % 8, res := r.res + 1 }) s

/-- The window one frame back (R522). -/
def slideBack (s : State) : State := modRegs (fun r => { r with cwp := (r.cwp + 7) % 8, res := r.res - 1 }) s

/-- WFULL when RES is 7 (R522); none when the save area is exhausted (WDEPTH). -/
def roomIn (at_ : Word) (s : State) : Option State :=
  if s.core.r.res < 7 then some s else wfull (saveTrap 0x06 at_ 0 (closeWindow s))

/-- WEMPTY when RES is 1 (R522). The error is the cause WDEPTH or WSEAL. -/
def roomOut (at_ : Word) (s : State) : Except Nat State :=
  if 1 < s.core.r.res then .ok s
  else if s.core.r.depth == 0 then .error 0x09
  else match refillOne (saveTrap 0x07 at_ 0 (closeWindow s)) with
    | some s1 => .ok s1
    | none => .error 0x0A

/-- The window slides forward for a trap entry (R522): WFULL first when RES is 7; none when the save area is exhausted (WDEPTH). -/
def slideIn (at_ : Word) (s : State) : Option State := (roomIn at_ s).map slide

/-- The window slides back for a return from a trap (R522): WEMPTY first when RES is 1. -/
def slideOut (at_ : Word) (s : State) : Except Nat State := (roomOut at_ s).map slideBack

/-- The hardware's trap entry (R522, R532): registers saved, supervisor mode with interrupts off, the window advanced where one is free, the pc at the vector. -/
def enterTrap (cause : Nat) (epc eaddr : Word) (s : State) : State :=
  let s0 := closeWindow s
  let s1 := (slideIn epc s0).getD s0
  let s2 := { s1 with core := { s1.core with epc := epc, epsr := s0.core.r.psr, ecause := cause, eaddr := eaddr } }
  modRegs (fun r => { r with psr := { r.psr with u := false, ie := false }, pc := vector s cause }) s2

/-- Ownership back to the default owner for every object of owner code 5, and its waiting claims dropped (R548, R27). -/
def releaseExtClaims (s : State) : State :=
  releaseWhere (fun o => o.owner == .ext) { s with outs := { s.outs with claims := s.outs.claims.filter (fun c => c.owner != .ext) } }

/-- A stop of the extension (R548): threads end, claims go, filters and queues are cleared, waiting EXT.MSG requests are answered ST_STATE. -/
def stopExtension (s : State) : State :=
  let s1 := releaseExtClaims s
  let s2 := { s1 with ext := { s1.ext with st := .stopped, threads := List.replicate 4 {}, filters := List.replicate 8 none, rx := [], msgs := [], restartAt := none } }
  s1.ext.msgs.foldl (fun acc m => complete m.t m.sess m.seq 0x0E [] acc) s2

/-- A fault in user mode (R549): recorded, SRC_EXT FAULT issued, the extension stopped, and an automatic restart 1 s later up to three times. -/
def extFault (cause : Nat) (epc eaddr : Word) (s : State) : State :=
  let s1 := stopExtension { s with ext := { s.ext with fault := (cause, epc, eaddr) } }
  let s2 := { s1 with ext := { s1.ext with restartAt := if s1.ext.restarts < 3 then some (s1.now + sec 1) else none } }
  issue 0x40 0x01 0 s2

/-- A trap at the present instruction, in either mode (R524, R532, R537, R549): a double trap while TW is set; the hardware entry; then what Smisa does: in user mode the extension's fault, in supervisor mode the Severe report the cause calls for. -/
def trap (cause : Nat) (eaddr : Word) (s : State) : State :=
  let pc := s.core.r.pc
  if s.core.r.psr.tw then doubleTrap s
  else
    let cause := if (slideIn pc (closeWindow s)).isNone then 0x09 else cause
    let s1 := enterTrap cause pc eaddr s
    if s.core.r.psr.u then extFault cause pc eaddr s1
    else match cause with
      | 0x01 => issue 0x01 0x03 0 s1
      | 0x02 => issue 0x01 0x02 0 s1
      | 0x03 => issue 0x01 0x02 0 s1
      | 0x04 => issue 0x01 0x02 0 s1
      | 0x0A => issue 0x01 0x04 0 s1
      | _ => s1

/-- What an instruction did: the state, its result and its effective address for the signature; or the trap it raises: cause and EADDR. -/
abbrev CoreRes := Except (Nat × Word) (State × Word × Word)

/-- Windows before this instruction still wait for their comparison, and it may not go on before it (R377, R379, R385). -/
def mustWait (s : State) : Bool := s.core.r.psr.tdx && !s.core.tdx.closed.isEmpty

/-- An instruction that closes the running window before it and takes effect only once every window before it has matched, so that a replay finds nothing of it (R377, R381). -/
def serial (k : State → CoreRes) (s : State) : CoreRes :=
  let s1 := closeWindow s
  if mustWait s1 then .ok (s1, 0, 0) else k s1

/-- Thread `n`. -/
def getThread (s : State) (n : Nat) : Thread := s.ext.threads.getD n {}

/-- A thread changed. -/
def modThread (n : Nat) (f : Thread → Thread) (s : State) : State :=
  { s with ext := { s.ext with threads := modAt f n s.ext.threads } }

/-- A thread that could run (R546, R547). -/
def runnable (t : Thread) : Bool := t.live && t.wait.isNone

/-- The thread to run: the highest priority; among equals the first after `from_` in turn (R546). -/
def pickThread (s : State) (from_ : Nat) : Option Nat :=
  let order := ([1, 2, 3, 4].map (fun i => (from_ + i) % 4)).filter (fun n => runnable (getThread s n))
  let top := order.foldl (fun m n => max m (getThread s n).prio) 0
  order.find? (fun n => (getThread s n).prio == top)

/-- A switch between threads: the running window closes, the old thread's registers are saved and the new one's loaded (R371, R542). -/
def switchTo (n : Nat) (s : State) : State :=
  if n == s.ext.cur && (getThread s n).live then s
  else
    let s1 := closeWindow s
    let s2 := if (getThread s1 s1.ext.cur).live && s1.core.r.psr.u then modThread s1.ext.cur (fun t => { t with regs := s1.core.r }) s1 else s1
    let s3 := modRegs (fun _ => (getThread s2 n).regs) s2
    { s3 with ext := { s3.ext with cur := n }, core := { s3.core with tdx := { s3.core.tdx with passed := none } } }

/-- The scheduler after a thread blocked, ended or became ready: a ready thread of higher priority takes the core, once the windows of the present one have matched (R377, R379); the present one keeps it otherwise while it can run; a handler in supervisor mode is not switched away from (R546). -/
def reschedule (s : State) : State :=
  let c := getThread s s.ext.cur
  if !s.core.r.psr.u then s
  else match pickThread s s.ext.cur with
  | none => s
  | some n =>
    if runnable c && decide ((getThread s n).prio ≤ c.prio) then s
    else if mustWait (closeWindow s) then closeWindow s
    else switchTo n s

/-- A thread's registers changed, wherever they are: saved, in the core, or one window below a handler that interrupted the thread. -/
def modThreadRegs (n : Nat) (f : Regs → Regs) (s : State) : State :=
  if n == s.ext.cur && s.core.r.psr.u then modRegs f s
  else if n == s.ext.cur && s.core.epsr.u then modRegs (fun r => { f { r with cwp := (r.cwp + 7) % 8 } with cwp := r.cwp }) s
  else modThread n (fun t => { t with regs := f t.regs }) s

/-- A syscall's results (R551): w12 the status, w13 on the results, every other register unchanged. -/
def putResults (status : Nat) (res : List Nat) (r : Regs) : Regs :=
  { r with ring := ((status :: res).zipIdx).foldl (fun g e => g.setIfInBounds (wIndex r.cwp (12 + e.2)) (BitVec.ofNat 32 e.1)) r.ring }

/-- A waiting syscall of a thread returns (R551, R552). -/
def threadReturn (n status : Nat) (res : List Nat) (s : State) : State :=
  reschedule (modThread n (fun t => { t with wait := none, dueAt := none }) (modThreadRegs n (putResults status res) s))

/-- EXIT of the calling thread (R525, R552): in thread 0 the extension stops with no restart; another thread ends. -/
def threadExit (s : State) : State :=
  if s.ext.cur == 0 then stopExtension s
  else reschedule (modThread s.ext.cur (fun _ => {}) s)

/-- The pc moved to the next instruction. -/
def nextPc (s : State) : State := modRegs (fun r => { r with pc := r.pc + 4 }) s

/-- A trap closes the window at its instruction and is handled after the comparison of what lies before it (R379). -/
def trapStep (cause : Nat) (eaddr : Word) (s : State) : State :=
  let s1 := closeWindow s
  if mustWait s1 then s1 else trap cause eaddr s

/-- One instruction on the core: nothing while the core does not run; FETCH_MPU first (R533, R537); then its effect or its trap; under TDX the window is opened, folded and closed. `g` is what the shadow finds, from the state that the primary read and what the primary found (R373). CYCLE counts one per instruction (log 11). -/
def coreWith (g : State → Word → Word → Word × Word) (f : State → CoreRes) (s : State) : State :=
  if canRun s then
    let s0 := { s with core := { s.core with cycle := (s.core.cycle + 1) % 2 ^ 64 },
                       ext := { s.ext with share := if s.core.r.psr.u then s.ext.share - 1 else s.ext.share } }
    if mpuOk s0.core s0.core.r.psr.u 0 s0.core.r.pc.toNat then
      match f (openWindow s0) with
      | .ok (s1, res, ea) => foldPair res ea (g (openWindow s0) res ea).1 (g (openWindow s0) res ea).2 s1
      | .error (c, a) => trapStep c a s0
    else trapStep 0x02 s0.core.r.pc s0
  else s

/-- One instruction whose shadow repeats it on the untransformed operands (R373). -/
def coreStep (f : State → CoreRes) (s : State) : State := coreWith (fun _ res ea => (res, ea)) f s

/-- A register result (R519, R530): ILLEGAL for a field 26 to 31. -/
def alu (rd : BitVec 5) (srcs : List (BitVec 5)) (f : Regs → Word) (s : State) : CoreRes :=
  if regOk rd && srcs.all regOk then
    let v := f s.core.r
    .ok (nextPc (modRegs (fun r => writeReg r rd v) s), v, 0)
  else .error (0x01, 0)

/-- The effective address of an I-format access: base + sign-extended offset (R530). -/
def effAddr (r : Regs) (ra : BitVec 5) (imm : BitVec 16) : Word := readReg r ra + imm.signExtend 32

/-- A register result whose shadow computes `g` on the same registers (R373). -/
def coreAlu (rd : BitVec 5) (srcs : List (BitVec 5)) (f g : Regs → Word) (s : State) : State :=
  coreWith (fun u _ _ => (g u.core.r, 0)) (alu rd srcs f) s

/-- The address the shadow finds by the add transform (R373, R374). -/
def shAddr (r : Regs) (ra : BitVec 5) (imm : BitVec 16) : Word := shAdd (readReg r ra) (imm.signExtend 32)

/-- The shadow of a load or store: the data it received complemented, and its own address (R374, R375). -/
def shAccess (ra : BitVec 5) (imm : BitVec 16) (u : State) (res ea : Word) : Word × Word :=
  (shData res, if u.core.r.psr.tdx then shAddr u.core.r ra imm else ea)

/-- An uncached or device access of a TDX task in its window of one instruction (R378): once every window before it has matched, its addresses and data are compared, and it leaves the core on the match. -/
def ownWindow (res ea : Word) (k : State → CoreRes) (s : State) : CoreRes :=
  let s1 := closeWindow s
  let t := s1.core.tdx
  if t.passed == some s.core.r.pc then k { s1 with core := { s1.core with tdx := { t with passed := none } } }
  else if !t.closed.isEmpty then .ok (s1, 0, 0)
  else
    let m := misrFold (misrFold 0 res) ea
    .ok ({ s1 with core := { s1.core with tdx := { t with closed := [{ check := s.core.r, count := 1, held := 0, misr := m, shadow := m, access := true }] } } }, 0, 0)

/-- Device memory in a TDX task takes a window of its own (R377, R378). -/
def accessWindow (res ea : Word) (k : State → CoreRes) (s : State) : CoreRes :=
  if s.core.r.psr.tdx && isDevice s.core ea.toNat then ownWindow res ea k s else k s

/-- A load of `n` bytes (R530, R531, R533, R537): ALIGN before LOAD_MPU. -/
def loadWith (n : Nat) (rd ra : BitVec 5) (imm : BitVec 16) (f : Bytes → Word) (s : State) : CoreRes :=
  if regOk rd && regOk ra then
    let ea := effAddr s.core.r ra imm
    if ea.toNat % n != 0 then .error (0x05, ea)
    else if mpuSpan s.core s.core.r.psr.u 1 ea.toNat n then
      accessWindow 0 ea (fun s =>
        let v := f (loadBytes s ea.toNat n)
        .ok (nextPc (modRegs (fun r => writeReg r rd v) s), v, ea)) s
    else .error (0x03, ea)
  else .error (0x01, 0)

/-- A load on the core, with its shadow. -/
def coreLoad (n : Nat) (rd ra : BitVec 5) (imm : BitVec 16) (f : Bytes → Word) (s : State) : State := coreWith (shAccess ra imm) (loadWith n rd ra imm f) s

/-- A store of `n` bytes (R530, R531, R533, R537). A store of a TDX task that finds the confirm buffer full closes its window and waits (R375, R377); one to device memory goes there past the buffer (R378). -/
def storeWith (n : Nat) (ok : Bool) (ra : BitVec 5) (imm : BitVec 16) (f : Regs → Bytes) (s : State) : CoreRes :=
  if ok && regOk ra then
    let ea := effAddr s.core.r ra imm
    let b := f s.core.r
    if ea.toNat % n != 0 then .error (0x05, ea)
    else if mpuSpan s.core s.core.r.psr.u 2 ea.toNat n then
      if s.core.r.psr.tdx && isDevice s.core ea.toNat then
        ownWindow (dataWord b) ea (fun s => .ok (nextPc (storeMem ea.toNat b s), dataWord b, ea)) s
      else if s.core.r.psr.tdx && decide (16 ≤ s.core.tdx.buffer.length) then .ok (closeWindow s, 0, 0)
      else .ok (nextPc (storeBytes ea.toNat b s), dataWord b, ea)
    else .error (0x04, ea)
  else .error (0x01, 0)

/-- A store on the core, with its shadow. -/
def coreStore (n : Nat) (ok : Bool) (ra : BitVec 5) (imm : BitVec 16) (f : Regs → Bytes) (s : State) : State := coreWith (shAccess ra imm) (storeWith n ok ra imm f) s

/-- A jump to a target (R525, R529): ALIGN where it is not a multiple of 4. -/
def jumpTo (target : Word) (s : State) : CoreRes :=
  if target.toNat == exitAddr && s.core.r.psr.u then serial (fun s => .ok (threadExit s, target, target)) s
  else if target.toNat % 4 != 0 then .error (0x05, target)
  else .ok (modRegs (fun r => { r with pc := target }) s, target, target)

/-- The shadow of a jump: its target by the add transform (R373). -/
def shJump (g : Regs → Word) (u : State) (_ _ : Word) : Word × Word := (g u.core.r, g u.core.r)

/-- The shadow of a call: target and lk (R373). -/
def shCall (g : Regs → Word) (u : State) (_ _ : Word) : Word × Word := (g u.core.r, shAdd u.core.r.pc 4)

/-- The shadow's target of a branch or jump relative to the instruction (R373, R529). -/
def shTarget (r : Regs) (off : Word) : Word := shAdd r.pc (off <<< 2)

/-- The shadow of a compare-and-branch: the reversed relation on the complements; taken or not taken is compared (R373). -/
def shBranch (taken : Regs → Bool) (off : Word) (u : State) (_ _ : Word) : Word × Word :=
  if taken u.core.r then (shTarget u.core.r off, shTarget u.core.r off) else (0, 0)

/-- The target of a branch: the instruction's own address plus 4 × the sign-extended offset (R529). -/
def branchTarget (s : State) (off : Word) : Word := s.core.r.pc + (off <<< 2)

/-- A compare-and-branch (R529, R530). -/
def branch (ok : Bool) (taken : Regs → Bool) (off : Word) (s : State) : CoreRes :=
  if ok then
    if taken s.core.r then jumpTo (branchTarget s off) s else .ok (nextPc s, 0, 0)
  else .error (0x01, 0)

/-- A compare-and-branch on the core, with the relation the shadow takes. -/
def coreBranch (ok : Bool) (taken shadow : Regs → Bool) (off : Word) (s : State) : State := coreWith (shBranch shadow off) (branch ok taken off) s

end Sys2Proof.Machine
end

