-- ==== Sys2Proof/Machine/Own.lean ====
section
/-! DEFINITION. Objects, owners, leases and the claim arbiter (R25 to R28, 01_system.md; R72 to R77, R596, 03_commands.md). -/

namespace Sys2Proof.Machine

/-- The station record of an address (R468). -/
def stationCfg (s : State) (addr : Nat) : Option TwStation := (tw s).stations.find? (fun x => x.addr == addr)

/-- A station's run-time state. -/
def getStn (s : State) (addr : Nat) : Station := s.mill.stn.getD addr {}

/-- A station changed. -/
def modStn (addr : Nat) (f : Station → Station) (s : State) : State :=
  { s with mill := { s.mill with stn := modAt f addr s.mill.stn } }

/-- A device channel's object number (R72). -/
def isChannel (obj : Nat) : Bool := decide (obj < 56)

/-- A station object's number (R87). -/
def isStationObj (obj : Nat) : Bool := decide (0x101 ≤ obj) && decide (obj ≤ 0x1FF)

/-- An object number that the OUT commands take and Twill assigns (R87, R88). -/
def objectAssigned (s : State) (obj : Nat) : Bool :=
  isChannel obj || (isStationObj obj && (stationCfg s (obj - 0x100)).isSome)

/-- The ownership of an object. -/
def getOwn (s : State) (obj : Nat) : Own :=
  if isChannel obj then (getChan s obj).own else if isStationObj obj then (getStn s (obj - 0x100)).own else {}

/-- The ownership of an object changed. -/
def modOwn (obj : Nat) (f : Own → Own) (s : State) : State :=
  if isChannel obj then modChan obj (fun c => { c with own := f c.own }) s
  else if isStationObj obj then modStn (obj - 0x100) (fun x => { x with own := f x.own }) s
  else s

/-- The claim lease in µs (R27, R462). -/
def leaseUs (s : State) : Nat := (tw s).transports.lease10ms * 10000

/-- An object's owner is the requester. -/
def owns (s : State) (o : Owner) (obj : Nat) : Bool := (getOwn s obj).owner == o

/-- A lease renewed by its owner (R76); the default owner and extension code hold none. -/
def renewLease (o : Owner) (obj : Nat) (s : State) : State :=
  if o != .dflt && o != .ext && owns s o obj then modOwn obj (fun x => { x with leaseAt := some (s.now + leaseUs s) }) s else s

/-- The objects a requester holds. -/
def heldBy (s : State) (o : Owner) : List Nat :=
  ((List.range 56) ++ (List.range' 0x101 255)).filter (fun obj => o != .dflt && owns s o obj)

/-- An object goes back to its default owner, whose request the output takes (R27). -/
def releaseObject (obj : Nat) (s : State) : State :=
  if isChannel obj then applyDrives (modChan obj releaseChan s)
  else if isStationObj obj then modStn (obj - 0x100) (releaseStn s.mill.parking) s
  else s

/-- An object taken by a claim (R74, R76): the request in force stays, the lease starts, the claim is bound to its session. -/
def grant (o : Owner) (prio obj : Nat) (sess : Option (Transport × Nat)) (s : State) : State :=
  modOwn obj (fun _ => { owner := o, prio := prio, leaseAt := if o == .ext then none else some (s.now + leaseUs s), sess := if o == .ext then none else sess }) s

/-- The rank of a requester at equal priority: service session, ETH, CAN, SPI, extension code (R26). -/
def ownerRank : Owner → Nat
  | .service => 5 | .eth => 4 | .can => 3 | .spi => 2 | .ext => 1 | .dflt => 0

/-- One claim of a requester on an object: the highest priority among its claims, bound to the newest (R74, R76). -/
structure Joint where
  owner : Owner := .dflt
  prio : Nat := 0
  sess : Option (Transport × Nat) := none
  deriving DecidableEq, Repr

/-- The claims on one object taken together by requester (R74). -/
def joints : List Claim → List Joint → List Joint
  | [], acc => acc
  | c :: r, acc =>
    if acc.any (fun j => j.owner == c.owner) then
      joints r (acc.map (fun j => if j.owner == c.owner then { j with prio := max j.prio c.prio, sess := c.sess } else j))
    else joints r (acc ++ [{ owner := c.owner, prio := c.prio, sess := c.sess }])

/-- The first of competing claims: priority, then requester (R26, R74). -/
def bestJoint (l : List Joint) : Option Joint :=
  l.foldl (fun acc j => match acc with
    | none => some j
    | some b => if decide (b.prio < j.prio) || (b.prio == j.prio && decide (ownerRank b.owner < ownerRank j.owner)) then some j else acc) none

/-- A channel's request written by its owner (R85, R106): frequency 0 keeps the present one. -/
def outRequest (o m duty freq : Nat) (s : State) : State :=
  applyDrives (modChan o (fun c => { c with req := { mode := m, duty := if m == 2 then duty else if m == 1 then 10000 else 0, freq := if freq == 0 then c.req.freq else freq } }) s)

/-- DIAG.REQ service 0x2F answered once its claim is decided (R102): the adjustment and its positive response, or NRC 0x22. -/
def answerDiag (o v : Nat) (r : Req) (status : Nat) (s : State) : State :=
  if status == 0x00 then completeReq r 0x00 ([0x6F] ++ be 2 (0xFD00 + o) ++ [3, b8 v]) (outRequest o v 0 0 s)
  else completeReq r 0x00 [0x7F, 0x2F, 0x22] s

/-- A claim's answer: to its request, or to the thread that waits. -/
def answerClaim (c : Claim) (status : Nat) (owner : Owner) (prio : Nat) (s : State) : State :=
  match c.req, c.diag with
  | some r, some v => answerDiag c.object v r status s
  | some r, none => completeReq r status [b8 (ownerCode owner), b8 prio] s
  | none, _ => threadReturn c.thread status [ownerCode owner, prio] s

/-- A claim answered with a status alone. -/
def refuseClaim (c : Claim) (status : Nat) (s : State) : State :=
  match c.req, c.diag with
  | some r, some v => answerDiag c.object v r status s
  | some r, none => completeReq r status [] s
  | none, _ => threadReturn c.thread status [] s

/-- The claims on one object decided at the end of a step (R74, R75). -/
def decideObject (obj : Nat) (cs : List Claim) (s : State) : State :=
  let js := joints cs []
  let before := getOwn s obj
  let mine := js.find? (fun j => j.owner == before.owner)
  let s1 := match mine with
    | some j => modOwn obj (fun x => { x with prio := j.prio, sess := if j.owner == .ext then none else j.sess }) s
    | none => s
  let held := getOwn s1 obj
  let win := match bestJoint (js.filter (fun j => j.owner != before.owner)) with
    | some j => if held.prio < j.prio then some j else none
    | none => none
  let s2 := match win with
    | some j => grant j.owner j.prio obj j.sess s1
    | none => s1
  let after := getOwn s2 obj
  cs.foldl (fun acc c =>
    if c.owner == before.owner then answerClaim c 0x00 before.owner before.prio acc
    else if (win.map (fun j => j.owner)) == some c.owner then answerClaim c 0x00 held.owner held.prio acc
    else answerClaim c 0x0F after.owner after.prio acc) s2

/-- The distinct objects of a claim list, in the order they came. -/
def claimObjects (cs : List Claim) : List Nat :=
  cs.foldl (fun acc c => if acc.contains c.object then acc else acc ++ [c.object]) []

/-- The end of an arbitration step (R74): every waiting claim decided. -/
def arbitrate (s : State) : State :=
  let cs := s.outs.claims
  (claimObjects cs).foldl (fun acc o => decideObject o (cs.filter (fun c => c.object == o)) acc)
    { s with outs := { s.outs with claims := [] } }

/-- Entry to PARKED or TRANSPORT (R28, R74): waiting claims are answered ST_STATE and every claim is released. -/
def releaseAllClaims (s : State) : State :=
  let cs := s.outs.claims
  releaseWhere (fun _ => true) (cs.foldl (fun acc c => refuseClaim c 0x0E acc) { s with outs := { s.outs with claims := [] } })

/-- Every object of a list released, with its count saturating at 255 (R596). -/
def releaseList (l : List Nat) (s : State) : State := l.foldl (fun acc o => releaseObject o acc) s

end Sys2Proof.Machine
end

