-- ==== Sys2Proof/Machine/TwillParse.lean ====
section
/-! DEFINITION. A Twill image read: header, framing, field ranges, cross checks between records, and the working copy built from the records (R456 to R476, 16_persistent.md). -/

namespace Sys2Proof.Machine

/-- A record after its fields have been read. -/
inductive Rec where
  | mode (x : TwMode) | power (x : TwPower) | transports (x : TwTransports) | channel (x : TwChannel) | safe (x : List Nat)
  | lamp (x : TwLamp) | scene (x : TwScene) | wiper (x : TwWiper) | motion (x : TwMotion) | inputs (x : TwInputs)
  | analog (x : TwAnalog) | keys (x : TwKeys) | screen (x : TwScreen) | rain (x : TwRain) | light (x : TwLight)
  | haptic (x : TwHaptic) | port (x : TwPort) | station (x : TwStation) | dep (x : TwDep) | can (x : TwCan) | lin (x : TwLin)
  | uplink (x : TwUplink) | route (x : TwRoute) | stream (x : TwStream) | tag (x : TwTag) | tamper (x : TwTamper)
  | confluence (x : TwConfluence) | tdx (l : Nat) | life (x : TwLife) | dids (x : List TwDid) | skip
  deriving DecidableEq, Repr

/-- A value inside an inclusive range. -/
def within (lo hi n : Nat) : Bool := decide (lo ≤ n) && decide (n ≤ hi)

/-- A value where a condition holds. -/
def guarded {α : Type} (p : Bool) (x : α) : Option α := if p then some x else none

/-- No element occurs twice. -/
def noDup {α : Type} [BEq α] : List α → Bool
  | [] => true
  | x :: r => !r.contains x && noDup r

/-- A source descriptor is in range (R460). -/
def srcOk (b : Bytes) (isIgn : Bool) (k : Nat) : Bool :=
  let w := byte b 0
  (match k with
    | 0 => decide (w ≤ 1) && decide (byte b 1 ≤ 1) && decide (field b 2 4 < (if byte b 1 == 1 then 536870912 else 2048)) &&
        decide (byte b 6 ≤ 63) && decide (byte b 7 ≤ 7) && within 1 8 (byte b 8)
    | 1 => decide (w ≤ 23) && allZero (slice b 1 8)
    | 2 => decide (w ≤ 7) && allZero (slice b 1 8)
    | 3 => decide (1 ≤ w) && byte b 1 == 0 && field b 2 4 == 0 && decide (byte b 6 ≤ 63) && decide (byte b 7 ≤ 7) && within 1 8 (byte b 8)
    | 0xFF => !isIgn && allZero (slice b 0 16)
    | _ => false) &&
  byte b 9 == 0 && field b 14 2 == 0 && (isIgn || k == 0xFF || (byte b 12 == 0xFF && byte b 13 == 0xFF))

/-- A source descriptor read (R460). -/
def readSrc (k : Nat) (b : Bytes) : SrcDesc :=
  { kind := k, loc := byte b 0, ext := byte b 1 == 1, id := field b 2 4, byte := byte b 6, shift := byte b 7, width := byte b 8,
    map := [byte b 10, byte b 11, byte b 12, byte b 13] }

/-- Mode policy record (R459). -/
def readMode (b : Bytes) : Option TwMode :=
  guarded (b.length == 56 && srcOk (slice b 4 16) true (byte b 0) && srcOk (slice b 20 16) false (byte b 1) && field b 2 2 == 0 &&
      within 50 5000 (field b 36 2) && decide (field b 38 2 ≤ 600) && within 10 3600 (field b 40 2) && byte b 42 == 0 &&
      decide (field b 46 2 < 512) && byte b 48 == 0 && field b 52 4 == 0)
    { ign := readSrc (byte b 0) (slice b 4 16), lock := readSrc (byte b 1) (slice b 20 16), srcTimeoutMs := field b 36 2,
      lingerS := field b 38 2, approachToS := field b 40 2, doorSw := field b 42 4, approachWake := field b 46 2, approachSw := field b 48 4 }

/-- Power and wake record (R461); R401 is a cross check. -/
def readPower (b : Bytes) : Option TwPower :=
  guarded (b.length == 32 && ((List.range 12).map (byte b)).all (fun v => decide (v ≤ 2)) && byte b 0 == 0 && byte b 1 == 0 && byte b 3 == 0 &&
      within 10 6000 (field b 12 2) && (field b 14 4 == 0 || within 60 86400 (field b 14 4)) && decide (byte b 18 ≤ 200) &&
      (decide (byte b 19 ≤ 3) || byte b 19 == 0xFF) && within 330 680 (field b 20 2) && within 110 145 (byte b 22) &&
      within 110 145 (byte b 23) && within 5 20 (byte b 24) && within 5 20 (byte b 25) && within 10 1000 (field b 26 2) && field b 28 4 == 0)
    { asleep := (List.range 12).map (byte b), awake10ms := field b 12 2, wakeIntS := field b 14 4, extV33 := byte b 18, wakePort := byte b 19,
      rIsns := field b 20 2, govA := byte b 22, govB := byte b 23, hystA := byte b 24, hystB := byte b 25, wdtMs := field b 26 2 }

/-- A 32-bit identifier field with bit 31 for 29-bit identifiers is in range. -/
def id31Ok (n : Nat) : Bool := if n.testBit 31 then decide (n % 2147483648 < 536870912) else decide (n < 2048)

/-- Mailbox transports record (R462). -/
def readTransports (b : Bytes) : Option TwTransports :=
  guarded (b.length == 24 && decide (byte b 0 ≤ 1) && decide (byte b 1 ≤ 1) && decide (byte b 2 ≤ 1) && (decide (byte b 3 ≤ 1) || byte b 3 == 0xFF) &&
      id31Ok (field b 4 4) && id31Ok (field b 8 4) && field b 4 4 != field b 8 4 && decide (byte b 12 ≤ 1) && decide (byte b 13 ≤ 127) &&
      within 25 1000 (field b 14 2) && within 10 3600 (field b 18 2) && within 10 6000 (field b 20 2) && field b 22 2 == 0)
    { spiCeil := byte b 0, canCeil := byte b 1, ethCeil := byte b 2, canCh := byte b 3, canReq := field b 4 4, canRsp := field b 8 4,
      canBrs := byte b 12 == 1, stmin := byte b 13, nCrMs := field b 14 2,
      ethPort := if field b 16 2 == 0xFFFF then 47076 else field b 16 2, idleS := field b 18 2, lease10ms := field b 20 2 }

/-- I_LIM in range for a channel (R103, R463). -/
def ilimOk (o v : Nat) : Bool :=
  match groupOf o with
  | .hsa10 => within 1000 12000 v
  | .hsa3 => within 500 3600 v
  | .hsb => within 200 1800 v
  | _ => v == 0

/-- Channel record (R463, R122, R124). -/
def readChannel (b : Bytes) : Option TwChannel :=
  let o := field b 0 2
  let g := groupOf o
  guarded (b.length == 32 && decide (o < 56) && decide (byte b 2 ≤ 4) && decide (byte b 3 ≤ 7) && ilimOk o (field b 4 2) && within 1 5 (byte b 6) &&
      decide (byte b 7 ≤ 2) && (byte b 7 == 0 || (g != .hb && g != .gd)) && within 100 160 (byte b 8) && decide (byte b 9 ≤ 15) &&
      within 10 500 (field b 10 2) && within 100 10000 (field b 12 2) && within 100 2000 (field b 14 2) && decide (byte b 16 ≤ 2) &&
      (byte b 3 != 7 || byte b 16 == 0) && (if byte b 16 == 2 then within 45 90 (byte b 17) else byte b 17 == 0) && decide (byte b 18 ≤ 1) &&
      decide (byte b 19 ≤ 1) && within 50 2000 (field b 20 2) && (g == .hb || g == .ls || field b 24 2 == 0) &&
      (if g == .gd then within 100 2000 (field b 26 2) else field b 26 2 == 0) && (if g == .gd then within 10 200 (byte b 28) else byte b 28 == 0) &&
      (if o == 52 || o == 54 then byte b 29 == 10 || byte b 29 == 20 || byte b 29 == 50 else byte b 29 == 0) && field b 30 2 == 0)
    { object := o, owner := byte b 2, prio := byte b 3, ilim := field b 4 2, inrush := byte b 6, k := byte b 7, vref := byte b 8, restart := byte b 9,
      retryMs := field b 10 2, holdUs := field b 12 2, pwm := field b 14 2, crank := byte b 16, crankV := byte b 17, park := byte b 18 == 1,
      diag := byte b 19 == 1, settleUs := field b 20 2, onstate := field b 22 2, inom := field b 24 2, dead := field b 26 2, vds := byte b 28, shuntG := byte b 29 }

/-- Soft safe pattern record (R464). -/
def readSafe (b : Bytes) : Option (List Nat) :=
  guarded (b.length == 56 && b.all (fun x => decide (x.toNat ≤ 2))) (b.map (·.toNat))

/-- Lamp function record (R464). -/
def readLamp (b : Bytes) : Option TwLamp :=
  let n := byte b 1
  let ch := ((slice b 2 8).take n).map (·.toNat)
  guarded (b.length == 20 && decide (byte b 0 ≤ 31) && within 1 8 n && ch.all (fun o => decide (o < 56)) && allOnes ((slice b 2 8).drop n) &&
      decide (byte b 14 < 64) && decide (byte b 15 ≤ 1) && decide (field b 16 2 ≤ 10000) && field b 18 2 == 0)
    { func := byte b 0, ch := ch, level := [byte b 10, byte b 11, byte b 12, byte b 13], modes := byte b 14, rainLight := byte b 15 == 1, fadeMs := field b 16 2 }

/-- Lamp scene record (R464). -/
def readScene (b : Bytes) : Option TwScene :=
  let es := (List.range (byte b 1)).map (fun i => (byte b (4 + 2 * i), byte b (5 + 2 * i)))
  guarded (b.length == 4 + 2 * byte b 1 && decide (byte b 0 ≤ 15) && decide (byte b 1 ≤ 32) && decide (field b 2 2 ≤ 10000) && noDup (es.map (·.1)))
    { scene := byte b 0, fadeMs := field b 2 2, entries := es }

/-- Wiper record (R465). -/
def readWiper (b : Bytes) : Option TwWiper :=
  guarded (b.length == 16 && decide (byte b 0 ≤ 5) && decide (byte b 1 ≤ 23) && decide (byte b 2 ≤ 1) && (decide (byte b 3 < 56) || byte b 3 == 0xFF) &&
      within 1000 10000 (field b 4 2) && within 1000 10000 (field b 6 2) && within 2000 6000 (field b 8 2) && (decide (byte b 0 ≤ 1) || field b 10 2 == 0) &&
      decide (byte b 12 ≤ 5) && decide (byte b 13 ≤ 3) && within 100 3000 (field b 14 2))
    { pair := byte b 0, parkSw := byte b 1, parkLvl := byte b 2 == 1, washer := byte b 3, low := field b 4 2, high := field b 6 2, parkD := field b 8 2,
      stall := field b 10 2, postwipe := byte b 12, confirm := tbit (byte b 13) 0, reverse := tbit (byte b 13) 1, serviceMs := field b 14 2 }

/-- Motion actuator record (R465, R139). -/
def readMotion (b : Bytes) : Option TwMotion :=
  guarded (b.length == 12 && decide (byte b 0 ≤ 3) && decide (byte b 1 ≤ 5) && (field b 2 2 == 0 || within 4 200 (field b 2 2)) &&
      (decide (byte b 1 ≤ 1) || (field b 2 2 == 0 && field b 8 2 == 0)) && within 100 1000 (field b 6 2) && decide (byte b 10 ≤ 1) && byte b 11 == 0)
    { act := byte b 0, pair := byte b 1, zone := field b 2 2, margin := field b 4 2, reversal := field b 6 2, stall := field b 8 2, openFirst := byte b 10 == 1 }

/-- Switch inputs and wake pins record (R466). -/
def readInputs (b : Bytes) : Option TwInputs :=
  let sw := (List.range 24).map (fun i => slice b (4 + 4 * i) 4)
  guarded (b.length == 104 && within 2 20 (byte b 0) && within 1 8 (byte b 1) && field b 2 2 == 0 &&
      sw.all (fun e => decide (byte e 0 ≤ 3) && decide (byte e 1 ≤ 3) && decide (field e 2 2 ≤ 3600)) && decide (byte b 100 < 16) &&
      decide (byte b 101 < 16) && !tbit (byte b 101) 0 && within 1 100 (byte b 102) && byte b 103 == 0)
    { pollMs := byte b 0, debounce := byte b 1,
      input := sw.map (fun e => { toBatt := tbit (byte e 0) 0, wet10 := tbit (byte e 0) 1, wake := byte e 1, stuckS := field e 2 2 }),
      pinEn := byte b 100, pinPol := byte b 101, pinFiltMs := byte b 102 }

/-- Two ladder bands share no value (R157); a band whose low limit lies above its high one holds none. -/
def bandsApart (x y : TwBand) : Bool := decide (x.high < x.low) || decide (y.high < y.low) || decide (x.high < y.low) || decide (y.high < x.low)

/-- No two bands of a list overlap. -/
def bandsOk : List TwBand → Bool
  | [] => true
  | x :: r => r.all (bandsApart x) && bandsOk r

/-- Analog input record (R466, R157). -/
def readAnalog (b : Bytes) : Option TwAnalog :=
  let n := byte b 3
  let bs := (List.range n).map (fun i => slice b (4 + 6 * i) 6)
  let bands : List TwBand := bs.map (fun e => { low := field e 0 2, high := field e 2 2, code := byte e 4 })
  guarded (b.length == 4 + 6 * n && decide (byte b 0 ≤ 7) && decide (byte b 1 ≤ 3) && within 1 8 (byte b 2) && decide (n ≤ 16) &&
      (tbit (byte b 1) 1 || n == 0) && bs.all (fun e => decide (byte e 4 ≤ 15) && byte e 5 == 0) && bandsOk bands)
    { input := byte b 0, pullup := tbit (byte b 1) 0, ladder := tbit (byte b 1) 1, debounce := byte b 2, bands := bands }

/-- Key matrix record (R466). -/
def readKeys (b : Bytes) : Option TwKeys :=
  guarded (b.length == 8 && decide (byte b 0 ≤ 3) && within 2 20 (byte b 1) && within 2 8 (byte b 2) && byte b 3 == 0 && decide (field b 4 2 ≤ 600) && field b 6 2 == 0)
    { scanned := tbit (byte b 0) 0, diode := tbit (byte b 0) 1, scanMs := byte b 1, debounce := byte b 2, stuckS := field b 4 2 }

/-- Numbers rise strictly. -/
def rising : List Nat → Bool
  | x :: y :: r => decide (x < y) && rising (y :: r)
  | _ => true

/-- Windscreen calibration record (R172, 05_inputs.md). -/
def readScreen (b : Bytes) : Option TwScreen :=
  let thr := (List.range 15).map (fun i => field b (8 + 2 * i) 2)
  guarded (b.length == 48 && decide (byte b 0 ≤ 15) && within 20 100 (byte b 1) && within 16 128 (byte b 2) && within 10 100 (byte b 3) && rising thr &&
      decide (byte b 38 ≤ 100) && decide (byte b 39 ≤ 15) && within 100 1000 (field b 40 2) && within 100 1000 (field b 42 2) && field b 44 4 == 0)
    { record := byte b 0, ledMa := byte b 1, burst := byte b 2, periodMs := byte b 3, sref0 := field b 4 2, sref1 := field b 6 2, thr := thr, hyst := byte b 38,
      fallback := byte b 39, als0Gain := field b 40 2, als1Gain := field b 42 2 }

/-- Rain policy record (R467). -/
def readRain (b : Bytes) : Option TwRain :=
  let m := (List.range 16).map (fun i => byte b (2 + i))
  guarded (b.length == 28 && decide (byte b 0 ≤ 15) && decide (byte b 1 ≤ 3) && m.all (fun v => v == 0 || within 2 30 v || v == 0x40 || v == 0x41) &&
      decide (field b 18 2 ≤ 2000) && decide (field b 20 2 ≤ 2000) && decide (field b 22 2 ≤ 2000) && decide (field b 24 2 ≤ 2000) && field b 26 2 == 0)
    { record := byte b 0, sens := byte b 1, map := m, m1Start := field b 18 2, m1Len := field b 20 2, m2Start := field b 22 2, m2Len := field b 24 2 }

/-- Light policy record (R467). -/
def readLight (b : Bytes) : Option TwLight :=
  guarded (b.length == 20 && within 1 100000 (field b 0 4) && within 1 100000 (field b 4 4) && within 1 100000 (field b 8 4) && decide (field b 4 4 < field b 0 4) &&
      within 1 60 (byte b 12) && within 1 30 (byte b 13) && within 5 300 (field b 14 2) && decide (byte b 16 ≤ 15) && field b 17 3 == 0)
    { tDusk := field b 0 4, tNight := field b 4 4, tTun := field b 8 4, darkS := byte b 12, holdS := byte b 13, lightS := field b 14 2, rainLight := byte b 16 }

/-- Haptic record (R186, 06_haptics.md). -/
def readHaptic (b : Bytes) : Option TwHaptic :=
  let n := byte b 11
  let bs := (List.range n).map (fun i => slice b (16 + 4 * i) 4)
  guarded (b.length == 16 + 4 * n && within 100 300 (field b 0 2) && within 20 120 (byte b 2) && within 10 1000 (field b 3 2) && within 10 2000 (field b 5 2) &&
      within 1 60 (byte b 7) && decide (byte b 8 ≤ 3) && within 1 100 (byte b 9) && (decide (byte b 10 ≤ 63) || byte b 10 == 0xFF) && decide (n ≤ 64) &&
      field b 12 4 == 0 && bs.all (fun e => decide (byte e 0 ≤ 63) && decide (byte e 1 ≤ 63) && within 1 100 (byte e 2) && within 1 3 (byte e 3)) &&
      noDup (bs.map (fun e => byte e 0)))
    { fRes := field b 0 2, vLimit := byte b 2, bemfThr := field b 3 2, qMax := field b 5 2, tau := byte b 7, htrig := byte b 8, htrigAmp := byte b 9, armed := byte b 10,
      binds := bs.map (fun e => { key := byte e 0, effect := byte e 1, amp := byte e 2, edge := byte e 3 }) }

/-- Millrace port record (R468). -/
def readPort (b : Bytes) : Option TwPort :=
  let f := byte b 1
  guarded (b.length == 16 && decide (byte b 0 ≤ 3) && decide (f < 8) && decide (byte b 2 ≤ 6) && within 2 64 (byte b 3) && !tbit (byte b 4) 0 && !allZero (slice b 4 6) &&
      (if tbit f 2 then within 1 4094 (field b 10 2) else field b 10 2 == 0) && (if tbit f 1 then within 8 23 (byte b 12) else byte b 12 == 0xFF) && field b 13 3 == 0)
    { port := byte b 0, enabled := tbit f 0, auth := tbit f 1, residual := tbit f 2, code := byte b 2, nodes := byte b 3, mac := slice b 4 6, vlan := field b 10 2, keySlot := byte b 12 }

/-- Millrace station record (R468). -/
def readStation (b : Bytes) : Option TwStation :=
  let f := byte b 11
  guarded (b.length == 16 + byte b 9 && decide (1 ≤ byte b 0) && decide (byte b 1 ≤ 3) && within 1 63 (byte b 3) && decide (byte b 8 ≤ 64) && decide (byte b 9 ≤ 64) &&
      within 2 15 (byte b 10) && decide (f < 4) && (if tbit f 0 then within 2 64 (byte b 12) else byte b 12 == 0) &&
      (if tbit f 1 then within 8 23 (byte b 13) else byte b 13 == 0xFF) && field b 14 2 == 0)
    { addr := byte b 0, port := byte b 1, relay := byte b 2, node := byte b 3, profile := field b 4 4, ilen := byte b 8, olen := byte b 9, timeout := byte b 10,
      isRelay := tbit f 0, dauth := tbit f 1, dnodes := byte b 12, dkeySlot := byte b 13, park := b.drop 16 }

/-- Millrace dependency record (R469). -/
def readDep (b : Bytes) : Option TwDep :=
  let k := byte b 5
  guarded (b.length == 12 && decide (1 ≤ byte b 0) && decide (byte b 1 ≤ 63) && decide (byte b 2 ≤ 7) && within 1 8 (byte b 3) && decide (byte b 4 ≤ 2) && decide (k ≤ 2) &&
      (match k with
        | 0 => decide (field b 6 2 < 56)
        | 1 => within 1 255 (field b 6 2)
        | _ => field b 6 2 == 0) &&
      (if k == 1 then decide (byte b 8 ≤ 63) && decide (byte b 9 ≤ 7) && decide (byte b 9 + byte b 3 ≤ 8) else byte b 8 == 0 && byte b 9 == 0 && byte b 11 == 0))
    { src := byte b 0, byte := byte b 1, shift := byte b 2, width := byte b 3, policy := byte b 4, tkind := k, target := field b 6 2, tbyte := byte b 8,
      tshift := byte b 9, dflt := byte b 10, inhibit := byte b 11 }

/-- The nominal bit rate of a code in kbit/s (R470). -/
def nominalRate (c : Nat) : Nat := match c with
  | 0 => 125 | 1 => 250 | 2 => 500 | _ => 1000

/-- The data bit rate in kbit/s (R470). -/
def dataRate (n d : Nat) : Nat := match d with
  | 0 => nominalRate n | 1 => 1000 | 2 => 2000 | _ => 5000

/-- Whole time quanta of CANK, 80 MHz, give the rate and the sample point (R239). -/
def quantaOk (kbit sp : Nat) : Bool := 80000 % kbit == 0 && (80000 / kbit * sp) % 1000 == 0

/-- CAN channel record (R470, R239). -/
def readCan (b : Bytes) : Option TwCan :=
  let n := byte b 28
  let f := byte b 1
  guarded (b.length == 32 + 8 * n && decide (byte b 0 ≤ 1) && decide (f < 4) && (byte b 0 == 0 || !tbit f 1) && decide (byte b 2 ≤ 3) && decide (byte b 3 ≤ 3) &&
      within 600 875 (field b 4 2) && within 600 875 (field b 6 2) && quantaOk (nominalRate (byte b 2)) (field b 4 2) &&
      quantaOk (dataRate (byte b 2) (byte b 3)) (field b 6 2) && decide (field b 8 2 ≤ 1000) && decide (byte b 10 ≤ 3) && decide (byte b 11 ≤ 8) &&
      id31Ok (field b 12 4) && decide (n ≤ 32) && field b 29 3 == 0 && (byte b 0 == 0 || allZero (slice b 10 18)) &&
      ((List.range n).all (fun i => id31Ok (field b (32 + 8 * i) 4))))
    { ch := byte b 0, enabled := tbit f 0, selWake := tbit f 1, nominal := byte b 2, dataRate := byte b 3, spN := field b 4 2, spD := field b 6 2, recoveryMs := field b 8 2,
      wufRate := byte b 10, wufDlc := byte b 11, wufId := field b 12 4, wufMask := field b 16 4, wufData := slice b 20 8,
      filters := (List.range n).map (fun i => (field b (32 + 8 * i) 4, field b (36 + 8 * i) 4)) }

/-- One LIN slot read. -/
def readSlot (b : Bytes) : TwLinSlot := { id := byte b 0, kind := byte b 1, ms := byte b 2, data := slice b 4 8 }

/-- One LIN slot is in range (R470). -/
def linSlotOk (b : Bytes) : Bool :=
  decide (byte b 1 ≤ 4) && within 5 250 (byte b 2) && byte b 3 == 0 &&
  (match byte b 1 with
    | 0 => decide (byte b 0 ≤ 59) && allZero (slice b 4 8)
    | 3 => byte b 0 == 0x3C
    | 4 => byte b 0 == 0x3D && allZero (slice b 4 8)
    | _ => decide (byte b 0 ≤ 59) && (slice b 4 8).all (fun x => decide (x.toNat ≤ 59) || x == 0xFF))

/-- LIN schedules read one after another; `fuel` is their number. -/
def readScheds : Nat → Bytes → Option (List TwLinSched)
  | 0, b => guarded b.isEmpty []
  | fuel + 1, b =>
    let n := byte b 1
    if decide (4 + 12 * n ≤ b.length) && decide (4 ≤ b.length) && decide (byte b 0 ≤ 15) && decide (n ≤ 32) && (decide (byte b 2 ≤ 15) || byte b 2 == 0xFF) && byte b 3 == 0 &&
        (List.range n).all (fun i => linSlotOk (slice b (4 + 12 * i) 12)) then
      match readScheds fuel (b.drop (4 + 12 * n)) with
      | some l => some ({ num := byte b 0, collide := byte b 2, slots := (List.range n).map (fun i => readSlot (slice b (4 + 12 * i) 12)) } :: l)
      | none => none
    else none

/-- LIN channel record (R470). -/
def readLin (b : Bytes) : Option TwLin :=
  let nf := byte b 12
  let fr := (List.range nf).map (fun i => slice b (16 + 12 * i) 12)
  if decide (16 + 12 * nf ≤ b.length) && decide (byte b 0 ≤ 3) && decide (byte b 1 ≤ 1) && within 100 2000 (field b 2 2) && !tbit (field b 4 8) 60 && !tbit (field b 4 8) 61 &&
      decide (nf ≤ 64) && within 1 16 (byte b 13) && field b 14 2 == 0 &&
      fr.all (fun e => decide (byte e 0 ≤ 59) && within 1 8 (byte e 1) && decide (byte e 2 ≤ 1) && byte e 3 == 0) then
    match readScheds (byte b 13) (b.drop (16 + 12 * nf)) with
    | some l => guarded (l.any (fun x => x.num == 0))
        { ch := byte b 0, enabled := byte b 1 == 1, rate := field b 2 2, enhanced := field b 4 8,
          frames := fr.map (fun e => { id := byte e 0, len := byte e 1, responder := byte e 2 == 1, data := slice e 4 8 }), scheds := l }
    | none => none
  else none

/-- Uplink and time record (R471). -/
def readUplink (b : Bytes) : Option TwUplink :=
  guarded (b.length == 28 && decide (byte b 0 < 16) && decide (byte b 1 ≤ 31) && within 1 4094 (field b 2 2) && decide (byte b 4 ≤ 7) && byte b 5 == 0 &&
      decide (field b 24 2 ≤ 255) && field b 26 2 == 0)
    { enabled := tbit (byte b 0) 0, rxDelay := tbit (byte b 0) 1, txDelay := tbit (byte b 0) 2, gptp := tbit (byte b 0) 3, phy := byte b 1, vlan := field b 2 2,
      pcp := byte b 4, mac := slice b 6 6, ipv4 := field b 12 4, mask := field b 16 4, gateway := field b 20 4, utcOff := field b 24 2 }

/-- A routing entry is in range (R254). -/
def routeOk (b : Bytes) : Bool :=
  b.length == 12 && decide (byte b 0 < 8) && decide (byte b 1 ≤ 1) && decide (field b 2 4 < (if tbit (byte b 0) 2 then 536870912 else 2048)) &&
    decide (byte b 10 ≤ 7) && decide (byte b 11 ≤ 10)

/-- A routing entry read (R254). -/
def readRoute (b : Bytes) : TwRoute :=
  { enabled := tbit (byte b 0) 0, toCan := tbit (byte b 0) 1, ext := tbit (byte b 0) 2, channel := byte b 1, id := field b 2 4, mask := field b 6 4, stream := byte b 10, batch := byte b 11 }

/-- A route entry can name a reserved identifier in the direction ETH to CAN (R242): on the MBX-CAN channel, one of the two identifiers matches it. -/
def routeReserved (t : TwTransports) (r : TwRoute) : Bool :=
  r.toCan && r.channel == t.canCh &&
    [t.canReq, t.canRsp].any (fun i => i.testBit 31 == r.ext && (i % 536870912) &&& r.mask == r.id &&& r.mask)

/-- Stream record (R471). -/
def readStream (b : Bytes) : Option TwStream :=
  guarded (b.length == 20 && decide (byte b 0 ≤ 7) && decide (byte b 1 ≤ 7) && within 1 4094 (field b 2 2) && field b 18 2 == 0)
    { stream := byte b 0, pcp := byte b 1, vlan := field b 2 2, id := field b 4 8, dest := slice b 12 6 }

/-- Tag record (R262, 09_tag.md). -/
def readTag (b : Bytes) : Option TwTag :=
  let f := byte b 0
  guarded (b.length == 4 && decide (f < 64) && field b 1 3 == 0)
    { enabled := tbit f 0, identity := tbit f 1, fieldDetect := tbit f 2, dsrc := tbit f 3, uhf := tbit f 4, logRefused := tbit f 5 }

/-- Tamper policy record (R328, R329, 11_tamper.md): MOUNT and INSERT are record-only, the other sources never off. -/
def readTamper (b : Bytes) : Option TwTamper :=
  let rs := (List.range 6).map (fun i => slice b (4 + 4 * i) 4)
  guarded (b.length == 28 && (byte b 0 == 0 || byte b 0 == 0xA5) && field b 1 3 == 0 &&
      rs.all (fun e => within 1 15 (byte e 1) && decide (1 ≤ byte e 2) && byte e 3 == 0) &&
      (rs.take 4).all (fun e => within 1 2 (byte e 0)) && (rs.drop 4).all (fun e => decide (byte e 0 ≤ 1)))
    { lock := byte b 0 == 0xA5, rules := rs.map (fun e => { response := byte e 0, n := byte e 1, w := byte e 2 }) }

/-- A raise entry names a kind of the catalogue and a class between its own and Severe (R352). -/
def raiseOk (e : Nat × Nat × Nat) : Bool :=
  match catalogue e.1 e.2.1 with
  | some (c, _) => decide (clsCode c ≤ e.2.2) && decide (e.2.2 ≤ 2)
  | none => false

/-- Confluence record (R352, 12_confluence.md). -/
def readConfluence (b : Bytes) : Option TwConfluence :=
  let n := byte b 3
  let es := (List.range n).map (fun i => (byte b (8 + 3 * i), byte b (9 + 3 * i), byte b (10 + 3 * i)))
  guarded (b.length == 8 + 3 * n && within 10 6000 (field b 0 2) && decide (1 ≤ byte b 2) && decide (n ≤ 32) && field b 4 4 == 0 && es.all raiseOk &&
      noDup (es.map (fun e => (e.1, e.2.1))))
    { quiet := field b 0 2, limit := byte b 2, raises := es }

/-- Life and prognostics record ("Prognostics", 16_persistent.md). -/
def readLife (b : Bytes) : Option TwLife :=
  let r := (List.range 56).map (fun i => field b (8 + 2 * i) 2)
  guarded (b.length == 120 && within 10 1000 (field b 0 2) && within 50 100 (byte b 2) && within 50 100 (byte b 3) && within 100 10000 (field b 4 2) && field b 6 2 == 0 &&
      r.all (fun v => decide (v ≤ 20000)))
    { bladeRated := field b 0 2, bladePct := byte b 2, eolPct := byte b 3, slotRated := field b 4 2, rated := r }

/-- DIAG data identifiers record (R472). -/
def readDids (b : Bytes) : Option (List TwDid) :=
  let n := byte b 0
  let es := (List.range n).map (fun i => slice b (4 + 24 * i) 24)
  guarded (b.length == 4 + 24 * n && decide (n ≤ 96) && field b 1 3 == 0 &&
      es.all (fun e => within 0xF1A0 0xF1FF (field e 0 2) && decide (byte e 2 ≤ 1) && within 1 20 (byte e 3) && allZero ((slice e 4 20).drop (byte e 3))))
    (es.map (fun e => { did := field e 0 2, writable := byte e 2 == 1, value := slice e 4 (byte e 3) }))

/-- One record read by its TYPE (R457): none where it is refused. -/
def readRec (t : Nat) (b : Bytes) : Option Rec :=
  match t with
  | 0x0001 => (readMode b).map .mode
  | 0x0002 => (readPower b).map .power
  | 0x0003 => (readTransports b).map .transports
  | 0x0010 => (readChannel b).map .channel
  | 0x0011 => (readSafe b).map .safe
  | 0x0012 => (readLamp b).map .lamp
  | 0x0013 => (readScene b).map .scene
  | 0x0014 => (readWiper b).map .wiper
  | 0x0015 => (readMotion b).map .motion
  | 0x0018 => (readInputs b).map .inputs
  | 0x0019 => (readAnalog b).map .analog
  | 0x001A => (readKeys b).map .keys
  | 0x001B => (readScreen b).map .screen
  | 0x001C => (readRain b).map .rain
  | 0x001D => (readLight b).map .light
  | 0x001E => (readHaptic b).map .haptic
  | 0x0020 => (readPort b).map .port
  | 0x0021 => (readStation b).map .station
  | 0x0022 => (readDep b).map .dep
  | 0x0028 => (readCan b).map .can
  | 0x0029 => (readLin b).map .lin
  | 0x002A => (readUplink b).map .uplink
  | 0x002B => guarded (routeOk b) (.route (readRoute b))
  | 0x002C => (readStream b).map .stream
  | 0x0030 => (readTag b).map .tag
  | 0x0033 => (readTamper b).map .tamper
  | 0x0040 => (readConfluence b).map .confluence
  | 0x0041 => guarded (b.length == 4 && field b 1 3 == 0 && (byte b 0 == 8 || byte b 0 == 16 || byte b 0 == 32 || byte b 0 == 64)) (.tdx (byte b 0))
  | 0x0050 => (readLife b).map .life
  | 0x0070 => (readDids b).map .dids
  | n => guarded (decide (0x8000 ≤ n)) .skip

/-- A TYPE that appears at most once (R457). -/
def onceOnly (t : Nat) : Bool :=
  [0x01, 0x02, 0x03, 0x11, 0x14, 0x18, 0x1A, 0x1C, 0x1D, 0x1E, 0x2A, 0x30, 0x33, 0x40, 0x41, 0x50, 0x70].contains t

/-- The number that may not repeat within a TYPE (R458): object, function, address, channel or index. -/
def recKey : Rec → Option Nat
  | .channel x => some x.object | .lamp x => some x.func | .scene x => some x.scene | .motion x => some x.act | .analog x => some x.input
  | .screen x => some x.record | .port x => some x.port | .station x => some x.addr | .can x => some x.ch | .lin x => some x.ch | .stream x => some x.stream
  | _ => none

/-- The working copy built from records in their order (R475). -/
def addRec (t : Twill) : Rec → Twill
  | .mode x => { t with mode := x } | .power x => { t with power := x } | .transports x => { t with transports := x }
  | .channel x => { t with channels := t.channels ++ [x] } | .safe x => { t with softSafe := x } | .lamp x => { t with lamps := t.lamps ++ [x] }
  | .scene x => { t with scenes := t.scenes ++ [x] } | .wiper x => { t with wiper := some x } | .motion x => { t with motion := t.motion ++ [x] }
  | .inputs x => { t with inputs := x } | .analog x => { t with analog := t.analog ++ [x] } | .keys x => { t with keys := x }
  | .screen x => { t with screens := t.screens ++ [x] } | .rain x => { t with rain := some x } | .light x => { t with light := some x }
  | .haptic x => { t with haptic := some x } | .port x => { t with ports := t.ports ++ [x] } | .station x => { t with stations := t.stations ++ [x] }
  | .dep x => { t with deps := t.deps ++ [x] }
  | .can x => { t with can := (t.can.filter (fun c => c.ch != x.ch)) ++ [x] } | .lin x => { t with lin := t.lin ++ [x] } | .uplink x => { t with uplink := x }
  | .route x => { t with routes := t.routes ++ [x] } | .stream x => { t with streams := t.streams ++ [x] } | .tag x => { t with tag := x }
  | .tamper x => { t with tamper := x } | .confluence x => { t with confluence := x } | .tdx l => { t with tdxL := l } | .life x => { t with life := x }
  | .dids x => { t with dids := x } | .skip => t

/-- An object's default owner in a working copy (R463). -/
def ownerIn (t : Twill) (o : Nat) : Nat := ((t.channels.find? (fun c => c.object == o)).map (fun c => c.owner)).getD 0

/-- Wire time in units of 0.1 µs of a frame with a PDU of `p` bytes: (max(46, P) + 38) × 0.8 µs (07_millrace.md). -/
def wireTime (p : Nat) : Nat := (max 46 p + 38) * 8

/-- E in units of 0.1 µs for `m` nodes: 2 µs + 3.2 µs × m. -/
def emptyTime (m : Nat) : Nat := 20 + 32 * m

/-- Records packed into frame bodies in their order, each at most 1486 bytes (R213): the body lengths. -/
def packBodies : List Nat → Nat → List Nat
  | [], 0 => []
  | [], cur => [cur]
  | r :: rest, cur => if cur != 0 && decide (1486 < cur + r) then cur :: packBodies rest r else packBodies rest (cur + r)

/-- The wire time of frames with given bodies, tags included where `auth`. -/
def framesTime (auth : Bool) (bodies : List Nat) : Nat := (bodies.map (fun b => wireTime (10 + b + (if auth then 4 else 0)))).sum

/-- The cycle time of a CODE in units of 0.1 µs (R212). -/
def cycleTenths (code : Nat) : Nat :=
  match code with
  | 0 => 10000 | 1 => 20000 | 2 => 50000 | 3 => 100000 | 4 => 200000 | 5 => 500000 | _ => 1000000

/-- Station records in ascending address order. -/
def byAddr (l : List TwStation) : List TwStation := (List.range 256).flatMap (fun a => l.filter (fun x => x.addr == a))

/-- The stations behind a relay, in address order. -/
def behind (t : Twill) (r : Nat) : List TwStation := byAddr (t.stations.filter (fun x => x.relay == r && r != 0))

/-- The INPUT frames of a station on a port: one record, or a relay's own record with the forwarded ones packed (R213). -/
def inputBodies (t : Twill) (x : TwStation) : List Nat :=
  if x.isRelay then packBodies ((6 + x.ilen) :: (behind t x.addr).map (fun y => 6 + y.ilen)) 0 else [6 + x.ilen]

/-- The budget of a port at a cycle time code (R220). -/
def budgetOk (t : Twill) (p : TwPort) (code : Nat) : Bool :=
  let tc := cycleTenths code
  let own := byAddr (t.stations.filter (fun x => x.port == p.port && x.relay == 0))
  let all := byAddr (t.stations.filter (fun x => x.port == p.port))
  let e := emptyTime p.nodes
  let tagged := if p.auth then 4 else 0
  let start := wireTime (26 + tagged)
  let ins := (own.map (fun x => framesTime p.auth (inputBodies t x))).sum
  let relays := ((own.filter (fun x => x.isRelay)).map (fun x => framesTime p.auth (inputBodies t x))).sum
  let outs := framesTime p.auth (packBodies (all.map (fun x => 6 + x.olen)) 0)
  decide (2 * (3 * e + 1500 + start + ins) ≤ tc) && decide (20 * (e + relays) ≤ 3 * tc) && decide (20 * (e + outs) ≤ 3 * tc) &&
  (own.filter (fun x => x.isRelay)).all (fun r =>
    let d := behind t r.addr
    let ed := emptyTime r.dnodes
    let dt := if r.dauth then 4 else 0
    decide (20 * (3 * ed + 2000 + wireTime (26 + dt) + (d.map (fun x => framesTime r.dauth [6 + x.ilen])).sum) ≤ 7 * tc) &&
    decide (20 * (ed + framesTime r.dauth (packBodies (d.map (fun x => 6 + x.olen)) 0)) + 40000 ≤ 3 * tc))

/-- The PLCA node count of a station's segment: its relay's, its port's, or the greatest where the port has no record or a disabled one (R206, R208, log 38). -/
def segmentNodes (t : Twill) (x : TwStation) : Nat :=
  if x.relay != 0 then ((t.stations.find? (fun r => r.addr == x.relay)).getD {}).dnodes
  else match t.ports.find? (fun p => p.port == x.port) with
  | some p => if p.enabled then p.nodes else 64
  | none => 64

/-- A station keeps R206 and R209: a relay sits on a port, a station behind one names a relay of its port, node IDs of a segment lie below its node count and differ. DEDUCED (log 38): that Twill refuses a node ID beyond the count. -/
def stationOk (t : Twill) (x : TwStation) : Bool :=
  (!x.isRelay || x.relay == 0) && decide (x.node < segmentNodes t x) &&
  (x.relay == 0 || t.stations.any (fun r => r.addr == x.relay && r.isRelay && r.port == x.port)) &&
  !t.stations.any (fun y => y.addr != x.addr && y.port == x.port && y.relay == x.relay && y.node == x.node)

/-- The pairs that wiper and actuators use. -/
def pairsUsed (t : Twill) : List Nat := (match t.wiper with
  | some w => [w.pair]
  | none => []) ++ t.motion.map (fun m => m.pair)

/-- A motor pair has the right owner and no second function (R465). -/
def pairOk (t : Twill) (p owner : Nat) : Bool :=
  ownerIn t (pairChannels p).1 == owner && ownerIn t (pairChannels p).2 == owner && decide ((pairsUsed t).count p ≤ 1)

/-- What a record needs of the others (R209, R220, R242, R401, R464, R465, R469). -/
def crossOk (t : Twill) : Rec → Bool
  | .power x =>
    let parked := fun (lo n : Nat) => t.channels.any (fun c => decide (lo ≤ c.object) && decide (c.object < lo + n) && c.park)
    !(x.asleep.getD 9 0 == 1 && parked 0 16) && !(x.asleep.getD 10 0 == 1 && parked 16 40)
  | .lamp x => x.ch.all (fun o => ownerIn t o == 1)
  | .scene x => x.entries.all (fun e => t.lamps.any (fun l => l.func == e.1))
  | .wiper x => pairOk t x.pair 2
  | .motion x => pairOk t x.pair 3
  | .port p => !p.enabled || budgetOk t p p.code
  | .station x => stationOk t x
  | .dep d =>
    (match t.stations.find? (fun x => x.addr == d.src) with
      | some x => decide (d.byte < x.ilen)
      | none => false) &&
    (match d.tkind with
      | 0 => ownerIn t d.target == 4
      | 1 => (match t.stations.find? (fun x => x.addr == d.target) with
        | some y => decide (d.tbyte < y.olen)
        | none => false)
      | _ => true)
  | .route r => !routeReserved t.transports r
  | _ => true

/-- The records of an image: (TYPE, body) in order; none where the framing fails (R457). `fuel` bounds their number. -/
def splitRecs : Nat → Bytes → Option (List (Nat × Bytes))
  | 0, b => guarded b.isEmpty []
  | fuel + 1, b =>
    if b.isEmpty then some []
    else
      let len := field b 2 2
      let pad := (4 - len % 4) % 4
      if decide (4 + len + pad ≤ b.length) && allZero (slice b (4 + len) pad) then
        match splitRecs fuel (b.drop (4 + len + pad)) with
        | some l => some ((field b 0 2, slice b 4 len) :: l)
        | none => none
      else none

/-- Why an image is refused: the first failing TYPE and its record index, counted from 0 over the image; (0, 0) for the header or the framing (R476; log 16). -/
abbrev Reject := Nat × Nat

/-- The records read one after another (R457, R458): ascending TYPE, no repeat, every field in range. -/
def readAll : List (Nat × Bytes) → Nat → Nat → List (Nat × Rec) → Except Reject (List (Nat × Rec))
  | [], _, _, acc => .ok acc
  | (t, b) :: r, i, last, acc =>
    match readRec t b with
    | none => .error (t, i)
    | some x =>
      if t < last then .error (t, i)
      else if onceOnly t && acc.any (fun y => y.1 == t) then .error (t, i)
      else if (recKey x).isSome && acc.any (fun y => y.1 == t && recKey y.2 == recKey x) then .error (t, i)
      else if t == 0x2B && decide (64 ≤ (acc.filter (fun y => y.1 == 0x2B)).length) then .error (t, i)
      else readAll r (i + 1) t (acc ++ [(t, x)])

/-- The first record that breaks a cross check. -/
def firstCross (t : Twill) : List (Nat × Rec) → Nat → Option Reject
  | [], _ => none
  | (ty, x) :: r, i => if crossOk t x then firstCross t r (i + 1) else some (ty, i)

/-- The PART code of a variant (R1, R456). -/
def partCode : Part → Nat
  | .bz7460 => 0x7460
  | .bz7464 => 0x7464

/-- The header checks of R456 and R475: MAGIC, FORMAT, FLAGS, PART, LENGTH, GEN, reserved. -/
def twillHeaderOk (p : Part) (img : Bytes) : Bool :=
  field img 0 4 == 0x5457494C && byte img 4 == 1 && decide (byte img 5 < 4) && (field img 6 2 == 0 || field img 6 2 == partCode p) &&
    field img 8 4 == img.length && within 64 61440 img.length && img.length % 4 == 0 && byte img 14 == 3 && byte img 15 == 0 && allZero (slice img 48 16)

/-- Bit 0 SIGNED of FLAGS (R456). -/
def twillSigned (img : Bytes) : Bool := tbit (byte img 5) 0

/-- A whole image read (R456 to R476): the working copy, or the first failing record. -/
def parseTwill (p : Part) (img : Bytes) : Except Reject Twill :=
  if twillHeaderOk p img then
    let body := (img.take (img.length - (if twillSigned img then 64 else 0))).drop 64
    match splitRecs (field img 12 2) body with
    | none => .error (0, 0)
    | some l =>
      if l.length != field img 12 2 then .error (0, 0)
      else match readAll l 0 0 [] with
      | .error e => .error e
      | .ok rs =>
        let t := (rs.map (fun x => x.2)).foldl addRec {}
        match firstCross t rs 0 with
        | some e => .error e
        | none => .ok t
  else .error (0, 0)

end Sys2Proof.Machine
end

