-- ==== Sys2Proof/Machine/Services.lean ====
section
/-! DEFINITION. The built-in services: lamps, wiper, motion, and the light policy behind the lamps (R134 to R143, R597, 04_outputs.md; R178 to R182, 05_inputs.md; R490, 16_persistent.md). -/

namespace Sys2Proof.Machine

/-- The default owner's request of a channel changed; the channel takes it while the default owner holds it (R27, R29). -/
def putDefault (o : Nat) (d : Drive) (s : State) : State :=
  modChan o (fun c => { c with dflt := d, req := if c.own.owner == .dflt then d else c.req }) s

/-- D_req of a level in 0.01 %, rounded to the nearest step (R137). -/
def levelDuty (level : Nat) : Nat := (level * 20000 + 255) / 510

/-- A lamp duty as a drive: 0 is OFF (R137). -/
def lampDrive (s : State) (o d : Nat) : Drive :=
  if d == 0 then { freq := (chanCfg s o).pwm } else { mode := 2, duty := d, freq := (chanCfg s o).pwm }

/-- The value of a fade at an instant (R137). -/
def fadeAt (f : Fade) (t : Nat) : Nat :=
  if f.t1 ≤ t then f.target
  else if t ≤ f.t0 then f.start
  else if f.start ≤ f.target then f.start + (f.target - f.start) * (t - f.t0) / (f.t1 - f.t0)
  else f.start - (f.start - f.target) * (t - f.t0) / (f.t1 - f.t0)

/-- The lamp function record of a number (R464). -/
def lampCfg (s : State) (n : Nat) : Option TwLamp := (tw s).lamps.find? (fun l => l.func == n)

/-- A lamp function's run-time state. -/
def getLamp (s : State) (n : Nat) : Lamp := s.outs.lamps.getD n {}

/-- The level that LAMP.GET reports: the one request 1 or 2 or a scene carried, or the light policy's (R597; DEDUCED, log 40). -/
def lampReport (l : Lamp) : Nat := if l.req == 0 then l.auto else l.level

/-- The level that drives a function: 0 under request 1, off (R137, R138). -/
def lampLevel (l : Lamp) : Nat := if l.req == 0 then l.auto else if l.req == 1 then 0 else l.level

/-- One channel of a function moved to a duty over a fade time, from the present D_req (R137). -/
def fadeChan (fadeMs duty : Nat) (s : State) (o : Nat) : State :=
  let c := getChan s o
  let present := match c.fade with
    | some f => fadeAt f s.now
    | none => if c.dflt.mode == 0 then 0 else c.dflt.duty
  if fadeMs == 0 then modChan o (fun c => { c with fade := none }) (putDefault o (lampDrive s o duty) s)
  else modChan o (fun c => { c with fade := some { start := present, target := duty, t0 := s.now, t1 := s.now + ms fadeMs } }) s

/-- A function moved to its level in force over a fade time (R137). -/
def lampMove (n fadeMs : Nat) (s : State) : State :=
  match lampCfg s n with
  | some l => applyDrives (l.ch.foldl (fadeChan fadeMs (levelDuty (lampLevel (getLamp s n)))) s)
  | none => s

/-- A function's request set (R137, R138). -/
def lampRequest (n req level fadeMs : Nat) (s : State) : State :=
  lampMove n fadeMs { s with outs := { s.outs with lamps := modAt (fun l => { l with req := req, level := level }) n s.outs.lamps } }

/-- The level the light policy gives a function (R182): 0 outside its modes; its dusk level for a rain-light function while the rain light is in force by day. -/
def autoLevel (s : State) (l : TwLamp) : Nat :=
  if tbit l.modes (modeCode s.mode.mode) then
    let st := if l.rainLight && s.rls.rainLight && s.rls.light == 0 then 1 else s.rls.light
    l.level.getD st 0
  else 0

/-- One function's policy level brought up to date; on request 0 the function moves there over its auto fade time (R138, R182). -/
def refreshLamp (s : State) (l : TwLamp) : State :=
  let lv := autoLevel s l
  if lv == (getLamp s l.func).auto then s
  else
    let s1 := { s with outs := { s.outs with lamps := modAt (fun x => { x with auto := lv }) l.func s.outs.lamps } }
    if (getLamp s l.func).req == 0 then lampMove l.func l.fadeMs s1 else s1

/-- Every function's policy level brought up to date (R182). -/
def refreshLamps (s : State) : State := (tw s).lamps.foldl refreshLamp s

/-- At a transition into PARKED every function returns to request 0 and moves to the policy's level over its auto fade time (R138). -/
def parkLamps (s : State) : State :=
  (tw s).lamps.foldl (fun acc l =>
    let lv := autoLevel acc l
    lampMove l.func l.fadeMs { acc with outs := { acc.outs with lamps := modAt (fun x => { x with req := 0, auto := lv }) l.func acc.outs.lamps } }) s

/-- A motor pair driven at a duty, its switching left to the period of a PWM that runs (R133): the first channel high in the forward direction, the second held low, or the reverse (R465). -/
def motorRun (pair : Nat) (forward : Bool) (duty : Nat) (s : State) : State :=
  let c := pairChannels pair
  let hi := if forward then c.1 else c.2
  let lo := if forward then c.2 else c.1
  applyDrives (putDefault lo { mode := 3, freq := (chanCfg s lo).pwm } (putDefault hi { mode := 2, duty := duty, freq := (chanCfg s hi).pwm } s))

/-- A motor pair stopped: both channels OFF (log 17). -/
def motorStop (pair : Nat) (s : State) : State :=
  let c := pairChannels pair
  applyDrives (putDefault c.2 { freq := (chanCfg s c.2).pwm } (putDefault c.1 { freq := (chanCfg s c.1).pwm } s))

/-- A channel's over-current flag set by a service, with OUT.FAULT (R135). -/
def reportMotorFault (o : Nat) (s : State) : State := outFault o (modChan o (fun c => { c with oc := true }) s)

/-- The wiper changed. -/
def modWiper (f : Wiper → Wiper) (s : State) : State := { s with outs := { s.outs with wiper := f s.outs.wiper } }

/-- The wiper motor runs at a duty in a phase (R134). -/
def wiperRun (p : WipePhase) (duty : Nat) (s : State) : State :=
  match (tw s).wiper with
  | some c => motorRun c.pair (!c.reverse) duty (modWiper (fun w => { w with phase := p, duty := duty, waitAt := none, parkAt := none }) s)
  | none => s

/-- The wiper motor stops and the wiper rests in a phase. -/
def wiperHalt (p : WipePhase) (s : State) : State :=
  match (tw s).wiper with
  | some c => motorStop c.pair (modWiper (fun w => { w with phase := p, duty := 0, waitAt := none, parkAt := none }) s)
  | none => s

/-- A wipe at low speed begins (R134); a wipe begun while the washer runs is a washed one (R490). -/
def wipeLow (s : State) : State :=
  match (tw s).wiper with
  | some c => modWiper (fun w => { w with washedWipe := w.washAt.isSome }) (wiperRun .wiping c.low s)
  | none => s

/-- A wipe at high speed begins (R134). -/
def wipeHigh (s : State) : State :=
  match (tw s).wiper with
  | some c => modWiper (fun w => { w with washedWipe := w.washAt.isSome }) (wiperRun .wiping c.high s)
  | none => s

/-- The wiper waits parked for an interval in s (R134, R178). -/
def wiperWait (n : Nat) (s : State) : State := modWiper (fun w => { w with waitAt := some (s.now + sec n) }) (wiperHalt .waiting s)

/-- The service parks: at once where the switch reads parked, else at park duty for at most 3 s (R135). -/
def wiperPark (s : State) : State :=
  match (tw s).wiper with
  | some c =>
    if s.outs.wiper.parkSw && s.outs.wiper.phase != .wiping then wiperHalt .parked s
    else modWiper (fun w => { w with parkAt := some (s.now + sec 3) }) (wiperRun .parking c.parkD s)
  | none => s

/-- The run from park to the service position (R134, R465). -/
def wiperToService (s : State) : State :=
  match (tw s).wiper with
  | some c => modWiper (fun w => { w with waitAt := some (s.now + ms c.serviceMs) }) (wiperRun .toService c.low s)
  | none => s

/-- The action of the rain policy in auto: 0 park, 2 to 30 interval in s, 0x40 low, 0x41 high; outside RUN the wiper stays parked (R178). -/
def rainAction (s : State) : Nat :=
  if s.mode.mode == .run then ((tw s).rain.getD {}).map.getD s.rls.intensity 0 else 0

/-- An action carried out from a wiper that is not in the middle of a wipe; an interval starts with its wait after a wipe. -/
def wiperAction (a : Nat) (afterWipe : Bool) (s : State) : State :=
  if a == 0 then (if afterWipe then wiperHalt .parked s else wiperPark s)
  else if a == 0x40 then wipeLow s
  else if a == 0x41 then wipeHigh s
  else if afterWipe then wiperWait a s else wipeLow s

/-- What follows a completed wipe (R134, R136, R178): the wash, the wipes after it, then the mode. -/
def afterWipe (s : State) : State :=
  let w := s.outs.wiper
  if w.washAt.isSome then wipeLow s
  else if 0 < w.postWipes then wipeLow (modWiper (fun w => { w with postWipes := w.postWipes - 1 }) s)
  else match w.mode with
  | 0 => wiperAction (rainAction s) true s
  | 2 => wiperWait w.interval s
  | 3 => wipeLow s
  | 4 => wipeHigh s
  | 5 => wiperHalt .parked (modWiper (fun w => { w with mode := 1 }) s)
  | 6 => wiperToService s
  | _ => wiperHalt .parked s

/-- A completed wipe counted, with its blade wear: 1 unit in rain or with the washer, 4 otherwise (R479, R490). -/
def countWipe (s : State) : State :=
  bump 0x40 1 (if decide (1 ≤ s.rls.intensity) || s.outs.wiper.washedWipe then 1 else 4) (bump 0x40 0 1 s)

/-- The park switch reads parked (R134, R135). -/
def wiperParked (s : State) : State :=
  let s0 := modWiper (fun w => { w with parkSw := true, stalled := false }) s
  match s.outs.wiper.phase with
  | .wiping => afterWipe (countWipe s0)
  | .parking => if s.outs.wiper.mode == 6 then wiperToService s0 else wiperHalt .parked s0
  | _ => s0

/-- The park switch reads unparked: the blade-mask windows count from here (R176). -/
def wiperUnparked (s : State) : State := modWiper (fun w => { w with parkSw := false, unparkAt := some s.now }) s

/-- A wiper mode begins (R134, R179): a wipe in progress is completed first. -/
def wiperBegin (s : State) : State :=
  let w := s.outs.wiper
  if w.phase == .wiping then s
  else match w.mode with
  | 0 => if s.mode.mode == .run && ((tw s).wiper.map (fun c => c.confirm)).getD false then wipeLow s else wiperAction (rainAction s) false s
  | 1 => wiperPark s
  | 2 => wipeLow s
  | 3 => wipeLow s
  | 4 => wipeHigh s
  | 5 => wipeLow s
  | _ => if w.parkSw then wiperToService s else wiperPark s

/-- WIPE.SET takes effect (R134): a wiper that a second stall stopped may run again (R135). -/
def wiperSet (mode sens interval : Nat) (s : State) : State :=
  wiperBegin (modWiper (fun w => { w with mode := mode, sens := sens, interval := interval, stalled := false, dead := false }) s)

/-- At ignition OFF and at step S1 the wiper parks, or stops where it is below 9.0 V; a wash ends with it, a first stall waits for its retry and then parks, and a wiper that a second stall stopped stays there (R135, R136; log 17). -/
def wiperRest (s : State) : State :=
  match (tw s).wiper with
  | none => s
  | some c =>
    let s0 := if s.outs.wiper.washAt.isSome && c.washer != 0xFF then applyDrives (putDefault c.washer { freq := (chanCfg s c.washer).pwm } s) else s
    let s1 := modWiper (fun w => { w with washAt := none, postWipes := 0 }) s0
    if s1.outs.wiper.phase == .parked || s1.outs.wiper.dead then s1
    else if decide (9000 ≤ s1.outs.dieB.vbat) && decide (9000 ≤ s1.env.vbat) then
      if s1.outs.wiper.phase == .stallWait then modWiper (fun w => { w with stallPhase := .parking, stallDuty := c.parkD }) s1 else
      (if s1.outs.wiper.parkSw && s1.outs.wiper.phase != .wiping then wiperHalt .parked s1
       else modWiper (fun w => { w with parkAt := some (s1.now + sec 3) }) (wiperRun .parking c.parkD s1))
    else wiperHalt .stopped s1

/-- A stall of the wiper motor (R135): stopped, one retry after 2 s; a second one stops it until the next WIPE.SET. -/
def wiperStall (s : State) : State :=
  let w := s.outs.wiper
  if w.phase == .wiping || w.phase == .parking || w.phase == .toService then
    if w.stalled then modWiper (fun w => { w with dead := true }) (wiperHalt .stopped s)
    else modWiper (fun x => { x with stalled := true, stallPhase := w.phase, stallDuty := w.duty,
                                     stallLeft := (w.waitAt.getD s.now) - s.now, waitAt := some (s.now + sec 2) }) (wiperHalt .stallWait s)
  else s

/-- The retry after a first stall: what it interrupted goes on, a parking run with its 3 s anew, the run to the service position for its rest (R134, R135). -/
def wiperRetry (s : State) : State :=
  let w := s.outs.wiper
  let s1 := wiperRun w.stallPhase w.stallDuty s
  match w.stallPhase with
  | .parking => modWiper (fun x => { x with parkAt := some (s.now + sec 3) }) s1
  | .toService => modWiper (fun x => { x with waitAt := some (s.now + w.stallLeft) }) s1
  | _ => s1

/-- A change of rain intensity in auto and RUN (R178, R179): a rise from 0 wipes at once, also from a wiper on its way to park and where the map gives park; otherwise a new action takes effect at the end of the wipe, or at once between wipes. -/
def rainChanged (old : Nat) (s : State) : State :=
  let w := s.outs.wiper
  if w.mode == 0 && s.mode.mode == .run && !w.dead && (w.phase == .parked || w.phase == .waiting || w.phase == .stopped || (w.phase == .parking && old == 0)) then
    let a := rainAction s
    if old == 0 && s.rls.intensity != 0 then (if a == 0x41 then wipeHigh s else wipeLow s)
    else if a == 0 then (if w.phase == .waiting then wiperHalt .parked s else s)
    else if a == 0x40 || a == 0x41 then wiperAction a false s
    else if w.phase == .waiting then s else wiperAction a false s
  else s

/-- The motion record of an actuator (R465). -/
def motionCfg (s : State) (n : Nat) : Option TwMotion := (tw s).motion.find? (fun m => m.act == n)

/-- An actuator's run-time state. -/
def getAct (s : State) (n : Nat) : Actuator := s.outs.acts.getD n {}

/-- An actuator changed. -/
def modAct (n : Nat) (f : Actuator → Actuator) (s : State) : State := { s with outs := { s.outs with acts := modAt f n s.outs.acts } }

/-- The state of an actuator at rest: idle, or unlearnt while no travel has been learnt (R89, R140). -/
def restState (a : Actuator) : Nat := if a.travel == 0 then 3 else 0

/-- An actuator pair offers current measurement: a GD pair (R139). -/
def actMeasured (s : State) (n : Nat) : Bool := match motionCfg s n with
  | some c => groupOf (pairChannels c.pair).1 == .gd
  | none => false

/-- How far the present run has gone in ‰ (R139): by ripples against the learnt ripple count on a GD pair, by run time against the learnt travel time on an HB pair. -/
def actGone (s : State) (n : Nat) : Nat :=
  let a := getAct s n
  if actMeasured s n then (if a.ripple == 0 then 0 else a.ripples * 1000 / a.ripple)
  else if a.travel == 0 then 0 else (s.now - a.startAt) / a.travel

/-- The position at this instant in ‰; at rest the one held (R139). -/
def actPos (s : State) (n : Nat) : Nat :=
  let a := getAct s n
  if a.state == 1 || a.state == 2 then
    (if a.opening then min 1000 (a.startPos + actGone s n) else a.startPos - actGone s n)
  else a.pos

/-- The position brought up to this instant. -/
def notePos (n : Nat) (s : State) : State := modAct n (fun a => { a with pos := actPos s n }) s

/-- Ripples counted on the shunt of an actuator's pair (R139). -/
def addRipples (n k : Nat) (s : State) : State :=
  if (getAct s n).state == 1 || (getAct s n).state == 2 then notePos n (modAct n (fun a => { a with ripples := a.ripples + k }) s) else s

/-- The actuator's motor runs in a direction (R465); its position is counted from here (R139). -/
def actRun (n : Nat) (opening : Bool) (duty st : Nat) (s : State) : State :=
  match motionCfg s n with
  | some c => motorRun c.pair (opening == c.openFirst) duty
      (modAct n (fun a => { a with opening := opening, state := st, startPos := a.pos, startAt := s.now, ripples := 0 }) s)
  | none => s

/-- The length of a manner's ramp in µs (R141). -/
def rampUs (manner : Nat) : Nat := if manner == 0 then 300000 else 100000

/-- The duty of a move at this instant (R141): up over the ramp from its start, down over the last 30 ‰ (manner 0) or the last 100 ms (manner 1) before the target; manner 2 has no ramp (log 121). -/
def rampDuty (s : State) (n : Nat) : Nat :=
  let a := getAct s n
  let left := if a.opening then a.target - actPos s n else actPos s n - a.target
  let up := min 10000 (10000 * (s.now - a.startAt) / rampUs a.manner)
  let down := if a.manner == 0 then 10000 * left / 30 else left * a.travel * 10000 / 100000
  if decide (2 ≤ a.manner) then 10000 else min up down

/-- A learn that ends before it is done leaves the actuator unlearnt; its request is answered ST_STATE (R140; log 17). -/
def learnAbort (n : Nat) (s : State) : State :=
  let a := getAct s n
  if a.learn == 0 then s
  else
    let s1 := modAct n (fun a => { a with learn := 0, learnReq := none, travel := 0, ripple := 0, profile := [], state := 3 }) s
    let s2 := if s.nvm.diag.learn == 1 then { s1 with nvm := { s1.nvm with diag := { s1.nvm.diag with learn := 3 } } } else s1
    match a.learnReq with
    | some r => completeReq r 0x0E [] s2
    | none => s2

/-- The actuator stops where it is. -/
def actStop (n : Nat) (s : State) : State :=
  match motionCfg s n with
  | some c =>
    if (getAct s n).state == 1 || (getAct s n).state == 2 || (getAct s n).learn != 0 then
      learnAbort n (motorStop c.pair (modAct n (fun a => { a with pos := actPos s n, state := restState a, htrAt := none, renorm := false }) s))
    else s
  | none => s

/-- A move begins (R89, R141, R143): an uncertain position is renormalised at the open end stop first. -/
def actMove (n target manner : Nat) (s0 : State) : State :=
  let s := notePos n s0
  let a := getAct s n
  let s1 := modAct n (fun a => { a with target := target, manner := manner, pinchHeld := false, htrAt := if manner == 2 then some (s.now + ms 200) else none, renorm := false }) s
  if manner != 2 && a.uncertain then actRun n true 5000 1 (modAct n (fun a => { a with renorm := true }) s1)
  else if manner != 2 && a.pos == target then actStop n s1
  else actRun n (decide (a.pos < target)) (if decide (2 ≤ manner) then 10000 else 0) 1 s1

/-- A position reached: the move ends (R141, R142). -/
def actReached (n : Nat) (s : State) : State :=
  let a := getAct s n
  if (a.state == 1 || a.state == 2) && a.learn == 0 && !a.renorm then actStop n s else s

/-- The stall at an end stop (R140, R141, R143). -/
def actEndStop (n ripple : Nat) (profile : List Nat) (s : State) : State :=
  let a := getAct s n
  if a.learn == 1 then
    modAct n (fun a => { a with learn := 2, learnStart := s.now, pos := 1000 }) (actRun n false 5000 1 s)
  else if a.learn == 2 then
    let travel := (s.now - a.learnStart) / 1000
    let s1 := modAct n (fun a => { a with learn := 0, learnReq := none, travel := travel, ripple := ripple, profile := profile, pos := 0, uncertain := false, state := 0 }) s
    let s2 := match motionCfg s n with
      | some c => motorStop c.pair s1
      | none => s1
    let s3 := bump 0x51 2 1 (bump 0x41 (8 + n) 1 { s2 with nvm := { s2.nvm with snapWrites := modAt (· + 1) (4 + n) s2.nvm.snapWrites } })
    let s4 := if s.nvm.diag.learn == 1 then { s3 with nvm := { s3.nvm with diag := { s3.nvm.diag with learn := 2 } } } else s3
    match a.learnReq with
    | some r => completeReq r 0x00 (be 2 travel) s4
    | none => s4
  else if a.state == 1 || a.state == 2 then
    let stop := if a.opening then 1000 else 0
    let s1 := modAct n (fun a => { a with pos := stop, startPos := stop, startAt := s.now, ripples := 0 }) s
    if a.renorm then
      let s2 := modAct n (fun a => { a with renorm := false, uncertain := false }) s1
      if a.target == 1000 then actStop n s2 else actRun n false 0 1 s2
    else actStop n s1
  else s

/-- A pinch (R142): stopped and reversed; a second one within 5 s holds the actuator stopped. -/
def actPinch (n : Nat) (s : State) : State :=
  match motionCfg s n with
  | none => s
  | some c =>
    let a := getAct s n
    let second := match a.pinchAt with
      | some t => decide (s.now ≤ t + sec 5)
      | none => false
    let pos := actPos s n
    let s1 := bump 0x41 (4 + n) 1 (modAct n (fun a => { a with pos := pos, pinches := satInc 0xFFFF a.pinches, pinchAt := some s.now }) s)
    let s2 := if second then modAct n (fun a => { a with pinchHeld := true }) (actStop n s1)
      else actRun n true 10000 2 (modAct n (fun a => { a with target := min 1000 (pos + c.reversal) }) s1)
    outFault (pairChannels c.pair).1 s2

/-- Every actuator stopped. -/
def stopAllActs (s : State) : State := [0, 1, 2, 3].foldl (fun acc n => actStop n acc) s

/-- The actuator whose pair holds a channel. -/
def actOfChannel (s : State) (o : Nat) : Option Nat :=
  ((tw s).motion.find? (fun m => (pairChannels m.pair).1 == o || (pairChannels m.pair).2 == o)).map (fun m => m.act)

/-- A trip on a channel of an HB pair counts as a stall of its motor (R135, R465). -/
def motorTrip (o : Nat) (s : State) : State :=
  if groupOf o == .hb then
    if isWiperChannel s o then wiperStall s
    else match actOfChannel s o with
    | some n => actEndStop n 0 [] s
    | none => s
  else s

/-- A channel of a learn no longer follows the motion service: another owner, a rank of R132 above the request, or a shutdown; on an HB pair a trip is the stall that the learn waits for (R135, R140). -/
def learnLost (s : State) (o : Nat) : Bool :=
  let c := getChan s o
  c.own.owner != .dflt || rank2 s o || rank3 s || c.shed || s.outs.parking || crankHeld s o ||
    (if groupOf o == .hb then forcedOff s o { c with retryAt := none, latched := false } else forcedOff s o c)

/-- An actuator whose learn something interrupts (R140). -/
def learnBroken (s : State) (n : Nat) : Bool := match motionCfg s n with
  | some c => (getAct s n).learn != 0 && (learnLost s (pairChannels c.pair).1 || learnLost s (pairChannels c.pair).2)
  | none => false

/-- Interrupted learns end (R140). -/
def breakLearns (s : State) : State :=
  [0, 1, 2, 3].foldl (fun acc n => if learnBroken acc n then actStop n acc else acc) s

/-- A built-in service owns a list of channels (R78). -/
def serviceOwns (s : State) (os : List Nat) : Bool := os.all (fun o => owns s .dflt o)

end Sys2Proof.Machine
end

