-- ==== Sys2Proof/Machine/Journal.lean ====
section
/-! DEFINITION. Write budgets, the life journal, service notices and the event log (R455, R479 to R492; 16_persistent.md). -/

namespace Sys2Proof.Machine

/-- The first and last index of a class of life counters (R479). -/
def classRange : Nat → Option (Nat × Nat)
  | 0x01 => some (0, 55) | 0x02 => some (0, 55) | 0x03 => some (0, 55) | 0x04 => some (0, 55)
  | 0x10 => some (0, 63) | 0x11 => some (0, 23)
  | 0x20 => some (1, 255) | 0x21 => some (1, 255)
  | 0x30 => some (0, 0) | 0x31 => some (0, 15)
  | 0x40 => some (0, 3) | 0x41 => some (0, 11) | 0x42 => some (0, 1)
  | 0x50 => some (0, 15) | 0x51 => some (0, 5) | 0x58 => some (0, 127)
  | _ => none

/-- A sector of the data NVM erased: its count rises (class 0x58), and no line of it is poisoned (R454). -/
def eraseSector (n : Nat) (s : State) : State :=
  bump 0x58 n 1 { s with nvm := { s.nvm with poisons := s.nvm.poisons.filter (fun o => o / 4096 != n) } }

/-- Sectors `n` to `n + k - 1` erased. -/
def eraseSectors (n : Nat) : Nat → State → State
  | 0, s => s
  | k + 1, s => eraseSectors (n + 1) k (eraseSector n s)

/-- Boot-control writes are allowed (R455). -/
def bootWriteOk (s : State) : Bool := decide (lifeCtr s 0x51 1 < s.ao.life / 14400 + 64)

/-- The boot-control partition written, its count raised before the write (R455, R499). -/
def bootWrite (f : BankSel → BankSel) (s : State) : State :=
  let s1 := bump 0x51 1 1 s
  { s1 with boot := { s1.boot with sel := { f s1.boot.sel with seq := (s1.boot.sel.seq + 1) % 4294967296 } } }

/-- A snapshot page may be written (R455). -/
def snapOk (s : State) (page : Nat) : Bool := decide (s.nvm.snapWrites.getD page 0 < s.ao.life / 3600 + 64)

/-- A write of a snapshot page counted (R455). -/
def snapCount (page : Nat) (s : State) : State :=
  let s1 := bump 0x51 2 1 s
  { s1 with nvm := { s1.nvm with snapWrites := modAt (· + 1) page s1.nvm.snapWrites } }

/-- The allowance of the journal ring in bytes still unused (R455). -/
def journalRoom (s : State) : Nat := 480 * (s.ao.life / 600) + 65536 - lifeCtr s 0x51 0

/-- The time of one line program: its bound in µs (R447; log 140). -/
def lineUs : Nat := 20

/-- An operation of the data NVM begins, `us` long (R447, R450; log 140). -/
def nvmOp (us : Nat) (w : NvmWork) (s : State) : State :=
  { s with nvm := { s.nvm with ops := s.nvm.ops.filter (fun o => decide (s.now < o.endAt)) ++ [{ startAt := s.now, endAt := s.now + us, work := w }] } }

/-- An event log entry written, or suppressed and counted beyond its allowance; a full log loses its oldest sector (R455, R492). -/
def logWriteRep (m : Rill) (device rep : Nat) (s : State) : State :=
  if lifeCtr s 0x51 3 < s.ao.life / 4 + 128 then
    let n := lifeCtr s 0x51 3
    let s1 := bump 0x51 3 1 s
    let s2 := if decide (1792 ≤ s1.nvm.log.length) then eraseSector (98 + (n / 128) % 14) { s1 with nvm := { s1.nvm with log := s1.nvm.log.take (1792 - 128) } } else s1
    nvmOp (2 * lineUs) (.entry n s.nvm.log) { s2 with nvm := { s2.nvm with log := { life := s2.ao.life, utc := utcStamp s2, rtcSet := s2.ao.rtcSet, msg := m, device := device, rep := rep } :: s2.nvm.log } }
  else bump 0x50 12 1 s

/-- An event log entry without repeats (R492). -/
def logWrite (m : Rill) (device : Nat) (s : State) : State := logWriteRep m device 0 s

/-- Counters in order of class and index. -/
def ctrInsert (c : LifeCtr) : List LifeCtr → List LifeCtr
  | [] => [c]
  | d :: r => if c.cls < d.cls || (c.cls == d.cls && c.idx < d.idx) then c :: d :: r else d :: ctrInsert c r

/-- A data line of a frame: class, first index, order of the oldest unwritten change it carries. -/
structure JLine where
  cls : Nat := 0
  first : Nat := 0
  since : Nat := 0
  deriving DecidableEq, Repr

/-- Counters packed three indices to a line, each line opened at the first counter that none holds (R480, R481). -/
def packLines : List LifeCtr → List JLine → List JLine
  | [], acc => acc
  | c :: r, acc =>
    match acc.getLast? with
    | some l =>
      if l.cls == c.cls && decide (c.idx < l.first + 3) then packLines r (acc.dropLast ++ [{ l with since := min l.since c.since }])
      else packLines r (acc ++ [{ cls := c.cls, first := c.idx, since := c.since }])
    | none => packLines r [{ cls := c.cls, first := c.idx, since := c.since }]

/-- Lines in order of their oldest unwritten change (R483). -/
def lineInsert (l : JLine) : List JLine → List JLine
  | [] => [l]
  | m :: r => if l.since < m.since then l :: m :: r else m :: lineInsert l r

/-- The values a line carries: three indices, cut where the class ends (R480). -/
def lineData (s : State) (l : JLine) : List (Nat × Nat × Nat) :=
  ([l.first, l.first + 1, l.first + 2].filter (fun i => decide (i ≤ ((classRange l.cls).getD (0, 0)).2))).map (fun i => (l.cls, i, lifeCtr s l.cls i))

/-- The counters that a frame must hold: changed since last written, or whose newest line lies in the sector about to be erased (R481, R482); the count of journal bytes is always one (R455). -/
def frameCtrs (s : State) : List LifeCtr :=
  (s.nvm.life.filter (fun c => c.cls != 0x31 && (c.since != 0 || (match s.nvm.evict with
    | some sec => c.line / 256 == sec && decide (0 < c.line)
    | none => false)))).foldl (fun acc c => ctrInsert c acc) []

/-- A written line marked on its counters. -/
def markWritten (data : List (Nat × Nat × Nat)) (line : Nat) (l : List LifeCtr) : List LifeCtr :=
  l.map (fun c => if data.any (fun d => d.1 == c.cls && d.2.1 == c.idx) then { c with flushed := c.val, since := 0, line := line } else c)

/-- The ring pages behind a new head: the oldest sector is erased once a frame has copied from it, and the head's entry into a new sector asks for the next copy (R482). -/
def moveHead (oldHead : Nat) (s : State) : State :=
  let s1 := match s.nvm.evict with
    | some sec => eraseSector (36 + sec % 62) { s with nvm := { s.nvm with evict := none, journal := s.nvm.journal.filter (fun f => f.line / 256 != sec) } }
    | none => s
  let a := oldHead / 256
  let b := s1.nvm.head / 256
  if a < b && decide (61 ≤ b) then { s1 with nvm := { s1.nvm with evict := some (b - 61) } } else s1

/-- A frame of the life journal (R480 to R483): every changed counter, oldest changes first where the allowance cannot take all; position lines first in a shutdown frame; deferred lines counted. -/
def journalFrame (shutdown : Bool) (s : State) : State :=
  let s0 := bump 0x51 0 1 s
  let lines := packLines (frameCtrs s0) []
  let pos := if shutdown then 2 else 0
  let room := journalRoom s / 16
  let take := min lines.length (room - 2 - pos)
  let chosen := if take == lines.length then lines else (lines.foldl (fun acc l => lineInsert l acc) []).take take
  if room < 2 + pos then bump 0x50 11 lines.length s
  else
    let bytes := 16 * (2 + pos + chosen.length)
    let s1 := bump 0x51 0 (bytes - 1) s0
    let posData := if shutdown then (List.range 4).map (fun n => (0x60, n, (getAct s1 n).pos)) else []
    let data := chosen.flatMap (lineData s1)
    let f : JFrame := { num := s1.nvm.nextFrame, shutdown := shutdown, life := s1.ao.life, rtc := utcStamp s1, data := posData ++ data, line := s1.nvm.head }
    let s2 := { s1 with nvm := { s1.nvm with
        journal := f :: s1.nvm.journal, nextFrame := (s1.nvm.nextFrame + 1) % 4294967296, head := s1.nvm.head + bytes / 16,
        life := markWritten data (s1.nvm.head + 1) s1.nvm.life, lastFlush := s1.ao.life,
        positions := if shutdown then some ((List.range 4).map (fun n => (getAct s1 n).pos)) else s1.nvm.positions } }
    nvmOp (bytes / 16 * lineUs) (.frame f (bytes / 16) s.nvm.journal s.nvm.life s.nvm.evict s.nvm.positions) (moveHead s1.nvm.head (bump 0x50 11 (lines.length - chosen.length) s2))

/-- A channel of a wiper or actuator motor (R489). -/
def motorChannel (s : State) (o : Nat) : Bool := isWiperChannel s o || (actOfChannel s o).isSome

/-- Notices in order of their life clock: a new one is the newest (R490). -/
def raiseNotice (code object : Nat) (s : State) : State :=
  if s.nvm.notices.any (fun n => n.code == code && n.object == object) then s
  else
    let page := 1 + min 89 s.nvm.notices.length / 30
    let ok := snapOk s page
    let s1 := if ok then snapCount page s else s
    event 0x51E0 0 (be 2 code ++ be 2 object)
      { s1 with nvm := { s1.nvm with notices := s1.nvm.notices ++ [{ code := code, object := object, life := s1.ao.life, utc := utcStamp s1, rtcSet := s1.ao.rtcSet, stored := ok }] } }

/-- A notice that the snapshot allowance deferred, stored once it permits (R490). -/
def storeNotices (s : State) : State :=
  (s.nvm.notices.zipIdx).foldl (fun acc e =>
    if e.1.stored || !snapOk acc (1 + min 89 e.2 / 30) then acc
    else snapCount (1 + min 89 e.2 / 30) { acc with nvm := { acc.nvm with notices := modAt (fun n => { n with stored := true }) e.2 acc.nvm.notices } }) s

/-- LAMP_EOL and MOTOR_EOL of one channel (R489, R490): the wear counter reaches EOL_PCT of the rated life in hours. -/
def wearNotice (s : State) (o : Nat) : State :=
  let rated := (tw s).life.rated.getD o 0
  if rated != 0 && decide ((tw s).life.eolPct * rated * 3600 ≤ lifeCtr s 0x04 o * 100) then
    if motorChannel s o then raiseNotice 0x0002 o s
    else if lampType (chanCfg s o) then raiseNotice 0x0001 o s else s
  else s

/-- The most worn sector and its erases. -/
def worstSector (s : State) : Nat × Nat :=
  (s.nvm.life.filter (fun c => c.cls == 0x58)).foldl (fun acc c => if acc.2 < c.val then (c.idx, c.val) else acc) (0, 0)

/-- Blade wear in %, not clipped (R490). -/
def bladeWear (s : State) : Nat := lifeCtr s 0x40 1 * 100 / ((tw s).life.bladeRated * 1000)

/-- Every notice condition evaluated, as at each frame (R490). -/
def evalNotices (s : State) : State :=
  let s1 := (List.range 56).foldl wearNotice s
  let s2 := if decide ((tw s1).life.bladePct ≤ bladeWear s1) then raiseNotice 0x0003 0 s1 else s1
  let w := worstSector s2
  let s3 := if 80000 ≤ w.2 then raiseNotice 0x0004 w.1 s2 else s2
  let s4 := if (tw s3).life.slotRated ≤ lifeCtr s3 0x30 0 then raiseNotice 0x0005 0 s3 else s3
  storeNotices s4

/-- A frame with its evaluation of notices (R481, R490). -/
def flushLife (shutdown : Bool) (s : State) : State := evalNotices (journalFrame shutdown s)

/-- A snapshot page written for a learnt profile or a calibration (R140, R173). -/
def fracAdd (o n : Nat) (s : State) : State × Nat :=
  let v := s.nvm.frac.getD o 0 + n
  ({ s with nvm := { s.nvm with frac := setAt o (v % 1024) s.nvm.frac } }, v / 1024)

/-- Twill's data-NVM counters after a start that lost the life region: each counter reads its newest valid frame (R484, R485). -/
def loseUnflushed (s : State) : State :=
  { s with nvm := { s.nvm with life := (s.nvm.life.map (fun c => { c with val := c.flushed, since := 0 })).filter (fun c => c.val != 0), frac := List.replicate 56 0 } }

end Sys2Proof.Machine
end

