-- ==== Sys2Proof/Machine/NvmRun.lean ====
section
/-! DEFINITION. Operations of the data NVM over their time: a Twill commit, and what a reset leaves of an operation in progress (R447, R450 to R454, R474, 16_persistent.md). -/

namespace Sys2Proof.Machine

/-- The first read of a poisoned line since the start of SVC issues DATA_POISON with its offset (R448). -/
def readPoison (off : Nat) (s : State) : State :=
  if s.nvm.poisonRead.contains off then s else issue 0x05 0x03 off { s with nvm := { s.nvm with poisonRead := off :: s.nvm.poisonRead } }

/-- The poisoned lines that a start reads: the stamp lines, the ring and the event log (R448, R475, R484; log 140). -/
def startPoisons (s : State) : State := s.nvm.poisons.foldl (fun acc o => readPoison o acc) s

/-- A line left poisoned, by its offset (R453). -/
def poisonAt (c : Bool) (off : Nat) (s : State) : State := if c then { s with nvm := { s.nvm with poisons := off :: s.nvm.poisons } } else s

/-- A Twill copy put in place. -/
def putCopy (n : Nat) (c : TwillCopy) (s : State) : State :=
  { s with nvm := { s.nvm with copyA := if n == 0 then c else s.nvm.copyA, copyB := if n == 0 then s.nvm.copyB else c } }

/-- Steps C1 to C4 have taken their bounds, 842 ms in all (R474; log 140). -/
def commitTime (c : CommitRun) : Nat := c.startAt + ms 842

/-- A Twill commit has reached its end. -/
def commitDue (s : State) : Bool := match s.nvm.commit with
  | some c => decide (commitTime c ≤ s.now)
  | none => false

/-- The target as a complete commit leaves it (R473, R474). -/
def commitCopy (c : CommitRun) : TwillCopy := { image := c.img, stamp := some (c.seq, c.img.length, c.crc) }

/-- A commit in progress completes: steps C2 to C4 and the answer of C5 (R474). -/
def commitEnd (s : State) : State := match s.nvm.commit with
  | some c =>
    let s1 := putCopy c.target (commitCopy c) (eraseSectors (16 * c.target) 16 s)
    completeReq c.req 0x00 (be 4 c.seq) { s1 with nvm := { s1.nvm with commit := none, staging := none } }
  | none => s

/-- What an interrupted line program leaves (R450, R453): the line new, still all 0xFF, or poisoned after a power failure (free, log 7); complete before any other reset. -/
inductive LineCut where
  | new | blank | poison
  deriving DecidableEq, Repr

/-- The outcome of the line in progress. -/
def lineCut (torn : Bool) (s : State) : LineCut × State :=
  if torn then
    let d := draw s
    (if d.1 % 3 == 0 then .new else if d.1 % 3 == 1 then .blank else .poison, d.2)
  else (.new, s)

/-- A Twill commit cut (R474): in C1 the target is as it was; in C2 and C3 it is invalid; in C4 its stamp reads new or leaves it half-written. -/
def commitCut (torn : Bool) (s : State) : State := match s.nvm.commit with
  | some c =>
    let s1 := { s with nvm := { s.nvm with commit := none } }
    if s.now < c.startAt + ms 1 then s1
    else
      let s2 := eraseSectors (16 * c.target) 16 s1
      if s.now < c.startAt + ms 841 then putCopy c.target {} s2
      else
        let d := lineCut torn s2
        poisonAt (d.1 == .poison) (65536 * c.target + 0xFFF0) (putCopy c.target (if d.1 == .new then commitCopy c else { image := c.img }) d.2)
  | none => s

/-- The whole lines that an operation had programmed. -/
def linesDone (o : NvmOp) (s : State) : Nat := (s.now - o.startAt) / lineUs

/-- A line of an area whose erase was interrupted (R450): its old value, all 0xFF, or poisoned (free, log 7). -/
def erasedLine (l : Option Bytes) (s : State) : Option Bytes × State :=
  let d := draw s
  (if d.1 % 3 == 0 then l else if d.1 % 3 == 1 then some (List.replicate 16 0xFF) else none, d.2)

/-- The lines of an area whose erase was interrupted. -/
def erasedLines : List (Option Bytes) → State → List (Option Bytes) × State
  | [], s => ([], s)
  | l :: r, s =>
    let x := erasedLine l s
    let y := erasedLines r x.2
    (x.1 :: y.1, y.2)

/-- A raw area changed. -/
def modRaw (a : Nat) (f : RawArea → RawArea) (s : State) : State := { s with nvm := { s.nvm with raw := modAt f a s.nvm.raw } }

/-- A counter whose newest frame did not complete: unwritten again (R484, R485). -/
def unflush (old : List LifeCtr) (c : LifeCtr) : LifeCtr :=
  match old.find? (fun o => o.cls == c.cls && o.idx == c.idx) with
  | some o => { c with flushed := o.flushed, line := o.line, since := max 1 o.since }
  | none => { c with flushed := 0, line := 0, since := max 1 c.since }

/-- One operation cut (R450 to R453): a page reads its old value; of an append the lines not started stay 0xFF; a frame or an entry without its last line is not valid (R484, R492). -/
def opCut (torn : Bool) (s : State) (o : NvmOp) : State :=
  if o.endAt ≤ s.now then s
  else match o.work with
  | .page a p old => { s with nvm := { s.nvm with atomic := modAt (modAt (fun x => { old with writes := x.writes, eraseAt := x.eraseAt }) p) a s.nvm.atomic } }
  | .append a first =>
    let d := lineCut torn s
    let k := first + linesDone o s
    modRaw a (fun x => { x with lines := match d.1 with
      | .new => x.lines.take (k + 1)
      | .blank => x.lines.take k
      | .poison => x.lines.take k ++ [none] }) d.2
  | .erase a old =>
    if torn then
      let d := erasedLines old s
      modRaw a (fun x => { x with lines := d.1, eraseAgain := true }) d.2
    else s
  | .frame f n journal life evict positions =>
    let d := lineCut torn s
    let k := linesDone o s
    let written := if d.1 == .new then k + 1 else k
    if n ≤ written then d.2
    else
      let s1 := d.2
      poisonAt (d.1 == .poison) (0x24000 + 16 * ((f.line + k) % 15872)) { s1 with nvm := { s1.nvm with
          journal := if written == 0 then journal else { f with closed := false } :: journal,
          nextFrame := if written == 0 then f.num else s1.nvm.nextFrame,
          head := f.line + written + bit (d.1 == .poison), life := s1.nvm.life.map (unflush life), evict := evict, positions := positions } }
  | .entry i log =>
    let d := lineCut torn s
    if decide (1 ≤ linesDone o s) && d.1 == .new then d.2
    else poisonAt (d.1 == .poison) (0x62000 + 32 * (i % 1792) + 16 * linesDone o s) { d.2 with nvm := { d.2.nvm with log := log } }

/-- Every operation in progress cut by a reset, the newest first: torn by POR, BOR and LPBO only (R450). -/
def nvmCut (torn : Bool) (s : State) : State :=
  let s1 := commitCut torn (s.nvm.ops.reverse.foldl (opCut torn) s)
  { s1 with nvm := { s1.nvm with ops := [] } }

end Sys2Proof.Machine
end

