-- ==== Sys2Proof/Machine/KeyRun.lean ====
section
/-! DEFINITION. A key update over its steps: the time each takes, the commit, and what interrupts it (R307 to R309, 10_enclave.md). -/

namespace Sys2Proof.Machine

/-- A slot. -/
def getSlot (s : State) (n : Nat) : KeySlot := s.enc.slots.getD n {}

/-- A slot changed. -/
def modSlot (n : Nat) (f : KeySlot → KeySlot) (s : State) : State :=
  { s with enc := { s.enc with slots := modAt f n s.enc.slots } }

/-- Steps 2 to 7 of R307: the new cell, the commit by G + 1, the former cell erased. -/
def commitKey (c : Cell) (k : KeySlot) : KeySlot :=
  let n := { c with gen := k.g + 1 }
  if (k.a.filter (fun x => x.gen == k.g)).isSome then { k with b := some n, a := none, g := k.g + 1 } else { k with a := some n, b := none, g := k.g + 1 }

/-- Step 5 of a key update begins 57 ms after its start: steps 1 to 4 take their bounds (R307; log 109). -/
def keyCommits (u : KeyUpdate) : Nat := u.startAt + ms 57

/-- The answer of a key update is due: step 5 has taken its 5 ms (R307). -/
def keyAnswers (u : KeyUpdate) : Nat := u.startAt + ms 62

/-- The former active cell is erased: the update has ended (R307 step 7). -/
def keyEnds (u : KeyUpdate) : Nat := u.startAt + ms 102

/-- A key update has something to do now. -/
def keyDue (s : State) (u : KeyUpdate) : Bool :=
  s.enc.avail && !u.cut && (if u.committed then decide (keyEnds u ≤ s.now) else decide (keyAnswers u ≤ s.now))

/-- One key update changed. -/
def modUpdate (u : KeyUpdate) (f : KeyUpdate → KeyUpdate) (s : State) : State :=
  { s with enc := { s.enc with updating := s.enc.updating.map (fun x => if x == u then f x else x) } }

/-- One key update ended. -/
def dropUpdate (u : KeyUpdate) (s : State) : State := { s with enc := { s.enc with updating := s.enc.updating.filter (fun x => x != u) } }

/-- The commit of a key update: the single write of G (R307 step 5). -/
def keyCommit (u : KeyUpdate) (s : State) : State := modSlot u.slot (commitKey u.cell) (modUpdate u (fun x => { x with committed := true }) s)

/-- A key update goes on: the commit with its answer ST_OK (steps 5 and 6), or its end (step 7). -/
def keyGo (u : KeyUpdate) (s : State) : State :=
  if !keyDue s u then s
  else if u.committed then dropUpdate u s
  else completeReq u.req 0x00 (be 4 (u.g + 1)) (keyCommit u s)

/-- Every key update goes on. -/
def keyStep (s : State) : State := s.enc.updating.foldl (fun acc u => keyGo u acc) s

/-- A key update whose enclave stops (R307): before step 5 nothing is committed; in step 5 the write of G leaves the old or the new value (free, log 7); after it the new key is active. -/
def keyCut (s : State) (u : KeyUpdate) : State :=
  if u.committed then dropUpdate u s
  else
    let d := draw s
    let s1 := if decide (keyAnswers u ≤ s.now) || (decide (keyCommits u ≤ s.now) && d.1 % 2 == 1) then modSlot u.slot (commitKey u.cell) d.2 else d.2
    modUpdate u (fun x => { x with cut := true }) s1

/-- The bound of a floor raise, as for the write of G (R307 step 5; log 141). -/
def raiseEnds (u : RaiseRun) : Nat := u.startAt + ms 5

/-- A floor raise has something to do now. -/
def raiseDue (s : State) (u : RaiseRun) : Bool := s.enc.avail && !u.cut && decide (raiseEnds u ≤ s.now)

/-- A floor raised, never lowered (R312). -/
def raiseTo (kind v : Nat) (s : State) : State := { s with enc := { s.enc with counters := modAt (fun x => max v x) kind s.enc.counters } }

/-- One raise ended. -/
def dropRaise (u : RaiseRun) (s : State) : State := { s with enc := { s.enc with raising := s.enc.raising.filter (fun x => x != u) } }

/-- A floor raise ends: the counter, and the answer with the floor (R509). -/
def raiseGo (s : State) (u : RaiseRun) : State :=
  let s1 := raiseTo u.kind u.value (dropRaise u s)
  completeReq u.req 0x00 (be 4 (s1.enc.counters.getD u.kind 0)) s1

/-- The enclave's work whose time has come: key updates and floor raises. -/
def encDue (s : State) : Bool := s.enc.updating.any (keyDue s) || s.enc.raising.any (raiseDue s)

/-- That work done. -/
def encStep (s : State) : State := let s1 := keyStep s; (s1.enc.raising.filter (raiseDue s1)).foldl raiseGo s1

/-- A raise interrupted leaves the old or the new value (R312; free, log 7). -/
def raiseCut (s : State) (u : RaiseRun) : State :=
  let d := draw s
  let s1 := if d.1 % 2 == 1 then raiseTo u.kind u.value d.2 else d.2
  { s1 with enc := { s1.enc with raising := s1.enc.raising.map (fun x => if x == u then { x with cut := true } else x) } }

/-- Every key update and floor raise cut (R307, R309, R312). -/
def keysCut (s : State) : State :=
  let s1 := (s.enc.updating.filter (fun u => !u.cut)).foldl keyCut s
  (s1.enc.raising.filter (fun u => !u.cut)).foldl raiseCut s1

/-- A raise that an ENCR cut is answered ST_INTERNAL (R509). -/
def raisesReturn (s : State) : State := (s.enc.raising.filter (fun u => u.cut)).foldl (fun acc u => completeReq u.req 0x16 [] (dropRaise u acc)) s

/-- The enclave has returned (R309): Smisa reads G and answers ST_OK where it advanced, ST_INTERNAL otherwise. -/
def keysReturn (s0 : State) : State :=
  let s := raisesReturn s0
  (s.enc.updating.filter (fun u => u.cut)).foldl (fun acc u =>
    let s1 := dropUpdate u acc
    if (getSlot acc u.slot).g == u.g + 1 then completeReq u.req 0x00 (be 4 (u.g + 1)) s1 else completeReq u.req 0x16 [] s1) s

/-- S3 of a supply shutdown begins (R309, R419): an update that has not begun step 5 is abandoned; any other completes within S3. Neither is answered. -/
def keysShutdown (s : State) : State :=
  s.enc.updating.foldl (fun acc u => dropUpdate u (if !u.committed && !u.cut && decide (keyCommits u ≤ acc.now) then modSlot u.slot (commitKey u.cell) acc else acc)) s

/-- S3 completes the floor raises that have begun (R419). -/
def raisesShutdown (s : State) : State := (s.enc.raising.filter (fun u => !u.cut)).foldl raiseGo s

end Sys2Proof.Machine
end

