-- ==== Sys2Proof/Machine/Levels.lean ====
section
/-! DEFINITION. The trigger levels of mode policy and the sources that give them (R17, R22, 01_system.md; R459, R460, 16_persistent.md), and the tag state (R264, 09_tag.md). -/

namespace Sys2Proof.Machine

/-- A trigger level has changed (R18, R414, R420): the awake timer restarts, a shutdown by mode policy before S3 is to be aborted and one from S3 on is followed by a wake with `src`, and mode policy evaluates before the command ends. -/
def levelChanged (src : Nat) (s : State) : State :=
  let s1 := { s with mode := { s.mode with trigAt := s.now }, pwr := { s.pwr with parkRefused := false }, work := true }
  match s1.pwr.shutdown with
  | some d =>
    if d.target == 0 then s1
    else if d.step < 3 then { s1 with pwr := { s1.pwr with shutdown := some { d with abort := true } } }
    else if d.target == 1 then { s1 with pwr := { s1.pwr with shutdown := some { d with wake := some (d.wake.getD src) } } }
    else s1
  | none =>
    if s1.pwr.awakeAt.isSome then { s1 with pwr := { s1.pwr with awakeAt := some (s1.now + (tw s1).power.awake10ms * 10000) } } else s1

/-- The place of a value in MAP (R460): 0xFF marks an unused place and names no value. -/
def mapPlace (v : Nat) (map : List Nat) : Option Nat :=
  if v == 0xFF then none else map.findIdx? (fun m => m == v)

/-- The ignition state of a MAP place (R460). -/
def ignOf : Nat → Ign
  | 0 => .off | 1 => .acc | 2 => .run | _ => .crank

/-- The source's time-out from now, for a CAN or station source (R459). -/
def sourceTimeout (s : State) : Option Nat :=
  if (tw s).mode.ign.kind == 0 || (tw s).mode.ign.kind == 3 then some (s.now + ms (tw s).mode.srcTimeoutMs) else none

/-- A valid ignition state (R17, R22): at OFF the wiper parks in every mode (R136); a reported CRANK that was left on its limit ends with any other state (R21). -/
def setIgn (src : Nat) (v : Ign) (s : State) : State :=
  let s1 := { s with mode := { s.mode with ign := v, ignValid := true, ignTimeoutAt := sourceTimeout s, ignOffAt := none, crankSpent := s.mode.crankSpent && v == .crank } }
  if s.mode.ign == v then s1 else levelChanged src (if v == .off then wiperRest s1 else s1)

/-- The ignition source becomes invalid (R22): the last state is held, IGN_LOST is issued, and 10 min later it is OFF. -/
def loseIgn (s : State) : State :=
  if s.mode.ignOffAt.isSome then s
  else issue 0x28 0x01 0 { s with mode := { s.mode with ignValid := false, ignTimeoutAt := none, ignOffAt := some (s.now + sec 600) } }

/-- A lock level (R17, R18): the linger counts from the last lock. -/
def setLock (src : Nat) (v : LockState) (s : State) : State :=
  if s.mode.lock == v then s
  else levelChanged src { s with mode := { s.mode with lock := v, lockAt := if v == .locked then s.now else s.mode.lockAt } }

/-- The door-open level (R18, R459): the linger counts from the last close. -/
def setDoor (src : Nat) (v : Bool) (s : State) : State :=
  if s.mode.door == v then s
  else levelChanged src { s with mode := { s.mode with door := v, doorAt := if v then s.mode.doorAt else s.now } }

/-- The ignition source reads a value, or none where it is cut short or absent (R460). -/
def readIgn (src : Nat) (v : Option Nat) (s : State) : State :=
  let s0 := { s with mode := { s.mode with ignRaw := v } }
  match v.bind (fun x => mapPlace x (tw s).mode.ign.map) with
  | some k => setIgn src (ignOf k) s0
  | none => loseIgn s0

/-- The lock source reads a value; an invalid one holds the last state (R460). -/
def readLock (src : Nat) (v : Option Nat) (s : State) : State :=
  let s0 := { s with mode := { s.mode with lockRaw := v } }
  match v.bind (fun x => mapPlace x (tw s).mode.lock.map) with
  | some 0 => setLock src .locked { s0 with mode := { s0.mode with lockValid := true } }
  | some _ => setLock src .unlocked { s0 with mode := { s0.mode with lockValid := true } }
  | none => { s0 with mode := { s0.mode with lockValid := false } }

/-- A signal in bytes: (data[BYTE] >> SHIFT) AND (2^WIDTH − 1); none where the data are too short (R460). -/
def signalOf (d : SrcDesc) (data : Bytes) : Option Nat :=
  if d.byte < data.length then some ((byte data d.byte >>> d.shift) % 2 ^ d.width) else none

/-- A CAN frame feeds the mode sources (R17, R239, R460). -/
def feedCan (ch : Nat) (f : CanFrame) (s : State) : State :=
  let hit := fun (d : SrcDesc) => d.kind == 0 && d.loc == ch && d.id == f.id && d.ext == f.ext
  let s1 := if hit (tw s).mode.ign then readIgn 0x40 (signalOf (tw s).mode.ign f.data) s else s
  if hit (tw s1).mode.lock then readLock 0x40 (signalOf (tw s1).mode.lock f.data) s1 else s1

/-- The door-open summary taken again (R459). -/
def refreshDoor (src : Nat) (s : State) : State :=
  setDoor src ((List.range 24).any (fun n => tbit (tw s).mode.doorSw n && (s.scan.sw.getD n {}).closed) || s.mode.depDoor) s

/-- A debounced switch state feeds the mode sources and the doors (R17, R459, R460). -/
def feedSwitch (n : Nat) (s : State) : State :=
  let v := some (bit (s.scan.sw.getD n {}).closed)
  let hit := fun (d : SrcDesc) => d.kind == 1 && d.loc == n
  let s1 := if hit (tw s).mode.ign then readIgn (0x10 + n) v s else s
  let s2 := if hit (tw s1).mode.lock then readLock (0x10 + n) v s1 else s1
  refreshDoor (0x10 + n) s2

/-- A ladder code feeds the mode sources (R460): code 0xFF is invalid. -/
def feedLadder (n code : Nat) (s : State) : State :=
  let v := if code == 0xFF then none else some code
  let hit := fun (d : SrcDesc) => d.kind == 2 && d.loc == n
  let s1 := if hit (tw s).mode.ign then readIgn 0x70 v s else s
  if hit (tw s1).mode.lock then readLock 0x70 v s1 else s1

/-- Inputs accepted from a station feed the mode sources (R460). -/
def feedStation (addr : Nat) (data : Bytes) (s : State) : State :=
  let hit := fun (d : SrcDesc) => d.kind == 3 && d.loc == addr
  let s1 := if hit (tw s).mode.ign then readIgn 0x48 (signalOf (tw s).mode.ign data) s else s
  if hit (tw s1).mode.lock then readLock 0x48 (signalOf (tw s1).mode.lock data) s1 else s1

/-- A station that is not ACTIVE or STALE makes an ignition or lock source on it invalid (R229, R459). -/
def loseStation (addr : Nat) (s : State) : State :=
  let s1 := if (tw s).mode.lock.kind == 3 && (tw s).mode.lock.loc == addr then { s with mode := { s.mode with lockValid := false } } else s
  if (tw s).mode.ign.kind == 3 && (tw s).mode.ign.loc == addr then loseIgn s1 else s1

/-- The code of a state as STN.GET and STN.STATE give it (03_commands.md). -/
def stnCode : StnState → Nat
  | .absent => 0 | .joining => 1 | .refused => 1 | .active => 2 | .stale => 3 | .lost => 4

/-- A source SRC_STN names its station: the port in bits 9:8, the address in bits 7:0 (DESIGN CHOICE, log 21). -/
def stnDetail (p a : Nat) : Nat := p * 256 + a

/-- A station is ACTIVE or STALE: it takes part in snapshots, fresh or substituted (R216). -/
def inSnapshot (x : Station) : Bool := x.st == .active || x.st == .stale

/-- The state changed: STN.STATE but between ACTIVE and STALE, a Notice on entry to LOST, counted in class 0x20, the mode sources on the station, and the dependencies due (R224, R228, R229, R479). -/
def setStn (p a : Nat) (new : StnState) (s : State) : State :=
  let x := getStn s a
  if x.st == new then s
  else
    let s1 := modStn a (fun x => { x with st := new }) { s with mill := { s.mill with depsDue := true } }
    let live := new == .active || new == .stale
    let s2 := if stnCode x.st == stnCode new || (inSnapshot x && live) then s1 else event 0x20E0 0 [b8 a, b8 (stnCode x.st), b8 (stnCode new)] s1
    let s3 := if new == .lost then issue 0x20 0x03 (stnDetail p a) (bump 0x20 a 1 s2) else s2
    if inSnapshot x && !live then loseStation a s3 else s3

/-- The addresses 1 to 255. -/
def allAddrs : List Nat := List.range' 1 255

/-- Every station ABSENT (R223, R234, R442). -/
def absentAll (s : State) : State := allAddrs.foldl (fun acc a => setStn (((stationCfg acc a).getD {}).port) a .absent acc) s

/-- The enclave event buffer is full (R14). -/
def tagBufferFull (s : State) : Bool := decide (32 ≤ s.tag.buffer.length)

/-- The tag is enabled: flag of enclave NVM and Twill (R263). -/
def tagEnabled (s : State) : Bool := s.tag.enableFlag && (tw s).tag.enabled && s.otp.part == .bz7460

/-- The tag state of the first row that holds (R264). -/
def tagState (s : State) : Nat :=
  if !tagEnabled s || s.nvm.active.isNone then 0
  else if s.enc.segregated then 4
  else if !s.enc.avail || tagBufferFull s || s.tag.apduRuns then 1
  else if s.tag.ins == 2 then 3
  else if (tw s).tag.identity then 2
  else 1

/-- The tag state taken again on a change of its inputs (R264). -/
def tagEval (s : State) : State := { s with tag := { s.tag with state := tagState s } }

/-- A switch input's configuration (R466). -/
def swCfg (s : State) (n : Nat) : TwSwitch := (tw s).inputs.input.getD n {}

/-- A switch input's run-time state. -/
def getSw (s : State) (n : Nat) : SwSt := s.scan.sw.getD n {}

/-- A switch input changed. -/
def modSw (n : Nat) (f : SwSt → SwSt) (s : State) : State := { s with scan := { s.scan with sw := modAt f n s.scan.sw } }

/-- A sample as a reading: closed or open by the thresholds of R145, the previous reading between them. -/
def swReading (s : State) (n mv : Nat) : Bool :=
  let v := s.env.vbat
  if (swCfg s n).toBatt then (if 6 * v < 10 * mv then true else if 2 * mv < v then false else (getSw s n).reading)
  else (if 10 * mv < 4 * v then true else if v < 2 * mv then false else (getSw s n).reading)

/-- The states word of IN.CHANGE and of the watch mask: SW in bits 23:0, WAKE in bits 27:24 (R149, R153). -/
def inStates (s : State) : Nat :=
  mask (s.scan.sw.map (fun w => w.closed)) + 2 ^ 24 * mask (s.scan.pins.map (fun p => p.active))

/-- Every switch input debounced anew from the voltages present (R155): the polls at 1 ms intervals read one level each, so that the count ends in that reading (log 124); an input that reads open has no stuck time (R150). -/
def pollAll (s : State) : State :=
  let s1 := { s with scan := { s.scan with sw := mapIdx (fun n w =>
      let rd := swReading s n (s.env.swMv.getD n 0)
      { w with closed := rd, reading := rd, count := 0, burst := false, stuckUs := if rd then w.stuckUs else 0, stuckRaised := w.stuckRaised && rd }) 0 s.scan.sw } }
  (List.range 24).foldl (fun acc n => feedSwitch n acc) s1

/-- The initial debounce of a start, before the first output control (R155, R444): no event follows. -/
def initialDebounce (s : State) : State :=
  let s2 := pollAll s
  { s2 with scan := { s2.scan with reported := inStates s2, fresh := 1 } }

/-- The initial debounce at SCAN's return to ON from OFF or a DOM reset (R155): IN.CHANGE follows for watched inputs that differ from what was last reported, and the keys debounce afresh. -/
def scanReturn (s : State) : State :=
  let s1 := pollAll s
  { s1 with scan := { s1.scan with fresh := 2, changeDue := true, changeAt := some s1.now, keys := s1.scan.keys.map (fun k => { k with count := 0 }) }, work := true }

end Sys2Proof.Machine
end

