-- ==== Sys2Proof/Machine/Power.lean ====
section
/-! DEFINITION. Power domains, refusers, the load estimate and the regulator (R396 to R408; 14_power.md), and what each domain does when it leaves or reaches ON. -/

namespace Sys2Proof.Machine

/-- The twelve domains in the order of R79. -/
def allDomains : List Domain := [.svc, .mema, .memb, .nvm, .enc, .rfd, .net, .vbus, .scan, .outA, .outB, .ana]

/-- A die has a channel with parking value ON (R131, R400). -/
def dieParks (s : State) (d : Die) : Bool := (List.range 56).any (fun o => dieOf o == d && (chanCfg s o).park)

/-- The order of domain states. -/
def stRank : DomState → Nat
  | .off => 0 | .ret => 1 | .on => 2

/-- The higher of two states. -/
def stMax (a b : DomState) : DomState := if stRank a < stRank b then b else a

/-- A state of a code 0 OFF, 1 RET, 2 ON. -/
def stOf : Nat → DomState
  | 0 => .off | 1 => .ret | _ => .on

/-- The PARKED-asleep default of a domain before Twill raises it (R400). -/
def asleepDefault (s : State) : Domain → DomState
  | .svc => .ret | .mema => .ret | .memb => .off | .nvm => .off | .enc => .ret
  | .rfd => if tagEnabled s && (tw s).tag.fieldDetect then .ret else .off
  | .net => if (tw s).power.wakePort == 0xFF then .off else .ret
  | .vbus => .ret | .scan => .ret
  | .outA => if dieParks s .a then .on else .off
  | .outB => if dieParks s .b then .on else .off
  | .ana => .off

/-- The PARKED-asleep state of a domain with Twill's raise (R401, R461). -/
def asleepState (s : State) (d : Domain) : DomState := stMax (asleepDefault s d) (stOf ((tw s).power.asleep.getD (domCode d) 0))

/-- The RFD domain of a BZ-7464 reads permanently OFF (R2, 00_scope.md). -/
def noRfd (s : State) (d : Domain) : Bool := d == .rfd && s.otp.part == .bz7464

/-- The mode default of a domain (R400). -/
def modeDefault (s : State) (d : Domain) : DomState :=
  if noRfd s d || s.mode.mode == .transport then .off
  else if s.pwr.asleep then asleepState s d else .on

/-- The state a domain is to have: its override, or the mode default (R402). -/
def domTarget (s : State) (d : Domain) : DomState :=
  if noRfd s d then .off else ((s.pwr.override.getD (domCode d) none).getD (modeDefault s d))

/-- A Recoverable message waits for its acknowledgement (R354, R355). -/
def ackOpen (s : State) : Bool := s.fab.queue.any (fun e => e.unacked) || s.fab.taken.any (fun e => e.unacked)

/-- CONFLUENCE refuses every entry (R355, R366). -/
def confluenceHolds (s : State) : Bool :=
  s.ao.severeAt.isSome || s.ao.grave.isSome || ackOpen s || s.fab.queue.any (fun e => e.msg.cls == .severe || e.msg.cls == .grave)

/-- A tag transaction runs or a write-back is pending (R261). -/
def tagBusy (s : State) : Bool := s.tag.txn.isSome || s.tag.wbAt.isSome || s.tag.wb.isSome

/-- A request of one of some codes has begun and is not answered. -/
def running (s : State) (codes : List Nat) : Bool :=
  [Transport.spi, .can, .eth].any (fun t => (getPort s t).slots.any (fun x => x.started && x.done.isNone && codes.contains x.code))

/-- Key update, counter raise, enclave NVM write, attestation or session setup in progress (R293). -/
def encBusy (s : State) : Bool := !s.enc.updating.isEmpty || !s.enc.raising.isEmpty || running s [0x3002, 0x3202, 0x3203, 0x3205, 0x3206, 0x6005]

/-- A program or data NVM write or erase runs (R403). -/
def nvmBusy (s : State) : Bool := running s [0x5004, 0x5104, 0x6003, 0x6005] || s.nvm.ops.any (fun o => decide (s.now < o.endAt))

/-- A channel of a die is in ON or PWM (R403), or on at parking value ON (R131). -/
def dieActive (s : State) (d : Die) : Bool :=
  (s.outs.chans.zipIdx).any (fun e => dieOf e.2 == d && (e.1.drive.mode == 1 || e.1.drive.mode == 2))

/-- The refuser of an entry that lowers a domain, first in the order of R404. The engine runs where a port of it is enabled (DEDUCED, log 41). -/
def refuserOf (s : State) (d : Domain) : Option Nat :=
  let leaves := isOn s d
  if confluenceHolds s then some 8
  else if leaves && (d == .rfd || d == .enc) && tagBusy s then some 9
  else if leaves && d == .enc && encBusy s then some 2
  else if leaves && d == .nvm && nvmBusy s then some 3
  else if leaves && d == .net && ((s.mill.on && (tw s).ports.any (fun p => p.enabled)) || s.mill.parking) then some 5
  else if leaves && ((d == .outA && dieActive s .a) || (d == .outB && dieActive s .b) || (d == .ana && s.hap.playing.isSome)) then some 4
  else none

/-- A refusal or an abort counted, and its refuser recorded (R405). -/
def countRefusal (c : Nat) (s : State) : State :=
  { s with ao := { s.ao with refusals := modAt (satInc 0xFFFF) (c - 1) s.ao.refusals, lastRefuser := c } }

/-- The LP-path estimate of a domain state in 0.01 µA (R406). -/
def domEstimate : Domain → DomState → Nat
  | _, .off => 0
  | .svc, .on => 6000000 | .svc, .ret => 25
  | .mema, .on => 300000 | .mema, .ret => 80
  | .memb, .on => 300000 | .memb, .ret => 80
  | .nvm, .on => 1500000 | .nvm, .ret => 200
  | .enc, .on => 2000000 | .enc, .ret => 30
  | .rfd, .on => 3000000 | .rfd, .ret => 300
  | .net, .on => 4500000 | .net, .ret => 120
  | .vbus, .on => 600000 | .vbus, .ret => 180
  | .scan, .on => 60000 | .scan, .ret => 65
  | .outA, .on => 35000 | .outA, .ret => 1000
  | .outB, .on => 45000 | .outB, .ret => 1200
  | .ana, .on => 400000 | .ana, .ret => 500

/-- Channels held on at their parking value (R131, R406). -/
def parkedOn (s : State) : Nat := ((s.outs.chans.zipIdx).filter (fun e => e.1.drive.mode != 0 && (chanCfg s e.2).park)).length

/-- The load estimate in 0.01 µA (R406). -/
def loadEstimate (s : State) : Nat :=
  (allDomains.map (fun d => domEstimate d (domSt s d))).sum + 60 + 4000 * parkedOn s + 1000 * (tw s).power.extV33

/-- Switch inputs that read closed. -/
def closedInputs (s : State) : Nat := (s.scan.sw.filter (fun w => w.closed)).length

/-- The typical supply current in TRANSPORT and PARKED asleep, in 0.01 µA at 12.0 V and 25 °C with no load (R416). -/
def parkedCurrent (s : State) : Nat :=
  if s.mode.mode == .transport then 45 + 10
  else
    let ret := fun (d : Domain) (n : Nat) => if domSt s d == .ret then n else 0
    45 + 10 + 25 + 60 + ret .scan (40 + 40 * closedInputs s + (if (tw s).keys.scanned then 25 else 0)) + ret .vbus 180 + ret .net 120 +
      ret .svc 25 + ret .mema 80 + ret .enc 30 + ret .rfd 300

/-- A domain that needs full mode is ON (R396). -/
def fullNeeded (s : State) : Bool := [Domain.svc, .mema, .memb, .nvm, .enc, .rfd, .net, .vbus].any (isOn s)

/-- A domain's state written. -/
def setDom (d : Domain) (x : DomState) (s : State) : State := { s with pwr := { s.pwr with dom := setAt (domCode d) x s.pwr.dom } }

/-- The CAN channels when VBUS leaves ON (R244): CAN0 in selective wake sense where Twill enables it and VBUS goes to RET, otherwise off; only BUS.SEND frames stay, for their time-out. -/
def canDown (ret : Bool) (s : State) : State :=
  { s with bus := { s.bus with can := mapIdx (fun ch c =>
      let sel := ret && ch == 0 && (tw s).can.any (fun x => x.ch == 0 && x.enabled && x.selWake)
      { c with state := if sel then 4 else 0, wakeErr := 0, recoverAt := none,
               queue := c.queue.filter (fun e => match e.origin with
                 | .busSend _ _ _ => true
                 | _ => false) }) 0 s.bus.can } }

/-- The protected identifier of a LIN frame: its two parity bits above the identifier (ISO 17987; PRESUMED, log 106). -/
def linPid (id : Nat) : Byte :=
  let b := fun n => bit (tbit id n)
  b8 (id % 64 + 64 * ((b 0 + b 1 + b 2 + b 4) % 2) + 128 * ((b 1 + b 3 + b 4 + b 5 + 1) % 2))

/-- The LIN checksum: the inverted sum with carry over the data, and over the protected identifier too where it is enhanced (ISO 17987; PRESUMED, log 106). -/
def linSum (enhanced : Bool) (pid : Byte) (d : Bytes) : Byte :=
  b8 (255 - (((if enhanced then pid.toNat else 0) :: d.map (fun x => x.toNat)).foldl (fun a x => if 255 < a + x then a + x - 255 else a + x) 0))

/-- A frame put on a LIN bus: the newest 16 stay visible (log 9). -/
def linPut (o : LinOut) (c : LinChan) : LinChan := { c with sent := (o :: c.sent).take 16 }

/-- The go-to-sleep command: 0x3C with 0x00 and seven 0xFF (ISO 17987; PRESUMED, log 106). -/
def linSleep : LinOut :=
  let d : Bytes := 0x00 :: List.replicate 7 0xFF
  { pid := linPid 0x3C, data := d ++ [linSum false (linPid 0x3C) d] }

/-- The LIN channels when VBUS leaves ON (R248): each running one sends go-to-sleep and is asleep; off with VBUS OFF. -/
def linDown (ret : Bool) (s : State) : State :=
  { s with bus := { s.bus with lin := s.bus.lin.map (fun c =>
      { (if c.state == 1 then linPut linSleep c else c) with state := if c.state == 0 then 0 else if ret then 2 else 0, slept := c.slept || c.state == 1, woken := false, startAt := none }) } }

/-- A CAN channel enabled in Twill (R470). -/
def canEnabled (s : State) (ch : Nat) : Bool := (tw s).can.any (fun x => x.ch == ch && x.enabled)

/-- A LIN channel enabled in Twill (R470). -/
def linEnabled (s : State) (ch : Nat) : Bool := (tw s).lin.any (fun x => x.ch == ch && x.enabled)

/-- The buses when VBUS reaches ON: CAN error active, LIN with its wake-up signal and schedule 0 in 100 ms (R248); after an XTAL25 failure CAN stays off (R431). -/
def busUp (s : State) : State :=
  { s with bus := { s.bus with
      can := mapIdx (fun ch c => if canEnabled s ch && !s.pwr.fallback then { c with state := 1, tec := 0, rec_ := 0, recoverAt := none, wakeErr := 0 } else { c with state := 0 }) 0 s.bus.can,
      lin := mapIdx (fun ch c => if linEnabled s ch then { c with state := 2, slept := false, woken := true, startAt := some (s.now + ms 100), slot := 0, next := none, resume := none } else { c with state := 0 }) 0 s.bus.lin } }

/-- The Millrace engine and its stations lost with NET (R398, R442). -/
def millDown (s : State) : State :=
  let s1 := absentAll s
  { s1 with mill := { s1.mill with
      on := false, startDue := false, parking := false, keyRetryAt := none, keys := [], segWait := [],
      ports := s1.mill.ports.map (fun p => { p with running := false, keyWait := false, cleared := false, stopNext := false, cycle := none, computing := none, computed := none, resQueue := [], learnt := [], senders := [], strays := [], refusals := [] }),
      stn := s1.mill.stn.map (fun x => { image := x.image, dflt := x.dflt, own := x.own }) } }

/-- A transport that can be served now: SVC carries all, VBUS also MBX-CAN, NET also MBX-ETH (R36); the uplink stops after an XTAL25 failure (R431). -/
def servable (s : State) : Transport → Bool
  | .spi => isOn s .svc
  | .can => isOn s .svc && isOn s .vbus && canEnabled s (tw s).transports.canCh && !s.pwr.fallback
  | .eth => isOn s .svc && isOn s .net && ethConfigured s && !s.pwr.fallback

/-- A transport served when it can be (R58). -/
def serveIf (t : Transport) (started : Option Bytes) (s : State) : State := if servable s t then serveTransport t started s else s

/-- Every transport that can be served is served. -/
def serveAll (started : Option Bytes) (s : State) : State := serveIf .eth started (serveIf .can started (serveIf .spi started s))

/-- The ADC has no samples while ANA is not ON (R156). -/
def anaDown (s : State) : State :=
  hapticOff { s with scan := { s.scan with an := s.scan.an.map (fun a => { a with mv := 0xFFFF, code := 0xFF, cand := 0xFF, count := 0 }) } }

/-- Both radios fall silent when RFD leaves ON (R398); a transaction the enclave still holds ends on its idle time (R287). -/
def rfdDown (s : State) : State := { s with tag := { s.tag with uhf := { s.tag.uhf with phase := 0, s0 := false } } }

/-- The insert state while no session is open and no acceptance has ended: checking from the insertion on, absent without an insert (R279, R284). -/
def insPending (s : State) : Nat := bit (s.env.insDet && s.otp.part == .bz7460)

/-- Enclave SRAM lost with ENC OFF (R292): a key update is cut (R307), sessions close, the insert session ends and an insert that is present waits to be accepted again, the event buffer and transactions are gone. -/
def encLost (s : State) : State :=
  let s0 := closeAuth (fun _ => true) (keysCut s)
  let s1 := if s0.tag.ins != insPending s0 && smisaRuns s0 then event 0x31E0 0 [b8 (insPending s0)] s0 else s0
  { s1 with tag := { s1.tag with txn := none, sess := none, accept := none, vcc := false, buffer := [], apdu := none, apduRuns := false, wbAt := none, wbRetry := false, wb := none, ins := insPending s1, insSent := none, recs := s1.tag.recs.map (fun r => { r with reserved := false }) },
            enc := { s1.enc with avail := false, export_ := none, drbg := 0 } }

/-- What a domain does before it leaves ON (R36, R244, R248, R292, R398). -/
def leaveOn (d : Domain) (new : DomState) (s : State) : State :=
  match d with
  | .svc => let s1 := stopTransport .eth (stopTransport .can (stopTransport .spi s)); { s1 with ext := { s1.ext with frozen := true } }
  | .enc => { s with enc := { s.enc with avail := false }, tag := { s.tag with txn := none } }
  | .rfd => rfdDown s
  | .net => millDown (stopTransport .eth s)
  | .vbus => linDown (new == .ret) (canDown (new == .ret) (stopTransport .can s))
  | .ana => anaDown s
  | _ => s

/-- What a domain loses in its new state (R398). -/
def enterState (d : Domain) (new : DomState) (s : State) : State :=
  match d with
  | .outA => applyDrives s
  | .outB => applyDrives s
  | .memb => if new == .off then { s with core := { s.core with mem := memClear s.core.mem 0x20080000 0x80000 } } else s
  | .mema => if new == .off then { s with core := { s.core with mem := memClear (memClear s.core.mem 0x20000000 0x80000) 0x40000000 0x20000 } } else s
  | .enc => tagEval (if new == .off then encLost s else s)
  | .rfd => tagEval s
  | .vbus => if new == .off then linDown false (canDown false s) else s
  | .scan => if new == .off then { s with scan := { s.scan with rects := [], rowFault := List.replicate 8 false, rowCount := List.replicate 8 0, senseLow := List.replicate 8 false, fresh := 2, sw := (suspendPolls s).scan.sw } } else s
  | _ => s

/-- A monitor's run condition (R323 to R325): SHIELD always runs one of its two checks. -/
def monitorRuns (s : State) (src : Nat) : Bool :=
  match src with
  | 1 => true
  | 5 => isOn s .ana && s.rls.mountRef.isSome
  | _ => isOn s .enc

/-- Monitors whose run condition has ended stop, and their windows are cleared (R327). -/
def stopMonitors (s : State) : State :=
  { s with enc := { s.enc with mon := mapIdx (fun i m => if monitorRuns s (i + 1) then m else { m with armed := false, armAt := none, events := [] }) 0 s.enc.mon } }

/-- The window counts of every source cleared: at a reset of ENC (R327). -/
def clearWindows (s : State) : State := { s with enc := { s.enc with mon := s.enc.mon.map (fun m => { m with events := [] }) } }

/-- Monitors whose run condition begins are armed 100 µs later (R325). -/
def armMonitors (s : State) : State :=
  { s with enc := { s.enc with mon := mapIdx (fun i m => if monitorRuns s (i + 1) && !m.armed && m.armAt.isNone then { m with armAt := some (s.now + 100) } else m) 0 s.enc.mon } }

/-- A domain lowered: what it does before, its state, what it loses, and the regulator's mode where nothing more needs full mode (R396). -/
def lowerDomain (d : Domain) (new : DomState) (s : State) : State :=
  if stRank new < stRank (domSt s d) then
    stopMonitors (enterState d new (setDom d new (if isOn s d then leaveOn d new s else s)))
  else s

/-- The regulator returns to full mode when a domain that needs it is to be ON (R396). -/
def needFull (s : State) : State := if fullNeeded s then { s with pwr := { s.pwr with full := true, lowPower := false } } else s

/-- The initial debounce runs again when SCAN reaches ON from OFF (R155, R398). -/
def scanUp (was : DomState) (s : State) : State := if was == .off then scanReturn s else s

/-- The 50 ms of a Recoverable message that arrived before SVC was ON count from here (R354). -/
def restartAcks (s : State) : State :=
  let f := fun (e : QEntry) => if e.unacked then { e with ackAt := s.now + ms 50 } else e
  { s with fab := { s.fab with queue := s.fab.queue.map f, taken := s.fab.taken.map f } }

/-- What a domain does when it reaches ON (R36, R155, R248, R292, R399); SVC brings MEMA, MEMB and NVM with it. -/
def reachOn (d : Domain) (was : DomState) (s : State) : State :=
  match d with
  | .svc => serveAll none <| restartAcks { (setDom .mema .on (setDom .memb .on (setDom .nvm .on s))) with ext := { s.ext with frozen := false }, work := true }
  | .enc => tagEval (if was == .ret && s.enc.restartAt.isNone then { s with enc := { s.enc with avail := true } } else s)
  | .rfd => tagEval s
  | .net => serveIf .eth none { s with mill := { s.mill with startDue := true } }
  | .vbus => { serveIf .can none (busUp s) with work := true }
  | .scan => scanUp was s
  | .outA => applyDrives (modDie .a (fun d => { d with window := [] }) s)
  | .outB => applyDrives (modDie .b (fun d => { d with window := [] }) s)
  | _ => s

/-- A domain raised to ON, or to RET from OFF; messages held in its sources are issued (R594). -/
def raiseDomain (d : Domain) (new : DomState) (s : State) : State :=
  if stRank (domSt s d) < stRank new then
    let was := domSt s d
    let s1 := needFull (setDom d new s)
    if new == .on then armMonitors (flushHeld (reachOn d was s1)) else s1
  else s

/-- The ignition source reports CRANK: the power controller makes no domain change of its own (R393). -/
def cranking (s : State) : Bool := smisaRuns s && s.mode.ign == .crank

/-- An entry that the power controller makes for itself (R405): refused once counted, and kept for its retry; kept uncounted while the ignition source reports CRANK (R393). -/
def tryEntry (d : Domain) (new : DomState) (s : State) : State :=
  if stRank new < stRank (domSt s d) then
    if cranking s then { s with pwr := { s.pwr with retry := s.pwr.retry.filter (fun e => e.1 != some d) ++ [(some d, new)] } }
    else match refuserOf s d with
    | none => lowerDomain d new s
    | some c =>
      let s1 := if s.pwr.retry.any (fun e => e.1 == some d) then s else countRefusal c s
      { s1 with pwr := { s1.pwr with retry := s1.pwr.retry.filter (fun e => e.1 != some d) ++ [(some d, new)] } }
  else s

/-- The refuser of the entry to low-power mode (R403, R404, R408). -/
def lpRefuser (s : State) : Option Nat :=
  if confluenceHolds s then some 8 else if s.ao.lpBlocked || decide (180000 < loadEstimate s) then some 1 else none

/-- The entry to low-power mode where nothing needs full mode (R396, R403, R406). -/
def tryLowPower (s : State) : State :=
  if fullNeeded s || s.pwr.lowPower || !s.pwr.full then s
  else match lpRefuser s with
  | none => { s with pwr := { s.pwr with full := false, lowPower := true, retry := s.pwr.retry.filter (fun e => e.1 != none) } }
  | some c =>
    let s1 := if s.pwr.retry.any (fun e => e.1 == none) then s else countRefusal c s
    { s1 with pwr := { s1.pwr with retry := s1.pwr.retry.filter (fun e => e.1 != none) ++ [(none, .off)] } }

/-- Every domain above its target lowered, each as an entry of its own (R405, R418). -/
def lowerToTargets (s : State) : State := allDomains.foldl (fun acc d => tryEntry d (domTarget acc d) acc) s

/-- Entries waiting for a retry tried again (R405): one refused again is not counted again. -/
def retryEntries (s : State) : State :=
  tryLowPower (s.pwr.retry.foldl (fun acc e => match e.1 with
    | some d => tryEntry d e.2 { acc with pwr := { acc.pwr with retry := if (refuserOf acc d).isSome then acc.pwr.retry else acc.pwr.retry.filter (fun x => x.1 != some d) } }
    | none => acc) s)

/-- Every domain below its awake state raised (R412 W3 to W5): SVC first, then the others; ENC that was OFF serves from its own start on. Under the Grave latch every domain but SVC is held where it stands (R366). -/
def raiseAll (s : State) : State :=
  (if s.ao.grave.isSome then [Domain.svc] else [Domain.svc, .enc, .rfd, .net, .vbus, .scan, .outA, .outB, .ana]).foldl (fun acc d => if noRfd acc d then acc else raiseDomain d .on acc) s

/-- The last-wake record (R410). -/
def recordWake (src : Nat) (s : State) : State :=
  { s with ao := { s.ao with wakeSource := src, wakeRtc := utcStamp s, wakeLife := s.ao.life } }

/-- Seconds in TRANSPORT or PARKED asleep added at a wake, from the life clock (R479). -/
def addSleep (s : State) : State :=
  match s.nvm.sleepLife with
  | some (l, m) => bump 0x50 m (s.ao.life - l) { s with nvm := { s.nvm with sleepLife := none } }
  | none => s

/-- A wake source that Twill configures as approach (R18, R459). -/
def approachSource (s : State) (src : Nat) : Bool :=
  let w := (tw s).mode.approachWake
  if decide (0x01 ≤ src) && decide (src ≤ 0x04) then tbit w (src - 1)
  else if decide (0x10 ≤ src) && decide (src < 0x28) then tbit (tw s).mode.approachSw (src - 0x10)
  else match src with
  | 0x30 => tbit w 4 | 0x40 => tbit w 5 | 0x48 => tbit w 6 | 0x50 => tbit w 7 | 0x58 => tbit w 8
  | _ => false

/-- A wake from PARKED asleep: W1 to W6 (R412); below 5.5 V it is held, the lowest code kept (R411); parking values end as the domains reach their awake states, and the debounced states are the reported ones (R152). -/
def wakeNow (src : Nat) (s : State) : State :=
  if s.env.vbat < 5500 then { s with ao := { s.ao with wakeHeld := some (min src (s.ao.wakeHeld.getD src)) } }
  else
    let s1 := addSleep (recordWake src s)
    let s2 := { s1 with pwr := { s1.pwr with asleep := false, asleepAt := none, wokenAt := some s1.now, retry := [], parkRefused := false, override := List.replicate 12 none },
                        outs := { s1.outs with parking := false },
                        nvm := { s1.nvm with positions := none },
                        mode := { s1.mode with approachWake := s1.mode.approachWake || approachSource s1 src },
                        scan := { s1.scan with reported := inStates s1, changeDue := false },
                        tag := { s1.tag with readyAt := if src == 0x50 then s1.now + ms 20 else s1.tag.readyAt } }
    let s3 := applyDrives (raiseAll s2)
    { s3 with pwr := { s3.pwr with awakeAt := some (s3.now + (tw s3).power.awake10ms * 10000) }, work := true }

/-- A source that becomes active within the AOK period of the wake, 30 µs, and has a lower code is the one recorded (R410). -/
def sameWake (src : Nat) (s : State) : State := match s.pwr.wokenAt with
  | some w => if decide (s.now ≤ w + 30) && decide (src < s.ao.wakeSource) then recordWake src s else s
  | none => s

/-- A wake from an event (R409): in PARKED asleep it runs; during a shutdown by mode policy it aborts it before S3 and follows it afterwards (R420, R421); otherwise the device is awake and nothing happens. -/
def wakeEvent (src : Nat) (s : State) : State :=
  match s.pwr.shutdown with
  | some d =>
    if d.target == 1 || (d.target == 2 && src == 0x01) then
      if d.step < 3 then
        { s with pwr := { s.pwr with shutdown := some { d with abort := true } }, work := true,
                 mode := { s.mode with approachWake := s.mode.approachWake || (d.target == 1 && approachSource s src) } }
      else { s with pwr := { s.pwr with shutdown := some { d with wake := some (d.wake.getD src) } } }
    else s
  | none => if s.pwr.asleep && s.mode.mode == .parked && !s.pwr.inReset && !s.pwr.supplyOff then wakeNow src s else sameWake src s

end Sys2Proof.Machine
end

