-- ==== Sys2Proof/Machine/Tamper.lean ====
section
/-! DEFINITION. Organza: monitors, filters, alarms, sticky flags and the tamper log (R322 to R347, 11_tamper.md). -/

namespace Sys2Proof.Machine

/-- The rule of a tamper source in the policy in force (R328, R331). -/
def tamperRule (s : State) (src : Nat) : TamperRule := s.enc.policy.getD (src - 1) {}

/-- The active check of SHIELD runs: ENC ON with its entropy tests passed (R323). -/
def activeCheck (s : State) : Bool := isOn s .enc && s.enc.avail

/-- A monitor. -/
def getMon (s : State) (src : Nat) : Monitor := s.enc.mon.getD (src - 1) {}

/-- A monitor changed. -/
def modMon (src : Nat) (f : Monitor → Monitor) (s : State) : State := { s with enc := { s.enc with mon := modAt f (src - 1) s.enc.mon } }

/-- A pending record added to, or begun (R340). -/
def addPending (src kind n : Nat) (s : State) : State :=
  let l := s.ao.tamperPending
  if l.any (fun p => p.source == src && p.kind == kind) then
    { s with ao := { s.ao with tamperPending := l.map (fun p => if p.source == src && p.kind == kind then { p with count := satAdd 0xFFFF p.count n } else p) } }
  else { s with ao := { s.ao with tamperPending := l ++ [{ source := src, kind := kind, count := n, life := s.ao.life, utc := utcStamp s, rtcSet := s.ao.rtcSet }] } }

/-- ERASE (R333, R334): KSK and enclave SRAM zeroised, the H1 stopped, every key cell unreadable, ERASED set; Smisa, where it runs, resets ENC, and otherwise the next ENC start follows. -/
def eraseKeys (s : State) : State :=
  let s1 := encLost { s with
    enc := { s.enc with ksk := false, updating := s.enc.updating.map (fun u => { u with cell := { u.cell with ok := false, key := [] } }), slots := s.enc.slots.map (fun k => { k with a := k.a.map (fun c => { c with ok := false, key := [] }), b := k.b.map (fun c => { c with ok := false, key := [] }) }) },
    ao := { s.ao with sticky := s.ao.sticky ||| 64 } }
  if smisaRuns s1 then callReset (.dom .enc) (tagEval s1) else tagEval { s1 with enc := { s1.enc with restartAt := some s1.now } }

/-- An alarm (R332): sticky flag, alarmed state, pending record, rill message, wake in PARKED, and the erasure under ERASE. -/
def tamperAlarm (src : Nat) (s : State) : State :=
  let er := (tamperRule s src).response == 2
  let s1 := { s with ao := { s.ao with sticky := s.ao.sticky ||| 2 ^ (src - 1), alarmed := s.ao.alarmed ++ [src] } }
  let s2 := addPending src (if er then 2 else 1) 1 (modMon src (fun m => { m with events := [], lastAt := s.now, passes := 0 }) s1)
  let s3 := if er then eraseKeys s2 else s2
  let s4 := issue 0x33 (if er then 0x02 else 0x01) 0 s3
  if s4.mode.mode == .parked then callWake 0x68 s4 else s4

/-- One event of a source through its filter (R326): inside the last W ms, the N-th one alarms; an alarmed source only notes the time. -/
def tamperEvent (src : Nat) (s : State) : State :=
  let r := tamperRule s src
  if r.response == 0 || !(getMon s src).armed || !monitorRuns s src then s
  else if s.ao.alarmed.contains src then modMon src (fun m => { m with lastAt := s.now, passes := 0 }) s
  else
    let ev := s.now :: (getMon s src).events.filter (fun t => decide (s.now ≤ t + ms r.w))
    if r.n ≤ ev.length then tamperAlarm src s
    else modMon src (fun m => { m with events := ev, lastAt := s.now }) s

/-- The KIND byte of an entry (R338). -/
def kindByte (e : TamperEntry) : Nat := e.kind + (if e.rtcSet then 128 else 0)

/-- Bytes 0 to 11 of an entry (R338). -/
def entry12 (e : TamperEntry) : Bytes := be 4 e.life ++ be 4 e.utc ++ [b8 e.source, b8 (kindByte e)] ++ be 2 e.count

/-- The 16 bytes of an entry (R338); a poisoned one reads all 0x00 (R341). -/
def entryBytes (e : TamperEntry) : Bytes := if e.source == 0 then List.replicate 16 0 else entry12 e ++ be 4 e.chain

/-- The chain tag before a new entry (R339). -/
def chainBefore (s : State) : Bytes :=
  match (s.enc.log.filter (fun e => e.source != 0)).getLast? with
  | some e => be 4 e.chain
  | none => (sha256 ([0x4F, 0x52, 0x47, 0x5A] ++ be 8 s.otp.serial)).take 4

/-- An entry appended with its chain tag, and TMP.EVENT for it (R338, R339, R341). -/
def appendEntry (e : TamperEntry) (s : State) : State :=
  let e1 := { e with chain := field (sha256 (chainBefore s ++ entry12 e)) 0 4 }
  event 0x33E0 3 (entryBytes e1) { s with enc := { s.enc with log := s.enc.log ++ [e1] } }

/-- The FULL entry once entry 1022 is written (R343). -/
def fillLog (s : State) : State :=
  if s.enc.log.length == 1023 then
    issue 0x33 0x03 0 (appendEntry { life := s.ao.life, utc := utcStamp s, source := 7, kind := 0x13, rtcSet := s.ao.rtcSet, count := 1 }
      { s with ao := { s.ao with sticky := s.ao.sticky ||| 128 } })
  else s

/-- One pending record written, or added to the overflow counter of its source when the log is full (R340, R343). -/
def writePending (s : State) : State :=
  match s.ao.tamperPending with
  | [] => s
  | p :: r =>
    let s1 := { s with ao := { s.ao with tamperPending := r } }
    if 1023 ≤ s.enc.log.length then { s1 with enc := { s1.enc with overflow := modAt (fun x => satAdd 0xFFFF x p.count) (p.source - 1) s1.enc.overflow } }
    else fillLog (appendEntry { life := p.life, utc := p.utc, source := p.source, kind := p.kind, rtcSet := p.rtcSet, count := p.count } s1)

/-- Every pending record written: step S4 (R340, R418). -/
def commitTamper (s : State) : State :=
  if activeCheck s then (List.range s.ao.tamperPending.length).foldl (fun acc _ => writePending acc) s else s

/-- A pending record's line left poisoned by a power failure (R341): it counts as an entry and the record stays. -/
def poisonLine (s : State) : State :=
  if s.ao.tamperPending.isEmpty || decide (1023 ≤ s.enc.log.length) then s
  else fillLog { s with enc := { s.enc with log := s.enc.log ++ [{}] } }

end Sys2Proof.Machine
end

