-- ==== Sys2Proof/Machine/Modes.lean ====
section
/-! DEFINITION. Mode policy (R16 to R23, 01_system.md) and the shutdown sequence (R417 to R424, 14_power.md). -/

namespace Sys2Proof.Machine

/-- A mode transition made known (R20): every open session; cause 0 trigger, 1 command, 2 supply, 3 restart. -/
def notifyMode (old new : Mode) (cause : Nat) (s : State) : State :=
  raiseExt 3 (event 0x02E0 0 [b8 (modeCode old), b8 (modeCode new), b8 cause] { s with mode := { s.mode with lastNotify := some (old, new, cause) } })

/-- Overrides end at a mode transition (R402): a domain they held up is lowered by an entry of its own, one they held down rises. On entry to TRANSPORT the domains reach their targets at S5 (R417). -/
def endOverrides (new : Mode) (s : State) : State :=
  let s1 := { s with pwr := { s.pwr with override := List.replicate 12 none } }
  if new == .transport then s1 else lowerToTargets s1

/-- Latch-offs end and restart counts return on a transition into RUN (R111). -/
def freshChannels (s : State) : State :=
  applyDrives { s with outs := { s.outs with chans := mapIdx (fun o c =>
    { c with latched := false, restarts := (chanCfg s o).restart, retryAt := if c.latched then none else c.retryAt }) 0 s.outs.chans } }

/-- Every debounce count and confirm burst discarded at a change between PARKED and another mode (R151). -/
def dropDebounce (s : State) : State :=
  { s with scan := { s.scan with sw := s.scan.sw.map (fun w => { w with count := 0, burst := false }), senseLow := List.replicate 8 false } }

/-- Wake pins at entry to PARKED: an active one may wake only once it has been inactive; a filter time that runs goes on (R154). -/
def disarmPins (s : State) : State :=
  { s with scan := { s.scan with pins := s.scan.pins.map (fun p => { p with armed := !p.active }) } }

/-- WAKE0 at entry to TRANSPORT: with its level high it qualifies only once it has read inactive for 1 ms (R154). -/
def disarmWake0 (s : State) : State :=
  { s with scan := { s.scan with pins := modAt (fun p => { p with armed := !s.env.wakeLevel.getD 0 false, qualAt := none }) 0 s.scan.pins } }

/-- Outside RUN a wiper in auto stays parked (R178): one that waits for its next wipe or has stopped parks, and a wipe under way is completed first. -/
def autoPark (s : State) : State :=
  let w := s.outs.wiper
  if w.mode != 0 || w.dead then s
  else if w.phase == .waiting then wiperHalt .parked s
  else if w.phase == .stopped && s.mode.ign != .off then wiperPark s
  else s

/-- The mode a transition takes, with what it does (R20, R28, R111, R136, R138, R179, R402, R408). -/
def enterMode (new : Mode) (cause : Nat) (s : State) : State :=
  let old := s.mode.mode
  let s1 := { s with mode := { s.mode with mode := new,
                                           crank := false, crankEnd := none, approachWake := false,
                                           trigAt := if new == .approach then s.now else s.mode.trigAt,
                                           serviceSess := if new == .service then s.mode.serviceSess else none },
                     pwr := { s.pwr with awakeAt := if new == .parked then s.pwr.awakeAt else none,
                                         parkRefused := false },
                     ao := { s.ao with lpBlocked := s.ao.lpBlocked && new == .parked } }
  let s2 := endOverrides new s1
  let s3 := if (old == .parked) != (new == .parked) then dropDebounce s2 else s2
  let s4 := if new == .run then freshChannels s3 else s3
  let s5 := if old == .run && new != .run then autoPark s4 else s4
  let s6 := if new == .run && s5.outs.wiper.mode == 0 && !s5.outs.wiper.dead then wiperBegin s5 else s5
  notifyMode old new cause (applyDrives (if new == .parked then parkLamps s6 else refreshLamps s6))

/-- The ignition as mode policy takes it: a CRANK left on its limit counts as RUN (R21). -/
def policyIgn (s : State) : Ign := if s.mode.ign == .crank then .run else s.mode.ign

/-- The mode the ignition gives when SERVICE ends (R18). -/
def ignMode (s : State) : Mode := match policyIgn s with
  | .acc => .accessory
  | .off => .approach
  | _ => .run

/-- The CRANK sub-state follows the source while in RUN (R21). -/
def crankFollow (s : State) : State :=
  if s.mode.mode == .run && s.mode.ign == .crank && !s.mode.crank && !s.mode.crankSpent then
    applyDrives (bump 0x50 8 1 { s with mode := { s.mode with crank := true, crankEnd := some (s.now + sec 30) } })
  else if s.mode.crank && s.mode.ign != .crank then
    applyDrives { s with mode := { s.mode with crank := false, crankEnd := none } }
  else s

/-- The refuser of an entry to PARKED, asleep included, or TRANSPORT (R83, R403, R404). -/
def parkRefuser (s : State) (target : Nat) : Option Nat :=
  if confluenceHolds s then some 8
  else if target == 1 && s.mode.hold.isSome then some 6
  else none

/-- The parking image of every station loaded and the engine left to run them out (R235). -/
def millPark (s : State) : State :=
  if s.mill.on && !s.mill.ports.any (fun p => p.running) then { s with mill := { s.mill with on := false } }
  else if s.mill.on then
    { s with mill := { s.mill with
        parking := true,
        stn := mapIdx (fun a x => match (tw s).stations.find? (fun c => c.addr == a) with
          | some c => { x with image := padTo c.olen 0 c.park, parked := false }
          | none => x) 0 s.mill.stn,
        ports := s.mill.ports.map (fun p => { p with parkFirst := none, parkCycles := 0 }) } }
  else s

/-- Step S1 (R418): claims released under mode policy (R28), channels to their parking values (R131), wiper (R136), motion, Millrace parking (R235) or FAILSAFE and STOP (R236). -/
def shutdownS1 (supply : Bool) (s : State) : State :=
  let s1 := if supply then s else releaseAllClaims s
  let s2 := stopAllActs (wiperRest { s1 with outs := { s1.outs with parking := true } })
  applyDrives (if supply then failsafeStop { s2 with mill := { s2.mill with parking := false } } else millPark s2)

/-- A shutdown begins at S1 (R417): target 0 supply, 1 PARKED asleep, 2 TRANSPORT; the mode reads its target from here. -/
def beginShutdown (target cause : Nat) (s : State) : State :=
  let s1 := { s with pwr := { s.pwr with shutdown := some { target := target }, awakeAt := none, parkRefused := false } }
  let s2 := if target == 1 && s1.mode.mode != .parked then disarmPins (enterMode .parked cause s1)
    else if target == 2 then disarmWake0 (enterMode .transport cause s1)
    else s1
  shutdownS1 (target == 0) s2

/-- TRANSPORT taken at a start under the transport flag (R23): mode policy triggers its shutdown (R417), with no transition to make known. -/
def takeTransport (s : State) : State :=
  shutdownS1 false (disarmWake0 { s with pwr := { s.pwr with shutdown := some { target := 2 }, awakeAt := none, parkRefused := false } })

/-- A shutdown by mode policy, where no refuser holds it back before S1 (R415): a refusal is counted once and kept for its retry (R405). -/
def parkEntry (target cause : Nat) (s : State) : State :=
  match parkRefuser s target with
  | none => beginShutdown target cause s
  | some c => if s.pwr.parkRefused then s else countRefusal c { s with pwr := { s.pwr with parkRefused := true } }

/-- The service session that entered SERVICE is still open (R18, R60). -/
def serviceOpen (s : State) : Bool := match s.mode.serviceSess with
  | some (t, i) => (findSession s t i).isSome
  | none => false

/-- Mode policy may act: no Grave latch (R23), firmware running, no shutdown in progress, not in TRANSPORT, not asleep. -/
def policyRuns (s : State) : Bool :=
  s.ao.grave.isNone && smisaRuns s && s.pwr.shutdown.isNone && s.mode.mode != .transport && !s.pwr.asleep

/-- The linger has elapsed since the later of lock and last door close (R18). -/
def lingerOver (s : State) : Bool := decide (max s.mode.lockAt s.mode.doorAt + sec (tw s).mode.lingerS ≤ s.now)

/-- No trigger change for the approach timeout (R18). -/
def approachOver (s : State) : Bool := decide (s.mode.trigAt + sec (tw s).mode.approachToS ≤ s.now)

/-- The first transition of R18 whose condition holds, from the levels. -/
def policyStep (cause : Nat) (s : State) : State :=
  let ign := policyIgn s
  match s.mode.mode with
  | .service => if serviceOpen s then s else enterMode (ignMode s) cause s
  | .parked =>
    if ign == .run then enterMode .run cause s
    else if ign == .acc then enterMode .accessory cause s
    else if s.mode.lock == .unlocked || s.mode.door || s.mode.approachWake then enterMode .approach cause s
    else s
  | .approach =>
    if ign == .run then enterMode .run cause s
    else if ign == .acc then enterMode .accessory cause s
    else if s.mode.lock == .locked && !s.mode.door && lingerOver s then parkEntry 1 cause s
    else if (s.mode.lock == .unlocked || s.mode.lock == .none) && approachOver s then parkEntry 1 cause s
    else s
  | .accessory =>
    if ign == .run then enterMode .run cause s
    else if ign == .off then enterMode .approach cause s
    else s
  | .run =>
    if ign == .acc then enterMode .accessory cause s
    else if ign == .off then enterMode .approach cause s
    else s
  | .transport => s

/-- Mode policy evaluates the trigger levels (R18, R20, R21, R23). -/
def modeEval (cause : Nat) (s : State) : State := if policyRuns s then crankFollow (policyStep cause s) else s

/-- The awake timer started (R414). -/
def startAwake (s : State) : State := { s with pwr := { s.pwr with awakeAt := some (s.now + (tw s).power.awake10ms * 10000) } }

/-- The engine has stopped, or one of its ports that does not wait for its key has (R235). -/
def millStopped (s : State) : Bool :=
  !s.mill.on || [0, 1, 2, 3].any (fun p => (portCfg s p).isSome && !(getEngine s p).running && !(getEngine s p).keyWait)

/-- A shutdown aborted (R420): SUPPLY counted, channels take their owners' requests, the Millrace engine is to start again where it has stopped (R235), and mode policy evaluates; from TRANSPORT, whose flag is not written yet, the device is in PARKED (log 28). -/
def abortShutdown (s : State) : State :=
  let back := match s.pwr.shutdown with
    | some d => d.target == 2
    | none => false
  let s1 := countRefusal 7 { s with pwr := { s.pwr with shutdown := none },
                                    outs := { s.outs with parking := false },
                                    nvm := { s.nvm with positions := none },
                                    mill := { s.mill with parking := false, startDue := isOn s .net && millStopped s, ports := s.mill.ports.map (fun p => { p with stopNext := false }),
                                                          stn := if s.mill.parking then s.mill.stn.map (fun x => if x.own.owner == .dflt then { x with image := x.dflt } else x) else s.mill.stn } }
  let s2 := if back then enterMode .parked 0 s1 else applyDrives s1
  { (if s2.mode.mode == .parked && !s2.pwr.asleep then startAwake s2 else s2) with work := true }

/-- Every transport closed at S5 (R36, R418). -/
def closeTransports (s : State) : State := stopTransport .eth (stopTransport .can (stopTransport .spi s))

/-- The end of a shutdown to PARKED asleep (R417, R418): domains to their asleep states, low-power mode where not refused, then a wake that came after S3 (R421); a segregation on trial makes a CMD reset instead (R511). -/
def sleepNow (w : Option Nat) (s : State) : State :=
  if s.boot.trialReset then callReset .cmd { s with pwr := { s.pwr with shutdown := none }, boot := { s.boot with trialReset := false } }
  else
  let s1 := { s with pwr := { s.pwr with shutdown := none, asleep := true, asleepAt := some s.now, override := List.replicate 12 none },
                     nvm := { s.nvm with sleepLife := some (s.ao.life, 1) } }
  let s2 := tryLowPower (lowerToTargets (closeTransports s1))
  match w with
  | some src => wakeNow src s2
  | none => s2

/-- Every domain OFF and both regulator modes off, which no refuser holds back in a supply shutdown (R404, R417). -/
def allOff (s : State) : State :=
  let s1 := closeTransports s
  let s2 := allDomains.foldl (fun acc d => lowerDomain d .off acc) s1
  { s2 with pwr := { s2.pwr with full := false, lowPower := false, asleep := false, retry := [], override := List.replicate 12 none }, boot := { s2.boot with runs := 0 } }

/-- S5 of a shutdown to TRANSPORT (R404, R405, R417, R418): each domain is lowered by an entry of its own, which a refuser may hold back until a retry; with every domain OFF both regulator modes are off and the shutdown ends, followed by a wake that came after S3 (R421). -/
def transportEnd (d : Shutdown) (s : State) : State :=
  let s1 := allDomains.foldl (fun acc x => tryEntry x .off acc) (closeTransports s)
  if allDomains.all (fun x => domSt s1 x == .off) then
    let s2 := allOff { s1 with pwr := { s1.pwr with shutdown := none }, nvm := { s1.nvm with sleepLife := some (s1.ao.life, 0) } }
    if d.wake.isSome then callReset .transportExit s2 else s2
  else s1

/-- The end of S5 (R417, R421, R422, R511). -/
def finishShutdown (d : Shutdown) (s : State) : State :=
  match d.target with
  | 1 => sleepNow d.wake s
  | 2 => transportEnd d s
  | _ =>
    let s1 := allOff { s with pwr := { s.pwr with shutdown := none } }
    let s2 := { s1 with pwr := { s1.pwr with supplyOff := true } }
    if d.supplyBack then callReset .shutdownSupply s2 else s2

/-- S2 has completed with its frame, and S3 completes a Twill commit and floor raises that have begun (R418, R419). -/
def flushDone (s : State) : State := commitEnd <| raisesShutdown { s with nvm := { s.nvm with ops := [] } }

/-- A step of the shutdown completes (R418): S1 when the wiper and Millrace have parked; S2 with the life flush; S3 with the transport flag; S4 with the tamper log commit; S5. -/
def stepDone (d : Shutdown) (s : State) : State :=
  let next := fun (x : State) => { x with pwr := { x.pwr with shutdown := some { d with step := d.step + 1 } } }
  match d.step with
  | 1 => if d.target != 0 && (s.mill.parking || s.outs.wiper.phase == .parking) then s else next s
  | 2 => next (flushDone (if d.target == 0 then keysShutdown (flushLife true s) else flushLife true s))
  | 3 => next (if s.mode.mode == .transport then bootWrite (fun b => { b with transport := true }) s else s)
  | 4 => next (commitTamper s)
  | _ => finishShutdown d s

/-- The supply shutdown begins, or replaces one by mode policy at the step it has reached (R391, R417, R420). -/
def supplyShutdown (s : State) : State :=
  match s.pwr.shutdown with
  | none => beginShutdown 0 2 s
  | some d =>
    if d.target == 0 then s
    else
      let s1 := { s with pwr := { s.pwr with shutdown := some { d with target := 0, wake := none, abort := false, supplyBack := false } } }
      if d.step == 1 then applyDrives (failsafeStop { wiperRest s1 with mill := { s1.mill with parking := false } }) else s1

/-- SERVICE ends and the ignition gives the mode (R18). -/
def leaveService (cause : Nat) (s : State) : State := if s.mode.mode == .service then enterMode (ignMode s) cause s else s

end Sys2Proof.Machine
end

