-- ==== Sys2Proof/Machine/Protect.lean ====
section
/-! DEFINITION. What the output sequencers do: trips and restarts, inrush windows, the sense multiplexer, diagnostics, crank policy, over-voltage, the thermal governor and the link to the dies (R11, 01_system.md; R103 to R133, 04_outputs.md; R392, R433, 14_power.md and 15_clocks_resets.md). -/

namespace Sys2Proof.Machine

/-- A channel that drives, on a die that is ON. -/
def drives (s : State) (o : Nat) : Bool := isChannel o && isOn s (dieDom (dieOf o)) && (getChan s o).drive.mode != 0

/-- A trip (R110): the flag, off at once, latch-off with no restart left, otherwise the restart interval; OUT.FAULT; counted for life (R479). -/
def trip (thermal : Bool) (o : Nat) (s : State) : State :=
  let cfg := chanCfg s o
  let s1 := modChan o (fun c =>
    { c with oc := c.oc || !thermal, thermal := c.thermal || thermal, hot := c.hot || thermal, cleanAt := none,
             latched := c.latched || c.restarts == 0,
             retryAt := if c.restarts == 0 then none else some (s.now + ms cfg.retryMs) }) s
  outFault o (applyDrives (bump 0x03 o 1 s1))

/-- LIMIT_HOLD_EXPIRY (R107): a high-side channel outside its inrush window (R108) that has limited its current at I_LIM for the limit-hold time, `onUs` of on-phase. -/
def limitHoldStep (o onUs : Nat) (s : State) : State :=
  if drives s o && hasSense o && !((getChan s o).inrushAt.isSome) && decide ((chanCfg s o).holdUs ≤ onUs) then trip false o s else s

/-- OVERCURRENT_TRIP (R105, R107): an HB, LS or GD channel; on an HB pair it is a stall of the motor (R135); a learn that it interrupts or completes is answered before its events (R62, R140). -/
def overcurrentStep (o : Nat) (s : State) : State :=
  if drives s o && !hasSense o then eventsAfter (fun x => breakLearns (motorTrip o (trip false o x))) s else s

/-- A channel's own temperature as measured; a GD channel has the die B sensor (R103). -/
def noteTemp (o : Nat) (t : Int) (s : State) : State := modChan o (fun c => { c with temp := t }) s

/-- THERMAL_SHUTDOWN (R109): a driving channel at 175 °C switches off, whatever drives it. -/
def thermalStep (o : Nat) (t : Int) (s : State) : State :=
  let s1 := noteTemp o t s
  if drives s1 o && decide (175 ≤ t) then eventsAfter (fun x => breakLearns (trip true o x)) s1 else s1

/-- BOOTSTRAP_UNDERVOLTAGE (R105): both gates off, handled as an over-current. -/
def bootstrapStep (o : Nat) (s : State) : State :=
  if drives s o && groupOf o == .gd then eventsAfter (fun x => breakLearns (trip false o x)) s else s

/-- A restart (R110 step 4): one restart fewer, and the channel takes its current drive. -/
def restart (o : Nat) (s : State) : State :=
  applyDrives (modChan o (fun c => { c with retryAt := none, restarts := c.restarts - 1 }) s)

/-- RESTART_INTERVAL_EXPIRY (R110 step 3): after a thermal shutdown only below 155 °C. -/
def restartStep (o : Nat) (t : Int) (s : State) : State :=
  let s1 := noteTemp o t s
  if isChannel o && due (getChan s1 o).retryAt s1 then
    (if (getChan s1 o).hot && decide (155 ≤ t) then s1 else restart o (modChan o (fun c => { c with hot := false }) s1))
  else s1

/-- SENSOR_COOLED (R109): below 155 °C; a restart whose interval has ended proceeds, and a channel held only by its temperature takes its drive. -/
def cooledStep (o : Nat) (t : Int) (s : State) : State :=
  let s1 := noteTemp o t s
  if isChannel o && (getChan s1 o).hot && decide (t < 155) then
    let s2 := modChan o (fun c => { c with hot := false }) s1
    if due (getChan s2 o).retryAt s2 then restart o s2 else applyDrives s2
  else s1

/-- RESTART_COUNT_RESTORE (R111): 5 s of fault-free run. -/
def restoreStep (o : Nat) (s : State) : State :=
  match (getChan s o).cleanAt with
  | some t => if t + sec 5 ≤ s.now then modChan o (fun c => { c with restarts := (chanCfg s o).restart }) s else s
  | none => s

/-- INRUSH_WINDOW_END (R108). -/
def inrushEndStep (o : Nat) (s : State) : State :=
  if due (getChan s o).inrushAt s then applyDrives (modChan o (fun c => { c with inrushAt := none }) s) else s

/-- One channel's drive decided again at the start of its PWM period (R121, R133), with the switch-on counted (R479). -/
def applyOne (o : Nat) (s : State) : State :=
  let c := redrive true s o (getChan s o)
  let n := if (getChan s o).drive.mode == 0 && c.drive.mode != 0 then 1 else 0
  bump 0x02 o n (modChan o (fun _ => c) s)

/-- A running fade stepped to the ramp's value at this instant; at or after its end the channel takes the target (R137). -/
def stepFade (o : Nat) (s : State) : State :=
  match (getChan s o).fade with
  | some f =>
    let s1 := putDefault o (lampDrive s o (fadeAt f s.now)) s
    if f.t1 ≤ s.now then modChan o (fun c => { c with fade := none }) s1 else s1
  | none => s

/-- A moving actuator's ripples counted and its duty stepped along its ramp at the period of the channel that drives it (R139, R141). -/
def stepMotion (o ripples : Nat) (s : State) : State :=
  match actOfChannel s o with
  | some n =>
    let s1 := addRipples n ripples s
    let a := getAct s1 n
    if a.state == 1 && a.learn == 0 && !a.renorm && decide (a.manner < 2) && (getChan s1 o).dflt.mode == 2 then
      putDefault o { (getChan s1 o).dflt with duty := rampDuty s1 n } s1
    else s1
  | none => s

/-- PWM_PERIOD_START (R121, R133, R137, R141): a sample of the die's supply, the fade, the ramp with the ripples counted since the last report, and the drive. -/
def pwmPeriodStep (o mv ripples : Nat) (s : State) : State :=
  if isChannel o && isOn s (dieDom (dieOf o)) then
    let s1 := applyOne o (stepMotion o ripples (stepFade o (modDie (dieOf o) (sampleSupply s.now mv) s)))
    { s1 with outs := { s1.outs with chans := stagger s1 s1.outs.chans } }
  else s

/-- The selections of a round of ISNS slots with ISMODE low: the channels that are on, then 28 to 31 (R115). -/
def isnsRound (s : State) : List Nat := (List.range 28).filter (drives s) ++ [28, 29, 30, 31]

/-- The selection after another in the round (R115). -/
def isnsNext (s : State) : Nat :=
  match (isnsRound s).find? (fun n => decide (s.outs.isel < n)) with
  | some n => n
  | none => ((isnsRound s).head?).getD 28

/-- A fault flag of R85 bits 0 to 3 is set: the selected channel drives the fault level (R113). -/
def senseFault (s : State) (n : Nat) : Bool := decide (n < 28) && faultFlags s n % 16 != 0

/-- The shunt gain G of the pair of selection 28 or 29 (R113): the record of GD0 or GD2. -/
def shuntGain (s : State) (n : Nat) : Nat := (chanCfg s (if n == 28 then 52 else 54)).shuntG

/-- The ISNS current of a selection in µA (R112, R113): `x` is the load current in mA, the shunt voltage V_SN in µV, or the die temperature in °C. -/
def isnsUa (s : State) (n : Nat) (x : Int) : Nat :=
  if senseFault s n then 6000
  else if n < 28 then min x.toNat (limitMa s n) * 1000 / mirrorK n
  else if n < 30 then (1500 + (shuntGain s n : Int) * x / 1000).toNat
  else (1000 + 10 * x).toNat

/-- The voltage that a current puts on ISNS in µV: R_ISNS carries it, and V33 bounds it (R113, R114; V33 at its nominal 3.3 V, log 122). -/
def isnsVolt (s : State) (ua : Nat) : Nat := min (ua * (tw s).power.rIsns) 3300000

/-- The ADC reads the fault level: above 5.0 mA × R_ISNS, or saturated, within 50 mV of V33 (R114, R577). -/
def readsFault (s : State) (uv : Nat) : Bool := decide (5000 * (tw s).power.rIsns < uv) || decide (3250000 ≤ uv)

/-- The current in µA that the ADC takes from the voltage it samples (R114). -/
def readUa (s : State) (uv : Nat) : Nat := uv / (tw s).power.rIsns

/-- A shunt voltage kept for the mean current of its second (R116, R489). -/
def noteShunt (n : Nat) (x : Int) (s : State) : State :=
  { s with outs := { s.outs with shunts := modAt (fun e => (e.1 + x, e.2 + 1)) (n - 28) s.outs.shunts } }

/-- The sample of a selection (R112 to R116): a reading of selection 28 or 29 feeds the prognostics of its pair, and 30 and 31 give the die temperatures. -/
def isnsSample (n : Nat) (x : Int) (s : State) : State :=
  let uv := isnsVolt s (isnsUa s n x)
  let s1 := { s with outs := { s.outs with isel := n, isnsUv := uv, isns := readUa s uv, isnsFault := readsFault s uv } }
  if readsFault s uv then s1
  else if n == 28 || n == 29 then noteShunt n x s1
  else if n == 30 then { s1 with env := { s1.env with temps := setAt 1 (((readUa s uv : Int) - 1000) / 10) s1.env.temps } }
  else if n == 31 then { s1 with env := { s1.env with temps := setAt 2 (((readUa s uv : Int) - 1000) / 10) s1.env.temps } }
  else s1

/-- SENSE_SLOT (R112, R114, R115, R562): the device steps with ISMODE low; with ISMODE high the host selects on ISEL and the ADC samples all the same. -/
def senseSlotStep (sel : Nat) (x : Int) (s0 : State) : State :=
  let s := if s0.outs.isMode then { s0 with env := { s0.env with isel := sel % 32 } } else s0
  if !isOn s .outA then { s with outs := { s.outs with isel := 0 } }
  else if s.outs.isMode then isnsSample s.env.isel x s
  else isnsSample (isnsNext s) x s

/-- A diagnostic flag after one more check, and its counts: 3 failing checks set it, 3 passing ones clear it (R120). -/
def checkCount (flag bad : Bool) (nFail nPass : Nat) : Bool × Nat × Nat :=
  let f := if bad then min 3 (nFail + 1) else 0
  let p := if bad then 0 else min 3 (nPass + 1)
  (if f == 3 then true else if p == 3 then false else flag, f, p)

/-- Flags changed by a check are reported, and the fault-free run follows them (R111, R120). -/
def reportFlags (o : Nat) (old : Chan) (s : State) : State :=
  if (getChan s o).openLoad == old.openLoad && (getChan s o).shortBat == old.shortBat then s else outFault o (applyDrives s)

/-- The result of a short-to-battery check entered (R117, R120). -/
def shortCheck (o : Nat) (bad : Bool) (s : State) : State :=
  modChan o (fun c => let r := checkCount c.shortBat bad c.sbFail c.sbPass; { c with shortBat := r.1, sbFail := r.2.1, sbPass := r.2.2 }) s

/-- The result of an off-state open-load check entered (R117, R118, R120). -/
def openCheck (o : Nat) (bad : Bool) (s : State) : State :=
  modChan o (fun c => let r := checkCount c.openLoad bad c.olFail c.olPass; { c with openLoad := r.1, olFail := r.2.1, olPass := r.2.2 }) s

/-- OFF_STATE_CHECK (R117, R118, R120), on a channel whose applied drive is OFF, also where its request is not (DESIGN CHOICE, log 120): `mv` with the pull-up off, `pulled` at the end of the settle time; GD channels have none. -/
def offStateStep (o mv pulled : Nat) (s : State) : State :=
  if !isChannel o || !isOn s (dieDom (dieOf o)) || (getChan s o).drive.mode != 0 || !(chanCfg s o).diag || groupOf o == .gd then s
  else
    let old := getChan s o
    let s1 := if groupOf o == .ls then openCheck o (decide (pulled < 2000)) s
      else if 3000 < mv then shortCheck o true s
      else openCheck o (decide (2000 < pulled)) (shortCheck o false s)
    reportFlags o old s1

/-- ON_STATE_OPEN_LOAD (R119, R120): the on-phase current over the span; a threshold of 0 disables the check. -/
def onStateStep (o ma : Nat) (s : State) : State :=
  let c := getChan s o
  if !isChannel o || !hasSense o || !drives s o || c.drive.mode == 3 then s
  else
    let i := min ma (limitMa s o)
    let s1 := modChan o (fun c => { c with current := i }) s
    let thr := (chanCfg s o).onstate
    if thr == 0 then s1 else reportFlags o c (modChan o (fun c => { c with openLoad := decide (i < thr) }) s1)

/-- CRANK_THRESHOLD_CROSSING (R123): the die's filtered supply holds or releases its channels. -/
def crankStep (d : Die) (mv : Nat) (s : State) : State :=
  if isOn s (dieDom d) then eventsAfter (fun x => breakLearns (applyDrives x)) (modDie d (fun x => { x with window := [(s.now, mv)], vbat := mv, lowV := decide (mv < 6000) }) s) else s

/-- OVERVOLTAGE_OFF (R392): above 28.0 V every channel of the die is off; no flag, no restart count. -/
def overvoltageStep (d : Die) (mv : Nat) (s : State) : State :=
  if isOn s (dieDom d) && decide (28000 < mv) then applyDrives (modDie d (fun x => { x with vbat := mv, lowV := false, overV := true }) s) else s

/-- OVERVOLTAGE_RELEASE (R392): below 27.0 V the channels take their current drive. -/
def overvoltageEndStep (d : Die) (mv : Nat) (s : State) : State :=
  if isOn s (dieDom d) && (getDie s d).overV && decide (mv < 27000) then
    applyDrives (modDie d (fun x => { x with vbat := mv, lowV := decide (mv < 6000), overV := false }) s)
  else s

/-- On-resistance of a channel's group in mΩ (R126). -/
def rOn (o : Nat) : Nat := match groupOf o with
  | .hsa10 => 8 | .hsa3 => 40 | .hsb => 100 | .hb => 200 | .ls => 1500 | .gd => 0

/-- A whole measurement span of 50 ms has passed since a channel's switch-on (R126). -/
def spanOver (s : State) (c : Chan) : Bool := match c.onAt with
  | some t => decide (t + ms 50 ≤ s.now)
  | none => false

/-- The internal measurement over the last 50 ms, in mA by object number, noted for the channels of a die whose span has passed (R116, R126). -/
def noteSpan (d : Die) (ma : List Nat) (s : State) : State :=
  { s with outs := { s.outs with chans := mapIdx (fun o c =>
      if dieOf o == d && hasSense o && spanOver s c then { c with measured := some (min (ma.getD o 0) (limitMa s o)) } else c) 0 s.outs.chans } }

/-- The dissipation estimate (R126), as mA² × mΩ × 0.01 %: I_LIM until a whole 50 ms after the switch-on, then the measured current; I_nom on HB and LS; 0 on GD. -/
def dissipation (s : State) (o : Nat) : Nat :=
  let c := getChan s o
  let cfg := chanCfg s o
  let i := if hasSense o then c.measured.getD cfg.ilim else cfg.inom
  i * i * rOn o * c.drive.duty

/-- A channel that the governor may shed (R125, R127). -/
def sheddable (s : State) (d : Die) (o : Nat) : Bool :=
  dieOf o == d && drives s o && !(getChan s o).shed && decide ((chanCfg s o).prio < 7) && !rank2 s o && !rank3 s

/-- The channel shed first: lowest priority, then highest estimate, then lowest number (R125). -/
def shedChoice (s : State) (d : Die) : Option Nat :=
  ((List.range 56).filter (sheddable s d)).foldl (fun acc o => match acc with
    | none => some o
    | some b =>
      if decide ((chanCfg s o).prio < (chanCfg s b).prio) ||
        ((chanCfg s o).prio == (chanCfg s b).prio && decide (dissipation s b < dissipation s o)) then some o else acc) none

/-- Island of a power die (R349, R594). -/
def dieIsland : Die → Nat
  | .a => 0x0B
  | .b => 0x0C

/-- One channel shed (R125): held off with flag 5, OUT.FAULT, and the Notice SHED. -/
def shedOne (d : Die) (s : State) : State :=
  match shedChoice s d with
  | none => s
  | some o =>
    let s1 := modDie d (fun x => { x with shed := o :: x.shed }) (modChan o (fun c => { c with shed := true }) s)
    issueAt 0x12 0x01 (dieIsland d) 0 (outFault o (applyDrives s1))

/-- One channel restored, most recently shed first (R128). -/
def unshedOne (d : Die) (s : State) : State :=
  match (getDie s d).shed.filter (fun o => (getChan s o).shed) with
  | [] => modDie d (fun x => { x with shed := [] }) s
  | o :: r => outFault o (applyDrives (modChan o (fun c => { c with shed := false }) (modDie d (fun x => { x with shed := r }) s)))

/-- GOVERNOR_EVALUATION (R125, R126, R128): the die temperature against the threshold and its hysteresis, with the currents measured over the last 50 ms; a learn whose channel is shed ends (R140). -/
def governorStep (d : Die) (t : Int) (ma : List Nat) (s0 : State) : State :=
  if !isOn s0 (dieDom d) then s0
  else
    let s := noteSpan d ma s0
    let p := (tw s).power
    let thr := match d with
      | .a => p.govA
      | .b => p.govB
    let hyst := match d with
      | .a => p.hystA
      | .b => p.hystB
    let s1 := { s with env := { s.env with temps := setAt (match d with | .a => 1 | .b => 2) t s.env.temps } }
    if (thr : Int) ≤ t then eventsAfter (fun x => breakLearns (shedOne d x)) (modDie d (fun x => { x with coolAt := none }) s1)
    else if t < (thr : Int) - hyst then
      match (getDie s1 d).coolAt with
      | some c => if c + sec 2 ≤ s1.now then unshedOne d s1 else s1
      | none => modDie d (fun x => { x with coolAt := some s1.now }) s1
    else modDie d (fun x => { x with coolAt := none }) s1

/-- Rill source of a power die (R351). -/
def dieSource : Die → Nat
  | .a => 0x10
  | .b => 0x11

/-- A power die's link is lost (R11, R433): the link-loss pattern on its own channels, and LINK_LOSS. -/
def linkLossStep (d : Die) (s : State) : State :=
  if isOn s (dieDom d) && !(getDie s d).linkLost then
    issue (dieSource d) 0x01 0 (applyDrives (modDie d (fun x => { x with linkLost := true }) (takeHold s (fun o => dieOf o == d))))
  else s

/-- The link returns (R11): the control die sends each channel's present drive. -/
def linkReturnStep (d : Die) (s : State) : State :=
  if (getDie s d).linkLost && !(getDie s d).clockFail then applyDrives (modDie d (fun x => { x with linkLost := false }) s) else s

/-- A die clock outside ±10 % of its 40 MHz (R426, R433). -/
def dieClockBad (khz : Nat) : Bool := decide (khz < 36000) || decide (44000 < khz)

/-- POWER_DIE_CLOCK_FAIL (R433): every channel of the die off, and the link unanswered. -/
def dieClockStep (d : Die) (khz : Nat) (s : State) : State :=
  if isOn s (dieDom d) && dieClockBad khz && !(getDie s d).clockFail then linkLossStep d (applyDrives (modDie d (fun x => { x with clockFail := true }) s)) else s

/-- SENSOR_FAIL (R351): the die temperature sensor is implausible. -/
def sensorFailStep (d : Die) (s : State) : State :=
  if isOn s (dieDom d) then issueAt (dieSource d) 0x02 (dieIsland d) 0 s else s

/-- SEQ_PARITY (R351): the output sequencer's state is in error. -/
def seqParityStep (d : Die) (s : State) : State :=
  if isOn s (dieDom d) then issueAt (dieSource d) 0x03 (dieIsland d) 0 s else s

end Sys2Proof.Machine
end

