-- ==== Sys2Proof/Machine/Motors.lean ====
section
/-! DEFINITION. Timed and measured events of the wiper and the motion service (R134 to R143, R465; 04_outputs.md, 16_persistent.md). -/

namespace Sys2Proof.Machine

/-- WIPER_PARKED (R134, R135). -/
def wiperParkedStep (s : State) : State := if (tw s).wiper.isSome then wiperParked s else s

/-- PARK_TIMEOUT (R135): stopped after 3 s without the switch, with an over-current fault on the motor channel, taken as the first of the pair (DESIGN CHOICE, log 119). -/
def parkTimeoutStep (s : State) : State :=
  match (tw s).wiper with
  | some c =>
    if s.outs.wiper.phase == .parking && due s.outs.wiper.parkAt s then reportMotorFault (pairChannels c.pair).1 (wiperHalt .stopped s) else s
  | none => s

/-- WIPER_STALL (R135): a GD pair above its stall threshold for 500 ms. -/
def wiperStallStep (ma : Nat) (s : State) : State :=
  match (tw s).wiper with
  | some c => if groupOf (pairChannels c.pair).1 == .gd && decide (c.stall < ma) then wiperStall s else s
  | none => s

/-- STALL_RETRY (R135): the motor runs again 2 s after a first stall. -/
def stallRetryStep (s : State) : State :=
  let w := s.outs.wiper
  if w.phase == .stallWait && due w.waitAt s then wiperRetry s else s

/-- WIPE_INTERVAL_EXPIRY (R134, R178). -/
def wipeIntervalStep (s : State) : State :=
  if s.outs.wiper.phase == .waiting && due s.outs.wiper.waitAt s then
    (if s.outs.wiper.mode == 0 && s.mode.mode != .run then wiperHalt .parked s else wipeLow s)
  else s

/-- WASH_END (R136): the washer stops and the wipes after it follow. -/
def washEndStep (s : State) : State :=
  match (tw s).wiper with
  | some c =>
    if due s.outs.wiper.washAt s then
      let s1 := if c.washer == 0xFF then s else applyDrives (putDefault c.washer { freq := (chanCfg s c.washer).pwm } s)
      let s2 := modWiper (fun w => { w with washAt := none, postWipes := c.postwipe }) s1
      if s2.outs.wiper.phase == .wiping || s2.outs.wiper.dead || c.postwipe == 0 then s2
      else wipeLow (modWiper (fun w => { w with postWipes := w.postWipes - 1 }) s2)
    else s
  | none => s

/-- WIPER_SERVICE_POSITION (R134, R465). -/
def servicePositionStep (s : State) : State :=
  if s.outs.wiper.phase == .toService && due s.outs.wiper.waitAt s then wiperHalt .atService s else s

/-- PINCH_DETECTED (R139, R142), with the ripples counted since the last report: a learnt closing move inside the pinch zone, above 4 ‰, the current beyond profile bin plus margin; not under hold-to-run (R89). -/
def pinchStep (n ma ripples : Nat) (s0 : State) : State :=
  let s := addRipples n ripples s0
  match motionCfg s n with
  | some c =>
    let a := getAct s n
    let pos := actPos s n
    if a.state == 1 && a.learn == 0 && !a.opening && !a.renorm && a.manner != 2 && actMeasured s n && decide (4 ≤ pos) && decide (pos ≤ c.zone) &&
      decide (a.profile.getD (pos / 20) 0 + c.margin < ma) then actPinch n s
    else s
  | none => s

/-- END_STOP_STALL (R140, R141): stall current of a GD pair; on an HB pair the trip counts as the stall. -/
def endStopStep (n ma ripple : Nat) (profile : List Nat) (s : State) : State :=
  match motionCfg s n with
  | some c => if actMeasured s n && decide (c.stall ≤ ma) then actEndStop n ripple profile s else s
  | none => s

/-- MOTION_TARGET_REACHED (R139, R141, R142), with the ripples counted since the last report: the position has passed the target in the direction of travel. -/
def targetStep (n ripples : Nat) (s0 : State) : State :=
  let s := addRipples n ripples s0
  let a := getAct s n
  if (motionCfg s n).isSome && (if a.opening then decide (a.target ≤ actPos s n) else decide (actPos s n ≤ a.target)) then actReached n s else s

/-- HOLD_TO_RUN_TIMEOUT (R89). -/
def holdToRunStep (n : Nat) (s : State) : State := if due (getAct s n).htrAt s then actStop n s else s

end Sys2Proof.Machine
end

