-- ==== Sys2Proof/Machine/Haptics.lean ====
section
/-! DEFINITION. The haptic sequencer: triggers, effects, limits and coil state (R185 to R204, 06_haptics.md). -/

namespace Sys2Proof.Machine

/-- The haptic sequencer changed. -/
def modHap (f : Hap → Hap) (s : State) : State := { s with hap := f s.hap }

/-- The coil state of HAP.GET: 1 missing, 2 shorted, 3 stalled, 0 good, in this order (R204). -/
def coilState (h : Hap) : Nat := if h.missing then 1 else if h.shorted then 2 else if h.stalled then 3 else 0

/-- A change of coil state raises its Notice (R204). -/
def coilNotice (old : Nat) (s : State) : State := if coilState s.hap == old then s else issue 0x1B 0x02 0 s

/-- An ignored trigger counted (R196). -/
def hapIgnored (s : State) : State := bump 0x42 1 1 (modHap (fun h => { h with ignored := satInc 0xFFFF h.ignored }) s)

/-- The first cut or ignored trigger of an I²t episode raises its Notice (R197). -/
def i2tNotice (s : State) : State := if s.hap.noticed then s else issue 0x1B 0x01 0 (modHap (fun h => { h with noticed := true }) s)

/-- The level of an effect in % (R188). -/
def effectLevel (n : Nat) : Nat := if n < 16 then 40 + 4 * n else 100

/-- The drive of an effect in µs, before the back-EMF window (R188). -/
def driveUs (n fRes : Nat) : Nat :=
  let T := 1000000 / fRes
  if n < 16 then T
  else if n < 32 then 2 * T + ms (8 + (n - 16))
  else if n < 48 then ms (10 + 3 * (n - 32))
  else if n < 56 then ms (15 + 5 * (n - 48))
  else ms (15 + 5 * (n - 56))

/-- V_peak in mV: the lower of V_LIMIT and V_bat, times level and amplitude (R187). -/
def vPeak (c : TwHaptic) (vbat n amp : Nat) : Nat := min (c.vLimit * 100) vbat * effectLevel n * amp / 10000

/-- V_peak of the brake in mV: that of the last drive cycle, which a falling envelope has brought down to the part of the drive that the last cycle takes (R188; log 127). -/
def brakePeak (n fRes vpeak : Nat) : Nat :=
  if n < 56 then vpeak else vpeak * min (1000000 / fRes) (driveUs n fRes) / driveUs n fRes

/-- An effect begins to drive (R187, R194). -/
def hapBegin (c : TwHaptic) (rank n amp : Nat) (s : State) : State :=
  let v := vPeak c s.env.vbat n amp
  modHap (fun h => { h with bridge := true, playing := some { effect := n, amp := amp, vpeak := v, brakeMv := brakePeak n c.fRes v, rank := rank, t0 := s.now } }) s

/-- An effect starts from its beginning, counted as played (R194, R479). -/
def hapStart (c : TwHaptic) (rank n amp : Nat) (s : State) : State := bump 0x42 0 1 (hapBegin c rank n amp s)

/-- Playing ends and the bridge is high-impedance (R185, R189). -/
def hapEnd (s : State) : State := modHap (fun h => { h with playing := none, bridge := false }) s

/-- The brake of one half-cycle begins at an instant (R188). -/
def hapBrake (c : TwHaptic) (start : Nat) (s : State) : State :=
  modHap (fun h => { h with bridge := true, playing := h.playing.map (fun p => { p with phase := .brake, brakeAt := start + 500000 / c.fRes }) }) s

/-- The back-EMF check of an effect whose V_peak is at least half of V_LIMIT (R203). -/
def bemfCheck (c : TwHaptic) (p : Play) (s : State) : State :=
  if c.vLimit * 100 ≤ 2 * p.vpeak then
    let old := coilState s.hap
    let s1 := if p.bemf < c.bemfThr then
        modHap (fun h => { h with nStall := min 3 (h.nStall + 1), stalled := h.stalled || decide (2 ≤ h.nStall) }) s
      else modHap (fun h => { h with nStall := 0, stalled := false }) s
    coilNotice old s1
  else s

/-- A coil resistance result in 10 mΩ (R201). -/
def resistance (mv ua : Nat) : Nat := if ua == 0 then 0xFFFF else min 0xFFFF (mv * 100000 / ua)

/-- The resistance result taken into the coil state: two alike in a row decide (R201, R204). -/
def coilResult (r : Nat) (s : State) : State :=
  let old := coilState s.hap
  let h := s.hap
  let nh := if 10000 < r then h.nHigh + 1 else 0
  let nl := if r < 100 then h.nLow + 1 else 0
  let ng := if 100 ≤ r ∧ r ≤ 10000 then h.nGood + 1 else 0
  let s1 := modHap (fun h => { h with
      res := r, nHigh := min 2 nh, nLow := min 2 nl, nGood := min 2 ng,
      missing := if 2 ≤ nh then true else if 2 ≤ nl ∨ 2 ≤ ng then false else h.missing,
      shorted := if 2 ≤ nl then true else if 2 ≤ nh ∨ 2 ≤ ng then false else h.shorted }) s
  coilNotice old s1

/-- The 20 mA drive of a measurement ends, with its result or without (R201). -/
def testEnd (s : State) : State := if s.hap.testing.isSome then modHap (fun h => { h with testing := none, bridge := h.playing.isSome }) s else s

/-- The supply is too low for a playing effect (R198). -/
def hapStarved (s : State) : Bool := decide (s.env.vbat < 5000) && s.hap.playing.isSome

/-- A resistance measurement has run its 500 µs (R201). -/
def testOver (s : State) : Bool := match s.hap.testing with
  | some (e, _) => decide (e ≤ s.now)
  | none => false

/-- A back-EMF window has ended (R188). -/
def windowOver (s : State) : Bool := match s.hap.playing with
  | some p => p.phase == .bemf && decide (p.windowAt ≤ s.now)
  | none => false

/-- The sequencer has something to do by this instant. -/
def hapWaits (s : State) : Bool := (tw s).haptic.isSome && (hapStarved s || testOver s || windowOver s)

/-- What the sequencer does by itself up to this instant: an effect starved of supply stops with no brake (R198), a measurement gives its result (R201), and after the back-EMF window comes the check and the brake (R188, R203). -/
def hapTick (s : State) : State :=
  match (tw s).haptic with
  | none => s
  | some c =>
    let s1 := if hapStarved s then hapEnd s else s
    let s2 := if testOver s1 then coilResult ((s1.hap.testing.getD (0, 0)).2) (testEnd s1) else s1
    match s2.hap.playing with
    | some p => if windowOver s2 then hapBrake c p.windowAt (bemfCheck c p s2) else s2
    | none => s2

/-- A trigger that reaches a sequencer ready to play (R194, R195): of two within one driver period of 4 µs the one of lower rank plays and the other is ignored, also where it came first. -/
def hapTake (c : TwHaptic) (rank n amp : Nat) (s : State) : State :=
  match s.hap.playing with
  | some p =>
    if p.t0 / 4 == s.now / 4 && decide (rank < p.rank) then hapIgnored (hapBegin c rank n amp s)
    else if s.now < p.t0 + ms 5 then hapIgnored s else hapStart c rank n amp s
  | none => hapStart c rank n amp s

/-- A trigger reaches the sequencer (R194 to R198, R202): nothing while ANA is not ON or under the Grave latch, or without a record; it ends a resistance measurement (R201). -/
def hapTrigger (rank n amp : Nat) (s : State) : State :=
  match (tw s).haptic with
  | none => s
  | some c =>
    if !isOn s .ana || s.ao.grave.isSome then s
    else
      let s1 := testEnd (hapTick s)
      if s1.hap.blocked then i2tNotice (hapIgnored s1)
      else if s1.hap.missing || s1.hap.shorted then hapIgnored s1
      else if s1.env.vbat < 5000 then hapIgnored s1
      else hapTake c rank n amp s1

/-- A key's binding: edge 1 press, 2 release, 3 both (R186, R192). -/
def bindTrigger (key : Nat) (press : Bool) (s : State) : State :=
  match (tw s).haptic with
  | none => s
  | some c => match c.binds.find? (fun b => b.key == key) with
    | some b => if b.edge == 3 || (b.edge == 1 && press) || (b.edge == 2 && !press) then hapTrigger 1 b.effect b.amp s else s
    | none => s

/-- The coil heating estimate after 1 ms at a current (R197), in 1/65536 A²·ms, rounded down. -/
def heat (tau q ma : Nat) : Nat := q * (tau * 1000 - 1) / (tau * 1000) + ma * ma * 65536 / 1000000

/-- The I²t update (R197): at Q_MAX triggers are held and a playing effect is cut into its brake; below 0.8 of it they are served. -/
def i2tUpdate (ma : Nat) (s : State) : State :=
  match (tw s).haptic with
  | none => s
  | some c =>
    let q := heat c.tau s.hap.q ma
    let s1 := modHap (fun h => { h with q := q }) (hapTick s)
    if c.qMax * 65536 ≤ q then
      let s2 := modHap (fun h => { h with blocked := true }) s1
      match s2.hap.playing with
      | some p => if p.phase == .drive then i2tNotice (hapBrake c s2.now s2) else s2
      | none => s2
    else if s1.hap.blocked && decide (q * 10 < c.qMax * 65536 * 8) then modHap (fun h => { h with blocked := false, noticed := false }) s1
    else s1

end Sys2Proof.Machine
end

