-- ==== Sys2Proof/Machine/Inputs.lean ====
section
/-! DEFINITION. Switch inputs, wake pins, analog inputs and the key matrix (R145 to R168, 05_inputs.md). -/

namespace Sys2Proof.Machine

/-- A wake pin's state. -/
def getPin (s : State) (n : Nat) : PinSt := s.scan.pins.getD n {}

/-- A wake pin changed. -/
def modPin (n : Nat) (f : PinSt → PinSt) (s : State) : State := { s with scan := { s.scan with pins := modAt f n s.scan.pins } }

/-- The poll period of the present mode in µs: 50 ms in PARKED (R147). -/
def pollPeriod (s : State) : Nat := if s.mode.mode == .parked then ms 50 else ms (tw s).inputs.pollMs

/-- An IN.CHANGE may be raised: a change is due, Smisa runs, and a poll period has passed since the last (R149). -/
def changeFree (s : State) : Bool :=
  s.scan.changeDue && smisaRuns s && (match s.scan.inChangeAt with
    | some t => decide (t + pollPeriod s ≤ s.now)
    | none => true)

/-- IN.CHANGE where a watched input differs from what was last reported, at most once in a poll period (R149). -/
def inChange (s : State) : State :=
  let now := inStates s
  let diff := (List.range 28).any (fun i => tbit s.scan.watch i && tbit now i != tbit s.scan.reported i)
  if !changeFree s then s
  else if diff then event 0x18E0 0 (be 4 now) { s with scan := { s.scan with reported := now, inChangeAt := some s.now, changeDue := false, changeAt := none } }
  else { s with scan := { s.scan with changeDue := false, changeAt := none } }

/-- A change completed by an earlier poll, whose pass over the inputs has ended: its IN.CHANGE follows (R149; log 125). -/
def changeWaits (s : State) : Bool := changeFree s && decide (s.scan.changeAt.getD s.now < s.now)

/-- A watched input's completed change noted (R149). -/
def noteChange (i : Nat) (s : State) : State :=
  if tbit s.scan.watch i then { s with scan := { s.scan with changeDue := true, changeAt := some (s.scan.changeAt.getD s.now) } } else s

/-- A debounced switch state changes: closures are counted, an open input's stuck time ends, and the mode sources and the extension's watch follow (R149, R150, R552). -/
def swChange (n : Nat) (closed : Bool) (s : State) : State :=
  let s1 := modSw n (fun w => { w with closed := closed, count := 0, burst := false, stuckUs := if closed then w.stuckUs else 0, stuckRaised := w.stuckRaised && closed }) s
  let s2 := if closed then bump 0x11 n 1 s1 else s1
  let s3 := feedSwitch n (noteChange n s2)
  let s4 := match (tw s3).wiper with
    | some c => if c.parkSw == n then (if closed == c.parkLvl then modWiper (fun w => { w with parkSw := true }) s3 else wiperUnparked s3) else s3
    | none => s3
  if tbit s4.ext.watchSw n then raiseExt 1 s4 else s4

/-- A wake setting covers a change: 1 on close, 2 on open, 3 either (R151, R466). -/
def wakeCovers (c : TwSwitch) (closed : Bool) : Bool := c.wake == 3 || (c.wake == 1 && closed) || (c.wake == 2 && !closed)

/-- A confirmed change in PARKED (R151, R152): it wakes a sleeping device where the setting covers it. -/
def swConfirmed (n : Nat) (closed : Bool) (s : State) : State :=
  let s1 := swChange n closed s
  if wakeCovers (swCfg s n) closed && (s1.pwr.asleep || s1.pwr.shutdown.isSome) then wakeEvent (0x10 + n) s1 else s1

/-- Inputs are polled: SCAN not OFF, not in TRANSPORT, V_bat at or above 4.5 V (R147, R148). -/
def polls (s : State) : Bool := domSt s .scan != .off && s.mode.mode != .transport && decide (4500 ≤ s.env.vbat)

/-- The stuck time counted from the last poll while the input reads closed (R150). -/
def stuckAdd (w : SwSt) (now : Nat) (closed : Bool) : Nat :=
  if closed then w.stuckUs + (match w.lastAt with
    | some t => now - t
    | none => 0) else 0

/-- One poll of an input outside PARKED (R147): the debounce count, or the change. -/
def pollActive (n : Nat) (rd : Bool) (s : State) : State :=
  let w := getSw s n
  if rd == w.closed then modSw n (fun w => { w with count := 0 }) s
  else if (tw s).inputs.debounce ≤ w.count + 1 then swChange n rd s
  else modSw n (fun w => { w with count := w.count + 1 }) s

/-- One poll of an input in PARKED (R151): a differing reading starts or carries on the confirm burst; an old reading ends it. -/
def pollParked (n : Nat) (rd : Bool) (s : State) : State :=
  let w := getSw s n
  if rd == w.closed then modSw n (fun w => { w with count := 0, burst := false }) s
  else if (tw s).inputs.debounce ≤ w.count + 1 then swConfirmed n rd s
  else modSw n (fun w => { w with count := w.count + 1, burst := true }) s

/-- The wetting current of an input in mA: 10 or 2 by Twill, and 2 in PARKED (R146). -/
def wetCurrent (s : State) (n : Nat) : Nat := if (swCfg s n).wet10 && s.mode.mode != .parked then 10 else 2

/-- The pulse and the sample of one poll (R145, R146, R150). -/
def pollSample (n mv : Nat) (s0 : State) : State × Bool :=
  let rd := swReading s0 n mv
  (modSw n (fun w => { w with wetMa := wetCurrent s0 n, reading := rd, stuckUs := if w.closed then stuckAdd w s0.now rd else 0, stuckRaised := w.stuckRaised && rd, lastAt := some s0.now }) s0, rd)

/-- A pin's level under its polarity: WAKE0 active high, WAKE1 to WAKE3 by PIN_POL (R153, R466). -/
def pinLevel (s : State) (n : Nat) : Bool :=
  let high := s.env.wakeLevel.getD n false
  if n == 0 || tbit (tw s).inputs.pinPol n then high else !high

/-- A start (R153): a pin whose level differs from its filtered state and has no filter time running begins one. -/
def startPins (s : State) : State :=
  { s with scan := { s.scan with pins := mapIdx (fun n p =>
      if pinLevel s n != p.active && p.dueAt.isNone then { p with dueAt := some (s.now + ms (tw s).inputs.pinFiltMs) } else p) 0 s.scan.pins } }

/-- The band of a ladder that holds a sample, by its place in the record; 0xFF for none (R157). -/
def ladderBand (c : TwAnalog) (mv : Nat) : Nat :=
  (c.bands.findIdx? (fun b => decide (b.low ≤ mv) && decide (mv ≤ b.high))).getD 0xFF

/-- The code of a band; 0xFF, invalid, for none (R157). -/
def ladderCode (c : TwAnalog) (k : Nat) : Nat := (c.bands[k]?.map (fun b => b.code)).getD 0xFF

/-- One analog sample (R156 to R158): mV for IN.GET, and for a ladder the code after its count of samples in one band. -/
def anSample (n mv : Nat) (s : State) : State :=
  let a := s.scan.an.getD n {}
  let put := fun (x : AnSt) => { s with scan := { s.scan with an := setAt n x s.scan.an } }
  match (tw s).analog.find? (fun c => c.input == n) with
  | some c =>
    if c.ladder then
      let k := ladderBand c mv
      let cnt := if k == a.cand then min 8 (a.count + 1) else 1
      if c.debounce ≤ cnt then feedLadder n (ladderCode c k) (put { a with mv := mv, cand := k, count := cnt, code := ladderCode c k })
      else put { a with mv := mv, cand := k, count := cnt }
    else put { a with mv := mv }
  | none => put { a with mv := mv }

/-- Every analog input sampled in turn. -/
def anSamples : Nat → List Nat → State → State
  | _, [], s => s
  | n, v :: r, s => anSamples (n + 1) r (anSample n (min 3300 v) s)

/-- A key's state by number 8 × row + column (R159). -/
def getKey (s : State) (n : Nat) : KeySt := s.scan.keys.getD n {}

/-- The corners of a rectangle as key numbers. -/
def corners (x : Rect) : List Nat := [8 * x.r1 + x.c1, 8 * x.r1 + x.c2, 8 * x.r2 + x.c1, 8 * x.r2 + x.c2]

/-- A key is frozen by a rectangle or a row fault (R162, R165, R168). -/
def frozen (sc : Scan) (n : Nat) : Bool := sc.rects.any (fun x => (corners x).contains n) || sc.rowFault.getD (n / 8) false

/-- The frozen mask of KEY.GET (R161, R167). -/
def frozenMask (s : State) : Nat := mask ((List.range 64).map (frozen s.scan))

/-- A key reads closed in a scan: rows as masks over the columns (R159). -/
def rawKey (rows : List Nat) (n : Nat) : Bool := tbit (rows.getD (n / 8) 0) (n % 8)

/-- Every pair i < j below 8. -/
def pairs8 : List (Nat × Nat) := (List.range 8).flatMap (fun i => ((List.range 8).filter (fun j => i < j)).map (fun j => (i, j)))

/-- The rectangles whose four corners read closed, on rows without a fault (R162, R165). -/
def closedRects (rows : List Nat) (faults : List Bool) : List Rect :=
  pairs8.flatMap (fun r => if faults.getD r.1 false || faults.getD r.2 false then [] else
    (pairs8.filter (fun c => rawKey rows (8 * r.1 + c.1) && rawKey rows (8 * r.1 + c.2) && rawKey rows (8 * r.2 + c.1) && rawKey rows (8 * r.2 + c.2))).map
      (fun c => { r1 := r.1, r2 := r.2, c1 := c.1, c2 := c.2 }))

/-- Two rectangles on the same corners. -/
def sameRect (x y : Rect) : Bool := x.r1 == y.r1 && x.r2 == y.r2 && x.c1 == y.c1 && x.c2 == y.c2

/-- KEY.GHOST with rows, columns and value (R98, R165). -/
def ghostEvent (x : Rect) (v : Nat) (s : State) : State :=
  event 0x19E1 0 [b8 (2 ^ x.r1 + 2 ^ x.r2), b8 (2 ^ x.c1 + 2 ^ x.c2), b8 v] s

/-- The rows' idle-phase readings (R162): a fault after the debounce count of lows, its end after the count of highs. -/
def rowFaults (idle deb : Nat) (s : State) : State :=
  (List.range 8).foldl (fun acc r =>
    let low := tbit idle r
    let f := acc.scan.rowFault.getD r false
    let n := if low == f then 0 else acc.scan.rowCount.getD r 0 + 1
    if deb ≤ n then
      let a1 := { acc with scan := { acc.scan with rowFault := setAt r (!f) acc.scan.rowFault, rowCount := setAt r 0 acc.scan.rowCount } }
      if f then a1 else issue 0x19 0x01 0 a1
    else { acc with scan := { acc.scan with rowCount := setAt r n acc.scan.rowCount } }) s

/-- The open counts of a standing rectangle's corners (R166). -/
def countOpen (rows : List Nat) (x : Rect) : Rect :=
  { x with openCounts := ((corners x).zip x.openCounts).map (fun e => if rawKey rows e.1 then 0 else e.2 + 1) }

/-- Standing rectangles counted and ended, new ones raised in a diode-less matrix (R165 to R168). -/
def ghosts (rows : List Nat) (deb : Nat) (s : State) : State :=
  let old := s.scan.rects.map (countOpen rows)
  let ended := old.filter (fun x => x.openCounts.any (fun c => decide (deb ≤ c)))
  let kept := old.filter (fun x => !x.openCounts.any (fun c => decide (deb ≤ c)))
  let fresh := if (tw s).keys.diode then [] else (closedRects rows s.scan.rowFault).filter (fun x => !(kept.any (sameRect x)))
  let s1 := { s with scan := { s.scan with rects := kept ++ fresh } }
  fresh.foldl (fun acc x => ghostEvent x 1 acc) (ended.foldl (fun acc x => ghostEvent x 0 acc) s1)

/-- A key after a scan: frozen keys keep their state; a key just freed takes its raw reading at once; others debounce (R160, R162, R165, R166). -/
def scanKey (wasFrozen isFrozen raw : Bool) (deb dt : Nat) (k : KeySt) : KeySt :=
  let k1 := { k with raw := raw, heldUs := if k.pressed then k.heldUs + dt else 0, stuck := k.stuck && raw }
  if isFrozen then { k1 with count := 0 }
  else if wasFrozen then { k1 with pressed := raw, count := 0 }
  else if raw == k1.pressed then { k1 with count := 0 }
  else if deb ≤ k1.count + 1 then { k1 with pressed := raw, count := 0 }
  else { k1 with count := k1.count + 1 }

/-- KEY.EVENT of a changed key (R98, R160); a watched key is the extension's event 2 (R552), a press is counted (R479). -/
def keyEvent (n : Nat) (s : State) : State :=
  let p := (getKey s n).pressed
  let s1 := event 0x19E0 0 [b8 n, b8 (bit p)] s
  let s2 := if p then bump 0x10 n 1 s1 else s1
  if tbit s2.ext.watchKeys n then raiseExt 2 s2 else s2

/-- Key states as a mask (R161). -/
def keyMask (s : State) : Nat := mask (s.scan.keys.map (fun k => k.pressed))

/-- The matrix is scanned: marked in Twill, SCAN ON, outside PARKED and TRANSPORT (R163). -/
def matrixScans (s : State) : Bool := (tw s).keys.scanned && isOn s .scan && s.mode.mode != .parked && s.mode.mode != .transport

/-- A key in the initial debounce (R155, R160): consecutive scans with one reading counted, the state last held still reported. -/
def freshKey (raw : Bool) (k : KeySt) : KeySt := { k with raw := raw, count := if raw == k.raw then min 8 (k.count + 1) else 1, stuck := k.stuck && raw }

/-- The changed keys of a scan reported: bindings trigger in ascending key number before the events (R160, R192). -/
def reportKeys (before : List KeySt) (s : State) : State :=
  let changed := (List.range 64).filter (fun n => (before.getD n {}).pressed != (getKey s n).pressed)
  changed.foldl (fun acc n => keyEvent n acc) (changed.foldl (fun acc n => bindTrigger n (getKey acc n).pressed acc) s)

/-- A scan within the initial debounce (R155): once every key that is not frozen has its count, the readings become the states, without events after a start and with events for what differs after SCAN's return. -/
def freshScan (rows : List Nat) (before : Scan) (s : State) : State :=
  let c := (tw s).keys
  let keys := mapIdx (fun n k => freshKey (rawKey rows n) k) 0 s.scan.keys
  let done := (mapIdx (fun n k => frozen s.scan n || decide (c.debounce ≤ k.count)) 0 keys).all (fun b => b)
  if done then
    let s1 := { s with scan := { s.scan with keys := mapIdx (fun n k => { k with pressed := if frozen s.scan n then k.pressed else k.raw, count := 0, heldUs := 0 }) 0 keys, keyAt := some s.now, fresh := 0 } }
    if before.fresh == 1 then s1 else reportKeys before.keys s1
  else { s with scan := { s.scan with keys := keys, keyAt := some s.now } }

/-- One scan (R155, R160 to R168, R192): faults, ghosts, debounce and its events. -/
def scanMatrix (rows : List Nat) (idle : Nat) (s : State) : State :=
  let c := (tw s).keys
  let before := s.scan
  let s1 := ghosts rows c.debounce (rowFaults idle c.debounce s)
  let dt := match before.keyAt with
    | some t => s.now - t
    | none => 0
  if before.fresh != 0 then freshScan rows before s1
  else reportKeys before.keys { s1 with scan := { s1.scan with
    keys := mapIdx (fun n k => scanKey (frozen before n) (frozen s1.scan n) (rawKey rows n) c.debounce dt k) 0 s1.scan.keys,
    keyAt := some s.now } }

end Sys2Proof.Machine
end

