-- ==== Sys2Proof/Machine/Sense.lean ====
section
/-! DEFINITION. Rain, light and mount sensing (R169 to R184, 05_inputs.md). -/

namespace Sys2Proof.Machine

/-- The sensing state changed. -/
def modRls (f : Rls → Rls) (s : State) : State := { s with rls := f s.rls }

/-- The windscreen record in use (R467). -/
def screenCfg (s : State) : Option TwScreen := (tw s).screens.find? (fun x => x.record == ((tw s).rain.getD {}).record)

/-- The dry reference of a channel: the stored one, or the record's (R173). -/
def dryRef (s : State) (ch : Nat) : Nat :=
  let c := (screenCfg s).getD {}
  if ch == 0 then s.rls.dry0.getD c.sref0 else s.rls.dry1.getD c.sref1

/-- The reported intensity set, with what the rain policy and the rain-light timers do (R178, R179, R182). -/
def setIntensity (n : Nat) (s : State) : State :=
  let old := s.rls.intensity
  let thr := ((tw s).light.getD {}).rainLight
  let above := thr != 0 && decide (thr ≤ n)
  let s1 := modRls (fun r => { r with
      intensity := n,
      rlUp := if above then some (r.rlUp.getD s.now) else none,
      rlDown := if above then none else some (r.rlDown.getD s.now) }) s
  if n == old then s1 else rainChanged old s1

/-- The coverage of a channel in ‰ (R174). -/
def coverage (ref sig : Nat) : Nat := if ref == 0 then 0 else 1000 * (ref - sig) / ref

/-- The sensitivity factor in quarters: 1.50, 1.00, 0.75, 0.50 (R175). -/
def sensFactor : Nat → Nat
  | 0 => 6 | 1 => 4 | 2 => 3 | _ => 2

/-- C ≥ T × factor (R175). -/
def reaches (c t sens : Nat) : Bool := decide (t * sensFactor sens ≤ 4 * c)

/-- The highest n whose threshold C reaches, 0 for none (R175). -/
def topIntensity (thr : List Nat) (c sens : Nat) : Nat :=
  ((thr.zipIdx).filter (fun e => reaches c e.1 sens)).foldl (fun m e => max m (e.2 + 1)) 0

/-- The average of the coverages of the last second (R174). -/
def meanCover (l : List (Nat × Nat)) : Nat := if l.isEmpty then 0 else (l.map (·.2)).sum / l.length

/-- The wiper runs, so that the blade masks apply (R176). -/
def wiperMoves (s : State) : Bool :=
  match s.outs.wiper.phase with
  | .wiping => true | .parking => true | .toService => true
  | _ => false

/-- A measurement falls inside a blade-mask window (R176). -/
def masked (s : State) : Bool :=
  let c := (tw s).rain.getD {}
  wiperMoves s && (match s.outs.wiper.unparkAt with
  | some u =>
    let d := s.now - u
    (decide (ms c.m1Start ≤ d) && decide (d < ms (c.m1Start + c.m1Len))) || (decide (ms c.m2Start ≤ d) && decide (d < ms (c.m2Start + c.m2Len)))
  | none => false)

/-- A working reference after a measurement (R174): up to S at once; down by at most 1 % in 10 min while the wiper is parked and it is dry, by how much the spec leaves open (a free value within the bound, log 7). -/
def driftRef (ref sig fall : Nat) (may : Bool) : Nat :=
  if ref < sig then sig else if may then ref - min (ref - sig) (fall % (ref / 100 + 1)) else ref

/-- A valid coverage taken into C, the intensity raised at once, 0 while C is below the first threshold (log 60), and the falling threshold's clock kept (R174, R175). -/
def takeCover (c : TwScreen) (cov : Nat) (s : State) : State :=
  let s1 := modRls (fun r => { r with cover := ((s.now, cov) :: r.cover).filter (fun e => decide (s.now < e.1 + sec 1)) }) s
  let C := meanCover s1.rls.cover
  let top := topIntensity c.thr C s1.outs.wiper.sens
  let n := if s1.rls.removed || !reaches C (c.thr.getD 0 0) s1.outs.wiper.sens then 0 else max top (if s1.rls.failed then 0 else s1.rls.intensity)
  let below := n != 0 && !reaches C (c.thr.getD (n - 1) 0 - c.hyst) s1.outs.wiper.sens
  setIntensity n (modRls (fun r => { r with failed := false, failAt := none, fallAt := if below then (if n == r.intensity then some (r.fallAt.getD s.now) else some s.now) else none }) s1)

/-- A burst (R169, R170, R174 to R177): signals per channel, none where the amplifier saturated or the emitter current was off. -/
def rainBurst (g0 g1 : Option Nat) (s : State) : State :=
  match screenCfg s with
  | none => s
  | some c =>
    if masked s then s
    else
      let may := decide (s.rls.driftAt + sec 600 ≤ s.now) && s.outs.wiper.phase == .parked && s.rls.intensity == 0
      let d := draw s
      let s1 := if may then modRls (fun r => { r with driftAt := s.now }) d.2 else s
      let r0 := match g0 with
        | some v => driftRef s1.rls.ref0 v d.1 may
        | none => s1.rls.ref0
      let r1 := match g1 with
        | some v => driftRef s1.rls.ref1 v d.1 may
        | none => s1.rls.ref1
      let both := g0.isNone && g1.isNone
      let s2 := modRls (fun r => { r with ref0 := r0, ref1 := r1, sig0 := g0, sig1 := g1, fail0 := g0.isNone, fail1 := g1.isNone, failAt := if both then some (r.failAt.getD s.now) else none }) s1
      match g0, g1 with
      | none, none => s2
      | some v, none => takeCover c (coverage r0 v) s2
      | none, some w => takeCover c (coverage r1 w) s2
      | some v, some w => takeCover c (max (coverage r0 v) (coverage r1 w)) s2

/-- The average of the last samples of a sensor, clipped to 100 000 lux; 0 with none (R171). -/
def alsLux (l : List Nat) : Nat := if l.isEmpty then 0 else min 100000 (l.sum / l.length)

/-- Since when each signal condition of rows 2 to 8 of R180 has held. -/
def lightSince (s : State) (l0 l1 : Nat) : List (Option Nat) :=
  let c := (tw s).light.getD {}
  let conds := [decide (l1 < c.tTun), decide (2 * c.tTun < l1), decide (l0 < c.tNight), decide (l0 < c.tDusk), decide (l0 < c.tNight),
    decide (3 * c.tDusk ≤ 2 * l0), decide (2 * c.tNight ≤ l0)]
  (conds.zip s.rls.since).map (fun e => if e.1 then some (e.2.getD s.now) else none)

/-- A condition has held for a time. -/
def heldFor (s : State) (i us : Nat) : Bool := match s.rls.since.getD i none with
  | some t => decide (t + us ≤ s.now)
  | none => false

/-- The light state of the first row of R180 whose condition holds; 0 day, 1 dusk, 2 tunnel, 3 night. -/
def lightNext (s : State) : Nat :=
  let c := (tw s).light.getD {}
  let l0 := alsLux s.rls.als0
  let st := s.rls.light
  if s.rls.alsFail0 || s.rls.alsFail1 || s.rls.removed then 3
  else if (st == 0 || st == 1) && heldFor s 0 (ms 300) then 2
  else if st == 2 && heldFor s 1 (sec c.holdS) then (if c.tDusk ≤ l0 then 0 else if c.tNight ≤ l0 then 1 else 3)
  else if st == 0 && heldFor s 2 (sec c.darkS) then 3
  else if st == 0 && heldFor s 3 (sec c.darkS) then 1
  else if st == 1 && heldFor s 4 (sec c.darkS) then 3
  else if (st == 3 || st == 1) && heldFor s 5 (sec c.lightS) then 0
  else if st == 3 && heldFor s 6 (sec c.lightS) then 1
  else st

/-- The light state evaluated; night until five samples have been taken (R180, R181), and the lamps' levels with it (R182). -/
def lightEval (s : State) : State :=
  if s.rls.als0.length < 5 && !(s.rls.alsFail0 || s.rls.alsFail1 || s.rls.removed) then s
  else
    let n := lightNext s
    if n == s.rls.light then s else refreshLamps (modRls (fun r => { r with light := n }) s)

/-- An ALS sample of both sensors (R171, R180): lux under the record's correction, averaged over 5; a sensor out of range starts its clock, one in range is good again. -/
def alsTake (raw0 : Nat) (ok0 : Bool) (raw1 : Nat) (ok1 : Bool) (s : State) : State :=
  let c := (screenCfg s).getD {}
  let s1 := modRls (fun r => { r with
      als0 := (Config.lux raw0 c.als0Gain :: r.als0).take 5, als1 := (Config.lux raw1 c.als1Gain :: r.als1).take 5,
      alsBad0 := if ok0 then none else some (r.alsBad0.getD s.now), alsBad1 := if ok1 then none else some (r.alsBad1.getD s.now),
      alsFail0 := r.alsFail0 && !ok0, alsFail1 := r.alsFail1 && !ok1 }) s
  lightEval (modRls (fun r => { r with since := lightSince s1 (alsLux s1.rls.als0) (alsLux s1.rls.als1) }) s1)

/-- The mount state changes (R183, R184): a removal shows in EquipmentStatus (R285), is a tamper event and makes the intensity 0 and the light state night; refitted while rain sensing has failed, FALLBACK applies again (R177). -/
def mountChange (removed : Bool) (s : State) : State :=
  let s0 := modRls (fun r => { r with removed := removed, low := 0, high := 0 }) s
  let s1 := if removed && s0.env.insDet then { s0 with tag := { s0.tag with stickyMount := true } } else s0
  if removed then lightEval (setIntensity 0 (tamperEvent 5 s1))
  else if s1.rls.failed then setIntensity ((screenCfg s1).getD {}).fallback s1 else s1

/-- An MSNS reading against the mount reference (R183). -/
def mountRead (v : Nat) (s : State) : State :=
  match s.rls.mountRef with
  | none => s
  | some ref =>
    let low := if v * 100 < ref * 60 then s.rls.low + 1 else 0
    let high := if ref * 80 < v * 100 then s.rls.high + 1 else 0
    let s1 := modRls (fun r => { r with low := min 3 low, high := min 3 high }) s
    if !s.rls.removed && decide (3 ≤ low) then mountChange true s1
    else if s.rls.removed && decide (3 ≤ high) then mountChange false s1
    else s1

end Sys2Proof.Machine
end

