-- ==== Sys2Proof/Machine/Reply.lean ====
section
/-! DEFINITION. Statuses, the answer of a handler, and the mode refusals of R99 and R100 (R61, R66, 02_mailboxes.md; R68, R69, R99, R100, 03_commands.md). -/

namespace Sys2Proof.Machine

/-- Status values of R66. -/
def stOk : Nat := 0x00
/-- Malformed LEN (R66). -/
def stLength : Nat := 0x01
/-- Fewer bytes than R49 requires (R66). -/
def stTruncated : Nat := 0x02
/-- Reserved bits, wrong flags or more bytes than R49 requires (R66). -/
def stFraming : Nat := 0x03
/-- GEN not 0x03 (R66). -/
def stGeneration : Nat := 0x04
/-- Session unknown, closed or mismatched (R66). -/
def stSession : Nat := 0x05
/-- MAC wrong, or enclave unavailable (R66). -/
def stAuth : Nat := 0x06
/-- Stale sequence, or reused with another CODE (R66). -/
def stSequence : Nat := 0x07
/-- Privilege insufficient (R66). -/
def stPriv : Nat := 0x08
/-- ASYNC on an ordered-only command (R66). -/
def stLane : Nat := 0x09
/-- No slot, table full, or resource busy (R66). -/
def stBusy : Nat := 0x0A
/-- Unknown code, or function absent (R66). -/
def stUnsupported : Nat := 0x0B
/-- Payload length does not fit (R66). -/
def stPayload : Nat := 0x0C
/-- A field value out of range (R66). -/
def stRange : Nat := 0x0D
/-- Refused in the current mode or state (R66). -/
def stState : Nat := 0x0E
/-- The requester does not own the output (R66). -/
def stNotOwner : Nat := 0x0F
/-- Interrupted by a reset (R66). -/
def stAborted : Nat := 0x10
/-- An NVM write limit was reached (R66). -/
def stEndurance : Nat := 0x11
/-- Generation mismatch between firmware parts (R66). -/
def stCompat : Nat := 0x12
/-- A signature, hash or certificate check failed (R66). -/
def stVerify : Nat := 0x13
/-- Refused by enclave policy or the production lock (R66). -/
def stDenied : Nat := 0x14
/-- An external party did not answer in time (R66). -/
def stTimeout : Nat := 0x15
/-- Execution stopped by a fault (R66). -/
def stInternal : Nat := 0x16

/-- What a handler answers: a status with its body, or a response that comes later. -/
inductive Reply where
  | done (status : Nat) (body : Bytes) (s : State)
  | later (s : State)
  /-- A response that leaves first, and what the device does once it has been handed to the transport (R80, R82, R93, R96). -/
  | thenDo (status : Nat) (body : Bytes) (s : State) (k : State → State)

/-- A status alone, nothing changed. -/
def deny (status : Nat) (s : State) : Reply := .done status [] s

/-- ST_OK with a body. -/
def okay (body : Bytes) (s : State) : Reply := .done stOk body s

/-- The commands of the second row of R99. -/
def drivingCode (code : Nat) : Bool := [0x1003, 0x1002, 0x1102, 0x1103, 0x1202, 0x1203, 0x1302, 0x1B01, 0x2003].contains code

/-- A command refused in the present mode (R99), or while the Grave latch or the soft safe pattern holds (R100). -/
def modeRefused (code : Nat) (p : Bytes) (s : State) : Bool :=
  let m := s.mode.mode
  (drivingCode code && (m == .parked || m == .transport || s.ao.grave.isSome || s.ao.severeAt.isSome)) ||
  (code == 0x1302 && s.mode.crank) ||
  (code == 0x1202 && byte p 0 == 6 && (m == .run || m == .accessory)) ||
  ((code == 0x6004 || (code == 0x0103 && byte p 0 == 0)) && m == .run) ||
  ([0x5002, 0x5003, 0x5004, 0x2004].contains code && (m == .accessory || m == .run)) ||
  ([0x1304, 0x1A02, 0x3304, 0x4003, 0x6102, 0x5104, 0x3102].contains code && m != .service)

/-- A command answered ST_STATE from S1 until a shutdown ends or aborts (R419). -/
def shutdownRefused (code : Nat) (s : State) : Bool :=
  s.pwr.shutdown.isSome && [0x5002, 0x5003, 0x5004, 0x3206, 0x6002, 0x6003, 0x6005, 0x5104, 0x4003, 0x3002].contains code

/-- The mode and shutdown refusals, after the range of every field and before the command's own states (R51 step 14, R88, R99, R100, R419). -/
def inMode (code : Nat) (r : Req) (s : State) (k : Reply) : Reply :=
  if modeRefused code r.payload s || shutdownRefused code s then deny stState s else k

/-- The owner a request acts as (terms of 03_commands.md): a service session, or its transport. -/
def requester (s : State) (r : Req) : Owner := requesterOf s r.transport r.session

end Sys2Proof.Machine
end

