-- ==== Sys2Proof/Machine/HandOut.lean ====
section
/-! DEFINITION. Handlers of the OUT, LAMP, WIPE and MOTN groups (R72 to R78, R85 to R89, R596, 03_commands.md; R134 to R142, R597, 04_outputs.md). -/

namespace Sys2Proof.Machine

/-- D_req of a request: ON counts as 100 % (terms of 04_outputs.md). -/
def reqDuty (d : Drive) : Nat := if d.mode == 1 then 10000 else if d.mode == 2 then d.duty else 0

/-- The body of OUT.GET (R85, R87). -/
def outGetBody (s : State) (o : Nat) : Bytes :=
  let w := getOwn s o
  let head := [b8 (ownerCode w.owner), b8 w.prio]
  if isChannel o then
    let c := getChan s o
    head ++ [b8 c.req.mode] ++ be 2 (reqDuty c.req) ++ be 2 c.drive.duty ++ be 2 (if hasSense o then c.current else 0xFFFF) ++ be 2 (faultFlags s o)
  else head ++ [0xFF] ++ be 2 0xFFFF ++ be 2 0xFFFF ++ be 2 0xFFFF ++ be 2 0

/-- OUT.GET. -/
def hOutGet (r : Req) (s : State) : Reply :=
  let o := field r.payload 0 2
  if !objectAssigned s o then deny stRange s else okay (outGetBody s o) s

/-- A mode that R72 allows for an object. -/
def modeAllowed (o m : Nat) : Bool := decide (m < 3) || (m == 3 && (groupOf o == .hb || groupOf o == .gd))

/-- A frequency field of OUT.SET: 0 or 100 to 2000. -/
def freqOk (f : Nat) : Bool := f == 0 || (decide (100 ≤ f) && decide (f ≤ 2000))

/-- OUT.SET (R86). -/
def hOutSet (r : Req) (s : State) : Reply :=
  let o := field r.payload 0 2
  let m := byte r.payload 2
  let d := field r.payload 3 2
  let f := field r.payload 5 2
  if !isChannel o || !modeAllowed o m || decide (10000 < d) || !freqOk f then deny stRange s
  else inMode 0x1002 r s (
    if !owns s (requester s r) o then deny stNotOwner s else okay [] (outRequest o m d f s))

/-- OUT.CLAIM: it waits for the end of the arbitration step (R74). -/
def hOutClaim (r : Req) (s : State) : Reply :=
  let o := field r.payload 0 2
  let p := byte r.payload 2
  if !objectAssigned s o || p == 0 || decide (15 < p) then deny stRange s
  else inMode 0x1003 r s (
    .later { s with outs := { s.outs with claims := s.outs.claims ++ [{ owner := requester s r, object := o, prio := p, sess := some (r.transport, r.session), req := some r }] } })

/-- OUT.RELEASE (R596): the count saturates at 255. -/
def hOutRelease (r : Req) (s : State) : Reply :=
  let o := field r.payload 0 2
  let me := requester s r
  if o == 0xFFFF then okay [b8 (min 255 (heldBy s me).length)] (releaseList (heldBy s me) s)
  else if !objectAssigned s o then deny stRange s
  else if me != .dflt && owns s me o then okay [1] (releaseObject o s) else okay [0] s

/-- OUT.KEEP (R76): the leases were renewed at step 13 of R51; the answer is their number. -/
def hOutKeep (r : Req) (s : State) : Reply := okay [b8 (min 255 (heldBy s (requester s r)).length)] s

/-- A latch-off ended by command (R111): the restarts left return and the channel takes its current request. -/
def clearLatch (o : Nat) (s : State) : State :=
  applyDrives (modChan o (fun c => { c with latched := false, restarts := (chanCfg s o).restart }) s)

/-- OUT.CLEAR (R86, R87, R111). -/
def hOutClear (r : Req) (s : State) : Reply :=
  let o := field r.payload 0 2
  if !isChannel o then deny stRange s
  else inMode 0x1006 r s (
    if !(getChan s o).latched then deny stState s
    else if !owns s (requester s r) o then deny stNotOwner s
    else okay [] (clearLatch o s))

/-- Owner and priority of an object. -/
def ownPair (s : State) (o : Nat) : Bytes := [b8 (ownerCode (getOwn s o).owner), b8 (getOwn s o).prio]

/-- OUT.OWNERS. -/
def hOutOwners (_r : Req) (s : State) : Reply := okay ((List.range 56).flatMap (ownPair s)) s

/-- OUT.STNOWNERS (R87): an address with no station record reads 0, 0. -/
def hOutStnowners (_r : Req) (s : State) : Reply :=
  okay ((List.range' 0x101 255).flatMap (fun o => if objectAssigned s o then ownPair s o else [0, 0])) s

/-- LAMP.GET (R597). -/
def hLampGet (r : Req) (s : State) : Reply :=
  let n := byte r.payload 0
  match lampCfg s n with
  | none => deny stRange s
  | some c =>
    let o := c.ch.headD 0
    okay ([b8 (getLamp s n).req, b8 (lampReport (getLamp s n)), b8 (chanCfg s o).k] ++ be 2 (getChan s o).drive.duty) s

/-- LAMP.SET (R78, R137, R138). -/
def hLampSet (r : Req) (s : State) : Reply :=
  let n := byte r.payload 0
  let q := byte r.payload 1
  let f := field r.payload 3 2
  match lampCfg s n with
  | none => deny stRange s
  | some c =>
    if decide (2 < q) || decide (10000 < f) then deny stRange s
    else inMode 0x1102 r s (
      if !serviceOwns s c.ch then deny stNotOwner s else okay [] (lampRequest n q (byte r.payload 2) f s))

/-- A scene's functions set (R137). -/
def sceneApply (c : TwScene) (s : State) : State := c.entries.foldl (fun acc e => lampRequest e.1 2 e.2 c.fadeMs acc) s

/-- LAMP.SCENE (R78, R88, R137). -/
def hLampScene (r : Req) (s : State) : Reply :=
  match (tw s).scenes.find? (fun x => x.scene == byte r.payload 0) with
  | none => deny stRange s
  | some c =>
    inMode 0x1103 r s (
      if !serviceOwns s (c.entries.flatMap (fun e => ((lampCfg s e.1).map (fun l => l.ch)).getD [])) then deny stNotOwner s
      else okay [] (sceneApply c s))

/-- WIPE.GET. -/
def hWipeGet (_r : Req) (s : State) : Reply :=
  okay [b8 s.outs.wiper.mode, b8 s.rls.intensity, b8 (min 255 (bladeWear s)), b8 (bit s.outs.wiper.parkSw)] s

/-- The channels the wiper service drives: the motor pair, and the washer for a wash. -/
def wiperChannels (s : State) (wash : Bool) : List Nat :=
  match (tw s).wiper with
  | some c => [(pairChannels c.pair).1, (pairChannels c.pair).2] ++ (if wash && c.washer != 0xFF then [c.washer] else [])
  | none => []

/-- WIPE.SET (R78, R99, R134); with no wiper assigned it is answered ST_RANGE (R478). -/
def hWipeSet (r : Req) (s : State) : Reply :=
  let m := byte r.payload 0
  let v := byte r.payload 1
  let i := byte r.payload 2
  if decide (6 < m) || decide (3 < v) || decide (i < 2) || decide (30 < i) || (tw s).wiper.isNone then deny stRange s
  else inMode 0x1202 r s (
    if !serviceOwns s (wiperChannels s false) then deny stNotOwner s
    else okay [] (wiperSet m v i s))

/-- A wash begins (R136, R479): the washer channel on for the duration, and wipes at low speed throughout. -/
def washBegin (us : Nat) (s : State) : State :=
  match (tw s).wiper with
  | none => s
  | some c =>
    let s1 := if c.washer == 0xFF then s else applyDrives (putDefault c.washer { mode := 1, duty := 10000, freq := (chanCfg s c.washer).pwm } s)
    let s2 := modWiper (fun w => { w with washAt := some (s.now + us), postWipes := 0 }) (bump 0x40 2 1 s1)
    if s2.outs.wiper.dead || s2.outs.wiper.phase == .stallWait then s2
    else if s2.outs.wiper.phase == .wiping then modWiper (fun w => { w with washedWipe := true }) (wiperRun .wiping c.low s2)
    else wipeLow s2

/-- WIPE.WASH (R78, R136). -/
def hWipeWash (r : Req) (s : State) : Reply :=
  let d := field r.payload 0 2
  if decide (d < 200) || decide (5000 < d) || (tw s).wiper.isNone then deny stRange s
  else inMode 0x1203 r s (
    if !serviceOwns s (wiperChannels s true) then deny stNotOwner s
    else okay [] (washBegin (ms d) s))

/-- MOTN.GET. -/
def hMotnGet (r : Req) (s : State) : Reply :=
  let n := byte r.payload 0
  if decide (3 < n) || (motionCfg s n).isNone then deny stRange s
  else okay (be 2 (getAct s n).pos ++ [b8 (getAct s n).state] ++ be 2 (getAct s n).pinches) s

/-- The channels of an actuator's pair. -/
def actChannels (s : State) (n : Nat) : List Nat := match motionCfg s n with
  | some c => [(pairChannels c.pair).1, (pairChannels c.pair).2]
  | none => []

/-- A request from a service session in SERVICE (R89). -/
def serviceReq (s : State) (r : Req) : Bool :=
  s.mode.mode == .service && (match findSession s r.transport r.session with
    | some x => isService x
    | none => false)

/-- MOTN.MOVE (R78, R89, R99); during a learn of the actuator ST_STATE (log 115). -/
def hMotnMove (r : Req) (s : State) : Reply :=
  let n := byte r.payload 0
  let t := field r.payload 1 2
  let m := byte r.payload 3
  if decide (3 < n) || (motionCfg s n).isNone || decide (1000 < t) || decide (2 < m) then deny stRange s
  else if m == 2 && !serviceReq s r then deny stPriv s
  else inMode 0x1302 r s (
    if m != 2 && (getAct s n).travel == 0 then deny stState s
    else if (getAct s n).learn != 0 then deny stState s
    else if !serviceOwns s (actChannels s n) then deny stNotOwner s
    else okay [] (actMove n t m s))

/-- MOTN.STOP: 0xFF stops all. -/
def hMotnStop (r : Req) (s : State) : Reply :=
  let n := byte r.payload 0
  if n == 0xFF then okay [] (stopAllActs s)
  else if decide (3 < n) || (motionCfg s n).isNone then deny stRange s
  else okay [] (actStop n s)

/-- A learn begins (R140): to the open end stop at 50 % duty with anti-pinch off; the journal and snapshot hold its results. -/
def learnStart (n : Nat) (req : Option Req) (s : State) : State :=
  actRun n true 5000 1 (modAct n (fun a => { a with learn := 1, learnStart := s.now, learnReq := req, travel := 0, ripple := 0, profile := [], manner := 0, renorm := false, htrAt := none, pinchHeld := false }) s)

/-- MOTN.LEARN (R99, R140): its answer comes at the closed end stop; the snapshot page's allowance bounds it (R455); a second learn is ST_BUSY (log 115). -/
def hMotnLearn (r : Req) (s : State) : Reply :=
  let n := byte r.payload 0
  if decide (3 < n) || (motionCfg s n).isNone then deny stRange s
  else inMode 0x1304 r s (
    if (getAct s n).learn != 0 then deny stBusy s
    else if !serviceOwns s (actChannels s n) then deny stNotOwner s
    else if !snapOk s (4 + n) then deny stEndurance s
    else .later (learnStart n (some r) s))

end Sys2Proof.Machine
end

