-- ==== Sys2Proof/Machine/Images.lean ====
section
/-! DEFINITION. Images and banks: header checks, signatures, the boot ROM's choice of what runs, the copy, confirmation and floors (R494 to R515, 17_images.md; R319, 10_enclave.md). -/

namespace Sys2Proof.Machine

/-- The header of R495 read from its 512 bytes. -/
def readHeader (b : Bytes) : Header :=
  { kind := byte b 5, flags := byte b 6, length := field b 8 4, imageVer := field b 12 4, secVer := field b 16 4, entry := field b 20 4,
    revs := (List.range (byte b 7)).map (fun i => field b (24 + 2 * i) 2), gen := slice b 40 8, bodyHash := slice b 64 32,
    fKey := slice b 96 65, fSig := slice b 161 64, oKey := slice b 225 65, oSig := slice b 290 64 }

/-- The size of a kind's region in bytes (R494). -/
def regionSize (kind : Nat) : Nat := if kind == 0 then 0x380000 else if kind == 1 then 0x80000 else 0x100000

/-- The zero bytes of GEN and its fixed values (R495). -/
def genFieldsOk (kind : Nat) (g : Bytes) : Bool :=
  if kind == 0 then byte g 3 == 3 && allZero (slice g 6 2)
  else if kind == 1 then allZero (slice g 3 5)
  else decide (byte g 2 ≤ 13) && allZero (slice g 3 5)

/-- LENGTH and ENTRY lie within the region (R495, R497). -/
def lengthOk (kind len entry : Nat) : Bool :=
  len % 256 == 0 && decide (len + 512 ≤ regionSize kind) && (decide (0 < len) || kind == 2) &&
    (if len == 0 then entry == 0 else entry % 4 == 0 && decide (entry < len))

/-- The field checks of a header: MAGIC, FORMAT, KIND, reserved bytes, LENGTH and ENTRY (R495, R497). -/
def headerOk (kind : Nat) (b : Bytes) : Bool :=
  b.length == 512 && field b 0 4 == 0x4259494D && byte b 4 == 1 && byte b 5 == kind && decide (byte b 6 < 4) &&
  decide (1 ≤ byte b 7) && decide (byte b 7 ≤ 8) && allZero (slice b (24 + 2 * byte b 7) (16 - 2 * byte b 7)) &&
  genFieldsOk kind (slice b 40 8) && lengthOk kind (field b 8 4) (field b 20 4) &&
  allZero (slice b 48 16) && allZero (slice b 354 158) &&
  (tbit (byte b 6) 1 || allZero (slice b 96 65)) && (tbit (byte b 6) 0 || allZero (slice b 225 65))

/-- The signatures of an image are present and correct (R496). -/
def signaturesOk (o : Otp) (kind : Nat) (b : Bytes) : Bool :=
  let h := readHeader b
  let falnal := tbit h.flags 1
  let oem := tbit h.flags 0
  let digest := b.take 96
  (if kind == 2 then oem && o.oemHash.isSome else falnal) &&
  (!falnal || (sha256 h.fKey == o.rootHash && Config.ecdsaOk h.fKey digest h.fSig)) &&
  (match o.oemHash with
    | some x => oem && sha256 h.oKey == x && Config.ecdsaOk h.oKey digest h.oSig
    | none => !oem || Config.ecdsaOk h.oKey digest h.oSig)

/-- REVS lists the present silicon code (R497). -/
def revsOk (b : Bytes) : Bool := (readHeader b).revs.contains silicon

/-- The floor of a kind, read through the floor port (R498, R312). -/
def floorOf (s : State) (kind : Nat) : Nat := s.enc.counters.getD kind 0

/-- Header fields, BODY_HASH and signatures of an image (R497, R502). -/
def contentOk (o : Otp) (kind : Nat) (hd body : Bytes) : Bool :=
  headerOk kind hd && sha256 body == (readHeader hd).bodyHash && signaturesOk o kind hd

/-- An image passes R497. -/
def imageOk (s : State) (factory : Bool) (kind : Nat) (r : Region) : Bool :=
  match r with
  | none => false
  | some (hd, body) =>
    (if factory then headerOk kind hd else contentOk s.otp kind hd body) && revsOk hd && decide (floorOf s kind ≤ (readHeader hd).secVer)

/-- A region of a bank by kind. -/
def regionOf (b : Bank) (kind : Nat) : Region := if kind == 0 then b.smisa else if kind == 1 then b.thean else b.ext

/-- The image of a kind in a bank is one of final test. -/
def factoryKind (b : Bank) (kind : Nat) : Bool := if kind == 0 then b.factorySm else if kind == 1 then b.factoryTh else false

/-- A bank verifies when its Smisa and Thean images pass (R497), not after a copy into it that failed (R507). -/
def bankVerifies (s : State) (b : Bank) : Bool := imageOk s b.factorySm 0 b.smisa && imageOk s b.factoryTh 1 b.thean && !b.failed

/-- The header of a region whose fields are correct (R513). -/
def regionHeader (kind : Nat) (r : Region) : Option Header :=
  match r with
  | some (hd, _) => if headerOk kind hd then some (readHeader hd) else none
  | none => none

/-- The generations of a Smisa and a Thean lie in each other's ranges (R319). -/
def gensAgree (sm th : Header) : Bool :=
  decide (byte th.gen 1 ≤ byte sm.gen 0) && decide (byte sm.gen 0 ≤ byte th.gen 2) &&
  decide (byte sm.gen 1 ≤ byte th.gen 0) && decide (byte th.gen 0 ≤ byte sm.gen 2)

/-- A bank by number. -/
def bankOf (s : State) (n : Nat) : Bank := if n == 0 then s.boot.bankA else s.boot.bankB

/-- A bank written. -/
def setBank (n : Nat) (b : Bank) (s : State) : State :=
  if n == 0 then { s with boot := { s.boot with bankA := b } } else { s with boot := { s.boot with bankB := b } }

/-- The bank that is not active. -/
def otherBank (s : State) : Nat := if s.boot.sel.active == 0 then 1 else 0

/-- The confirmed bit of a bank (R499). -/
def confirmed (r : BankSel) (n : Nat) : Bool := if n == 0 then r.confA else r.confB

/-- The confirmed bit written. -/
def setConfirmed (n : Nat) (v : Bool) (r : BankSel) : BankSel := if n == 0 then { r with confA := v } else { r with confB := v }

/-- The FAILED bit of a bank (R499). -/
def failedBit (r : BankSel) (n : Nat) : Bool := if n == 0 then r.failedA else r.failedB

/-- The FAILED bit written. -/
def setFailed (n : Nat) (v : Bool) (r : BankSel) : BankSel := if n == 0 then { r with failedA := v } else { r with failedB := v }

/-- A bank checked, with its result kept for UPD.INFO (R513). -/
def checkBank (n : Nat) (s : State) : State :=
  let b := bankOf s n
  setBank n { b with checked := true, verifies := bankVerifies s b } s

/-- Bytes of the external flash: erased reads 0xFF (R501). -/
def flashRead (s : State) (a n : Nat) : Bytes := memLoad 0xFF s.boot.flash a n

/-- A staged image as the boot ROM reads it: header and body (R504). -/
def stagedImage (s : State) (kind : Nat) : Bytes × Bytes :=
  let e := s.boot.sel.stage.getD kind (0, 0)
  (flashRead s e.1 512, flashRead s (e.1 + 512) (e.2 - 512))

/-- A region after the copy (R506, R516): the staged image, or the active bank's; an extension image of LENGTH 0 leaves it empty. -/
def copiedRegion (s : State) (kind : Nat) : Region :=
  if s.boot.sel.staged.getD kind false then
    let i := stagedImage s kind
    if kind == 2 && i.2.isEmpty then none else some i
  else regionOf (activeBank s) kind

/-- One staged kind's check in K5: 0 passes, 2 STAGE_ALTERED, 3 STAGE_INVALID (R507). -/
def copyResult (s : State) (kind : Nat) : Nat :=
  if s.boot.sel.staged.getD kind false then
    let i := stagedImage s kind
    if sha256 i.2 != (readHeader i.1).bodyHash then 2
    else if headerOk kind i.1 && signaturesOk s.otp kind i.1 && revsOk i.1 && decide (floorOf s kind ≤ (readHeader i.1).secVer) then 0 else 3
  else match regionOf (activeBank s) kind with
  | none => if kind == 2 then 0 else 3
  | r => if imageOk s (factoryKind (activeBank s) kind) kind r then 0 else 3

/-- PENDING and STAGED cleared with a result (R506, R507). -/
def endCopy (result : Nat) (r : BankSel) : BankSel := { r with pending := false, staged := [false, false, false], result := result }

/-- The time a copy takes in µs (R506): 0.3 s, 1.2 s per MB of staged bytes and 0.25 s per MB copied from the active bank. -/
def copyTime (s : State) : Nat :=
  let staged := ([0, 1, 2].map (fun k => if s.boot.sel.staged.getD k false then (s.boot.sel.stage.getD k (0, 0)).2 else 0)).sum
  let kept := ([0, 1, 2].map (fun k => if s.boot.sel.staged.getD k false then 0 else match regionOf (activeBank s) k with
    | some (_, body) => 512 + body.length
    | none => 0)).sum
  300000 + 1200000 * staged / 1048576 + 250000 * kept / 1048576

/-- A copy that has begun, until its time is over (R506). -/
def copyBegun (before : BankSel) (target us : Nat) (s : State) : State :=
  { s with boot := { s.boot with copy := some { endAt := s.now + us, target := target, before := before } } }

/-- A copy interrupted by a reset or power failure (R506): before K6 the record reads old, the target does not verify and the copy runs again; in K6, the last line time, the record reads old or new (free, log 7). -/
def copyCut (s : State) : State := match s.boot.copy with
  | some c =>
    if c.endAt ≤ s.now then s
    else
      let d := draw s
      if decide (c.endAt < s.now + lineUs) && d.1 % 2 == 1 then d.2
      else setBank c.target {} { d.2 with boot := { d.2.boot with sel := c.before } }
  | none => s

/-- The copy, steps K1 to K6 (R504 to R507). -/
def copyBanks (s : State) : State :=
  let n := otherBank s
  let us := copyTime s
  if !s.otp.extFlashOk then bootWrite (endCopy 4) s
  else
    let bad := [0, 1, 2].map (copyResult s)
    let res := if bad.contains 2 then 2 else if bad.contains 3 then 3 else 1
    let nb : Bank := { factorySm := (activeBank s).factorySm && !(s.boot.sel.staged.getD 0 false), factoryTh := (activeBank s).factoryTh && !(s.boot.sel.staged.getD 1 false),
                       failed := res != 1, smisa := copiedRegion s 0, thean := copiedRegion s 1, ext := copiedRegion s 2 }
    let s1 := if confirmed s.boot.sel n then bootWrite (fun r => setFailed n false (setConfirmed n false r)) s else s
    let s2 := copyBegun s1.boot.sel n us (setBank n nb s1)
    if res == 1 then bootWrite (fun r => { endCopy 1 r with active := n, trials := 0, trialFailed := false }) s2
    else bootWrite (endCopy res) s2

/-- A start cause under which a pending copy runs (R505). -/
def copyCause : Cause → Bool
  | .por => true | .pin => true | .cmd => true | .shutdownSupply => true | .transportExit => true
  | _ => false

/-- A start cause that counts as a failed trial (R500 step 4). -/
def trialCause : Cause → Bool
  | .wdt => true | .cfr => true | .dom .svc => true
  | _ => false

/-- Step 4 of R500: a failed trial start counted, and the switch to the other bank after three or on TRIAL_FAILED. -/
def trialStep (c : Cause) (s : State) : State :=
  let r := s.boot.sel
  let n := otherBank s
  if confirmed r r.active then s
  else
    let t := if trialCause c then min 3 (r.trials + 1) else r.trials
    let s1 := checkBank n s
    if (t == 3 || r.trialFailed) && confirmed r n && (bankOf s1 n).verifies then
      bootWrite (fun r => { setFailed r.active true r with active := n, trials := 0, trialFailed := false }) s1
    else if t == r.trials then s else bootWrite (fun r => { r with trials := t }) s

/-- SMISA_HASH over the Smisa header and body (R497). -/
def smisaHashOf (b : Bank) : Bytes := match b.smisa with
  | some (hd, body) => sha256 (hd ++ body)
  | none => List.replicate 32 0

/-- Steps 5 to 7 of R500: the active bank, the other one, or Rescue (3). -/
def runBank (s : State) : State :=
  let s1 := checkBank s.boot.sel.active s
  if (bankOf s1 s1.boot.sel.active).verifies then { s1 with boot := { s1.boot with runs := 1, smisaHash := smisaHashOf (activeBank s1) } }
  else
    let n := otherBank s1
    let s2 := checkBank n s1
    if (bankOf s2 n).verifies then
      let s3 := bootWrite (fun r => { r with active := n, trials := 0 }) s2
      { s3 with boot := { s3.boot with runs := 1, smisaHash := smisaHashOf (activeBank s3) } }
    else { s2 with boot := { s2.boot with runs := 3 } }

/-- What the boot ROM runs at a start (R500): Grave service (2), Rescue (3), or a bank after a pending copy and the trial step. -/
def bootSelect (c : Cause) (rescue : Bool) (s : State) : State :=
  let s0 := { s with boot := { s.boot with bankA := { s.boot.bankA with checked := false, verifies := false }, bankB := { s.boot.bankB with checked := false, verifies := false },
                                           sfdp := false, runSecs := 0, autoDone := false, floorRetryAt := none } }
  if s0.ao.grave.isSome then { s0 with boot := { s0.boot with runs := 2 } }
  else if rescue then { s0 with boot := { s0.boot with runs := 3 } }
  else runBank (trialStep c (if s0.boot.sel.pending && copyCause c then copyBanks s0 else s0))

/-- A floor raised to the SEC_VER of the active bank's image of a kind; never lowered (R312, R509). -/
def raiseFloor (kind : Nat) (s : State) : State :=
  match regionHeader kind (regionOf (activeBank s) kind) with
  | some h => raiseTo kind h.secVer s
  | none => s

/-- The active bank confirmed (R509). -/
def confirmActive (s : State) : State :=
  if confirmed s.boot.sel s.boot.sel.active then s else bootWrite (fun r => setConfirmed r.active true r) s

/-- A floor lies below the SEC_VER of the active bank's image of its kind (R510). -/
def floorBelow (s : State) (kind : Nat) : Bool :=
  match regionHeader kind (regionOf (activeBank s) kind) with
  | some h => decide (floorOf s kind < h.secVer)
  | none => false

/-- The automatic confirmation (R510): record and floors; a raise the enclave cannot serve is retried, a record write the allowance defers is made later. -/
def autoConfirm (s : State) : State :=
  let s1 := if bootWriteOk s then confirmActive s else s
  if [0, 1, 2].any (floorBelow s1) then
    if s1.enc.avail || s1.enc.segregated then
      let s2 := raiseFloor 2 (raiseFloor 1 (raiseFloor 0 s1))
      { s2 with boot := { s2.boot with autoDone := confirmed s2.boot.sel s2.boot.sel.active, floorRetryAt := none } }
    else { s1 with boot := { s1.boot with floorRetryAt := some (s1.now + sec 60) } }
  else { s1 with boot := { s1.boot with autoDone := confirmed s1.boot.sel s1.boot.sel.active, floorRetryAt := none } }

/-- AUTO_CONFIRM (R510): 1200 s of RUN without a Severe arrival, not segregated, once per start of SVC. -/
def autoConfirmStep (s : State) : State :=
  if smisaRuns s && decide (1200 ≤ s.boot.runSecs) && !s.enc.segregated && !s.boot.autoDone && s.boot.floorRetryAt.isNone then autoConfirm s else s

/-- FLOOR_RAISE_RETRY (R510): every 60 s. -/
def floorRetryStep (s : State) : State := if smisaRuns s && due s.boot.floorRetryAt s then autoConfirm s else s

/-- INACTIVE_BANK_CHECK (R513). -/
def bankCheckStep (s : State) : State := if smisaRuns s then checkBank (otherBank s) s else s

end Sys2Proof.Machine
end

