-- ==== Sys2Proof/Machine/HandUpd.lean ====
section
/-! DEFINITION. Handlers of the UPD group (R96, 03_commands.md; R501 to R503, R509, R513, 17_images.md). -/

namespace Sys2Proof.Machine

/-- The valid byte of a bank (R513). -/
def validByte (s : State) (n : Nat) : Nat :=
  let b := bankOf s n
  bit (b.checked && b.verifies) + 2 * bit (confirmed s.boot.sel n) + 4 * bit (failedBit s.boot.sel n) + 8 * bit (!b.checked)

/-- The versions and valid byte of a bank in UPD.INFO (R513). -/
def bankInfo (s : State) (n : Nat) : Bytes :=
  let h := (regionHeader 0 (bankOf s n).smisa).getD {}
  be 4 h.secVer ++ be 4 h.imageVer ++ [b8 (validByte s n)]

/-- The pending byte (R513). -/
def pendingByte (r : BankSel) : Nat := bit r.pending + 2 * mask r.staged + 16 * r.result

/-- The SFDP tables are read at the first UPD command after each start (R501). -/
def readSfdp (s : State) : State := { s with boot := { s.boot with sfdp := true } }

/-- UPD.INFO (R513). -/
def hUpdInfo (_r : Req) (s : State) : Reply :=
  okay (bankInfo s 0 ++ bankInfo s 1 ++ [b8 s.boot.sel.active, b8 (pendingByte s.boot.sel)] ++ be 4 (floorOf s 0) ++ be 4 (floorOf s 1) ++ be 4 (floorOf s 2)) (readSfdp s)

/-- The bytes that the external flash holds after programming: a NOR cell only clears bits (PRESUMED, log 19). -/
def norProgram (old new : Bytes) : Bytes := (old.zip new).map (fun x => x.1 &&& x.2)

/-- A sector erased when a write begins at its first byte, then the bytes programmed (R96). -/
def flashWrite (a : Nat) (d : Bytes) (s : State) : State :=
  let m := if a % 4096 == 0 then memClear s.boot.flash a 4096 else s.boot.flash
  { s with boot := { s.boot with flash := memStore 0xFF m a (norProgram (memLoad 0xFF m a d.length) d) } }

/-- UPD.WRITE (R96, R501). -/
def hUpdWrite (r : Req) (s : State) : Reply :=
  let a := field r.payload 0 4
  let d := r.payload.drop 4
  let s1 := readSfdp s
  if min 16777216 s.otp.extFlashSize < a + d.length then deny stRange s1
  else inMode 0x6002 r s1 (if !s.otp.extFlashOk then deny stState s1 else okay [] (flashWrite a d s1))

/-- The header of the image that a copy would pair with a kind: staged, or in the active bank (R502). -/
def partnerHeader (s : State) (kind : Nat) : Option Header :=
  if s.boot.sel.staged.getD kind false then some (readHeader (stagedImage s kind).1) else regionHeader kind (regionOf (activeBank s) kind)

/-- The generations agree with the image of the other kind (R502, R319). -/
def stageCompat (s : State) (kind : Nat) (h : Header) : Bool :=
  if kind == 2 then true
  else match partnerHeader s (1 - kind) with
  | some p => if kind == 0 then gensAgree h p else gensAgree p h
  | none => false

/-- UPD.STAGE (R502). -/
def hUpdStage (r : Req) (s : State) : Reply :=
  let kind := byte r.payload 0
  let a := field r.payload 1 4
  let n := field r.payload 5 4
  let s1 := readSfdp s
  if decide (2 < kind) || a % 4096 != 0 || decide (min 16777216 s.otp.extFlashSize < a + n) || decide (n < 512) || decide (regionSize kind < n) then deny stRange s1
  else inMode 0x6003 r s1 (
    if !s.otp.extFlashOk then deny stState s1
    else
      let hd := flashRead s1 a 512
      let h := readHeader hd
      if n != 512 + h.length then deny stRange s1
      else if !contentOk s.otp kind hd (flashRead s1 (a + 512) (n - 512)) then deny stVerify s1
      else if !revsOk hd then deny stCompat s1
      else if h.secVer < floorOf s kind then deny stDenied s1
      else if !stageCompat s1 kind h then deny stCompat s1
      else if !bootWriteOk s1 then deny stEndurance s1
      else okay [] (bootWrite (fun b => { b with staged := setAt kind true b.staged, stage := setAt kind (a, n) b.stage }) s1))

/-- A device reset that follows the delivery of the response (R80, R96). -/
def resetAfterReply (r : Req) (c : Cause) (s : State) : State :=
  match recordOf s r.transport r.session r.seq with
  | some n => { s with mbx := { s.mbx with resetAfter := s.mbx.resetAfter ++ [(n, c)] } }
  | none => s

/-- UPD.ACTIVATE (R96, R503). -/
def hUpdActivate (r : Req) (s : State) : Reply :=
  let s1 := readSfdp s
  inMode 0x6004 r s1 (
    if !s1.boot.sel.staged.any (fun x => x) then deny stState s1
    else if s1.boot.sel.pending then okay [] (resetAfterReply r .cmd s1)
    else if !bootWriteOk s1 then deny stEndurance s1
    else okay [] (resetAfterReply r .cmd (bootWrite (fun b => { b with pending := true }) s1)))

/-- UPD.CONFIRM (R312, R509): the record and the floor, answered at once or still running when the next command comes; ST_RANGE for a raise to 0xFFFFFFFF of a floor that stands there; ST_COMPAT in the segregated state does not apply to floor raises (R320). -/
def hUpdConfirm (r : Req) (s : State) : Reply :=
  let kind := byte r.payload 0
  let s1 := readSfdp s
  if 2 < kind then deny stRange s1
  else inMode 0x6005 r s1 (
    if !confirmed s1.boot.sel s1.boot.sel.active && !bootWriteOk s1 then deny stEndurance s1
    else match regionHeader kind (regionOf (activeBank s1) kind) with
    | none => okay (be 4 (floorOf s1 kind)) (confirmActive s1)
    | some h =>
      if h.secVer == 0xFFFFFFFF && floorOf s1 kind == 0xFFFFFFFF then deny stRange s1
      else if s1.env.raiseRuns then
        let s2 := confirmActive s1
        .later { s2 with enc := { s2.enc with raising := s2.enc.raising ++ [{ kind := kind, value := h.secVer, req := r, startAt := s2.now }] } }
      else let s2 := raiseFloor kind (confirmActive s1); okay (be 4 (floorOf s2 kind)) s2)

end Sys2Proof.Machine
end

