-- ==== Sys2Proof/Machine/HandSys.lean ====
section
/-! DEFINITION. Handlers of the SYS, MODE and PWR groups (R68 to R84, 03_commands.md; R18, R19, 01_system.md; R402 to R405, R410, 14_power.md; R438, R440, 15_clocks_resets.md). -/

namespace Sys2Proof.Machine

/-- The header of the active bank's image of a kind. -/
def activeHeader (s : State) (kind : Nat) : Header := (regionHeader kind (regionOf (activeBank s) kind)).getD {}

/-- SYS.INFO. -/
def hSysInfo (_r : Req) (s : State) : Reply :=
  okay (be 2 (if s.otp.part == .bz7460 then 0x7460 else 0x7464) ++ be 2 silicon ++ be 4 (activeHeader s 0).imageVer ++ [3] ++
    be 4 (activeHeader s 1).imageVer ++ [b8 (byte (activeHeader s 1).gen 0)] ++ be 8 s.otp.serial) s

/-- SYS.STATUS: config state 1 while no Twill copy is active (R475). -/
def hSysStatus (_r : Req) (s : State) : Reply :=
  okay ([b8 (modeCode s.mode.mode), b8 (bit s.mode.crank)] ++ be 2 s.env.vbat ++
    beInt 1 (s.env.temps.getD 0 0) ++ beInt 1 (s.env.temps.getD 1 0) ++ beInt 1 (s.env.temps.getD 2 0) ++
    [b8 (bit s.nvm.active.isNone), b8 (bit s.ao.rtcSet)]) s

/-- SYS.RESET (R80, R99): the reset follows the delivery of the response. -/
def hSysReset (r : Req) (s : State) : Reply :=
  let kind := byte r.payload 0
  if 1 < kind then deny stRange s
  else if kind == 0 then inMode 0x0103 r s (okay [] (resetAfterReply r .cmd s))
  else match domOf (byte r.payload 1) with
  | none => deny stRange s
  | some d => inMode 0x0103 r s (okay [] (resetAfterReply r (.dom d) s))

/-- SYS.GETTIME. -/
def hSysGettime (_r : Req) (s : State) : Reply :=
  okay (be 4 (utcStamp s) ++ [b8 (bit s.ao.rtcSet), b8 s.ao.rtcSource] ++ beInt 2 s.ao.trim) s

/-- The RTC set by a host, and its trim, which snapshot page 0 keeps (R81, R488). -/
def setTime (utc : Nat) (trim : Int) (s : State) : State :=
  let s1 := { s with ao := { s.ao with rtc := utc, rtcSet := true, rtcSource := 1, trim := trim, trimAcc := 0 } }
  if s.nvm.trim == trim then s1 else snapCount 0 { s1 with nvm := { s1.nvm with trim := trim } }

/-- SYS.SETTIME (R81); a changed trim is a snapshot write under its allowance (R455). -/
def hSysSettime (r : Req) (s : State) : Reply :=
  let trim := sext 16 (field r.payload 4 2)
  if decide (trim < -2000) || decide (2000 < trim) then deny stRange s
  else inMode 0x0105 r s (
    if (tw s).uplink.gptp && s.bus.up.gptp.valid then deny stState s
    else if s.nvm.trim != trim && !snapOk s 0 then deny stEndurance s
    else okay [] (setTime (field r.payload 0 4) trim s))

/-- The eight places of SYS.RESETLOG, newest first; a place without an entry reads zeros (R440). -/
def historyBytes (l : List (Nat × Nat)) : Bytes :=
  (List.range 8).flatMap (fun i => let e := l.getD i (0, 0); b8 e.1 :: be 4 e.2)

/-- SYS.RESETLOG (R440). -/
def hSysResetlog (_r : Req) (s : State) : Reply := okay (historyBytes s.ao.history) s

/-- SYS.WAKE (R410). -/
def hSysWake (_r : Req) (s : State) : Reply := okay ([b8 s.ao.wakeSource] ++ be 4 s.ao.wakeRtc ++ be 4 s.ao.wakeLife) s

/-- The ignition code of MODE.GET. -/
def ignCode : Ign → Nat
  | .off => 0 | .acc => 1 | .run => 2 | .crank => 3

/-- The lock code of MODE.GET. -/
def lockCode : LockState → Nat
  | .none => 0 | .locked => 1 | .unlocked => 2

/-- MODE.GET: the transport flag is that of the bank-select record (R499). -/
def hModeGet (_r : Req) (s : State) : Reply :=
  okay [b8 (modeCode s.mode.mode), b8 (bit s.mode.crank), b8 (ignCode s.mode.ign), b8 (lockCode s.mode.lock), b8 (bit s.boot.sel.transport)] s

/-- The service session that a request carries (terms of 03_commands.md). -/
def inService (s : State) (r : Req) : Bool := match findSession s r.transport r.session with
  | some x => isService x
  | none => false

/-- The present mode as the answer of MODE.SET. -/
def modeAnswer (s : State) : Reply := okay [b8 (modeCode s.mode.mode)] s

/-- A mode taken by command; a shutdown by mode policy that has not reached S3 is aborted first (R420). -/
def takeMode (m : Mode) (s : State) : State :=
  enterMode m 1 (match s.pwr.shutdown with
    | some d => if d.step < 3 then abortShutdown s else s
    | none => s)

/-- A transition by command is open: no Grave latch, and no shutdown beyond its point of no return or by supply (R23, R420). -/
def modeOpen (s : State) : Bool :=
  s.ao.grave.isNone && (match s.pwr.shutdown with
    | some d => d.target == 1 && decide (d.step < 3)
    | none => true)

/-- SERVICE left by command (R18): the ignition gives the mode. -/
def endService (s : State) : Reply := if modeOpen s then modeAnswer (takeMode (ignMode s) s) else deny stState s

/-- MODE.SET SERVICE (R18, R19): taken from PARKED, APPROACH and ACCESSORY, refused in RUN; in SERVICE it is a MODE.SET to a mode other than TRANSPORT, which gives the mode of the ignition. -/
def setService (r : Req) (s : State) : Reply :=
  match s.mode.mode with
  | .run => deny stState s
  | .service => endService s
  | .transport => deny stState s
  | _ =>
    if modeOpen s then
      modeAnswer (takeMode .service { s with mode := { s.mode with serviceSess := some (r.transport, r.session), serviceAt := s.now } })
    else deny stState s

/-- MODE.SET TRANSPORT (R18, R19, R82): from SERVICE; the answer leaves before S1, and the flag is set by the shutdown. -/
def setTransport (s : State) : Reply :=
  if s.mode.mode != .service then deny stState s
  else match parkRefuser s 2 with
  | some c => deny stState (countRefusal c s)
  | none => .thenDo stOk [0] s (parkEntry 2 1)

/-- MODE.SET (R18, R19, R82): a target that no row of R18 takes leaves the mode as it is. -/
def hModeSet (r : Req) (s : State) : Reply :=
  let t := byte r.payload 0
  if 5 < t then deny stRange s
  else if !inService s r then deny stState s
  else if t == 5 then setService r s
  else if t == 0 then setTransport s
  else if s.mode.mode == .service then endService s
  else modeAnswer s

/-- MODE.HOLD (R83): 0 ends the hold; one hold stands, the last one set (log 112). -/
def hModeHold (r : Req) (s : State) : Reply :=
  let n := field r.payload 0 2
  if 3600 < n then deny stRange s
  else inMode 0x0203 r s (
    okay [] { s with mode := { s.mode with hold := if n == 0 then none else some (s.now + sec n, r.transport, r.session) } })

/-- The code of a domain state. -/
def stCode : DomState → Nat
  | .off => 0 | .ret => 1 | .on => 2

/-- PWR.GET (R402). -/
def hPwrGet (_r : Req) (s : State) : Reply :=
  okay (s.pwr.dom.map (fun d => b8 (stCode d)) ++ be 2 (mask (s.pwr.override.map (fun o => o.isSome)))) s

/-- The states that R398 allows as overrides. -/
def overrideOk (d : Domain) (st : Nat) : Bool :=
  st == 0xFF || st == 2 || (decide (st < 2) && !([Domain.svc, .mema, .memb, .nvm].contains d))

/-- An override put in force or ended. -/
def setOverride (d : Domain) (o : Option DomState) (s : State) : State :=
  { s with pwr := { s.pwr with override := setAt (domCode d) o s.pwr.override } }

/-- The state PWR.SET asks for: a state, or the mode default for 0xFF. -/
def askedState (s : State) (d : Domain) (st : Nat) : DomState := if st == 0xFF then modeDefault s d else stOf st

/-- PWR.SET (R84, the refuser byte of ST_OK is 0, log 113; R398, R402 to R405): lowering is an entry and may be refused; a raise is refused only under R366 and R2, and the domain rises when it reaches its state. -/
def hPwrSet (r : Req) (s : State) : Reply :=
  let st := byte r.payload 1
  match domOf (byte r.payload 0) with
  | none => deny stRange s
  | some d =>
    if noRfd s d && (st == 1 || st == 2) then deny stUnsupported s
    else if !overrideOk d st then deny stRange s
    else inMode 0x0302 r s (
      let new := askedState s d st
      let ov := if st == 0xFF then none else some (stOf st)
      if stRank new < stRank (domSt s d) then
        match refuserOf s d with
        | some c => .done stBusy [b8 c] (countRefusal c s)
        | none => .thenDo stOk [0] (setOverride d ov s) (lowerDomain d new)
      else okay [0] (raiseDomain d (if new == .ret then .ret else domSt s d) (setOverride d ov s)))

/-- PWR.REFUSALS (R405). -/
def hPwrRefusals (_r : Req) (s : State) : Reply := okay (s.ao.refusals.flatMap (fun n => be 2 n) ++ [b8 s.ao.lastRefuser]) s

end Sys2Proof.Machine
end

