-- ==== Sys2Proof/Machine/DiagOps.lean ====
section
/-! DEFINITION. DIAG.REQ: ISO 14229-1 services over the mailbox (R102, 03_commands.md; R492, R493, 16_persistent.md). What the spec leaves to ISO 14229-1 is marked in log 33. -/

namespace Sys2Proof.Machine

/-- What a service answers: diagnostic bytes, with whether the suppress bit drops them. -/
abbrev DiagRes := Bytes × State

/-- A negative response. -/
def nrc (sid code : Nat) (s : State) : DiagRes := ([0x7F, b8 sid, b8 code], s)

/-- A positive response to a request with a subfunction: dropped under the suppress bit. -/
def positive (sub : Nat) (b : Bytes) (s : State) : DiagRes := (if sub.testBit 7 then [] else b, s)

/-- One hexadecimal digit in ASCII. -/
def hexDigit (n : Nat) : Byte := if n < 10 then b8 (0x30 + n) else b8 (0x41 + (n - 10))

/-- The serial as 16 ASCII hex digits (R102). -/
def serialAscii (n : Nat) : Bytes := (List.range 16).map (fun i => hexDigit (n / 16 ^ (15 - i) % 16))

/-- The part as 7 ASCII characters (R102). -/
def partAscii (p : Part) : Bytes := [0x42, 0x5A, 0x2D, 0x37, 0x34, 0x36, (match p with
  | .bz7460 => 0x30
  | .bz7464 => 0x34)]

/-- DTCs of the event log's entries after the newest DTC_CLEAR, each once (R102, R492): source, kind, class. -/
def logDtcs (s : State) : List Nat :=
  ((s.nvm.log.takeWhile (fun e => e.device != 2)).filter (fun e => e.device == 0)).foldl (fun acc e =>
    let d := e.msg.source * 65536 + e.msg.kind * 256 + clsCode e.msg.cls
    if acc.contains d then acc else acc ++ [d]) []

/-- Their statuses: confirmedDTC, and testFailed as the spec leaves it (free, log 7). -/
def dtcStatuses : List Nat → State → List (Nat × Nat) × State
  | [], s => ([], s)
  | d :: r, s => let x := draw s; let y := dtcStatuses r x.2; ((d, 8 + x.1 % 2) :: y.1, y.2)

/-- DTCs as reported: as they stood while updates pause. -/
def dtcNow (s : State) : List (Nat × Nat) × State := match s.nvm.diag.dtcHold with
  | some l => (l, s)
  | none => dtcStatuses (logDtcs s) s

/-- Every DTC the device can report: the catalogue of R351 with its class. -/
def dtcCatalogue (s : State) : List Nat :=
  (List.range 128).flatMap (fun src => ([1, 2, 3, 4, 5, 6].filter (fun k => (catalogue src k).isSome)).map (fun k => src * 65536 + k * 256 + clsCode (classOf s src k)))

/-- A DTC with its status as bytes. -/
def dtcBytes (l : List (Nat × Nat)) : Bytes := l.flatMap (fun d => be 3 d.1 ++ [b8 d.2])

/-- The diagnostic session changed. -/
def modDiag (f : Diag → Diag) (s : State) : State := { s with nvm := { s.nvm with diag := f s.nvm.diag } }

/-- The privilege a request runs at by its session: P0 in an operator session, whose one command above it has a check of its own (R315). -/
def reqPriv (s : State) (r : Req) : Nat := match findSession s r.transport r.session with
  | some x => if isOperator x then 0 else sessPriv x
  | none => 0

/-- 0x10 DiagnosticSessionControl. -/
def diagSession (r : Req) (b : Bytes) (s : State) : DiagRes :=
  let sub := byte b 1
  if b.length != 2 then nrc 0x10 0x13 s
  else match sub % 128 with
  | 1 => let d := drawBytes 4 s; positive sub ([0x50, 1] ++ d.1) (modDiag (fun x => { x with extended := false }) d.2)
  | 3 =>
    if s.mode.mode == .service && decide (3 ≤ reqPriv s r) then
      let d := drawBytes 4 s; positive sub ([0x50, 3] ++ d.1) (modDiag (fun x => { x with extended := true }) d.2)
    else nrc 0x10 0x22 s
  | _ => nrc 0x10 0x12 s

/-- 0x11 ECUReset. -/
def diagReset (r : Req) (b : Bytes) (s : State) : DiagRes :=
  let sub := byte b 1
  if b.length != 2 then nrc 0x11 0x13 s
  else if sub % 128 != 1 then nrc 0x11 0x12 s
  else if s.mode.mode == .run then nrc 0x11 0x22 s
  else positive sub [0x51, 1] (resetAfterReply r .cmd s)

/-- 0x14 ClearDiagnosticInformation (R492): the DTC_CLEAR entry. -/
def diagClear (b : Bytes) (s : State) : DiagRes :=
  if !s.nvm.diag.extended then nrc 0x14 0x22 s
  else if b.length != 4 then nrc 0x14 0x13 s
  else if field b 1 3 != 0xFFFFFF then nrc 0x14 0x31 s
  else ([0x54], modDiag (fun x => { x with dtcHold := x.dtcHold.map (fun _ => []) }) (logWrite { kind := 2 } 2 s))

/-- 0x19 ReadDTCInformation. -/
def diagDtcs (b : Bytes) (s : State) : DiagRes :=
  let sub := byte b 1
  match sub % 128 with
  | 0x01 =>
    if b.length != 3 then nrc 0x19 0x13 s
    else let d := dtcNow s; positive sub ([0x59, 0x01, 0x09, 0x01] ++ be 2 (d.1.filter (fun x => x.2 &&& byte b 2 &&& 9 != 0)).length) d.2
  | 0x02 =>
    if b.length != 3 then nrc 0x19 0x13 s
    else let d := dtcNow s; positive sub ([0x59, 0x02, 0x09] ++ dtcBytes (d.1.filter (fun x => x.2 &&& byte b 2 &&& 9 != 0))) d.2
  | 0x0A =>
    if b.length != 2 then nrc 0x19 0x13 s
    else let d := dtcNow s; positive sub ([0x59, 0x0A, 0x09] ++ dtcBytes ((dtcCatalogue s).map (fun c => (c, lookupN c d.1)))) d.2
  | _ => if b.length < 2 then nrc 0x19 0x13 s else nrc 0x19 0x12 s

/-- The Twill record of a data identifier (R472). -/
def didCfg (s : State) (did : Nat) : Option TwDid := (tw s).dids.find? (fun d => d.did == did)

/-- The value of a data identifier (R102, R472, R493). -/
def didValue (s : State) (did : Nat) : Option Bytes :=
  match did with
  | 0xF18C => some (serialAscii s.otp.serial)
  | 0xF191 => some (partAscii s.otp.part)
  | 0xF195 => some (be 4 ((regionHeader 0 (activeBank s).smisa).getD {}).imageVer)
  | _ => (didCfg s did).map (fun c => if c.writable then (lookup? did s.nvm.dids).getD c.value else c.value)

/-- The identifiers of a read request. -/
def didList (b : Bytes) : List Nat := (List.range ((b.length - 1) / 2)).map (fun i => field b (1 + 2 * i) 2)

/-- 0x22 ReadDataByIdentifier. -/
def diagRead (b : Bytes) (s : State) : DiagRes :=
  let l := didList b
  if b.length % 2 != 1 || l.isEmpty || decide (4 < l.length) then nrc 0x22 0x13 s
  else if l.any (fun d => (didValue s d).isNone) then nrc 0x22 0x31 s
  else (0x62 :: l.flatMap (fun d => be 2 d ++ (didValue s d).getD []), s)

/-- The logical page that holds a writable identifier: 12 to a page (R493). -/
def didPage (did : Nat) : Nat := (did - 0xF1A0) / 12

/-- 0x2E WriteDataByIdentifier (R451, R452, R455, R493). -/
def diagWrite (r : Req) (b : Bytes) (s : State) : DiagRes :=
  let did := field b 1 2
  let v := b.drop 3
  if reqPriv s r < 3 then nrc 0x2E 0x33 s
  else if !s.nvm.diag.extended then nrc 0x2E 0x22 s
  else match didCfg s did with
  | none => if b.length < 4 || decide (20 < v.length) then nrc 0x2E 0x13 s else nrc 0x2E 0x31 s
  | some c =>
    if v.length != c.value.length then nrc 0x2E 0x13 s
    else if !c.writable then nrc 0x2E 0x31 s
    else if s.ao.life / 3600 + 64 ≤ (s.nvm.didPages.getD (didPage did) {}).writes then nrc 0x2E 0x72 s
    else
      let s1 := bump 0x51 5 1 s
      ([0x6E] ++ be 2 did, { s1 with nvm := { s1.nvm with dids := setN did v s1.nvm.dids, didPages := modAt (fun p => { p with stamp := p.stamp + 1, writes := p.writes + 1, eraseAt := some (s1.now + sec 1) }) (didPage did) s1.nvm.didPages } })

/-- A short-term adjustment of 0x2F that claims its object (R102): its fields are right, and the mode does not refuse a claim. -/
def diagClaims (b : Bytes) (s : State) : Bool :=
  let did := field b 1 2
  byte b 0 == 0x2F && b.length == 5 && decide (0xFD00 ≤ did) && decide (did ≤ 0xFD37) && byte b 3 == 3 && decide (byte b 4 ≤ 1) && !modeRefused 0x1003 [] s

/-- The claim of 0x2F: at priority 15 as the service session, decided at the end of the arbitration step (R74, R102). -/
def diagClaim (r : Req) (b : Bytes) (s : State) : State :=
  { s with outs := { s.outs with claims := s.outs.claims ++
      [{ owner := .service, object := field b 1 2 - 0xFD00, prio := 15, sess := some (r.transport, r.session), req := some r, diag := some (byte b 4) }] } }

/-- 0x2F InputOutputControlByIdentifier, but for an adjustment whose claim waits. -/
def diagControl (b : Bytes) (s : State) : DiagRes :=
  let did := field b 1 2
  let o := did - 0xFD00
  if b.length < 4 then nrc 0x2F 0x13 s
  else if did < 0xFD00 ∨ 0xFD37 < did then nrc 0x2F 0x31 s
  else match byte b 3 with
  | 0 => if b.length != 4 then nrc 0x2F 0x13 s else ([0x6F] ++ be 2 did ++ [0], if owns s .service o then releaseObject o s else s)
  | 3 =>
    if b.length != 5 then nrc 0x2F 0x13 s
    else if 1 < byte b 4 then nrc 0x2F 0x31 s
    else nrc 0x2F 0x22 s
  | _ => nrc 0x2F 0x31 s

/-- Routine 0xD001, the wiper's service position (R134). -/
def diagWiper (sub : Nat) (s : State) : DiagRes :=
  if (tw s).wiper.isNone then nrc 0x31 0x31 s
  else if sub % 128 == 1 then
    if modeRefused 0x1202 [6] s || !serviceOwns s (wiperChannels s false) then nrc 0x31 0x22 s
    else positive sub [0x71, 1, 0xD0, 0x01] (wiperSet 6 s.outs.wiper.sens s.outs.wiper.interval s)
  else positive sub [0x71, 3, 0xD0, 0x01, if s.outs.wiper.phase == .atService then 2 else if s.outs.wiper.mode == 6 then 1 else 0] s

/-- Routine 0xD002, the learn of an actuator (R140). -/
def diagLearn (sub n : Nat) (s : State) : DiagRes :=
  if decide (3 < n) || (motionCfg s n).isNone then nrc 0x31 0x31 s
  else if sub % 128 == 1 then
    if (getAct s n).learn != 0 || !serviceOwns s (actChannels s n) || !snapOk s (4 + n) then nrc 0x31 0x22 s
    else positive sub [0x71, 1, 0xD0, 0x02] (modDiag (fun x => { x with learn := 1 }) (learnStart n none s))
  else positive sub [0x71, 3, 0xD0, 0x02, b8 s.nvm.diag.learn] s

/-- 0x31 RoutineControl. -/
def diagRoutine (b : Bytes) (s : State) : DiagRes :=
  let sub := byte b 1
  if b.length < 4 then nrc 0x31 0x13 s
  else if sub % 128 != 1 ∧ sub % 128 != 3 then nrc 0x31 0x12 s
  else if s.mode.mode != .service then nrc 0x31 0x22 s
  else match field b 2 2 with
  | 0xD001 => if b.length != 4 then nrc 0x31 0x13 s else diagWiper sub s
  | 0xD002 => if b.length != 5 then nrc 0x31 0x13 s else diagLearn sub (byte b 4) s
  | _ => nrc 0x31 0x31 s

/-- 0x3E TesterPresent. -/
def diagPresent (b : Bytes) (s : State) : DiagRes :=
  let sub := byte b 1
  if b.length != 2 then nrc 0x3E 0x13 s else if sub % 128 != 0 then nrc 0x3E 0x12 s else positive sub [0x7E, 0] s

/-- 0x85 ControlDTCSetting. -/
def diagSetting (b : Bytes) (s : State) : DiagRes :=
  let sub := byte b 1
  if b.length < 2 then nrc 0x85 0x13 s
  else match sub % 128 with
  | 1 => positive sub [0xC5, 1] (modDiag (fun x => { x with dtcHold := none }) s)
  | 2 => let d := dtcNow s; positive sub [0xC5, 2] (modDiag (fun x => { x with dtcHold := some d.1 }) d.2)
  | _ => nrc 0x85 0x12 s

/-- One diagnostic request. -/
def diagServe (r : Req) (b : Bytes) (s : State) : DiagRes :=
  match byte b 0 with
  | 0x10 => diagSession r b s
  | 0x11 => diagReset r b s
  | 0x14 => diagClear b s
  | 0x19 => diagDtcs b s
  | 0x22 => diagRead b s
  | 0x2E => diagWrite r b s
  | 0x2F => diagControl b s
  | 0x31 => diagRoutine b s
  | 0x3E => diagPresent b s
  | 0x85 => diagSetting b s
  | sid => nrc sid 0x11 s

/-- DIAG.REQ (R102): it starts the S3 time anew, and is answered when the service has completed. -/
def hDiagReq (r : Req) (s : State) : Reply :=
  let s1 := modDiag (fun x => { x with s3At := s.now + sec 5 }) s
  if diagClaims r.payload s then .later (diagClaim r r.payload s1)
  else let d := diagServe r r.payload s1; okay d.1 d.2

/-- DIAG_S3_TIMEOUT (R102). -/
def s3TimeoutStep (s : State) : State :=
  if s.nvm.diag.extended && decide (s.nvm.diag.s3At ≤ s.now) then modDiag (fun x => { x with extended := false }) s else s

end Sys2Proof.Machine
end

