-- ==== Sys2Proof/Machine/KeyStore.lean ====
section
/-! DEFINITION. The key store as its users read it (R304, R308, R310; 10_enclave.md). -/

namespace Sys2Proof.Machine

/-- The active cell of a slot: its generation tag equals G and its CRC holds (terms, R308); none where the slot reads empty. -/
def activeCell (k : KeySlot) : Option Cell :=
  ([k.a, k.b].filterMap id).find? (fun c => c.gen == k.g && c.ok)

/-- The algorithm a slot reports: 0 when empty (R304). -/
def slotAlg (k : KeySlot) : Nat := match activeCell k with
  | some c => c.alg
  | none => 0

/-- Slots that are reserved and always empty (R304). -/
def slotReserved (n : Nat) : Bool := (decide (4 ≤ n) && decide (n ≤ 7)) || decide (28 ≤ n)

/-- A segment key as the enclave loads it into the engine (R232, R289): an AES-128 key whose usage names Millrace segments. -/
def segmentKey (s : State) (slot : Nat) : Option Bytes :=
  if s.enc.avail && !s.enc.segregated then
    (activeCell (getSlot s slot)).bind (fun c => if c.alg == 1 && tbit c.usage 2 then some c.key else none)
  else none

end Sys2Proof.Machine
end

