-- ==== Sys2Proof/Machine/Tag.lean ====
section
/-! DEFINITION. The credential insert: records, acceptance, state, write-back and removal; and the transactions of the tag (R259 to R287, 09_tag.md; R317, R318, 10_enclave.md). -/

namespace Sys2Proof.Machine

/-- The tag changed. -/
def modTag (f : Tag → Tag) (s : State) : State := { s with tag := f s.tag }

/-- The insert record of a serial (R282). -/
def getRec (s : State) (serial : Bytes) : InsRec := (s.tag.recs.find? (fun r => r.serial == serial)).getD { serial := serial }

/-- An insert record changed. -/
def modRec (serial : Bytes) (f : InsRec → InsRec) (s : State) : State :=
  modTag (fun t => { t with recs := t.recs.map (fun r => if r.serial == serial then f r else r) }) s

/-- The record of the open insert session. -/
def sessRec (s : State) : InsRec := match s.tag.sess with
  | some x => getRec s x.serial
  | none => {}

/-- A record as bytes (R286). -/
def txnBytes (r : TxnRec) : Bytes :=
  be 4 r.txn ++ be 4 r.utc ++ be 4 r.life ++ [b8 r.kind, b8 r.outcome, b8 r.phase, b8 (bit r.rtcSet + 2 * bit r.counted + 4 * bit r.receipt + 16 * r.mmi)] ++
    be 4 r.beacon ++ be 4 r.hash

/-- Completed-transaction events taken by the service core as TAG.TXN, oldest first (R14, R259). -/
def takeEvents (s : State) : State :=
  if smisaRuns s && s.enc.avail then
    let l := s.tag.buffer
    l.foldl (fun acc r => event 0x30E0 1 (txnBytes r) acc) (modTag (fun t => { t with buffer := [] }) s)
  else s

/-- A new insert state: INS.CHANGE, and the tag state taken again (R264, R284). -/
def setIns (v : Nat) (s : State) : State :=
  if s.tag.ins == v then tagEval s
  else
    let s1 := tagEval (modTag (fun t => { t with ins := v }) s)
    if smisaRuns s1 then event 0x31E0 0 [b8 v] s1 else s1

/-- The insert state that R280 decides: 3 expired, 4 exhausted, 2 valid. -/
def decideIns (s : State) : Nat := match s.tag.sess with
  | none => 0
  | some x =>
    let c := x.contract
    let r := getRec s x.serial
    if !s.ao.rtcSet || decide (s.ao.rtc < c.notBefore) || decide (c.notAfter ≤ s.ao.rtc) then 3
    else if (c.txnCeiling != 0 && decide (c.txnCeiling ≤ r.committed) && !r.reserved) || (c.insCeiling != 0 && decide (c.insCeiling < r.insertions)) then 4
    else 2

/-- A reservation written where none is held and the count lies below the ceiling (R281). -/
def reserve (s : State) : State := match s.tag.sess with
  | none => s
  | some x =>
    let r := getRec s x.serial
    if !r.reserved && (x.contract.txnCeiling == 0 || decide (r.committed < x.contract.txnCeiling)) then
      modRec x.serial (fun r => { r with committed := (r.committed + 1) % 4294967296, reserved := true }) s
    else s

/-- The next reservation, where the state is valid (R281). -/
def reserveNext (s : State) : State := if decideIns s == 2 then reserve s else s

/-- The insert state decided again while a session is open; a running transaction holds it (R280). A state that becomes valid holds its reservation (R281). -/
def insEval (s : State) : State := if s.tag.sess.isSome && s.tag.txn.isNone && s.enc.avail then setIns (decideIns s) (reserveNext s) else s

/-- The reservation spent by a counted transaction (R281). -/
def spend (s : State) : State := match s.tag.sess with
  | some x => modRec x.serial (fun r => { r with reserved := false }) s
  | none => s

/-- A record written to the log and its event put into the buffer (R286), and taken where the service core runs. -/
def logTxn (r : TxnRec) (s : State) : State :=
  let n := (s.tag.lastTxn + 1) % 4294967296
  let r1 := { r with txn := n }
  takeEvents (tagEval (modTag (fun t => { t with lastTxn := n, log := (r1 :: t.log).take 512, buffer := t.buffer ++ [r1] }) s))

/-- The APDU of INS.APDU goes to the insert once no transaction and no write-back runs; the tag is silent from then on (R264). -/
def sendApdu (s : State) : State := match s.tag.apdu with
  | some (_, _, _, a) => if s.tag.txn.isNone && s.tag.wb.isNone && !s.tag.apduRuns then tagEval (modTag (fun t => { t with insSent := some a, apduRuns := true }) s) else s
  | none => s

/-- After a transaction (R280, R281, R283): the next reservation, the state, and a write-back where count or receipts changed. -/
def afterTxn (receipt : Bool) (s : State) : State :=
  let before := (sessRec s).committed
  let s1 := reserveNext s
  let changed := receipt || (sessRec s1).committed != before
  let s2 := if changed && s1.tag.sess.isSome then modTag (fun t => { t with wbAt := some (s1.now + ms 500), wbRetry := false }) s1 else s1
  sendApdu (insEval s2)

/-- The receipts' hash (R286). -/
def receiptHash (r : InsRec) : Nat := field (sha256 (r.receipt1 ++ r.receipt2)) 0 4

/-- A DSRC transaction ends with an outcome, and its record is made (R284, R286, R287). -/
def endTxn (outcome : Nat) (s : State) : State := match s.tag.txn with
  | none => s
  | some d =>
    let r : TxnRec := { utc := d.utc, life := d.life, kind := 0, outcome := outcome, phase := d.phase, rtcSet := d.rtcSet, counted := d.counted, receipt := d.receipt,
                        mmi := d.mmi, beacon := d.beacon, hash := if d.receipt then receiptHash (sessRec s) else 0 }
    afterTxn d.receipt (logTxn r (modTag (fun t => { t with txn := none }) s))

/-- Attributes of a sequence (identifier, length, value), R278; none where it is malformed. `fuel` bounds their number. -/
def parseAttrs : Nat → Bytes → Option (List (Nat × Bytes))
  | _, [] => some []
  | 0, _ => none
  | fuel + 1, b =>
    let n := byte b 1
    if b.length < 2 + n then none else (parseAttrs fuel (b.drop (2 + n))).map (fun l => (byte b 0, slice b 2 n) :: l)

/-- Contract data read (R278, R279 step 6): none where a reserved field is not zero or the layout is malformed. -/
def parseContract (b : Bytes) : Option Contract :=
  let alen := field b 22 2
  if decide (b.length < 104) || b.length != 104 + alen || decide (400 < alen) || decide (16 ≤ byte b 18) || decide (2 ≤ byte b 20) then none
  else (parseAttrs 200 (b.drop 104)).map (fun l =>
    { id := field b 0 4, notBefore := field b 4 4, notAfter := field b 8 4, txnCeiling := field b 12 4, insCeiling := field b 16 2, profile := byte b 18,
      eqsMount := byte b 19 % 16, eqsForced := byte b 19 / 16, eqsSticky := byte b 20 == 1, keygen := byte b 21,
      epc := slice b 24 16, user := slice b 40 64, attrs := l })

/-- One interface group of an ATR: TA, TB and TD where the indicator names them (ISO/IEC 7816-3; log 25). -/
structure AtrGroup where
  ta : Option Nat := none
  tb : Option Nat := none
  td : Option Nat := none
  deriving DecidableEq, Repr

/-- The byte an indicator bit announces, and the rest. -/
def atrByte (on : Bool) (b : Bytes) : Option Nat × Bytes := if on then (some (byte b 0), b.drop 1) else (none, b)

/-- The interface groups of an ATR, each with the protocol that announced it; `y` is the indicator of the first (ISO/IEC 7816-3; log 25). -/
def atrGroups : Nat → Nat → Nat → Bytes → List (Nat × AtrGroup)
  | 0, _, _, _ => []
  | fuel + 1, y, proto, b =>
    let a := atrByte (tbit y 0) b
    let c := atrByte (tbit y 1) a.2
    let e := atrByte (tbit y 2) c.2
    let d := atrByte (tbit y 3) e.2
    (proto, { ta := a.1, tb := c.1, td := d.1 }) :: (match d.1 with
      | some t => atrGroups fuel (t / 16) (t % 16) d.2
      | none => [])

/-- The groups of an ATR: TS, T0, then the groups. -/
def atrOf (b : Bytes) : List (Nat × AtrGroup) := atrGroups 8 (byte b 1 / 16) 0 (b.drop 2)

/-- An ATR that R275 takes: T=1 is offered, and the classes of T=15 include B. -/
def atrOk (b : Bytes) : Bool :=
  let g := atrOf b
  g.any (fun x => x.2.td.any (fun t => t % 16 == 1)) && g.any (fun x => x.1 == 15 && x.2.ta.any (fun t => tbit t 1))

/-- Fi by the upper half of TA1, of those the device takes (R275; ISO/IEC 7816-3, log 25). -/
def fiOf (ta : Nat) : Option Nat := match ta / 16 with
  | 0 => some 372 | 1 => some 372 | 9 => some 512 | _ => none

/-- Di by the lower half of TA1, of those the device takes (R275; ISO/IEC 7816-3, log 25). -/
def diOf (ta : Nat) : Option Nat := match ta % 16 with
  | 1 => some 1 | 2 => some 2 | 3 => some 4 | 4 => some 8 | _ => none

/-- The Fi and Di of TA1 where the device takes both (R275). -/
def ta1Of (b : Bytes) : Option (Nat × Nat × Nat) :=
  (((atrOf b).head?).bind (fun x => x.2.ta)).bind (fun ta => (fiOf ta).bind (fun f => (diOf ta).map (fun d => (ta, f, d))))

/-- The PPS request for T=1 with the Fi and Di of TA1 (R275; ISO/IEC 7816-3, log 25): PPSS, PPS0, PPS1, PCK. -/
def ppsOf (ta : Nat) : Bytes := [0xFF, 0x11, b8 ta, 0xFF ^^^ 0x11 ^^^ b8 ta]

/-- BWI and CWI of the first T=1 group that carries them; 4 and 13 otherwise (ISO/IEC 7816-3, log 25). -/
def waitsOf (b : Bytes) : Nat × Nat := match ((atrOf b).drop 2).find? (fun x => x.1 == 1 && x.2.tb.isSome) with
  | some x => ((x.2.tb.getD 0x4D) / 16, (x.2.tb.getD 0x4D) % 16)
  | none => (4, 13)

/-- The interface with Fi and Di in force (R275; ISO/IEC 7816-3, log 25): BWT is 11 etu and 2^BWI × 960 × 372 clocks, CWT 11 + 2^CWI etu, of 3.75 MHz. -/
def linkWith (atr : Bytes) (fi di : Nat) : CardLink :=
  { atr := atr, fi := fi, di := di, bwt := (11 * fi + di * 2 ^ (waitsOf atr).1 * 960 * 372) * 4 / (15 * di), cwt := (11 + 2 ^ (waitsOf atr).2) * fi * 4 / (15 * di) }

/-- What the activation does next: it has failed, a PPS goes out, or the interface is ready. -/
inductive CardNext where
  | fail | pps (l : CardLink) | ready (l : CardLink)
  deriving DecidableEq, Repr

/-- The ATR read (R275). -/
def cardAtr (d : Bytes) : CardNext :=
  if !atrOk d then .fail
  else match ta1Of d with
  | some (ta, _, _) => .pps { linkWith d 372 1 with pps := ppsOf ta }
  | none => .ready (linkWith d 372 1)

/-- The answer to PPS (R275; ISO/IEC 7816-3, log 25): an echo takes its Fi and Di, one without PPS1 keeps the defaults, any other ends the activation. -/
def cardPps (l : CardLink) (d : Bytes) : CardNext :=
  match ta1Of l.atr with
  | some (_, f, i) => if d == l.pps then .ready (linkWith l.atr f i) else if d == [0xFF, 0x01, 0xFE] then .ready (linkWith l.atr 372 1) else .fail
  | none => .fail

/-- The insert interface changed. -/
def modLink (f : CardLink → CardLink) (s : State) : State := modTag (fun t => { t with link := f t.link }) s

/-- The insert interface activated (R275, R276): INS_VCC on, the ATR awaited. -/
def activate (s : State) : State := modTag (fun t => { t with vcc := true, insSent := none, link := { bwtAt := s.now + ms 1500 } }) s

/-- A PPS sent; the insert answers within 9600 etu (ISO/IEC 7816-3, log 25). -/
def sendPps (l : CardLink) (s : State) : State := modTag (fun t => { t with insSent := some l.pps, link := { l with bwtAt := s.now + 952320 } }) s

/-- The acceptance in progress changed. -/
def modAccept (f : Accept → Accept) (s : State) : State := modTag (fun t => { t with accept := t.accept.map f }) s

/-- An APDU sent to the insert, which answers within BWT (R277). -/
def sendInsert (a : Bytes) (s : State) : State := modLink (fun l => { l with bwtAt := s.now + l.bwt, retries := 0 }) (modTag (fun t => { t with insSent := some a }) s)

/-- A block in error answered by a retransmission request; none once three have been used (R277). -/
def repeatBlock (atr : Bool) (s : State) : Option State :=
  if 3 ≤ s.tag.link.retries then none
  else some (modLink (fun l => { l with retries := l.retries + 1, bwtAt := s.now + (if atr then ms 1500 else l.bwt) }) s)

/-- Acceptance begins (R279); `raise` is false for an insert present at start-up (R282, R292). -/
def startAccept (raise : Bool) (s : State) : State := setIns 1 (activate (modTag (fun t => { t with accept := some { raise := raise }, detAt := none }) s))

/-- Acceptance ends rejected (R277, R279). -/
def reject (s : State) : State := setIns 5 (modTag (fun t => { t with accept := none, vcc := false }) s)

/-- The nonce of secure messaging (R318). -/
def smNonce (resp : Bool) (ctr : Nat) : Bytes := b8 (bit resp) :: be 4 ctr ++ List.replicate 8 0

/-- A command under secure messaging with an empty data field (R318). -/
def smCommand (x : Accept) (ins p : Nat) : Bytes := [0x80, b8 ins] ++ be 2 p ++ [b8 8] ++ Config.ccmSeal x.kSm (smNonce false x.ctr) ([0x80, b8 ins] ++ be 2 p) [] ++ [0]

/-- The data of a response under secure messaging (R318). -/
def smResponse (x : Accept) (ins p : Nat) (d : Bytes) : Option Bytes := Config.ccmOpen x.kSm (smNonce true x.ctr) ([0x80, b8 ins] ++ be 2 p) d

/-- Anchors by slot: the public keys an operator certificate is verified against (R279, R304). -/
def operatorAnchors (s : State) : List Bytes := ([24, 25, 26, 27].filterMap (fun n => activeCell (getSlot s n))).map (fun c => c.key)

/-- The RTC lies within a certificate's validity, or is not set (R279, R315). -/
def certValid (s : State) (c : Config.Cert) : Bool := !s.ao.rtcSet || (decide (c.notBefore ≤ s.ao.rtc) && decide (s.ao.rtc ≤ c.notAfter))

/-- Step 3 of R279: the operator certificate against an anchor, the insert certificate against it; the insert certificate. -/
def chainOk (s : State) (chain : Bytes) : Option Config.Cert :=
  match (Config.splitChain chain).bind (fun p => (Config.parseCert p.1).bind (fun i => (Config.parseCert p.2).map (fun o => (i, o)))) with
  | none => none
  | some (i, o) =>
    if (operatorAnchors s).any (fun k => Config.ecdsaOk k o.tbs o.sig) && o.p256 && o.certSign && certValid s o &&
       Config.ecdsaOk o.key i.tbs i.sig && i.p256 && i.digitalSignature && i.keyAgreement && certValid s i then some i else none

/-- A record for a serial: the present one, a new one, or one in place of the oldest of 16 (R282). -/
def ensureRec (serial : Bytes) (s : State) : State :=
  if s.tag.recs.any (fun r => r.serial == serial) then s
  else if s.tag.recs.length < 16 then modTag (fun t => { t with recs := t.recs ++ [{ serial := serial }] }) s
  else
    let old := s.tag.recs.foldl (fun m r => min m r.last) ((s.tag.recs.getD 0 {}).last)
    modTag (fun t => { t with recs := t.recs.filter (fun r => r.last != old) ++ [{ serial := serial }] }) s

/-- Step 5 of R279: the insertion counted, and the record the newest (R282). -/
def countInsertion (serial : Bytes) (raise : Bool) (s : State) : State :=
  let top := s.tag.recs.foldl (fun m r => max m r.last) 0
  modRec serial (fun r => { r with insertions := if raise then satInc 0xFFFF r.insertions else r.insertions, last := top + 1 }) (ensureRec serial s)

/-- An attribute of contract data by its ISO 14906 identifier (log 24). -/
def contractAttr (c : Contract) (id : Nat) : Option Bytes := lookup? id c.attrs

/-- Steps 7 and 8 of R279: the committed count against the insert's counter, which no APDU of R277 delivers (free, log 7); receipts initialised from contract data (R269); the reservation; the session. -/
def openInsert (x : Accept) (c : Contract) (keys : Bytes) (s : State) : State :=
  let d := draw s
  let ctr := d.1 % 4294967296
  let s1 := modRec x.serial (fun r =>
    { r with committed := max r.committed ctr, reserved := r.reserved && decide (ctr ≤ r.committed),
             receipt1 := if r.receipt1.isEmpty then (contractAttr c 33).getD [] else r.receipt1,
             receipt2 := if r.receipt2.isEmpty then (contractAttr c 34).getD [] else r.receipt2 }) d.2
  let s2 := modTag (fun t => { t with accept := none, vcc := false, stickyMount := t.stickyMount || s1.rls.removed,
                                      sess := some { serial := x.serial, contract := c, dsrcKeys := keys.take (keys.length - 16), uhfKey := keys.drop (keys.length - 16) } }) s1
  insEval (reserve s2)

/-- The SELECT of R277: seven bytes of AID. -/
def selectApdu : Bytes := [0x00, 0xA4, 0x04, 0x00, 0x07, 0xF0, 0x46, 0x4E, 0x54, 0x41, 0x47, 0x01]

/-- The activation goes on in acceptance: rejected, PPS, or SELECT (R275, R279). -/
def acceptCard (n : CardNext) (s : State) : State := match n with
  | .fail => reject s
  | .pps l => sendPps l (modAccept (fun y => { y with step := 7 }) s)
  | .ready l => sendInsert selectApdu (modLink (fun _ => l) (modAccept (fun y => { y with step := 1 }) s))

/-- An answer of the insert in acceptance: the next APDU, the end, or rejection (R277, R279, R317). -/
def acceptData (x : Accept) (d : Bytes) (s : State) : State :=
  match x.step with
  | 0 => acceptCard (cardAtr d) s
  | 7 => acceptCard (cardPps s.tag.link d) s
  | 1 => sendInsert [0x80, 0x30, 0, 0, 240] (modAccept (fun y => { y with step := 2 }) s)
  | 2 =>
    let chain := x.chain ++ d
    if 240 < d.length then reject s
    else if d.length == 240 then sendInsert ([0x80, 0x30] ++ be 2 chain.length ++ [240]) (modAccept (fun y => { y with chain := chain }) s)
    else match chainOk s chain with
    | none => reject s
    | some _ =>
      let r := randomBytes 32 s
      sendInsert ([0x80, 0x32, 0, 0, 32] ++ r.1 ++ [0]) (modAccept (fun y => { y with step := 3, chain := chain, challenge := r.1 }) r.2)
  | 3 =>
    (match chainOk s x.chain with
    | none => reject s
    | some c =>
      if d.length == 64 && Config.ecdsaOk c.key x.challenge d then
        let s1 := countInsertion c.serial x.raise s
        let e := random s1
        sendInsert ([0x80, 0x34, 0, 0, 65] ++ Config.ecPublic e.1 ++ [0]) (modAccept (fun y => { y with step := 4, serial := c.serial, insKey := c.key, secret := e.1 }) e.2)
      else reject s)
  | 4 =>
    if d.length == 65 && Config.pointOk d then
      let k := (Config.hkdf x.challenge (Config.ecdh x.secret d ++ Config.ecdh x.secret x.insKey) [0x44, 0x4D, 0x53, 0x4B, 0x2D, 0x49, 0x4E, 0x53] 16)
      let y := { x with step := 5, kSm := k, ctr := 0, secret := 0 }
      sendInsert (smCommand y 0x36 0) (modAccept (fun _ => y) s)
    else reject s
  | 5 =>
    (match smResponse x 0x36 x.contract.length d with
    | none => reject s
    | some p =>
      let c := x.contract ++ p
      let y := { x with contract := c, ctr := x.ctr + 1 }
      if decide (104 ≤ c.length) && decide (104 + field c 22 2 ≤ c.length) then
        (if (parseContract c).isNone then reject s
         else let z := { y with step := 6 }; sendInsert (smCommand z 0x38 0) (modAccept (fun _ => z) s))
      else if p.isEmpty then reject s
      else sendInsert (smCommand y 0x36 c.length) (modAccept (fun _ => y) s))
  | _ =>
    (match smResponse x 0x38 0 d, parseContract x.contract with
    | some keys, some c => if 16 < keys.length then openInsert x c keys s else reject s
    | _, _ => reject s)

/-- The answer to INS.APDU handed to its request. -/
def apduDone (status : Nat) (body : Bytes) (s : State) : State := match s.tag.apdu with
  | some (t, i, q, _) => insEval (tagEval (complete t i q status body (modTag (fun x => { x with apdu := none, apduRuns := false, insSent := none }) s)))
  | none => s

/-- UPDATE COUNTER (R277, R283): the committed count and both receipts of 32 bytes. -/
def updateCounter (r : InsRec) : Bytes := [0x80, 0x3A, 0, 0, 68] ++ be 4 r.committed ++ padTo 32 0 r.receipt1 ++ padTo 32 0 r.receipt2

/-- A write-back finished, well or not (R276, R283): the interface deactivated, and once again after 1 s where the first one failed. -/
def writeDone (ok : Bool) (s : State) : State :=
  sendApdu (modTag (fun t => { t with wb := none, vcc := false, wbAt := if ok || t.wbRetry then none else some (s.now + sec 1), wbRetry := !ok && !t.wbRetry }) s)

/-- The activation goes on in a write-back: failed, PPS, or UPDATE COUNTER (R275, R283; DEDUCED, log 133). -/
def writeCard (n : CardNext) (s : State) : State := match n with
  | .fail => writeDone false s
  | .pps l => sendPps l (modTag (fun t => { t with wb := some 1 }) s)
  | .ready l => sendInsert (updateCounter (sessRec s)) (modLink (fun _ => l) (modTag (fun t => { t with wb := some 2 }) s))

/-- An answer of the insert in a write-back (R283). -/
def writeData (step : Nat) (d : Bytes) (sw : Nat) (s : State) : State := match step with
  | 0 => writeCard (cardAtr d) s
  | 1 => writeCard (cardPps s.tag.link d) s
  | _ => writeDone (sw == 0x9000) s

/-- A write-back begins where one is due and nothing else holds the insert (R260, R276, R283). -/
def startWrite (s : State) : State :=
  if s.tag.wb.isSome || s.tag.apduRuns || s.tag.txn.isSome || s.tag.sess.isNone || !s.enc.avail then s
  else if s.pwr.fallback then writeDone false s
  else activate (modTag (fun t => { t with wb := some 0 }) s)

/-- A running write-back gives way to a transaction, which never shares the insert (R260): the interface deactivated, the write-back still due (DEDUCED, log 133). -/
def cutWrite (s : State) : State := if s.tag.wb.isSome then modTag (fun t => { t with wb := none, vcc := false }) s else s

/-- INSERT_APDU_RESPONSE (R277, R279, R283): a T=1 error is repeated three times; a status word other than 0x9000 ends acceptance. -/
def insertResponseStep (d : Bytes) (sw : Nat) (crcOk : Bool) (s : State) : State :=
  match s.tag.accept, s.tag.wb with
  | some x, _ =>
    if !s.enc.avail then s
    else if !crcOk then (repeatBlock (x.step == 0) s).getD (reject s)
    else if x.step != 0 && x.step != 7 && sw != 0x9000 then reject s
    else acceptData x d s
  | none, some n =>
    if !s.enc.avail then s
    else if !crcOk then (repeatBlock (n == 0) s).getD (writeDone false s)
    else writeData n d sw s
  | none, none => if s.tag.apduRuns && crcOk then apduDone 0x00 (d ++ be 2 sw) s else s

/-- BWT_TIMEOUT (R277, R283; R66 for INS.APDU). -/
def bwtStep (s : State) : State :=
  match s.tag.accept, s.tag.wb with
  | some _, _ => if s.tag.link.bwtAt ≤ s.now then reject s else s
  | none, some _ => if s.tag.link.bwtAt ≤ s.now then writeDone false s else s
  | none, none => if s.tag.apdu.isSome && decide (s.tag.apduAt ≤ s.now) then apduDone 0x15 [] s else s

/-- The tag side is present: the BZ-7460 (R1, R2). -/
def hasTag (s : State) : Bool := s.otp.part == .bz7460

/-- An insert that is present is accepted once the enclave serves (R279, R292). -/
def acceptPresent (s : State) : State :=
  if hasTag s && s.env.insDet && s.enc.avail && !s.enc.segregated && !s.pwr.fallback && s.tag.sess.isNone && s.tag.accept.isNone && (decide (s.tag.ins ≤ 1) || s.tag.detAt.isSome) then
    startAccept s.tag.detAt.isSome s
  else s

/-- INSERTION (R276, R279): INS_DET present for 50 ms; the insert is being checked from now on, even while the enclave is away; in PARKED it wakes the device (R409); counted in class 0x30 (R479). -/
def insertionStep (s : State) : State :=
  if !hasTag s || s.env.insDet then s
  else
    let s1 := modTag (fun t => { t with detAt := some s.now }) { s with env := { s.env with insDet := true } }
    acceptPresent (setIns 1 (bump 0x30 0 1 (wakeEvent 0x58 s1)))

/-- REMOVAL (R276, R284): deactivation, the session zeroised, a running transaction abandoned with outcome 1, the state absent, and a forced removal passed to the tamper monitors. -/
def removalStep (s : State) : State :=
  if !hasTag s || !s.env.insDet then s
  else
    let forced := s.tag.vcc || s.tag.txn.isSome
    let s1 := match s.tag.txn with
      | some d => logTxn { utc := d.utc, life := d.life, kind := 0, outcome := 1, phase := d.phase, rtcSet := d.rtcSet, counted := d.counted, receipt := d.receipt,
                           mmi := d.mmi, beacon := d.beacon, hash := if d.receipt then receiptHash (sessRec s) else 0 } (modTag (fun t => { t with txn := none }) s)
      | none => s
    let s2 := modTag (fun t => { t with sess := none, accept := none, vcc := false, detAt := none, wbAt := none, wbRetry := false, wb := none, stickyMount := false, forced := forced })
      { s1 with env := { s1.env with insDet := false } }
    let s3 := sendApdu (setIns 0 s2)
    if forced then tamperEvent 6 s3 else s3

/-- INSERT_STATE_TICK (R280). -/
def insertTickStep (s : State) : State := insEval s

/-- WRITE_BACK (R283). -/
def writeBackStep (s : State) : State := if s.tag.wbAt.isSome && !s.tag.wbRetry then startWrite s else s

/-- WRITE_BACK_RETRY (R283): once after 1 s. -/
def writeRetryStep (s : State) : State := if s.tag.wbRetry && due s.tag.wbAt s then startWrite s else s

/-- ENCLAVE_EVENT_TAKE (R14). -/
def eventTakeStep (s : State) : State := tagEval (takeEvents s)

end Sys2Proof.Machine
end

