-- ==== Sys2Proof/Machine/Enclave.lean ====
section
/-! DEFINITION. The enclave's own starts and restarts, and its tamper functions over time (R292 to R297, R308, R319 to R321, 10_enclave.md; R323 to R347, 11_tamper.md). -/

namespace Sys2Proof.Machine

/-- A system entry of the tamper log (R338), or its source's overflow counter when the log is full (R343); COUNT 1 (DESIGN CHOICE, log 26). -/
def sysEntry (kind : Nat) (s : State) : State :=
  if 1023 ≤ s.enc.log.length then { s with enc := { s.enc with overflow := modAt (satInc 0xFFFF) 6 s.enc.overflow } }
  else fillLog (appendEntry { life := s.ao.life, utc := utcStamp s, source := 7, kind := kind, rtcSet := s.ao.rtcSet, count := 1 } s)

/-- The stricter of two rules: a higher RESPONSE, a lower N, a higher W (R331). -/
def stricter (a b : TamperRule) : TamperRule := { response := max a.response b.response, n := min a.n b.n, w := max a.w b.w }

/-- The working policy taken from Twill at an ENC start, and the production lock (R331, R347). -/
def takePolicy (s : State) : State :=
  let t := (tw s).tamper
  if s.otp.prodLock then
    let p := (s.enc.policy.zip t.rules).map (fun e => stricter e.1 e.2)
    if p == s.enc.policy then s else sysEntry 0x12 { s with enc := { s.enc with policy := p } }
  else
    let s1 := { s with enc := { s.enc with policy := t.rules } }
    if t.lock then sysEntry 0x11 { s1 with otp := { s1.otp with prodLock := true } } else s1

/-- A slot after R308: the cell tagged G stays, the other is cleared; a cell that fails leaves the slot empty. -/
def sweepSlot (k : KeySlot) : KeySlot :=
  let keep := fun (c : Cell) => c.gen == k.g && c.ok
  { k with a := k.a.filter keep, b := if (k.a.filter keep).isSome then none else k.b.filter keep }

/-- A slot that held something and reads empty after R308. -/
def cellLost (k : KeySlot) : Bool := (k.a.isSome || k.b.isSome) && (activeCell k).isNone

/-- The key store swept at an ENC start, with a Notice for each slot that lost its key (R308). -/
def sweepSlots (s : State) : State :=
  let lost := (s.enc.slots.filter cellLost).length
  (List.range lost).foldl (fun acc _ => issue 0x32 0x03 0 acc) { s with enc := { s.enc with slots := s.enc.slots.map sweepSlot } }

/-- The DIK is absent: slot 0 reads empty (R297). -/
def dikLost (s : State) : Bool := (activeCell (getSlot s 0)).isNone

/-- The certificate against OTP, and the Notice of R297. -/
def checkIdentity (s : State) : State :=
  let bad := sha256 s.enc.cert != s.otp.certHash
  let s1 := { s with enc := { s.enc with certFault := bad } }
  if bad || dikLost s1 then issue 0x32 0x02 0 s1 else s1

/-- The generations of the active bank's Smisa and Thean agree (R319). -/
def gensOk (s : State) : Bool :=
  match regionHeader 0 (activeBank s).smisa, regionHeader 1 (activeBank s).thean with
  | some a, some b => gensAgree a b
  | _, _ => true

/-- The segregated state decided at an ENC start, with its Notice (R319, R320); under an unconfirmed bank the trial has failed (R511). -/
def checkGens (s : State) : State :=
  let seg := !gensOk s
  let s1 := { s with enc := { s.enc with segregated := seg } }
  if seg then
    let s2 := issue 0x32 0x04 0 s1
    if confirmed s2.boot.sel s2.boot.sel.active || s2.boot.trialReset then s2
    else bootWrite (fun r => { r with trialFailed := true }) { s2 with boot := { s2.boot with trialReset := true } }
  else s1

/-- The AO validity marker checked (R337). -/
def checkAo (s : State) : State := if s.ao.valid then s else sysEntry 0x10 { s with ao := { s.ao with valid := true } }

/-- An ENCR (R294, R295): enclave SRAM zeroised, Thean stopped until its restart within 50 ms, a configuration staging abandoned (R95), a Recoverable message. -/
def encReset (s : State) : State :=
  let s1 := clearWindows (encLost { s with ao := addHistory .encr s.ao, nvm := { s.nvm with staging := none } })
  issue 0x32 0x01 0 (tagEval { s1 with enc := { s1.enc with restartAt := some (s1.now + ms 50) } })

/-- ENC_START (R292, R297, R302, R308, R319, R331, R333, R337, R347): entropy tests first, then every check; the insert that is present is accepted again. -/
def encStartStep (entropyOk : Bool) (s : State) : State :=
  if !isOn s .enc || s.enc.avail || s.pwr.inReset then s
  else if !entropyOk then encReset s
  else
    let s1 := { s with enc := { s.enc with avail := true, restartAt := none, ksk := true, drbg := 0, wdtAt := s.now + ms 100 } }
    let s2 := checkAo (takePolicy (checkGens (checkIdentity (sweepSlots s1))))
    acceptPresent (tagEval (armMonitors (keysReturn s2)))

/-- ENCLAVE_WATCHDOG_EXPIRY (R294): 100 ms without service. -/
def encWatchdogStep (s : State) : State := if isOn s .enc && s.enc.avail && decide (s.enc.wdtAt ≤ s.now) then encReset s else s

/-- ENCR (R294). -/
def encrStep (s : State) : State := if isOn s .enc && s.enc.avail then encReset s else s

/-- Mesh lines whose far end does not read the driven bit (R322, R323). -/
def meshFails (driven far : Nat) : Nat := ((List.range 24).filter (fun i => driven.testBit i != far.testBit i)).length

/-- The source of what was seen and its number of events (R323, R325): none inside the limits. -/
def tamperSeen : TamperSeen → Nat × Nat
  | .mesh d f => (1, meshFails d f)
  | .core mv ns => (2, bit ((decide (mv < 780) || decide (1020 < mv)) && decide (10 ≤ ns)))
  | .v33 mv ns => (2, bit ((decide (mv < 2800) || decide (3800 < mv)) && decide (20 ≤ ns)))
  | .clock khz => (3, bit (decide (khz < 80000) || decide (120000 < khz)))
  | .noEdge ns => (3, bit (decide (100 ≤ ns)))
  | .temp c => (4, bit (decide (c < -50) || decide (160 < c)))

/-- TAMPER_EVENT (R323, R325, R326): the active check's mesh lines while it runs, and the monitors of ENC; the events of MOUNT and INSERT come with the measurement and the removal. -/
def tamperEventStep (seen : TamperSeen) (s : State) : State :=
  let e := tamperSeen seen
  if e.1 == 1 && !activeCheck s then s else (List.range e.2).foldl (fun acc _ => tamperEvent e.1 acc) s

/-- A source re-armed (R326). -/
def rearm (src : Nat) (s : State) : State := { s with ao := { s.ao with alarmed := s.ao.alarmed.filter (fun x => x != src) } }

/-- A passing slow check: the third in a row re-arms SHIELD (R326). -/
def slowPass (s : State) : State :=
  let s1 := modMon 1 (fun m => { m with passes := m.passes + 1 }) s
  if 3 ≤ (getMon s1 1).passes then rearm 1 s1 else s1

/-- SLOW_CHECK (R324): every 4 s while the active check does not run; a failing one is an event and starts the confirm burst. -/
def slowCheckStep (pass : Bool) (s : State) : State :=
  if activeCheck s || decide (s.now < s.enc.slowAt) then s
  else
    let s1 := { s with enc := { s.enc with slowAt := s.now + sec 4 } }
    if pass then slowPass s1
    else
      let s2 := tamperEvent 1 s1
      { s2 with enc := { s2.enc with confirm := (if (tamperRule s 1).n ≤ 1 then none else some 1), confirmAt := s.now + 50 } }

/-- SLOW_CHECK_CONFIRM (R324): every 50 µs, until N events or a pass. -/
def slowConfirmStep (pass : Bool) (s : State) : State :=
  match s.enc.confirm with
  | none => s
  | some k =>
    if activeCheck s then { s with enc := { s.enc with confirm := none } }
    else if s.now < s.enc.confirmAt then s
    else if pass then slowPass { s with enc := { s.enc with confirm := none } }
    else
      let s1 := tamperEvent 1 s
      { s1 with enc := { s1.enc with confirm := (if (tamperRule s 1).n ≤ k + 1 then none else some (k + 1)), confirmAt := s.now + 50 } }

/-- MONITOR_ARMED (R325): 100 µs after the run condition began. -/
def monitorArmedStep (src : Nat) (s : State) : State :=
  let m := getMon s src
  if decide (1 ≤ src) && decide (src ≤ 6) && monitorRuns s src && !m.armed && (match m.armAt with
    | some a => decide (a ≤ s.now)
    | none => true) then modMon src (fun m => { m with armed := true, armAt := none, lastAt := max m.lastAt s.now }) s
  else s

/-- TAMPER_REARM (R326): the source has run for 10 s with no event; under the slow check SHIELD re-arms by its passes instead. -/
def rearmStep (src : Nat) (s : State) : State :=
  if (src != 1 || activeCheck s) && s.ao.alarmed.contains src && (getMon s src).armed && monitorRuns s src && decide ((getMon s src).lastAt + sec 10 ≤ s.now) then rearm src s else s

/-- TAMPER_LOG_WRITE (R340, R341): the line written (0), left all 0xFF by a power failure (1), or poisoned (2). -/
def logWriteStep (line : Nat) (s : State) : State :=
  if !activeCheck s then s
  else match line with
  | 0 => writePending s
  | 2 => poisonLine s
  | _ => s

end Sys2Proof.Machine
end

