-- ==== Sys2Proof/Machine/HandCfg.lean ====
section
/-! DEFINITION. Handlers of the CFG and LIFE groups (R95, 03_commands.md; R455, R473 to R479, R490, R491, 16_persistent.md). -/

namespace Sys2Proof.Machine

/-- The status of an enclave-backed command while the enclave does not serve it: ST_COMPAT in the segregated state (R320), otherwise ST_AUTH (R13, R66); none while it serves. -/
def encStatus (s : State) : Option Nat := if s.enc.segregated then some stCompat else if s.enc.avail then none else some stAuth

/-- A Twill copy by number. -/
def copyOf (s : State) (n : Nat) : TwillCopy := if n == 0 then s.nvm.copyA else s.nvm.copyB

/-- The active copy (R475). -/
def activeCopy (s : State) : Option TwillCopy := s.nvm.active.map (copyOf s)

/-- The readable sequence number of a copy. -/
def copySeq (c : TwillCopy) : Option Nat := c.stamp.map (fun x => x.1)

/-- The commits of the present life-clock day (R455, R477). -/
def commitsToday (s : State) : Nat := if lifeCtr s 0x50 14 == s.ao.life / 86400 then lifeCtr s 0x50 15 else 0

/-- The body of CFG.INFO (R477); with no active copy the sequence, CRC and signed fields are free values (log 7). -/
def hCfgInfo (_r : Req) (s : State) : Reply :=
  let tail := [b8 (min 255 (commitsToday s))] ++ be 2 (min 0xFFFF (lifeCtr s 0x50 13))
  match s.nvm.active, activeCopy s with
  | some n, some c => okay ([b8 n] ++ be 4 ((copySeq c).getD 0) ++ be 4 ((c.stamp.map (fun x => x.2.2)).getD 0) ++ [b8 (bit (twillSigned c.image))] ++ tail) s
  | _, _ => let f := drawBytes 9 s; okay ([0xFF] ++ f.1 ++ tail) f.2

/-- The open staging of this requester (R95). -/
def myStaging (s : State) (r : Req) : Option Staging :=
  match s.nvm.staging with
  | some g => if g.owner == requester s r then some g else none
  | none => none

/-- The staging written. -/
def setStaging (g : Option Staging) (s : State) : State := { s with nvm := { s.nvm with staging := g } }

/-- CFG.BEGIN (R95); a second one of the holder starts its staging anew (log 114). -/
def hCfgBegin (r : Req) (s : State) : Reply :=
  let n := field r.payload 0 4
  if decide (n < 64) || decide (61440 < n) then deny stRange s
  else inMode 0x5002 r s (
    if s.nvm.staging.isSome && (myStaging s r).isNone then deny stBusy s
    else okay [] (setStaging (some { owner := requester s r, t := r.transport, sess := r.session, length := n, idleAt := s.now + sec 30 }) s))

/-- CFG.DATA (R95): bytes within the image length; ST_STATE without a staging of the requester (log 114). -/
def hCfgData (r : Req) (s : State) : Reply :=
  let o := field r.payload 0 4
  let d := r.payload.drop 4
  inMode 0x5003 r s (
    match myStaging s r with
    | none => deny stState s
    | some g =>
      if g.length < o + d.length then deny stRange s
      else okay [] (setStaging (some { g with data := (o, d) :: g.data, idleAt := s.now + sec 30 }) s))

/-- A staged byte, the newest write of it. -/
def stagedByte (l : List (Nat × Bytes)) (i : Nat) : Option Byte :=
  match l.find? (fun e => decide (e.1 ≤ i) && decide (i < e.1 + e.2.length)) with
  | some e => e.2[i - e.1]?
  | none => none

/-- The staged image once every byte has been written. -/
def stagedBytes (g : Staging) : Option Bytes := (List.range g.length).mapM (stagedByte g.data)

/-- The key a slot holds (R304, R308). -/
def slotKey (s : State) (n : Nat) : Option Cell := activeCell (getSlot s n)

/-- The OEM signature of a staged image (R456, R474). -/
def signatureGood (s : State) (img : Bytes) : Bool :=
  twillSigned img && decide (64 < img.length) && s.enc.ksk && (match slotKey s 2 with
    | some c => Config.ecdsaOk c.key (img.take (img.length - 64)) (img.drop (img.length - 64))
    | none => false)

/-- A signature is required: SIGNED set, or REQUIRE_SIGNED in the active copy (R474). -/
def signatureNeeded (s : State) (img : Bytes) : Bool :=
  twillSigned img || (match activeCopy s with
    | some c => tbit (byte c.image 5) 1
    | none => false)

/-- The commit allowance of Twill (R455). -/
def commitOk (s : State) : Bool := decide (commitsToday s < 100) && decide (lifeCtr s 0x50 13 < 20000)

/-- The commit counters raised (R455, R474 step C1). -/
def countCommit (s : State) : State :=
  let n := commitsToday s + 1
  setLife 0x50 15 n (setLife 0x50 14 (s.ao.life / 86400) (bump 0x50 13 1 s))

/-- The new sequence number (R474). -/
def commitSeq (s : State) : Nat :=
  match copySeq s.nvm.copyA, copySeq s.nvm.copyB with
  | some a, some b => (max a b + 1) % 4294967296
  | some a, none => (a + 1) % 4294967296
  | none, some b => (b + 1) % 4294967296
  | none, none => 1

/-- The target of a commit: the copy that is not active, or copy A (R474). -/
def commitTarget (s : State) : Nat := if s.nvm.active == some 0 then 1 else 0

/-- Steps C1 to C4 (R474): the frame, the erase of the target's 16 sectors, the image, the stamp. -/
def commitImage (img : Bytes) (crc : Nat) (s : State) : State :=
  let s1 := eraseSectors (16 * commitTarget s) 16 (flushLife false (countCommit s))
  setStaging none (putCopy (commitTarget s) { image := img, stamp := some (commitSeq s, img.length, crc) } s1)

/-- A commit whose checks have passed (R474): carried out and answered, or its step C1 done and the rest still running when the next command comes. -/
def commitStart (img : Bytes) (crc : Nat) (r : Req) (s : State) : Reply :=
  if s.env.commitRuns then
    let s1 := flushLife false (countCommit s)
    .later { s1 with nvm := { s1.nvm with commit := some { target := commitTarget s, img := img, crc := crc, seq := commitSeq s, req := r, startAt := s.now } } }
  else okay (be 4 (commitSeq s)) (commitImage img crc s)

/-- CFG.COMMIT (R95, R474); ST_STATE without a staging of the requester (log 114). -/
def hCfgCommit (r : Req) (s : State) : Reply :=
  let crc := field r.payload 0 4
  inMode 0x5004 r s (
    match myStaging s r with
    | none => deny stState s
    | some g =>
      match stagedBytes g with
      | none => deny stState s
      | some img =>
        if crc32 img != crc then deny stVerify s
        else if signatureNeeded s img && s.enc.segregated then deny stCompat s
        else if signatureNeeded s img && !(s.enc.avail && signatureGood s img) then deny stVerify s
        else if !commitOk s then deny stEndurance s
        else commitStart img crc r s)

/-- CFG.READ (R477). -/
def hCfgRead (r : Req) (s : State) : Reply :=
  let o := field r.payload 0 4
  let n := field r.payload 4 2
  if n == 0 || decide (992 < n) then deny stRange s
  else match activeCopy s with
  | none => deny stState s
  | some c => if c.image.length < o + n then deny stRange s else okay (slice c.image o n) s

/-- CFG.ABORT (R95); ST_STATE without a staging of the requester (log 114). -/
def hCfgAbort (r : Req) (s : State) : Reply :=
  match myStaging s r with
  | some _ => okay [] (setStaging none s)
  | none => deny stState s

/-- CFG_STAGING_IDLE (R95): 30 s without CFG.DATA. -/
def stagingIdleStep (s : State) : State :=
  match s.nvm.staging with
  | some g => if g.idleAt ≤ s.now then setStaging none s else s
  | none => s

/-- LIFE.CLOCK. -/
def hLifeClock (_r : Req) (s : State) : Reply := okay (be 4 s.ao.life ++ be 4 (utcStamp s) ++ [b8 (bit s.ao.rtcSet)]) s

/-- Transactions used of an insert record: the committed count less a reservation (R281, R479); 0 for a place without a record. -/
def txnsUsed (s : State) (i : Nat) : Nat :=
  match s.tag.recs[i]? with
  | some x => x.committed - bit x.reserved
  | none => 0

/-- A counter as LIFE.COUNTER reports it: 8 bytes (R479). -/
def counterBytes (s : State) (cls idx : Nat) : Bytes := be 8 (if cls == 0x31 then txnsUsed s idx else lifeCtr s cls idx)

/-- LIFE.COUNTER (R479): class 0x31 is read from the enclave. -/
def hLifeCounter (r : Req) (s : State) : Reply :=
  let cls := byte r.payload 0
  let i := field r.payload 1 2
  let n := byte r.payload 3
  match classRange cls with
  | none => deny stRange s
  | some (lo, hi) =>
    if n == 0 || decide (120 < n) || decide (i < lo) || decide (hi + 1 < i + n) then deny stRange s
    else
      match (if cls == 0x31 then encStatus s else none) with
      | some st => deny st s
      | none => okay ((List.range' i n).flatMap (counterBytes s cls)) s

/-- LIFE.NOTICES (R490). -/
def hLifeNotices (_r : Req) (s : State) : Reply :=
  okay ([b8 s.nvm.notices.length] ++ s.nvm.notices.flatMap (fun n => be 2 n.code ++ be 2 n.object ++ be 4 n.life)) s

/-- The life counter that an acknowledged notice sets to 0 (R491). -/
def ackCounter (code object : Nat) : Option (Nat × Nat) :=
  if code == 1 || code == 2 then some (0x04, object) else if code == 3 then some (0x40, 1) else none

/-- A notice acknowledged (R491): removed; the part's counter at 0 and the life clock of the replacement recorded in page 8. -/
def ackNotice (code object page : Nat) (s : State) : State :=
  let s1 := snapCount page { s with nvm := { s.nvm with notices := s.nvm.notices.filter (fun n => !(n.code == code && n.object == object)) } }
  match ackCounter code object with
  | none => s1
  | some (cls, idx) =>
    let s2 := setLife cls idx 0 (snapCount 8 s1)
    { s2 with nvm := { s2.nvm with bases := s2.nvm.bases.filter (fun b => !(b.1 == code && b.2.1 == object)) ++ [(code, object, s2.ao.life)],
                                   frac := if cls == 0x04 then setAt idx 0 s2.nvm.frac else s2.nvm.frac } }

/-- LIFE.ACK (R491). -/
def hLifeAck (r : Req) (s : State) : Reply :=
  let code := field r.payload 0 2
  let obj := field r.payload 2 2
  if !(s.nvm.notices.any (fun n => n.code == code && n.object == obj)) then deny stRange s
  else inMode 0x5104 r s (
    let page := 1 + min 89 (s.nvm.notices.findIdx (fun n => n.code == code && n.object == obj)) / 30
    if !snapOk s page || ((ackCounter code obj).isSome && !snapOk s 8) then deny stEndurance s
    else okay [] (ackNotice code obj page s))

end Sys2Proof.Machine
end

