-- ==== Sys2Proof/Machine/HandEnc.lean ====
section
/-! DEFINITION. Handlers of the TAG, INS, ENC and TMP groups (R93, R94, 03_commands.md; 09_tag.md; 10_enclave.md; 11_tamper.md). -/

namespace Sys2Proof.Machine

/-- A command that the enclave serves in full only (R13, R320): ST_COMPAT in the segregated state, ST_AUTH while it is unavailable. -/
def withEnc (s : State) (k : Reply) : Reply := match encStatus s with
  | some st => deny st s
  | none => k

/-- A command of the frozen basic set (R320). -/
def withBasic (s : State) (k : Reply) : Reply := if s.enc.avail then k else deny stAuth s

/-- The identity functions (R297). -/
def withIdentity (s : State) (k : Reply) : Reply := if s.enc.certFault then deny stVerify s else if dikLost s then deny stDenied s else k

/-- TAG.GET (R264). -/
def hTagGet (_ : Req) (s : State) : Reply := okay (b8 s.tag.state :: be 4 s.tag.lastTxn) s

/-- TAG.ENABLE (R263). -/
def hTagEnable (r : Req) (s : State) : Reply :=
  let v := byte r.payload 0
  if 1 < v then deny stRange s
  else inMode 0x3002 r s (withEnc s (
    let s1 := tagEval (modTag (fun t => { t with enableFlag := v == 1 }) s)
    okay [b8 s1.tag.state] s1))

/-- TAG.TXNLOG (R286): numbers older than the log or not yet issued are out of range. -/
def hTagTxnlog (r : Req) (s : State) : Reply :=
  let n := field r.payload 0 4
  let c := byte r.payload 4
  let oldest := (s.tag.log.getLast?.getD {}).txn
  if decide (c < 1) || decide (40 < c) || s.tag.log.isEmpty || decide (n < oldest) || decide (s.tag.lastTxn < n + c - 1) then deny stRange s
  else withEnc s (okay ((s.tag.log.reverse.filter (fun x => decide (n ≤ x.txn) && decide (x.txn < n + c))).flatMap txnBytes) s)

/-- INS.GET: validity end, transactions left and insertion count of the open session; without one the spec states no value for them (free, log 7), nor for transactions left without a ceiling. -/
def hInsGet (_ : Req) (s : State) : Reply :=
  let hd := [b8 (bit s.env.insDet), b8 s.tag.ins]
  match s.tag.sess with
  | none => let d := drawBytes 10 s; okay (hd ++ d.1) d.2
  | some x =>
    let r := getRec s x.serial
    if x.contract.txnCeiling == 0 then
      let d := drawBytes 4 s
      okay (hd ++ be 4 x.contract.notAfter ++ d.1 ++ be 2 r.insertions) d.2
    else okay (hd ++ be 4 x.contract.notAfter ++ be 4 (x.contract.txnCeiling - (r.committed - bit r.reserved)) ++ be 2 r.insertions) s

/-- INS.APDU (R264, 09_tag.md): it waits for a running transaction, and the tag is silent while it runs; answered when the insert answers. -/
def hInsApdu (r : Req) (s : State) : Reply :=
  inMode 0x3102 r s (withEnc s (
    if !s.env.insDet || s.tag.accept.isSome then deny stState s
    else if s.tag.apdu.isSome then deny stBusy s
    else .later (sendApdu (modTag (fun t => { t with apdu := some (r.transport, r.session, r.seq, r.payload), apduAt := s.now + sec 2, apduRuns := false }) s))))

/-- ENC.CERT (R298). -/
def hEncCert (r : Req) (s : State) : Reply :=
  let o := field r.payload 0 2
  if s.enc.cert.length ≤ o then (if s.enc.certFault || dikLost s then withBasic s (withIdentity s (deny stRange s)) else deny stRange s)
  else withBasic s (withIdentity s (okay (be 2 s.enc.cert.length ++ slice s.enc.cert o 960) s))

/-- Authenticated sessions open on a transport, and on the device (R59). -/
def authCount (s : State) (p : Session → Bool) : Nat := (s.mbx.sessions.filter (fun x => x.id != 0 && p x)).length

/-- A session ID from a drawn value: never 0, all ones or one in use (R313). -/
def freshId (s : State) : Nat → Nat → Nat
  | 0, v => v
  | fuel + 1, v => if v == 0 || v == 0xFFFFFFFF || s.mbx.sessions.any (fun x => x.id == v) then freshId s fuel ((v + 1) % 4294967296) else v

/-- The transcript T1 of ENC.OPEN (R313). -/
def openTranscript (s : State) (p id : Nat) (qH nH qD nD : Bytes) : Bytes := [0x01, b8 p] ++ qH ++ nH ++ be 4 id ++ qD ++ nD ++ be 8 s.otp.serial

/-- The transcript T2 of ENC.PROVE (R315). -/
def proveTranscript (x : Session) : Bytes := [0x02] ++ be 4 x.id ++ x.nD ++ x.nH ++ x.qH ++ x.qD

/-- ENC.OPEN (R59, R93, R313, R314); inside an authenticated session ST_STATE (log 110). -/
def hEncOpen (r : Req) (s : State) : Reply :=
  let p := byte r.payload 0
  let qH := slice r.payload 1 65
  let nH := slice r.payload 66 16
  if decide (p < 1) || decide (4 < p) || !Config.pointOk qH then deny stRange s
  else if r.session != 0 then deny stState s
  else withEnc s (withIdentity s (
    if decide (2 ≤ authCount s (fun x => x.transport == r.transport)) || decide (6 ≤ authCount s (fun _ => true)) then deny stBusy s
    else
      let a := random s
      let b := random a.2
      let c := randomBytes 16 b.2
      let id := freshId s 8 (a.1 % 4294967296)
      let qD := Config.ecPublic b.1
      let k := Config.hkdf (nH ++ c.1) (Config.ecdh b.1 qH) ([0x44, 0x4D, 0x53, 0x4B, 0x2D, 0x4D, 0x42, 0x58] ++ be 4 id) 48
      let x : Session := { id := id, transport := r.transport, sought := p, proven := false, kHd := slice k 0 16, kDh := slice k 16 16, kW := slice k 32 16,
                           qH := qH, nH := nH, qD := qD, nD := c.1, proveAt := s.now + sec 10, idleAt := s.now + sec (tw s).transports.idleS }
      okay (be 4 id ++ padTo 65 0 qD ++ c.1 ++ padTo 64 0 (Config.dikSign (openTranscript s p id qH nH qD c.1)))
        { c.2 with mbx := { c.2.mbx with sessions := c.2.mbx.sessions ++ [x] } }))

/-- The ceiling an anchor grants (R304). -/
def anchorCeiling (n : Nat) : Nat := if n == 1 then 3 else if n == 2 then 2 else 4

/-- The anchor that signed a certificate (R315 check 1). -/
def anchorOf (s : State) (c : Config.Cert) : Option Nat :=
  [1, 2, 3, 24, 25, 26, 27].find? (fun n => match activeCell (getSlot s n) with
    | some k => k.alg == 4 && Config.ecdsaOk k.key c.tbs c.sig
    | none => false)

/-- The checks of R315: the anchor that grants the privilege. -/
def proveOk (s : State) (x : Session) (cert sig : Bytes) : Option Nat :=
  (Config.parseCert cert).bind (fun c => (anchorOf s c).bind (fun n =>
    if c.p256 && c.digitalSignature && certValid s c && Config.ecdsaOk c.key (proveTranscript x) sig then some n else none))

/-- ENC.PROVE (R93, R315); inside an authenticated session ST_STATE (log 110), for an unknown session ST_SESSION and for a proven one ST_STATE (log 111). -/
def hEncProve (r : Req) (s : State) : Reply :=
  let id := field r.payload 0 4
  let n := field r.payload 4 2
  if r.payload.length != 70 + n then deny stPayload s
  else if decide (900 < n) then deny stRange s
  else if r.session != 0 then deny stState s
  else withEnc s (
    match findSession s r.transport id with
    | none => deny stSession s
    | some x =>
      if x.id == 0 then deny stSession s
      else if x.proven then deny stState s
      else match proveOk s x (slice r.payload 6 n) (slice r.payload (6 + n) 64) with
      | none => .done stVerify [] (closeSession r.transport id s)
      | some a =>
        let g := min x.sought (anchorCeiling a)
        okay [b8 g] (modSession r.transport id (fun y => { y with proven := true, priv := g, anchor := some a, idleAt := s.now + sec (tw s).transports.idleS }) s))

/-- ENC.CLOSE (R93): answered, then the session that carries it closes; in session 0 ST_STATE (log 110). -/
def hEncClose (r : Req) (s : State) : Reply :=
  if r.session == 0 then deny stState s else .thenDo stOk [] s (closeSession r.transport r.session)

/-- The image version of a region, 0 when none (R300). -/
def verOf (kind : Nat) (g : Region) : Nat := match regionHeader kind g with
  | some h => h.imageVer
  | none => 0

/-- Bytes 0 to 123 of the attestation statement (R300). -/
def statement (s : State) (nonce : Bytes) : Bytes :=
  let b := activeBank s
  let sm := (regionHeader 0 b.smisa).getD {}
  let th := (regionHeader 1 b.thean).getD {}
  let st := match s.nvm.active with
    | some n => (copyOf s n).stamp
    | none => none
  [0x01, b8 (bit s.enc.segregated + 2 * bit s.otp.prodLock + 4 * bit s.ao.grave.isSome + 8 * bit (s.ao.sticky != 0) + 16 * bit s.ao.rtcSet)] ++ be 2 silicon ++ be 8 s.otp.serial ++
    padTo 16 0 nonce ++ be 4 s.ao.life ++ be 4 (utcStamp s) ++ be 4 (verOf 0 b.smisa) ++ be 4 (verOf 1 b.thean) ++ be 4 (verOf 2 b.ext) ++
    [b8 (byte th.gen 0), b8 (byte sm.gen 0)] ++ be 2 s.ao.sticky ++ (List.range 8).flatMap (fun i => be 4 (if i == 3 then 0 else s.enc.counters.getD i 0)) ++
    padTo 32 0 s.boot.smisaHash ++ (match st with
      | some (q, _, c) => be 4 q ++ be 4 c
      | none => be 4 0xFFFFFFFF ++ be 4 0)

/-- ENC.ATTEST (R299, R300). -/
def hEncAttest (r : Req) (s : State) : Reply :=
  withBasic s (withIdentity s (
    let b := statement s r.payload
    okay (b ++ padTo 64 0 (Config.dikSign b)) s))

/-- KLEN of an ALG (R305). -/
def algLen : Nat → Nat
  | 1 => 16 | 2 => 32 | 4 => 65 | _ => 0

/-- An ALG fits a slot (R306). -/
def algFits (slot alg : Nat) : Bool :=
  if (decide (1 ≤ slot) && decide (slot ≤ 3)) || (decide (24 ≤ slot) && decide (slot ≤ 27)) then alg == 4
  else decide (8 ≤ slot) && decide (slot ≤ 23) && (alg == 1 || alg == 2)

/-- The fields of a wrapped key are right (R306). -/
def wrapOk (slot : Nat) (p : Bytes) : Bool :=
  let alg := byte p 1
  algFits slot alg && decide (byte p 2 < 32) && field p 3 2 == algLen alg && p.length == 33 + algLen alg

/-- The life-clock day of a State (R311). -/
def keyDay (s : State) : Nat := s.ao.life / 86400

/-- Key updates counted on this life-clock day (R311). -/
def updatesToday (s : State) : Nat := if s.enc.dayNo == keyDay s then s.enc.dayUpdates else 0

/-- An update counted against both limits of R311. -/
def countUpdate (slot : Nat) (s : State) : State :=
  modSlot slot (fun k => { k with updates := k.updates + 1 }) { s with enc := { s.enc with dayUpdates := updatesToday s + 1, dayNo := keyDay s } }

/-- A key unwrapped (R307 steps 2 to 7): written, committed and answered; ST_INTERNAL where the read-back does not match; or still running when the next command comes (R309). -/
def keyUpdate (slot : Nat) (c : Cell) (r : Req) (s : State) : Reply :=
  match s.env.keyRun with
  | .done => okay (be 4 ((getSlot s slot).g + 1)) (modSlot slot (commitKey c) s)
  | .mismatch => deny stInternal s
  | .runs => .later { s with enc := { s.enc with updating := s.enc.updating ++ [{ slot := slot, cell := c, g := (getSlot s slot).g, req := r, startAt := s.now }] } }

/-- ENC.KEYUPD (R94, R305 to R311). -/
def hEncKeyupd (r : Req) (s : State) : Reply :=
  let slot := byte r.payload 0
  withEnc s (
    match findSession s r.transport r.session with
    | none => deny stDenied s
    | some x =>
      if 31 < slot then deny stRange s
      else if x.anchor != some 3 || slot == 0 || slotReserved slot then deny stDenied s
      else if !wrapOk slot r.payload then deny stRange s
      else inMode 0x3206 r s (
        let k := getSlot s slot
        if s.enc.updating.any (fun u => u.slot == slot) then deny stBusy s
        else if decide (64 ≤ updatesToday s) || decide (4096 ≤ k.updates) || k.g == 0xFFFFFFFF then deny stEndurance s
        else
          let s1 := countUpdate slot s
          let alg := byte r.payload 1
          match Config.gcmOpen x.kW (slice r.payload 5 12) ([b8 slot] ++ be 4 x.id ++ be 4 k.g) (slice r.payload 17 (algLen alg)) (r.payload.drop (17 + algLen alg)) with
          | none => .done stVerify [] s1
          | some key => keyUpdate slot { alg := alg, usage := byte r.payload 2, key := key } r s1))

/-- ENC.KEYINFO (R304). -/
def hEncKeyinfo (r : Req) (s : State) : Reply :=
  let n := byte r.payload 0
  if 31 < n then deny stRange s else withBasic s (okay (be 4 (getSlot s n).g ++ [b8 (slotAlg (getSlot s n))]) s)

/-- ENC.COUNTER (R312): counter 3 reads 0. -/
def hEncCounter (r : Req) (s : State) : Reply :=
  let n := byte r.payload 0
  if 7 < n then deny stRange s else withBasic s (okay (be 4 (if n == 3 then 0 else s.enc.counters.getD n 0)) s)

/-- TMP.FLAGS (R336). -/
def hTmpFlags (_ : Req) (s : State) : Reply := okay (be 2 s.ao.sticky) s

/-- The 16 bytes of entry `i`; all 0xFF where it is not yet written (R342). -/
def logEntry (s : State) (i : Nat) : Bytes := match s.enc.log[i]? with
  | some e => entryBytes e
  | none => List.replicate 16 0xFF

/-- TMP.LOG (R342). -/
def hTmpLog (r : Req) (s : State) : Reply :=
  let f := field r.payload 0 2
  let c := byte r.payload 2
  if decide (1023 < f) || decide (c < 1) || decide (60 < c) || decide (1024 < f + c) then deny stRange s
  else withEnc s (okay ((List.range' f c).flatMap (logEntry s)) s)

/-- The signed export built from the log as it stands (R344). -/
def buildExport (s : State) : Bytes :=
  let n := s.enc.log.length
  let b := [0x01, b8 (bit (decide (1024 ≤ n)) + 2 * bit s.otp.prodLock)] ++ be 2 silicon ++ be 8 s.otp.serial ++ be 4 s.ao.life ++ be 4 (utcStamp s) ++
    be 2 s.ao.sticky ++ be 2 n ++ s.enc.overflow.flatMap (be 2) ++ [0, 0] ++ s.enc.log.flatMap entryBytes
  b ++ padTo 64 0 (Config.dikSign b)

/-- TMP.EXPORT (R344). -/
def hTmpExport (r : Req) (s : State) : Reply :=
  let o := field r.payload 0 4
  withEnc s (withIdentity s (
    if o == 0 then
      let b := buildExport s
      okay (be 4 b.length ++ b.take 960) { s with enc := { s.enc with export_ := some (r.transport, r.session, b) } }
    else match s.enc.export_ with
    | some (t, i, b) =>
      if t != r.transport || i != r.session then deny stState s
      else if b.length ≤ o then deny stRange s
      else okay (be 4 b.length ++ slice b o 960) s
    | none => deny stState s))

/-- TMP.TEST (R345, R346): each stimulus that an armed monitor which runs answers is a detection (R346; log 27); one entry of kind TEST, and a Notice where detections fall short. -/
def hTmpTest (r : Req) (s : State) : Reply :=
  let m := byte r.payload 0
  let n := byte r.payload 1
  if decide (m < 1) || decide (5 < m) || decide (n < 1) || decide (15 < n) then deny stRange s
  else inMode 0x3304 r s (withEnc s (
    let hits := if (getMon s m).armed && monitorRuns s m && (tamperRule s m).response != 0 then min n s.env.found else 0
    let s1 := addPending m 3 hits s
    okay [b8 hits] (if hits < n then issue 0x33 0x04 0 s1 else s1)))

end Sys2Proof.Machine
end

