-- ==== Sys2Proof/Machine/HandIn.lean ====
section
/-! DEFINITION. Handlers of the IN, KEY, RLS and HAP groups (R149, R153, R161, R173, R184, 05_inputs.md; R90, R191, R193, 06_haptics.md). -/

namespace Sys2Proof.Machine

/-- The body of IN.GET: switches, pins, analog inputs. -/
def inGetBody (s : State) : Bytes :=
  be 3 (mask (s.scan.sw.map (fun w => w.closed))) ++ [b8 (mask (s.scan.pins.map (fun p => p.active)))] ++ s.scan.an.flatMap (fun a => be 2 a.mv)

/-- IN.GET. -/
def hInGet (_r : Req) (s : State) : Reply := okay (inGetBody s) s

/-- IN.WATCH (R149): bits 31:28 name no input. -/
def hInWatch (r : Req) (s : State) : Reply :=
  let m := field r.payload 0 4
  if 2 ^ 28 ≤ m then deny stRange s else okay [] { s with scan := { s.scan with watch := m } }

/-- The body of KEY.GET: key states and frozen mask (R161). -/
def keyGetBody (s : State) : Bytes := be 8 (keyMask s) ++ be 8 (frozenMask s)

/-- KEY.GET. -/
def hKeyGet (_r : Req) (s : State) : Reply := okay (keyGetBody s) s

/-- RLS.GET (R184). -/
def hRlsGet (_r : Req) (s : State) : Reply :=
  okay ([b8 s.rls.intensity] ++ be 4 (alsLux s.rls.als0) ++ be 4 (alsLux s.rls.als1) ++ [b8 s.rls.light, b8 (bit s.rls.removed)]) s

/-- A measured signal is good for a dry reference: at least half of the record's (R173). -/
def calOk (sref sig : Nat) : Bool := decide (sref ≤ 2 * sig)

/-- The signals that a calibration takes (R173): two bursts on each channel, all valid and good; each measured S becomes the dry reference, so that the second stands (log 126). -/
def calSignals (c : TwScreen) (m : CalMeas) : Option (Nat × Nat) :=
  match m.a0, m.a1, m.b0, m.b1 with
  | some x0, some x1, some y0, some y1 =>
    if calOk c.sref0 x0 && calOk c.sref1 x1 && calOk c.sref0 y0 && calOk c.sref1 y1 then some (y0, y1) else none
  | _, _, _, _ => none

/-- RLS.CAL (R173): two bursts on each channel with ANA ON; the measured signals become the dry references and the MSNS reading the mount reference, stored in snapshot page 0 under its allowance (R455). -/
def hRlsCal (r : Req) (s : State) : Reply :=
  let n := byte r.payload 0
  match (tw s).screens.find? (fun x => x.record == n) with
  | none => deny stRange s
  | some c =>
    inMode 0x1A02 r s (
      match if isOn s .ana then calSignals c s.env.cal else none with
      | some (a, b) =>
        if !snapOk s 0 then deny stEndurance s
        else
          let s1 := modRls (fun x => { x with dry0 := some a, dry1 := some b, mountRef := some s.env.cal.msns, ref0 := a, ref1 := b,
                                              sig0 := some a, sig1 := some b, msns := some s.env.cal.msns, fail0 := false, fail1 := false }) (snapCount 0 s)
          okay [] (modMon 5 (fun x => if x.armed then x else { x with armAt := some (s.now + 100) }) s1)
      | none => deny stState s)

/-- A play by command or syscall (R90, R187, R193, R202): the status, and the trigger taken. -/
def hapPlay (n amp : Nat) (s : State) : Nat × State :=
  if (tw s).haptic.isNone then (stState, s)
  else if s.hap.missing || s.hap.shorted then (stState, hapTrigger 2 n amp s)
  else (stOk, hapTrigger 2 n amp s)

/-- HAP.PLAY. -/
def hHapPlay (r : Req) (s : State) : Reply :=
  let n := byte r.payload 0
  let amp := byte r.payload 1
  if 63 < n ∨ amp = 0 ∨ 100 < amp then deny stRange s
  else inMode 0x1B01 r s (let x := hapPlay n amp s; .done x.1 [] x.2)

/-- HAP.ARM (R191). -/
def hHapArm (r : Req) (s : State) : Reply :=
  let n := byte r.payload 0
  if 63 < n then deny stRange s else okay [] (modHap (fun h => { h with armed := n }) s)

/-- HAP.GET (R196, R201, R204). -/
def hHapGet (_r : Req) (s : State) : Reply :=
  okay ([b8 s.hap.armed, b8 (coilState s.hap)] ++ be 2 s.hap.res ++ be 2 s.hap.ignored) s

end Sys2Proof.Machine
end

