-- ==== Sys2Proof/Machine/Buses.lean ====
section
/-! DEFINITION. The vehicle buses, vehicle time and the gateway (R238 to R258, 08_buses.md; R470, R471, 16_persistent.md). -/

namespace Sys2Proof.Machine

/-- A CAN channel takes part in the bus: error active or passive (R243). -/
def canActive (s : State) (ch : Nat) : Bool := (getCan s ch).state == 1 || (getCan s ch).state == 2

/-- The uplink runs: NET ON, enabled in Twill, and not on the fallback oscillator (R431, R471). -/
def uplinkRuns (s : State) : Bool := isOn s .net && (tw s).uplink.enabled && !s.pwr.fallback

/-- The uplink changed. -/
def modUp (f : Uplink → Uplink) (s : State) : State := { s with bus := { s.bus with up := f s.bus.up } }

/-- A stream's run-time state. -/
def getStream (s : State) (n : Nat) : StreamSt := s.bus.up.streams.getD n {}

/-- A stream changed. -/
def modStream (n : Nat) (f : StreamSt → StreamSt) (s : State) : State := modUp (fun u => { u with streams := modAt f n u.streams }) s

/-- A frame sent on the uplink: the newest 40 stay visible (log 9). -/
def upSend (f : UpOut) (s : State) : State := modUp (fun u => { u with sent := (u.sent ++ [f]).drop (u.sent.length + 1 - 40) }) s

/-- An ACF CAN message of IEEE 1722-2016: 16 header bytes and the data in whole quadlets (R253, R255; PRESUMED layout, log 20). -/
def acfMessage (s : State) (ch : Nat) (f : CanFrame) : Bytes :=
  let pad := (4 - f.data.length % 4) % 4
  let quad := 4 + (f.data.length + pad) / 4
  let g := s.bus.up.gptp.valid
  be 2 (1 * 512 + quad) ++
    [b8 (pad * 64 + 32 * bit g + 8 * bit f.ext + 4 * bit f.brs + 2 * bit f.fd + bit f.esi), b8 ch] ++
    be 8 (if g then gptpNow s else 0) ++ be 4 f.id ++ f.data ++ List.replicate pad 0

/-- A message lost for a stream, counted (R256). -/
def dropMsg (n k : Nat) (s : State) : State := modStream n (fun x => { x with dropped := satAdd 0xFFFF x.dropped k }) s

/-- The NTSCF PDU of a batch: subtype 0x82, stream identifier valid and version 0 with the 11-bit data length, the sequence number, the stream ID, the messages (R253, R256; PRESUMED layout of IEEE 1722-2016, log 20). -/
def ntscfPdu (sid seq : Nat) (msgs : Bytes) : Bytes := [0x82, b8 (0x80 + msgs.length / 256 % 8), b8 msgs.length, b8 seq] ++ be 8 sid ++ msgs

/-- The NTSCF frame of a stream: EtherType 0x22F0, the stream's destination, VLAN ID and priority code point (R250, R253; terms of 08_buses.md). -/
def ntscfFrame (s : State) (n seq : Nat) (msgs : Bytes) : UpOut :=
  let c := ((tw s).streams.find? (fun x => x.stream == n)).getD {}
  { dest := c.dest, etherType := 0x22F0, tag := some (c.vlan, c.pcp), body := .ntscf (ntscfPdu c.id seq msgs) }

/-- A frame of the device's own traffic, tagged with the uplink's VLAN ID and priority code point (R250). -/
def ownFrame (s : State) (etherType : Nat) (b : UpBody) : UpOut := { etherType := etherType, tag := some ((tw s).uplink.vlan, (tw s).uplink.pcp), body := b }

/-- A peer delay message, untagged to the peer's link-local group address (R250, R251; IEEE 802.1AS-2020, PRESUMED, log 20). -/
def gptpFrame (b : UpBody) : UpOut := { dest := [0x01, 0x80, 0xC2, 0x00, 0x00, 0x0E], etherType := 0x88F7, body := b }

/-- A batch closed: its NTSCF frame sent under the next sequence number, or its messages dropped while the link is down (R256). -/
def closeBatch (n : Nat) (s : State) : State :=
  let b := getStream s n
  let s1 := modStream n (fun x => { x with closeAt := none, batch := [] }) s
  if b.batch.isEmpty then s1
  else if s.bus.up.link && uplinkRuns s then
    upSend (ntscfFrame s n b.seq b.batch.flatten) (modStream n (fun x => { x with seq := (x.seq + 1) % 256 }) s1)
  else dropMsg n b.batch.length s1

/-- Bytes of the messages of a batch. -/
def batchLen (l : List Bytes) : Nat := (l.map List.length).sum

/-- A batch opened by its first message; with BATCH 0 it holds one (R256). -/
def openBatch (n batch : Nat) (m : Bytes) (s : State) : State :=
  let s1 := modStream n (fun x => { x with closeAt := some (s.now + ms batch), batch := [m] }) s
  if batch == 0 then closeBatch n s1 else s1

/-- A message joins its stream's batch; one that would take the frame beyond 1500 bytes closes it first (R256). -/
def addMessage (n batch : Nat) (m : Bytes) (s : State) : State :=
  if !(s.bus.up.link && uplinkRuns s) || !((tw s).streams.any (fun x => x.stream == n)) then dropMsg n 1 s
  else
    let b := getStream s n
    if b.closeAt.isNone then openBatch n batch m s
    else if 1500 < 12 + batchLen b.batch + m.length then openBatch n batch m (closeBatch n s)
    else modStream n (fun x => { x with batch := x.batch ++ [m] }) s

/-- An identifier under a mask (R245, R254). -/
def idMatch (id ref mask : Nat) : Bool := (id &&& mask) == (ref &&& mask)

/-- The route of a received frame: the lowest-numbered enabled CAN-to-ETH entry that matches (R255). -/
def routeCan (ch : Nat) (f : CanFrame) (s : State) : State :=
  match s.bus.up.routes.find? (fun r => r.enabled && !r.toCan && r.channel == ch && r.ext == f.ext && idMatch f.id r.id r.mask) with
  | some r => addMessage r.stream r.batch (acfMessage s ch f) s
  | none => s

/-- A frame passes the channel's acceptance filters (R239, R470); a channel without filters takes every frame (DESIGN CHOICE, log 35). -/
def accepted (s : State) (ch : Nat) (f : CanFrame) : Bool :=
  match (tw s).can.find? (fun x => x.ch == ch) with
  | some c => c.filters.isEmpty || c.filters.any (fun x => x.1.testBit 31 == f.ext && idMatch f.id (x.1 % 536870912) x.2)
  | none => true

/-- A frame for extension code: each of its filters on the channel (R552); the queue holds 16 and drops the oldest. -/
def extReceive (ch : Nat) (f : CanFrame) (s : State) : State :=
  if accepted s ch f && s.ext.filters.any (fun x => match x with
      | some (c, id, e, m) => c == ch && e == f.ext && idMatch f.id id m
      | none => false) then
    raiseExt 5 { s with ext := { s.ext with rx := (s.ext.rx ++ [(ch, f)]).drop (s.ext.rx.length + 1 - 16) } }
  else s

/-- The identifiers of MBX-CAN on a channel (terms of 08_buses.md). -/
def reservedId (s : State) (ch : Nat) (id : Nat) (e : Bool) : Bool :=
  let t := (tw s).transports
  ch == t.canCh && [t.canReq, t.canRsp].any (fun i => i.testBit 31 == e && i % 536870912 == id)

/-- The ACF messages of an NTSCF PDU, each by its length in quadlets; a message longer than what is left ends them (PRESUMED layout, log 20). -/
def acfList : Nat → Bytes → List Bytes
  | 0, _ => []
  | n + 1, b =>
    let k := 4 * (field b 0 2 % 512)
    if decide (k < 4) || decide (b.length < k) then [] else b.take k :: acfList n (b.drop k)

/-- An ACF CAN message, type 0x01: its CAN_BUS_ID and frame; none for every other type (R253). -/
def acfCan (m : Bytes) : Option (Nat × CanFrame) :=
  let fl := byte m 2
  if field m 0 2 / 512 == 1 && decide (16 + fl / 64 ≤ m.length) then
    some (byte m 3 % 32, { id := field m 12 4 % 536870912, ext := tbit fl 3, fd := tbit fl 1, brs := tbit fl 2, esi := tbit fl 0, remote := tbit fl 4,
                           data := (m.drop 16).take (m.length - 16 - fl / 64) })
  else none

/-- A message of a stream discarded and counted (R257). -/
def discardMsg (n : Nat) (s : State) : State := modStream n (fun x => { x with discarded := satInc 0xFFFF x.discarded }) s

/-- A message of a received NTSCF frame (R238, R253, R257): transmitted where it is an ACF CAN message, no remote frame, and the lowest-numbered matching ETH-to-CAN entry names the channel and stream; otherwise discarded and counted. -/
def routeEth (n : Nat) (s : State) (m : Bytes) : State :=
  match acfCan m with
  | none => discardMsg n s
  | some (bus, f) =>
    match s.bus.up.routes.find? (fun r => r.enabled && r.toCan && r.ext == f.ext && idMatch f.id r.id r.mask) with
    | some r =>
      if r.channel == bus && r.stream == n && decide (bus ≤ 1) && canActive s bus && !f.remote && !reservedId s bus f.id f.ext then
        canQueue bus { frame := f, origin := .routed n } s
      else discardMsg n s
    | none => discardMsg n s

/-- NTSCF_RECEIVED (R249, R253, R257): a frame of EtherType 0x22F0 with the device's VLAN, at most 1522 bytes long, whose PDU has subtype 0x82, version 0 and the ID of a stream; a gap in the sequence is counted. Every other AVTP subtype is discarded. -/
def ntscfStep (vlan etherType : Nat) (pdu : Bytes) (s : State) : State :=
  if !uplinkRuns s || vlan != (tw s).uplink.vlan || etherType != 0x22F0 || decide (1500 < pdu.length) || decide (pdu.length < 12) || byte pdu 0 != 0x82 || byte pdu 1 / 16 % 8 != 0 then s
  else match (tw s).streams.find? (fun x => x.id == field pdu 4 8) with
  | none => s
  | some c =>
    let seq := byte pdu 3
    let gap := match (getStream s c.stream).rxSeq with
      | some p => (p + 1) % 256 != seq
      | none => false
    let s1 := modStream c.stream (fun x => { x with rxSeq := some seq, gaps := if gap then satInc 0xFFFF x.gaps else x.gaps }) s
    (acfList 375 ((pdu.drop 12).take (field pdu 1 2 % 2048))).foldl (routeEth c.stream) s1

/-- BATCH_CLOSE (R256). -/
def batchCloseStep (n : Nat) (s : State) : State := if due (getStream s n).closeAt s then closeBatch n s else s

/-- A CAN entry of BUS.SEND or CAN_SEND answered (R92, R552). -/
def answerSend (status : Nat) (s : State) (e : CanTxEntry) : State :=
  match e.origin with
  | .busSend t i q => complete t i q status [] s
  | .ext n => threadReturn n status [] s
  | _ => s

/-- An entry of BUS.SEND or CAN_SEND. -/
def isSend (e : CanTxEntry) : Bool := match e.origin with
  | .busSend _ _ _ => true
  | .ext _ => true
  | _ => false

/-- The state that the error counters give an active channel: error passive above 127 (R243; ISO 11898-1, PRESUMED, log 107). -/
def canJudge (c : CanChan) : CanChan := { c with state := if c.state == 1 || c.state == 2 then (if decide (127 < c.tec) || decide (127 < c.rec_) then 2 else 1) else c.state }

/-- A frame sent after `errs` errors: the transmit error counter rises by 8 for each and falls by 1 for the success (R243; log 107). -/
def canTxErrors (errs : Nat) (c : CanChan) : CanChan := canJudge { c with tec := min 255 (c.tec + 8 * errs) - 1 }

/-- A frame received after `errs` errors: the receive error counter rises by 1 for each; a success lowers it by 1, or to 127 from above (R243; log 107). -/
def canRxErrors (errs : Nat) (c : CanChan) : CanChan :=
  let n := min 255 (c.rec_ + errs)
  canJudge { c with rec_ := if 127 < n then 127 else n - 1 }

/-- CAN_BUS_OFF_ENTRY (R240): counted, with its Notice; routed frames discarded, and a waiting BUS.SEND answered ST_STATE. -/
def busOffStep (ch : Nat) (s : State) : State :=
  if !canActive s ch then s
  else
    let c := getCan s ch
    let rec_ := (((tw s).can.find? (fun x => x.ch == ch)).map (fun x => x.recoveryMs)).getD 100
    let s1 := modCan ch (fun c => { c with state := 3, tec := 255, busOff := satInc 0xFFFF c.busOff, recoverAt := some (s.now + ms rec_),
                                           queue := c.queue.filter (fun e => !isRouted e && !isSend e), waiting := c.waiting.filter (fun e => !isSend e) }) s
    let s1 := canRefill ch s1
    issue 0x21 0x01 0 ((c.queue.filter isSend ++ c.waiting.filter isSend).foldl (answerSend stStateCode) s1)
where
  /-- ST_STATE of R66. -/
  stStateCode : Nat := 0x0E

/-- BUS_OFF_RECOVERY (R240): the recessive bits have been seen and the delay has passed. -/
def busOffRecoveryStep (ch : Nat) (s : State) : State :=
  if (getCan s ch).state == 3 && due (getCan s ch).recoverAt s then modCan ch (fun c => { c with state := 1, tec := 0, rec_ := 0, recoverAt := none }) s else s

/-- BUS_SEND_ACK_TIMEOUT (R92): frames not acknowledged within 20 ms leave the queue and are answered ST_TIMEOUT. -/
def sendTimeoutStep (ch : Nat) (s : State) : State :=
  let c := getCan s ch
  let late := fun (e : CanTxEntry) => isSend e && decide (e.dueAt ≤ s.now)
  let s1 := modCan ch (fun c => { c with queue := c.queue.filter (fun e => !late e), waiting := c.waiting.filter (fun e => !late e) }) s
  canRefill ch ((c.queue.filter late ++ c.waiting.filter late).foldl (answerSend 0x15) s1)

/-- The next consecutive frame of MBX-CAN queued, with the block that flow control granted (R44). -/
def isoContinue (x : CanTx) (s : State) : State :=
  isoQueue (isoNext (frameBytes x.frame) x.sent) { s with mbx := { s.mbx with canTx := some { x with queued := true, waitFc := false, asAt := s.now + ms 1000 } } }

/-- A data frame of MBX-CAN has been acknowledged on the bus (R44, R64): the message is delivered, or it continues, or flow control is awaited. -/
def isoSent (s : State) : State :=
  match s.mbx.canTx with
  | none => s
  | some x =>
    let total := (frameBytes x.frame).length
    let first := x.sent == 62
    if total ≤ x.sent then delivered x.frame { s with mbx := { s.mbx with canTx := none }, work := true }
    else if first then { s with mbx := { s.mbx with canTx := some { x with queued := false, waitFc := true, fcAt := s.now + ms 1000 } } }
    else s

/-- The bytes that the frame just acknowledged has carried are counted, and the message goes on (R44). -/
def isoAdvance (isFirst : Bool) (s : State) : State :=
  match s.mbx.canTx with
  | none => s
  | some x =>
    if isFirst then isoSent s
    else
      let total := (frameBytes x.frame).length
      let sent := min total (x.sent + 63)
      let left := x.left.map (fun n => n - 1)
      let y := { x with sent := sent, left := left, queued := false }
      let s1 := { s with mbx := { s.mbx with canTx := some y } }
      if total ≤ sent then isoSent s1
      else if left == some 0 then { s1 with mbx := { s1.mbx with canTx := some { y with waitFc := true, fcAt := s.now + ms 1000 } } }
      else isoContinue y s1

/-- A message of MBX-CAN abandoned on N_As or N_Bs (R44): its CAN frame leaves the transmit queue, and the next message may start. -/
def isoAbandon (s : State) : State :=
  let ch := (tw s).transports.canCh
  canRefill ch (modCan ch (fun c => { c with queue := c.queue.filter (fun e => !isoData e) }) { s with mbx := { s.mbx with canTx := none }, work := true })

/-- N_As (R44): a frame of MBX-CAN that has stood in the transmit queue for 1000 ms ends its message. -/
def nAsCheck (s : State) : State :=
  match s.mbx.canTx with
  | some x => if x.queued && decide (x.asAt ≤ s.now) then isoAbandon s else s
  | none => s

/-- CAN_FRAME_TRANSMITTED (R92, R241, R243): the first frame in sending order is acknowledged after `errs` errors; BUS.SEND is answered ST_OK and MBX-CAN goes on. In restricted operation mode nothing is transmitted (R238). -/
def canSentStep (ch errs : Nat) (s : State) : State :=
  let s := nAsCheck s
  if !canActive s ch || (getCan s ch).restricted then s
  else match (getCan s ch).queue with
  | [] => s
  | e :: r =>
    let s1 := canRefill ch (modCan ch (fun c => noteSent e.frame (canTxErrors errs { c with queue := r })) s)
    match e.origin with
    | .mailbox =>
      let pci := byte e.frame.data 0 / 16
      if pci == 3 then s1 else isoAdvance (pci < 2) s1
    | _ => answerSend 0x00 s1 e

/-- Flow control from the host (R44): CTS lets the message go on, WAIT restarts N_Bs, any other status abandons it. -/
def isoFlow (b : Bytes) (s : State) : State :=
  match s.mbx.canTx with
  | none => s
  | some x =>
    if !x.waitFc then s
    else
      let fs := byte b 0 % 16
      if fs == 0 then isoContinue { x with left := if byte b 1 == 0 then none else some (byte b 1) } s
      else if fs == 1 then { s with mbx := { s.mbx with canTx := some { x with fcAt := s.now + ms 1000 } } }
      else isoAbandon s

/-- N_BS_TIMEOUT (R44): the message is abandoned; a frame that N_As has run out on ends its message too. -/
def nBsStep (s : State) : State :=
  let s := nAsCheck s
  match s.mbx.canTx with
  | some x => if x.waitFc && decide (x.fcAt ≤ s.now) then isoAbandon s else s
  | none => s

/-- A WUF of selective wake (R245): identifier under the mask, and with a non-zero data mask the DLC and a common data bit. -/
def isWuf (c : TwCan) (f : CanFrame) : Bool :=
  !f.fd && !f.remote && c.wufId.testBit 31 == f.ext && idMatch f.id (c.wufId % 536870912) c.wufMask &&
    (allZero c.wufData || (f.data.length == c.wufDlc && (f.data.zip c.wufData).any (fun x => x.1 &&& x.2 != 0)))

/-- CAN0 is in selective wake sense, or a shutdown to PARKED that will put it there runs (R244, R245; corner case of 14_power.md). -/
def wufSense (s : State) (c : TwCan) : Bool :=
  (getCan s 0).state == 4 || (c.enabled && c.selWake && canActive s 0 && (match s.pwr.shutdown with
    | some d => d.target == 1 && decide (3 ≤ d.step)
    | none => false))

/-- WUF (R244, R245): the transceiver stores the frame, and it wakes the device. -/
def wufStep (f : CanFrame) (s : State) : State :=
  match (tw s).can.find? (fun x => x.ch == 0) with
  | some c =>
    if wufSense s c && isWuf c f then wakeEvent 0x40 (modCan 0 (fun x => { x with wuf := some f }) s) else s
  | none => s

/-- WAKE_ERROR_COUNT (R245): past 32 the device wakes. -/
def wakeErrorStep (n : Nat) (s : State) : State :=
  if (getCan s 0).state == 4 then
    let s1 := modCan 0 (fun x => { x with wakeErr := n }) s
    if 32 < n then wakeEvent 0x40 s1 else s1
  else s

/-- A LIN channel's state. -/
def getLin (s : State) (ch : Nat) : LinChan := s.bus.lin.getD ch {}

/-- A LIN channel changed. -/
def modLin (ch : Nat) (f : LinChan → LinChan) (s : State) : State := { s with bus := { s.bus with lin := modAt f ch s.bus.lin } }

/-- The LIN record of a channel (R470). -/
def linCfg (s : State) (ch : Nat) : Option TwLin := (tw s).lin.find? (fun x => x.ch == ch)

/-- A schedule table of a channel (R247). -/
def linSched (s : State) (ch n : Nat) : Option TwLinSched := (linCfg s ch).bind (fun c => c.scheds.find? (fun x => x.num == n))

/-- A slot whose frame a responder must publish (R243, R470). -/
def responderSlot (c : TwLin) (x : TwLinSlot) : Bool :=
  x.kind == 4 || (x.kind == 0 && c.frames.any (fun f => f.id == x.id && f.responder))

/-- A slot that counts as an error (R243): a responder frame without response or with a checksum error; an event-triggered or sporadic slot may stay unanswered. -/
def slotError (c : TwLin) (x : TwLinSlot) (answered sumOk : Bool) : Bool :=
  if responderSlot c x then !answered || !sumOk else x.kind == 1 && answered && !sumOk

/-- The slot that follows (R247, R248): a schedule selected by command, the collision-resolving table, the next slot, or the table to return to. -/
def linNext (c : TwLinSched) (collide : Bool) (x : LinChan) : LinChan :=
  match x.next with
  | some n => { x with sched := n, slot := 0, next := none, resume := none }
  | none =>
    let nx := if x.slot + 1 < c.slots.length then x.slot + 1 else 0
    if collide && c.collide != 0xFF && x.resume.isNone then { x with resume := some (x.sched, nx), sched := c.collide, slot := 0 }
    else if nx == 0 then (match x.resume with
      | some (n, k) => { x with sched := n, slot := k, resume := none }
      | none => { x with slot := 0 })
    else { x with slot := nx }

/-- Frame identifier n uses the enhanced checksum (R470). -/
def linEnhanced (c : TwLin) (id : Nat) : Bool := tbit c.enhanced id

/-- A frame that the commander publishes: its header, data and checksum (R247, R470). -/
def linData (c : TwLin) (id : Nat) (d : Bytes) : LinOut := { pid := linPid id, data := d ++ [linSum (linEnhanced c id) (linPid id) d] }

/-- The frame of an identifier: with its data where the commander publishes it, its header alone where a responder does (R470). -/
def linFrameOf (c : TwLin) (id : Nat) : LinOut :=
  match c.frames.find? (fun f => f.id == id) with
  | some f => if f.responder then { pid := linPid id } else linData c id (f.data.take f.len)
  | none => { pid := linPid id }

/-- What the commander sends in a slot (R247): an unconditional frame, the header of an event-triggered one, a sporadic frame among the identifiers listed or none (a free choice: the spec does not say when data is new, log 108), 0x3C with its 8 bytes, the header of 0x3D. -/
def linSlotOut (c : TwLin) (x : TwLinSlot) (pick : Nat) : Option LinOut := match x.kind with
  | 0 => some (linFrameOf c x.id)
  | 1 => some { pid := linPid x.id }
  | 2 =>
    let ids := x.data.filter (fun b => b != 0xFF)
    if pick % (ids.length + 1) == ids.length then none else some (linFrameOf c (byte ids (pick % (ids.length + 1))))
  | 3 => some (linData c 0x3C x.data)
  | _ => some { pid := linPid 0x3D }

/-- The running slot of a channel begins: its frame is sent (R247). -/
def linBegin (ch : Nat) (s : State) : State :=
  let x := getLin s ch
  match linCfg s ch, linSched s ch x.sched with
  | some c, some t =>
    match t.slots[x.slot]? with
    | some sl =>
      let d := if sl.kind == 2 then draw s else (0, s)
      (match linSlotOut c sl d.1 with
        | some o => modLin ch (linPut o) d.2
        | none => d.2)
    | none => s
  | _, _ => s

/-- A response is whole: as long as its frame entry (8 bytes for 0x3D), and its checksum as its identifier has it (R247). -/
def linRespOk (c : TwLin) (x : TwLinSlot) (b : Bytes) : Bool :=
  let n := b.length - 1
  let long := match c.frames.find? (fun f => f.id == x.id) with
    | some f => n == f.len
    | none => if x.kind == 4 then n == 8 else decide (1 ≤ n)
  let id := if x.kind == 4 then 0x3D else x.id
  long && b.getLast? == some (linSum (linEnhanced c id) (linPid id) (b.take n))

/-- LIN_SLOT_END (R243, R247, R248): what a responder answered, data and checksum, and whether responders collided; the next slot's frame follows. -/
def linSlotStep (ch : Nat) (resp : Option Bytes) (collision : Bool) (s : State) : State :=
  let x := getLin s ch
  match linCfg s ch, linSched s ch x.sched with
  | some c, some t =>
    if x.state != 1 then s
    else
      let slot := t.slots.getD x.slot {}
      let sumOk := match resp with
        | some b => linRespOk c slot b
        | none => false
      let err := slotError c slot resp.isSome (sumOk || collision)
      linBegin ch (modLin ch (fun x => linNext t (collision && slot.kind == 1) { x with errors := if err && !collision then satInc 0xFFFF x.errors else x.errors }) s)
  | _, _ => s

/-- LIN_BUS_FAULT (R243): dominant for more than 100 ms. -/
def linFaultStep (ch dominantMs : Nat) (s : State) : State :=
  if (getLin s ch).state != 0 && decide (100 < dominantMs) then modLin ch (fun x => { x with state := 3 }) s else s

/-- LIN_SCHEDULE_START (R247, R248): 100 ms after the wake-up signal. -/
def linStartStep (ch : Nat) (s : State) : State :=
  if due (getLin s ch).startAt s then linBegin ch (modLin ch (fun x => { x with state := 1, sched := 0, slot := 0, startAt := none, woken := false, slept := false, resume := none }) s) else s

/-- gPTP on the uplink changed. -/
def modGptp (f : Gptp → Gptp) (s : State) : State := modUp (fun u => { u with gptp := f u.gptp }) s

/-- The peer delay request of every second while the link is up (R251; the interval of IEEE 802.1AS-2020, PRESUMED, log 20). -/
def pdelaySend (s : State) : State :=
  let g := s.bus.up.gptp
  if s.bus.up.link && decide (g.pdAt ≤ s.now) then
    upSend (gptpFrame (.pdelayReq g.pdSeq)) (modGptp (fun g => { g with pdAt := s.now + sec 1, pdSeq := (g.pdSeq + 1) % 65536 }) s)
  else s

/-- LINK_POLL (R249): link and speed as the PHY reports; a link at another speed or in half duplex counts as down. -/
def linkPollStep (up : Bool) (speed : Nat) (full : Bool) (s : State) : State :=
  if uplinkRuns s then
    let ok := up && full && (speed == 100 || speed == 1000)
    pdelaySend (modUp (fun u => { u with link := ok, speed := if ok then speed else u.speed }) s)
  else s

/-- gPTP valid: a Sync within 3 intervals and a neighbour rate ratio (terms of 08_buses.md). -/
def gptpJudge (s : State) : State :=
  modGptp (fun g => { g with valid := g.ratio.isSome && (match g.syncAt with
    | some t => decide (s.now ≤ t + 3 * g.interval)
    | none => false) }) s

/-- Seconds from the gPTP epoch to that of the RTC (IEEE 802.1AS counts from 1970; PRESUMED, log 20). -/
def epochGap : Nat := 946684800

/-- The UTC offset in force (R252). -/
def utcOffset (s : State) : Int := s.bus.up.gptp.utc.getD (tw s).uplink.utcOff

/-- The RTC follows gPTP (R252): stepped beyond 1 s, otherwise trimmed by an amount the spec does not state (free, log 7). -/
def rtcFollow (s : State) : State :=
  let g := s.bus.up.gptp
  if !g.valid || !(tw s).uplink.gptp || g.time.isNone then s
  else
    let target : Int := (gptpNow s / 1000000000 : Nat) - utcOffset s - epochGap
    let diff := target - s.ao.rtc
    if !s.ao.rtcSet || 1 < diff || diff < -1 then
      { s with ao := { s.ao with rtc := (target % 4294967296).toNat, rtcSet := true, rtcSource := 2 } }
    else let d := draw s; { d.2 with ao := { d.2.ao with trim := (d.1 % 4001 : Nat) - 2000 } }

/-- GPTP_SYNC (R251, R252), of domain 0: a one-step Sync carries the time; a two-step one waits for its Follow_Up. -/
def gptpSyncStep (domain seq : Nat) (twoStep : Bool) (ns interval : Nat) (s : State) : State :=
  if !uplinkRuns s || domain != 0 then s
  else if twoStep then gptpJudge (modGptp (fun g => { g with syncAt := some s.now, interval := interval, twoStep := some (seq, s.now) }) s)
  else rtcFollow (gptpJudge (modGptp (fun g => { g with syncAt := some s.now, interval := interval, twoStep := none, time := some (ns + g.delay, s.now) }) s))

/-- GPTP_FOLLOW_UP (R251), of domain 0: the time of the two-step Sync of its sequence number. -/
def followUpStep (domain seq ns : Nat) (s : State) : State :=
  match s.bus.up.gptp.twoStep with
  | some (q, t) =>
    if uplinkRuns s && domain == 0 && q == seq then rtcFollow (gptpJudge (modGptp (fun g => { g with twoStep := none, time := some (ns + g.delay, t) }) s)) else s
  | none => s

/-- PDELAY_RESPONSE (R251): peer delay, and the neighbour rate ratio from two responses in a row (IEEE 802.1AS-2020); a request of the peer's own exchange is answered. -/
def pdelayStep (peer : Option Nat) (t1 t2 t3 t4 : Nat) (s : State) : State :=
  if !uplinkRuns s then s
  else
    let s := match peer with
      | some q => upSend (gptpFrame (.pdelayResp q)) s
      | none => s
    let r := match s.bus.up.gptp.lastPd with
      | some (a, b) => if b < t4 then some ((t3 - a) * 1000000000 / (t4 - b)) else s.bus.up.gptp.ratio
      | none => s.bus.up.gptp.ratio
    let d := ((t4 - t1) * r.getD 1000000000 / 1000000000 - (t3 - t2)) / 2
    gptpJudge (modGptp (fun g => { g with ratio := r, lastPd := some (t3, t4), delay := d }) s)

/-- ANNOUNCE (R252), of domain 0: an offset with currentUtcOffsetValid is kept. -/
def announceStep (domain : Nat) (valid : Bool) (offset : Int) (s : State) : State :=
  if uplinkRuns s && domain == 0 && valid then modGptp (fun g => { g with utc := some offset }) s else s

/-- GPTP_INVALID (R252): no Sync for 3 intervals. -/
def gptpInvalidStep (s : State) : State := gptpJudge s

/-- ARP_REQUEST (R250, R471): answered for the device's address on its VLAN. -/
def arpStep (vlan target sender : Nat) (s : State) : State :=
  if uplinkRuns s && vlan == (tw s).uplink.vlan && target == (tw s).uplink.ipv4 then upSend (ownFrame s 0x0806 (.arp sender)) s else s

/-- ICMP_ECHO (R249, R250, R471): in a frame of at most 1522 bytes. -/
def icmpStep (vlan target sender ident seq : Nat) (data : Bytes) (s : State) : State :=
  if uplinkRuns s && vlan == (tw s).uplink.vlan && target == (tw s).uplink.ipv4 && reachable s sender && decide (data.length ≤ 1472) then
    upSend (ownFrame s 0x0800 (.icmp sender ident seq data)) s else s

end Sys2Proof.Machine
end

