-- ==== Sys2Proof/Machine/Mill.lean ====
section
/-! DEFINITION. The Millrace engine and its stations (R205 to R237, 07_millrace.md; R468, R469, 16_persistent.md). -/

namespace Sys2Proof.Machine

/-- The PHY of a port (R205, R207): 0 off with its lines high-impedance, 1 running PLCA, 2 in energy-detect sense. -/
def portPhy (s : State) (p : Nat) : Nat :=
  if (portCfg s p).isNone then 0
  else if isOn s .net then 1
  else if domSt s .net == .ret && (tw s).power.wakePort == p then 2
  else 0

/-- T_c of a port in µs (R212). -/
def cycleUs (s : State) (p : Nat) : Nat := cycleTenths (getEngine s p).code / 10

/-- The engine runs cycles on a port. -/
def portRuns (s : State) (p : Nat) : Bool := s.mill.on && (getEngine s p).running

/-- The number of the running cycle. -/
def cycleNo (s : State) (p : Nat) : Nat := (getEngine s p).cycle.getD 0

/-- A time at which `num` / 20 of the running cycle has passed (R214). -/
def pastPart (s : State) (p num : Nat) : Bool := decide (20 * (getEngine s p).t0 + num * cycleUs s p ≤ 20 * s.now)

/-- The station of an address lies on a port, directly or behind a relay. -/
def onPort (s : State) (p a : Nat) : Bool := match stationCfg s a with
  | some c => c.port == p
  | none => false

/-- The CYCLE_START of a cycle (R211, R212): FAILSAFE during a Severe reaction (R237). -/
def cycleStart (s : State) (p n : Nat) (stop : Bool) : CycleStart := cycleStartAt s p n (getEngine s p).t0 s.ao.severeAt.isSome stop

/-- The engine has stopped once no port runs any more. -/
def millIdle (s : State) : State :=
  if s.mill.ports.any (fun e => e.running) then s else { s with mill := { s.mill with on := false, parking := false } }

/-- The records of a cycle forgotten at the next instant. -/
def dropRecords (p : Nat) (s : State) : State :=
  let stn := mapIdx (fun a (x : Station) => if onPort s p a then { x with got := none, join := none, answer := none } else x) 0 s.mill.stn
  modEngine p (fun e => { e with strays := [], refusals := [] }) { s with mill := { s.mill with stn := stn } }

/-- CYCLE_INSTANT (R214, R215, R219, R235): T_c after the last instant the next number begins, under the cycle time STN.CYCLE left. The frame goes out while the service core is available; with STOP it ends the port's run. -/
def cycleInstantStep (p : Nat) (s : State) : State :=
  let e := getEngine s p
  if !portRuns s p || (e.cycle.isSome && decide (s.now < e.t0 + cycleUs s p)) then s
  else
    let n := match e.cycle with
      | none => 0
      | some c => (c + 1) % 65536
    let t0 := if e.cycle.isSome then e.t0 + cycleUs s p else s.now
    let s1 := modEngine p (fun e => { e with cycle := some n, t0 := t0, code := e.nextCode.getD e.code, nextCode := none, closed := false, outSent := false, computing := none, held := s.ao.severeAt.isSome }) (dropRecords p s)
    if !smisaRuns s1 then s1
    else
      let s2 := modEngine p (fun x => { x with start := some (cycleStart s1 p n e.stopNext) }) s1
      if e.stopNext then millIdle (modEngine p (fun x => { x with running := false, stopNext := false }) s2)
      else raiseExt 4 s2

/-- The records of a body in order, each as its bytes; one whose length runs past the end, and all after it, are discarded (R212). `fuel` bounds their number. -/
def splitRecords : Nat → Bytes → List Bytes
  | 0, _ => []
  | fuel + 1, b =>
    let n := 6 + byte b 4
    if b.length < n then [] else b.take n :: splitRecords fuel (b.drop n)

/-- An upstream record read from its bytes (R212). -/
def upRecord (b : Bytes) : UpRecord :=
  { addr := byte b 0, kind := byte b 1 % 16, appliedValid := tbit (byte b 1) 4, failsafe := tbit (byte b 1) 5, relayed := tbit (byte b 1) 6,
    applied := field b 2 2, data := b.drop 6 }

/-- The body of a frame: LEN bytes from offset 10 (R211). -/
def millBody (d : Bytes) : Bytes := slice d 10 (field d 8 2)

/-- The upstream records of a frame (R212). -/
def frameRecords (f : InputFrame) : List UpRecord := (splitRecords 248 (millBody f.pdu)).map upRecord

/-- A reserved bit or byte of the body is set, by the frame's TYPE (R212). -/
def bodyReserved (type : Nat) (body : Bytes) : Bool :=
  match type with
  | 1 => decide (8 ≤ byte body 13) || byte body 15 != 0
  | 2 => (splitRecords 248 body).any (fun b => tbit (byte b 1) 7 || byte b 5 != 0 || (byte b 1 % 16 == 1 && decide (4 ≤ byte b 12)))
  | _ => (splitRecords 248 body).any (fun b => decide (32 ≤ byte b 1) || (byte b 1 % 16 == 1 && (byte b 8 != 0 || byte b 9 != 0)))

/-- LEN is in the range of its TYPE and the frame holds body and tag (R211, R212). -/
def lenFits (d : Bytes) : Bool :=
  let len := field d 8 2
  (if byte d 1 == 1 then len == 16 else decide (6 ≤ len) && decide (len ≤ 1486)) && decide (10 + len + 4 * bit (tbit (byte d 2) 0) ≤ d.length)

/-- The tag of a PDU is the one its segment's key gives (R231). -/
def tagHolds (s : State) (p : Nat) (d : Bytes) : Bool := slice d (10 + field d 8 2) 4 == millTag s p (d.take (10 + field d 8 2))

/-- The first six checks of R212 but for the tag pass: no VLAN tag, GEN, TYPE, reserved bits, LEN, AUTH. -/
def frameForm (s : State) (f : InputFrame) : Bool :=
  let d := f.pdu
  !f.vlan && decide (10 ≤ d.length) && byte d 0 == 2 && decide (1 ≤ byte d 1) && decide (byte d 1 ≤ 3) && decide (byte d 2 ≤ 1) &&
    !bodyReserved (byte d 1) (millBody d) && lenFits d && tbit (byte d 2) 0 == ((portCfg s f.port).getD {}).auth

/-- The frame belongs to this segment and cycle (R212, R215): the controller takes INPUT frames of the current cycle alone, until the input deadline (log 130). -/
def frameCurrent (s : State) (f : InputFrame) : Bool :=
  let e := getEngine s f.port
  field f.pdu 4 2 == f.port && byte f.pdu 3 == s.mill.epoch && e.cycle == some (field f.pdu 6 2) && byte f.pdu 1 == 2 && !e.closed && !pastPart s f.port 10

/-- Why a frame is discarded, checked in the order of R212: none, a plain discard (some false), a tag failure (some true). -/
def frameRefused (s : State) (f : InputFrame) : Option Bool :=
  if !frameForm s f then some false
  else if tbit (byte f.pdu 2) 0 && !tagHolds s f.port f.pdu then some true
  else if !frameCurrent s f then some false
  else none

/-- A discarded frame counted for its segment (R212). -/
def countDiscard (seg : Nat) (s : State) : State :=
  { s with mill := { s.mill with discards := setN seg (satInc 0xFFFF (lookupN seg s.mill.discards)) s.mill.discards } }

/-- A tag failure counted for its segment, with at most one Notice in a second (R232). -/
def tagFailed (seg : Nat) (s : State) : State :=
  let s1 := { s with mill := { s.mill with tagFails := setN seg (satInc 0xFFFF (lookupN seg s.mill.tagFails)) s.mill.tagFails } }
  match lookup? seg s.mill.tagFailAt with
  | some t => if s.now < t + sec 1 then s1 else issue 0x20 0x06 (stnDetail seg 0) { s1 with mill := { s1.mill with tagFailAt := setN seg s.now s1.mill.tagFailAt } }
  | none => issue 0x20 0x06 (stnDetail seg 0) { s1 with mill := { s1.mill with tagFailAt := setN seg s.now s1.mill.tagFailAt } }

/-- The station whose own record opens a frame: its sender (R210, R213). -/
def frameSender : List UpRecord → Option Nat
  | r :: _ => if r.relayed then none else some r.addr
  | [] => none

/-- The relay that forwarded a frame's RELAYED records: the sender where its own record opens the frame, else the station its source address is known for (R213; DEDUCED, log 130). -/
def frameRelay (s : State) (f : InputFrame) : Option Nat :=
  match frameSender (frameRecords f) with
  | some a => some a
  | none => lookup? f.src (getEngine s f.port).senders

/-- The sender of a frame noted under its source address. -/
def noteSender (f : InputFrame) (s : State) : State :=
  match frameSender (frameRecords f) with
  | some a => modEngine f.port (fun e => { e with senders := setN f.src a e.senders }) s
  | none => s

/-- A record's path is the table's (R208, R212): the port, and directly or through the relay named. -/
def pathOk (c : TwStation) (p : Nat) (relayed : Bool) (via : Option Nat) : Bool :=
  c.port == p && relayed == (c.relay != 0) && (!relayed || (match via with
    | some r => r == c.relay
    | none => true))

/-- The data of a JOIN record (R212) and the path it came on. -/
def joinOf (p : Nat) (relayed : Bool) (via : Option Nat) (d : Bytes) : JoinRec :=
  { port := p, relayed := relayed, relay := if relayed then via else none, profile := field d 0 4, ilen := byte d 4, olen := byte d 5,
    caps := byte d 6, node := byte d 7, serial := field d 8 8 }

/-- A station's INPUT record kept: its data, the last applied cycle (R225), and whether that one carried the parking image (R235). -/
def keepInput (parking : Bool) (first : Option Nat) (r : UpRecord) (x : Station) : Station :=
  { x with got := some r.data,
           applied := if r.appliedValid then some r.applied else x.applied,
           parked := x.parked || (parking && r.appliedValid && (match first with
             | some n => decide ((r.applied + 65536 - n) % 65536 < 32768)
             | none => false)) }

/-- An INPUT record of one address (R215, R216, R225): a second one in a cycle is discarded with a Notice; one that is not of the table's path or length is discarded. -/
def takeInput (p : Nat) (via : Option Nat) (r : UpRecord) (s : State) : State :=
  match stationCfg s r.addr with
  | none => s
  | some c =>
    if !pathOk c p r.relayed via || r.data.length != c.ilen then s
    else if (getStn s r.addr).got.isSome then issue 0x20 0x01 (stnDetail p r.addr) s
    else modStn r.addr (keepInput s.mill.parking (getEngine s p).parkFirst r) s

/-- A JOIN record kept until the input deadline (R221), with the station's own or, where its address is no station of this port, among the port's strays; its profile ID is the last one received (R224). -/
def takeJoin (p : Nat) (via : Option Nat) (r : UpRecord) (s : State) : State :=
  if r.data.length != 16 then s
  else
    let j := joinOf p r.relayed via r.data
    let s1 := modStn r.addr (fun x => { x with profile := j.profile }) s
    if onPort s p r.addr then (if (getStn s r.addr).join.isSome then s1 else modStn r.addr (fun x => { x with join := some j }) s1)
    else if (getEngine s p).strays.any (fun e => e.1 == r.addr) then s1
    else modEngine p (fun e => { e with strays := e.strays ++ [(r.addr, j)] }) s1

/-- A station lies behind a relay whose downstream segment waits for its key: that segment does not run (R232; DEDUCED, log 131). -/
def segWaits (s : State) (a : Nat) : Bool := match stationCfg s a with
  | some c => c.relay != 0 && s.mill.segWait.contains c.relay
  | none => false

/-- One upstream record; one of an unknown kind is passed by (log 130). -/
def takeRecord (p : Nat) (via : Option Nat) (s : State) (r : UpRecord) : State :=
  if r.addr == 0 || decide (255 < r.addr) || segWaits s r.addr then s
  else match r.kind with
  | 0 => takeInput p via r s
  | 1 => takeJoin p via r s
  | _ => s

/-- The records of an accepted frame. -/
def takeFrame (f : InputFrame) (s : State) : State := (frameRecords f).foldl (takeRecord f.port (frameRelay s f)) (noteSender f s)

/-- INPUT_FRAME (R211, R212, R215, R216, R231, R232). -/
def inputFrameStep (f : InputFrame) (s : State) : State :=
  if !portRuns s f.port || !smisaRuns s then s
  else match frameRefused s f with
  | some true => tagFailed f.port (countDiscard f.port s)
  | some false => countDiscard f.port s
  | none => takeFrame f s

/-- The segment a station sends on authenticates (R231). -/
def stationAuth (s : State) (c : TwStation) : Bool :=
  if c.relay == 0 then ((portCfg s c.port).getD {}).auth else ((stationCfg s c.relay).getD {}).dauth

/-- The reason a JOIN record is refused for, 0 when it passes (R221). -/
def joinReason (s : State) (a : Nat) (j : JoinRec) : Nat :=
  match stationCfg s a with
  | none => 3
  | some c =>
    if !pathOk c j.port j.relayed j.relay || j.node != c.node then 4
    else if stationAuth s c && !tbit j.caps 1 then 6
    else if j.profile != c.profile then 1
    else if j.ilen != c.ilen || j.olen != c.olen then 2 else 0

/-- A JOIN record admitted (R222, R223): the station joins under its serial; its last applied cycle stays (R225). -/
def admitStation (p a : Nat) (j : JoinRec) (s : State) : State :=
  setStn p a .joining (modStn a (fun x => { x with fresh := 0, missRow := 0, silent := 0, serial := some j.serial, answer := some 0 }) s)

/-- A JOIN record refused (R221, R222): the reason goes out in OUTPUT of this cycle, with a Notice. -/
def refuseJoin (p a reason : Nat) (s : State) : State :=
  issue 0x20 0x02 (stnDetail p a) (modStn a (fun x => { x with answer := some reason }) s)

/-- A cycle without a valid record counted (R224; class 0x21 of R479). -/
def countMiss (a : Nat) (s : State) : State := bump 0x21 a 1 <| modStn a (fun x => { x with missed := satInc 0xFFFF x.missed }) s

/-- The rows of R223 for a station that no JOIN record has moved. -/
def inputRows (p a : Nat) (s : State) : State :=
  let x := getStn s a
  match x.got with
  | some d =>
    let s1 := modStn a (fun x => { x with data := if x.st == .absent || x.st == .refused then x.data else d, missRow := 0, silent := 0 }) s
    match x.st with
    | .lost => setStn p a .joining (modStn a (fun x => { x with fresh := 1 }) s1)
    | .joining =>
      let s2 := modStn a (fun x => { x with fresh := x.fresh + 1 }) s1
      if decide (2 ≤ x.fresh + 1) then feedStation a d (setStn p a .active s2) else s2
    | .active => feedStation a d s1
    | .stale => feedStation a d (setStn p a .active s1)
    | .absent => s1
    | .refused => s1
  | none =>
    match x.st with
    | .joining =>
      let s1 := modStn a (fun x => { x with fresh := 0, missRow := x.missRow + 1 }) (countMiss a s)
      if 3 ≤ x.missRow + 1 then setStn p a .lost s1 else s1
    | .active => setStn p a .stale (modStn a (fun x => { x with missRow := 1 }) (countMiss a s))
    | .stale =>
      let s1 := modStn a (fun x => { x with missRow := x.missRow + 1 }) (countMiss a s)
      if 3 ≤ x.missRow + 1 then setStn p a .lost s1 else s1
    | .refused =>
      let s1 := modStn a (fun x => { x with silent := x.silent + 1 }) (countMiss a s)
      if 192 ≤ x.silent + 1 then setStn p a .lost s1 else s1
    | .absent => s
    | .lost => s

/-- An address is admitted under another serial than a JOIN record's (R222). -/
def otherSerial (x : Station) (j : JoinRec) : Bool :=
  (x.st == .active || x.st == .stale || x.st == .joining) && x.serial.isSome && x.serial != some j.serial

/-- One station of a port at its input deadline (R221 to R223): its JOIN record first, then the rows of its INPUT record. -/
def evalStation (p : Nat) (s : State) (a : Nat) : State :=
  let x := getStn s a
  if !onPort s p a then s
  else match x.join with
  | none => inputRows p a s
  | some j =>
    if otherSerial x j then inputRows p a (refuseJoin p a 5 s)
    else match joinReason s a j with
    | 0 => admitStation p a j s
    | r =>
      let s1 := refuseJoin p a r (modStn a (fun y => { y with silent := 0 }) s)
      if inSnapshot x then inputRows p a s1 else setStn p a .refused s1

/-- A JOIN record whose address is no station of this port, at the input deadline (R221 to R223): refused there with a Notice. An ACTIVE or STALE station keeps its state and records, and one whose own port is not enabled stays ABSENT (R208). -/
def evalStray (p : Nat) (s : State) (e : Nat × JoinRec) : State :=
  let x := getStn s e.1
  let r := if otherSerial x e.2 then 5 else joinReason s e.1 e.2
  let s1 := issue 0x20 0x02 (stnDetail p e.1) (modEngine p (fun g => { g with refusals := g.refusals ++ [(e.1, r)] }) s)
  match stationCfg s e.1 with
  | some c => if otherSerial x e.2 || inSnapshot x || (portCfg s c.port).isNone then s1 else setStn p e.1 .refused (modStn e.1 (fun y => { y with silent := 0 }) s1)
  | none => s1

/-- Every station of a port, then the strays heard there. -/
def evalPort (p : Nat) (s : State) : State := (getEngine s p).strays.foldl (evalStray p) (allAddrs.foldl (evalStation p) s)

/-- A dependency's value of data (R469). -/
def depValue (d : TwDep) (data : Bytes) : Nat := (byte data d.byte >>> d.shift) % 2 ^ d.width

/-- What a dependency contributes (R228): rank 0 a fresh or substituted value, 1 HOLD, 2 DEFAULT, 3 INHIBIT; the value; and whether it was substituted or came from a policy. -/
def depTerm (s : State) (i : Nat) (d : TwDep) : Nat × Nat × Bool :=
  let x := getStn s d.src
  match x.st with
  | .active => (0, depValue d x.data, false)
  | .stale => (0, depValue d x.data, true)
  | _ =>
    match d.policy with
    | 0 => (1, (lookup? i s.outs.depHold).getD d.dflt, true)
    | 1 => (2, d.dflt, true)
    | _ => (3, d.inhibit, true)

/-- The last fresh value of each dependency kept for HOLD (R228). -/
def holdFresh (s : State) : State :=
  { s with outs := { s.outs with depHold := ((tw s).deps.zipIdx).foldl (fun acc e =>
      if (getStn s e.1.src).st == .active then setN e.2 (depValue e.1 (getStn s e.1.src).data) acc else acc) s.outs.depHold } }

/-- The terms of the dependencies on one output joined (R228): INHIBIT outranks DEFAULT, DEFAULT outranks HOLD; several values combine by OR (DEDUCED, log 23). The value, whether it is inhibited, and SUBST. -/
def joinTerms (l : List (Nat × Nat × Bool)) : Nat × Bool × Bool :=
  let top := l.foldl (fun m e => max m e.1) 0
  let used := if top == 3 then l.filter (fun e => e.1 == 3) else l.filter (fun e => e.1 == 0 || e.1 == top)
  (used.foldl (fun v e => v ||| e.2.1) 0, top == 3, used.any (fun e => e.2.2))

/-- The joined value of the dependencies that satisfy `p`. -/
def depJoin (s : State) (p : TwDep → Bool) : Nat × Bool × Bool :=
  joinTerms (((tw s).deps.zipIdx).filterMap (fun e => if p e.1 then some (depTerm s e.2 e.1) else none))

/-- Two dependencies drive one output (R469). -/
def sameTarget (d e : TwDep) : Bool := d.tkind == e.tkind && d.target == e.target && d.tbyte == e.tbyte && d.tshift == e.tshift

/-- A channel target driven through its default owner (R469). -/
def depChannel (d : TwDep) (s : State) : State :=
  let v := depJoin s (sameTarget d)
  putDefault d.target { mode := if !v.2.1 && v.1 != 0 then 1 else 0, freq := (chanCfg s d.target).pwm } s

/-- A field of an output image: `width` bits at `shift` of byte `i` take `v` (R469). -/
def putField (olen i shift width v : Nat) (image : Bytes) : Bytes :=
  let img := padTo olen 0 image
  let old := byte img i
  writeAt img i [b8 (old - bits old shift width * 2 ^ shift + v * 2 ^ shift)]

/-- A station output field written through its default owner (R27, R469): the image takes it unless a claimant holds it or it is the parking image (R235). -/
def depField (d : TwDep) (s : State) : State :=
  let v := (depJoin s (sameTarget d)).1 % 2 ^ d.width
  let parking := s.mill.parking
  modStn d.target (fun x =>
    let img := putField (((stationCfg s d.target).getD {}).olen) d.tbyte d.tshift d.width v x.dflt
    { x with dflt := img, image := if x.own.owner == .dflt && !parking then img else x.image }) s

/-- Every dependency carried out through the default owner of its target (R228, R469). -/
def actDeps (s : State) : State :=
  let s1 := (tw s).deps.foldl (fun acc d => match d.tkind with
    | 0 => depChannel d acc
    | 1 => depField d acc
    | _ => acc) (holdFresh { s with mill := { s.mill with depsDue := false } })
  let v := depJoin s1 (fun d => d.tkind == 2)
  refreshDoor 0x48 (applyDrives { s1 with mode := { s1.mode with depDoor := v.2.1 || v.1 != 0 } })

/-- The dependencies are to be carried out outside an input deadline: a station state has changed there, or the device has started (R208, R228). -/
def depsWait (s : State) : Bool := s.mill.depsDue && smisaRuns s

/-- SUBST of a station's image (R213): a dependency that wrote it used a substituted input or a policy; a parking image uses none. -/
def substOf (s : State) (a : Nat) : Bool :=
  (getStn s a).own.owner == .dflt && !s.mill.parking && (depJoin s (fun d => d.tkind == 1 && d.target == a)).2.2

/-- The images of a snapshot, for every station that is ACTIVE or STALE (R217). -/
def snapshotImages (s : State) (p : Nat) : List (Nat × Bool × Bytes) :=
  (allAddrs.filter (fun a => onPort s p a && inSnapshot (getStn s a))).map (fun a =>
    (a, substOf s a, padTo (((stationCfg s a).getD {}).olen) 0 (getStn s a).image))

/-- Every ACTIVE and STALE station has reported an applied cycle at or after the first one that carried the parking image (R235). -/
def parkApplied (s : State) : Bool := s.mill.stn.all (fun x => !inSnapshot x || x.parked)

/-- The parking run at a port's input deadline (R235): the first cycle with the parking image; the port stops after five cycles, and every port once it is applied everywhere (DEDUCED, log 132). -/
def parkCheck (p : Nat) (s : State) : State :=
  if !s.mill.parking then s
  else
    let n := (getEngine s p).parkCycles + 1
    let s1 := modEngine p (fun e => { e with parkFirst := some (e.parkFirst.getD (cycleNo s p)), parkCycles := n, stopNext := e.stopNext || decide (5 ≤ n) }) s
    if parkApplied s then { s1 with mill := { s1.mill with ports := s1.mill.ports.map (fun e => { e with stopNext := e.stopNext || e.running }) } } else s1

/-- INPUT_DEADLINE (R216, R221 to R229, R235): records checked, states evaluated, dependencies carried out, and the snapshot handed to the computation. -/
def inputDeadlineStep (p : Nat) (s : State) : State :=
  if !portRuns s p || !smisaRuns s || (getEngine s p).cycle.isNone || (getEngine s p).closed || !pastPart s p 10 then s
  else
    let s1 := actDeps (evalPort p (modEngine p (fun e => { e with closed := true }) s))
    parkCheck p (modEngine p (fun e => { e with computing := some (cycleNo s1 p, snapshotImages s1 p) }) s1)

/-- The ADMIT or REFUSE record of an address on a port (R212, R221): a station's own, or that of a stray. -/
def answerRecord (s : State) (p a : Nat) : List DownRecord :=
  if onPort s p a then
    (match (getStn s a).answer with
    | some 0 => let c := (stationCfg s a).getD {}; [{ addr := a, kind := 1, data := [b8 c.timeout, b8 c.dnodes, 0, 0] }]
    | some r => [{ addr := a, kind := 2, reason := r }]
    | none => [])
  else ((getEngine s p).refusals.filter (fun e => e.1 == a)).map (fun e => { addr := a, kind := 2, reason := e.2 })

/-- The OUTPUT record of an address from the newest computation (R217); a station that it does not cover waits for the next (R227), and a cycle that a Severe reaction held at its start or holds now carries none (R237). -/
def outputRecord (s : State) (p a : Nat) : List DownRecord :=
  if onPort s p a && inSnapshot (getStn s a) && s.ao.severeAt.isNone && !(getEngine s p).held then
    (match (getEngine s p).computed with
    | some (n, l) => (match l.find? (fun e => e.1 == a) with
      | some (_, sub, img) => [{ addr := a, kind := 0, subst := sub, basis := n, data := img }]
      | none => [])
    | none => [])
  else []

/-- Records packed into frames in order, each body at most 1486 bytes (R213). -/
def packRecords : List DownRecord → List DownRecord → Nat → List (List DownRecord)
  | [], cur, _ => if cur.isEmpty then [] else [cur]
  | r :: rest, cur, n =>
    let k := 6 + r.data.length
    if !cur.isEmpty && decide (1486 < n + k) then cur :: packRecords rest [r] k
    else packRecords rest (cur ++ [r]) (n + k)

/-- The OUTPUT frames of a cycle (R213, R217, R221). -/
def outputFrames (s : State) (p : Nat) : List OutFrame :=
  (packRecords (allAddrs.flatMap (fun a => answerRecord s p a ++ outputRecord s p a)) [] 0).map (fun l =>
    sentFrame s p { epoch := s.mill.epoch, cycle := cycleNo s p, records := l })

/-- The OUTPUT frames of the running cycle sent. -/
def sendOutputs (p : Nat) (s : State) : State := modEngine p (fun e => { e with outSent := true, sent := outputFrames s p }) s

/-- COMPUTE_COMPLETE (R217): the newest computation, and the cycle's OUTPUT frames where they have not gone out. -/
def computeStep (p : Nat) (s : State) : State :=
  match (getEngine s p).computing with
  | some c =>
    if !portRuns s p || !smisaRuns s then s
    else
      let s1 := modEngine p (fun e => { e with computed := some c, computing := none }) s
      if (getEngine s p).outSent || !(getEngine s p).closed then s1 else sendOutputs p s1
  | none => s

/-- OUTPUTS_READY_DEADLINE (R217): the newest images go out, with a Notice at most once in a second on a port. -/
def outputsReadyStep (p : Nat) (s : State) : State :=
  let e := getEngine s p
  if !portRuns s p || !smisaRuns s || !e.closed || e.outSent || !pastPart s p 14 then s
  else
    let s1 := sendOutputs p s
    if e.computing.isNone || (match e.lateAt with
      | some t => decide (s.now < t + sec 1)
      | none => false) then s1
    else issue 0x20 0x04 (stnDetail p 0) (modEngine p (fun e => { e with lateAt := some s.now }) s1)

/-- The residual window of a port is open (R233). -/
def windowOpen (s : State) (p : Nat) : Bool :=
  portRuns s p && ((portCfg s p).getD {}).residual && (getEngine s p).cycle.isSome && pastPart s p 17 && decide (s.now + 200 ≤ (getEngine s p).t0 + cycleUs s p)

/-- RESIDUAL_FRAME (R233): in the window a non-Millrace frame is bridged to the uplink on the port's VLAN and its sender learnt; anything else is discarded. -/
def residualFrameStep (p src : Nat) (millrace : Bool) (frame : Bytes) (s : State) : State :=
  if windowOpen s p && !millrace then
    let s1 := modEngine p (fun e => { e with learnt := if e.learnt.contains src then e.learnt else e.learnt ++ [src] }) s
    if uplinkRuns s1 && s1.bus.up.link then upSend { tag := some (((portCfg s p).getD {}).vlan, 0), body := .bridged p ((portCfg s p).getD {}).vlan frame } s1 else s1
  else s

/-- A port takes an uplink frame into its queue where it learnt the address (R233). -/
def queueResidual (s : State) (dst vlan : Nat) (frame : Bytes) (p : Nat) (e : Engine) : Engine :=
  match portCfg s p with
  | some c =>
    if e.running && c.residual && c.vlan == vlan && e.learnt.contains dst then { e with resQueue := (e.resQueue ++ [(dst, frame)]).drop (e.resQueue.length + 1 - 16) } else e
  | none => e

/-- RESIDUAL_UPLINK_FRAME (R233): queued for every port that learnt the address on the frame's VLAN, 16 at most, the oldest dropped. -/
def residualUplinkStep (dst vlan : Nat) (frame : Bytes) (s : State) : State :=
  if uplinkRuns s then { s with mill := { s.mill with ports := mapIdx (queueResidual s dst vlan frame) 0 s.mill.ports } } else s

/-- The wire time of an Ethernet frame given without its FCS, in 0.1 µs (terms of 07_millrace.md). -/
def frameTenths (n : Nat) : Nat := (max 60 n + 24) * 8

/-- The frames of a queue that end within the window, and those that wait (R233). -/
def fitFrames : Nat → List (Nat × Bytes) → List (Nat × Bytes) × List (Nat × Bytes)
  | _, [] => ([], [])
  | left, x :: r => if frameTenths x.2.length ≤ left then let d := fitFrames (left - frameTenths x.2.length) r; (x :: d.1, d.2) else ([], x :: r)

/-- RESIDUAL_WINDOW_OPEN (R233): queued frames sent, none begun that would not end by t0 + T_c − 200 µs. -/
def residualOpenStep (p : Nat) (s : State) : State :=
  if !windowOpen s p then s
  else
    let e := getEngine s p
    let d := fitFrames ((e.t0 + cycleUs s p - 200 - s.now) * 10) e.resQueue
    modEngine p (fun e => { e with resQueue := d.2, resSent := d.1 }) s

/-- A port's segment key: none where the enclave cannot load it (R232). -/
def portKey (s : State) (c : TwPort) : Option Bytes := if c.auth then segmentKey s c.keySlot else some []

/-- A port begins its run: in a clearing run it first sends the clearing frame (R234). -/
def startPort (p : Nat) (key : Bytes) (s : State) : State :=
  let s1 := { s with mill := { s.mill with keys := setN p key s.mill.keys } }
  modEngine p (fun e => { e with running := true, keyWait := false, stopNext := false, cleared := s.mill.clearing, cycle := none, closed := true, outSent := true,
                                 computed := none, computing := none, parkFirst := none, parkCycles := 0, resQueue := [], learnt := [], t0 := s.now, senders := [], strays := [], refusals := [], held := false,
                                 code := e.nextCode.getD e.code, nextCode := none,
                                 start := if s.mill.clearing then some (sentStart s1 p { epoch := 0, cycle := 0, code := e.nextCode.getD e.code, failsafe := true, stop := true, nodes := ((portCfg s p).getD {}).nodes }) else e.start }) s1

/-- A port started, or left waiting for its key with a Notice (R232). -/
def tryPort (s : State) (p : Nat) : State :=
  match portCfg s p with
  | none => s
  | some c =>
    match portKey s c with
    | some k => startPort p k s
    | none => issue 0x20 0x05 (stnDetail p 0) (modEngine p (fun e => { e with running := false, keyWait := true }) s)

/-- The downstream segment key of a relay loaded, or its segment left waiting with a Notice (R232). -/
def tryRelay (s : State) (c : TwStation) : State :=
  match segmentKey s c.dkeySlot with
  | some k => { s with mill := { s.mill with keys := setN (0x100 + c.addr) k s.mill.keys, segWait := s.mill.segWait.filter (fun a => a != c.addr) } }
  | none => issue 0x20 0x05 (stnDetail c.port c.addr) { s with mill := { s.mill with segWait := s.mill.segWait.filter (fun a => a != c.addr) ++ [c.addr] } }

/-- The relays of enabled ports whose downstream segment authenticates (R231, R468). -/
def keyedRelays (s : State) : List TwStation := (tw s).stations.filter (fun c => c.isRelay && c.dauth && (portCfg s c.port).isSome)

/-- A retry is due in one second while a segment waits for its key (R232). -/
def armKeyRetry (s : State) : State :=
  { s with mill := { s.mill with keyRetryAt := if s.mill.ports.any (fun e => e.keyWait) || !s.mill.segWait.isEmpty then some (s.now + sec 1) else none } }

/-- The epoch of a new run, which AO keeps (R234): a free one that differs from the last, and after AO loss 0x80, opened by a clearing frame. -/
def newEpoch (s : State) : State :=
  let d := draw s
  let ep := match s.ao.epoch with
    | some e => (e + 1 + d.1 % 255) % 256
    | none => 0x80
  { d.2 with ao := { d.2.ao with epoch := some ep }, mill := { d.2.mill with epoch := ep, clearing := s.ao.epoch.isNone } }

/-- The engine's state at its start (R223, R234): every station ABSENT; what STN.GET reports of it stays (R224, R225). -/
def engineFresh (s : State) : State :=
  let s1 := newEpoch (absentAll s)
  { s1 with mill := { s1.mill with
      on := true, startDue := false, parking := false, startAt := s.now, keys := [], segWait := [], depsDue := true,
      ports := s1.mill.ports.map (fun e => { e with running := false, keyWait := false }),
      stn := s1.mill.stn.map (fun x => { x with fresh := 0, missRow := 0, silent := 0, serial := none, parked := false, got := none, join := none, answer := none }) } }

/-- ENGINE_START (R232, R234). -/
def engineStartStep (s : State) : State :=
  if !s.mill.startDue || !isOn s .net || !smisaRuns s || s.ao.grave.isSome || s.pwr.fallback then s
  else
    let s1 := [0, 1, 2, 3].foldl tryPort (engineFresh s)
    armKeyRetry ((keyedRelays s1).foldl tryRelay s1)

/-- KEY_LOAD_RETRY (R232). -/
def keyRetryStep (s : State) : State :=
  if due s.mill.keyRetryAt s && s.mill.on && smisaRuns s then
    let s1 := [0, 1, 2, 3].foldl (fun acc p => if (getEngine acc p).keyWait then tryPort acc p else acc) s
    armKeyRetry (((keyedRelays s1).filter (fun c => s1.mill.segWait.contains c.addr)).foldl tryRelay s1)
  else s

/-- T1S_ENERGY_DETECT (R207): at least 100 µs of signal on the port whose PHY is in energy-detect sense. -/
def energyStep (p us : Nat) (s : State) : State :=
  if portPhy s p == 2 && decide (100 ≤ us) then wakeEvent 0x48 s else s

end Sys2Proof.Machine
end

