-- ==== Sys2Proof/Machine/HandStn.lean ====
section
/-! DEFINITION. Handlers of the STN group (R88, R91, 03_commands.md; R218, R219, R224, R225, 07_millrace.md). -/

namespace Sys2Proof.Machine

/-- STN.LIST: every station record in ascending address order. -/
def hStnList (_ : Req) (s : State) : Reply :=
  let l := byAddr (tw s).stations
  okay (b8 l.length :: l.flatMap (fun c => [b8 c.addr, b8 c.port, b8 (stnCode (getStn s c.addr).st)])) s

/-- The body of STN.GET (R224, R225): the last applied cycle reads 0 before the first one reported (DEDUCED, log 22). -/
def stnGetBody (s : State) (c : TwStation) : Bytes :=
  let x := getStn s c.addr
  [b8 (stnCode x.st)] ++ be 4 x.profile ++ be 2 (x.applied.getD 0) ++ be 2 x.missed ++ [b8 c.ilen] ++ padTo c.ilen 0 x.data

/-- STN.GET. -/
def hStnGet (r : Req) (s : State) : Reply :=
  match stationCfg s (byte r.payload 0) with
  | none => deny stRange s
  | some c => okay (stnGetBody s c) s

/-- The cycle whose OUTPUT frames first carry data written now (R218). -/
def firstCycle (s : State) (p : Nat) : Nat :=
  if (getEngine s p).closed || pastPart s p 10 then (cycleNo s p + 1) % 65536 else cycleNo s p

/-- Bytes written into a station's output image (R91). -/
def imagePut (c : TwStation) (off : Nat) (d : Bytes) (s : State) : State :=
  modStn c.addr (fun x => { x with image := writeAt (padTo c.olen 0 x.image) off d }) s

/-- STN.WRITE (R91, R218). -/
def hStnWrite (r : Req) (s : State) : Reply :=
  match stationCfg s (byte r.payload 0) with
  | none => deny stRange s
  | some c =>
    let off := byte r.payload 1
    let d := r.payload.drop 2
    if c.olen < off + d.length then deny stRange s
    else inMode 0x2003 r s (
      if !inSnapshot (getStn s c.addr) then deny stState s
      else if !owns s (requester s r) (0x100 + c.addr) then deny stNotOwner s
      else okay (be 2 (firstCycle s c.port)) (imagePut c off d s))

/-- STN.CYCLE (R219): the new cycle time waits for the next cycle instant. -/
def hStnCycle (r : Req) (s : State) : Reply :=
  match portCfg s (byte r.payload 0) with
  | none => deny stRange s
  | some c =>
    let code := byte r.payload 1
    if decide (6 < code) || !budgetOk (tw s) c code then deny stRange s
    else inMode 0x2004 r s (okay [] (modEngine c.port (fun e => { e with nextCode := some code }) s))

end Sys2Proof.Machine
end

