-- ==== Sys2Proof/Machine/Fabric.lean ====
section
/-! DEFINITION. Messages after their arrival: fault history, event log, FLT.RILL, acknowledgements and the quiet period (R354 to R368, 12_confluence.md; R492, 16_persistent.md). -/

namespace Sys2Proof.Machine

/-- The island of a message: the source's, or among several the one named (R594). -/
def arriveIsland (src kind island : Nat) (s : State) : Nat :=
  if src == 0x08 then island else if src == 0x12 then (if island == 0x0C then 0x0C else 0x0B) else islandOf s src kind

/-- The detail of a message (R348): the byte address of a memory kind, port and station, the islands of a crossing, the head of the escalating message; 0 for every other kind. -/
def arriveDetail (src kind detail : Nat) : Nat :=
  if src == 0x04 || src == 0x05 || (src == 0x7F && kind == 0x03) then detail
  else if src == 0x20 then detail % 1024 else if src == 0x08 then detail % 65536 else 0

/-- A message of a class arrives from a source (R348, R351, R352, R594): only kinds of the catalogue, under the class in force. -/
def arriveAs (c : Cls) (src kind island detail : Nat) (s : State) : State :=
  if (catalogue src kind).isSome && classOf s src kind == c then report src kind (arriveIsland src kind island s) (arriveDetail src kind detail) s else s

/-- NOTICE_ARRIVAL (R353, R356, R357). -/
def noticeStep (src kind island detail : Nat) (s : State) : State := arriveAs .notice src kind island detail s

/-- RECOVERABLE_ARRIVAL (R354 to R357). -/
def recoverableStep (src kind island detail : Nat) (s : State) : State := arriveAs .recoverable src kind island detail s

/-- SEVERE_ARRIVAL (R359, R363). -/
def severeStep (src kind island detail : Nat) (s : State) : State := arriveAs .severe src kind island detail s

/-- GRAVE_ARRIVAL (R365). -/
def graveStep (src kind island detail : Nat) (s : State) : State := arriveAs .grave src kind island detail s

/-- The quiet period in µs (R352). -/
def quietUs (s : State) : Nat := (tw s).confluence.quiet * 10000

/-- QUIET_PERIOD_END (R360): outputs take their owners' requests. -/
def quietStep (s : State) : State :=
  match s.ao.severeAt with
  | some t => if t + quietUs s ≤ s.now then applyDrives { s with ao := { s.ao with severeAt := none } } else s
  | none => s

/-- FLT.RILL for a Severe or Grave message (R358); its copy in AO is done with. -/
def raiseRill (m : Rill) (stamp : Nat) (s : State) : State :=
  event 0x40E0 1 (rillBytes m ++ be 4 stamp)
    { s with ao := { s.ao with rillCopies := s.ao.rillCopies.filter (fun c => !(c.msg == m && c.stamp == stamp)) } }

/-- A Notice in the event log: at most once per 10 s of one source and kind, with the repeats since the last one (R358, R492). -/
def logNotice (m : Rill) (s : State) : State :=
  let same := fun (e : Nat × Nat × Nat × Nat) => e.1 == m.source && e.2.1 == m.kind
  match s.fab.noticeAt.find? same with
  | some (_, _, t, n) =>
    if s.now < t + sec 10 then
      { s with fab := { s.fab with noticeAt := s.fab.noticeAt.map (fun e => if same e then (e.1, e.2.1, e.2.2.1, satInc 0xFFFF e.2.2.2) else e) } }
    else logWriteRep m 0 n { s with fab := { s.fab with noticeAt := s.fab.noticeAt.map (fun e => if same e then (e.1, e.2.1, s.now, 0) else e) } }
  | none => logWrite m 0 { s with fab := { s.fab with noticeAt := s.fab.noticeAt ++ [(m.source, m.kind, s.now, 0)] } }

/-- The message at the head taken into the fault history and the event log; a Recoverable one waits for its acknowledgement, which the Grave service gives at once (R354, R358, R366). -/
def takeMessage (s : State) : State :=
  match s.fab.queue with
  | [] => s
  | e :: r =>
    let s1 := { s with fab := { s.fab with queue := r, history := ({ msg := e.msg, stamp := e.stamp } :: s.fab.history).take 80,
                                           taken := if e.unacked && s.boot.runs != 2 then s.fab.taken ++ [e] else s.fab.taken } }
    match e.msg.cls with
    | .notice => logNotice e.msg s1
    | .recoverable => logWrite e.msg 0 s1
    | _ => raiseRill e.msg e.stamp (logWrite e.msg 0 s1)

/-- Firmware that takes messages runs: Smisa or the Grave service (R358, R366). -/
def takerRuns (s : State) : Bool := isOn s .svc && !s.core.halted && (s.boot.runs == 1 || s.boot.runs == 2)

/-- Every queued message taken, head first (R358, R369). -/
def takeAll (s : State) : State := if takerRuns s then (List.range s.fab.queue.length).foldl (fun acc _ => takeMessage acc) s else s

/-- FAULT_HISTORY_TAKE (R358). -/
def historyStep (s : State) : State := takeAll s

/-- RECOVERABLE_ACK (R354): the oldest message that was taken and handled. -/
def recoverableAckStep (s : State) : State :=
  if smisaRuns s then { s with fab := { s.fab with taken := s.fab.taken.drop 1 } } else s

/-- An acknowledgement that did not come in time: SVC has been ON since (R354). -/
def ackLate (s : State) (e : QEntry) : Bool := e.unacked && decide (e.ackAt ≤ s.now)

/-- ACK_TIMEOUT (R354): the collector issues SRC_CFL ACK_TIMEOUT, and the messages that waited need no further acknowledgement. -/
def ackTimeoutStep (s : State) : State :=
  if isOn s .svc && (s.fab.queue.any (ackLate s) || s.fab.taken.any (ackLate s)) then
    issue 0x7F 0x02 0 { s with fab := { s.fab with queue := s.fab.queue.map (fun e => if ackLate s e then { e with unacked := false } else e), taken := s.fab.taken.filter (fun e => !ackLate s e) } }
  else s

/-- COLLECTOR_HANDSHAKE_MISS (R368): AO builds the message itself, unstamped and unnumbered, and holds its copy (R358). -/
def handshakeStep (s : State) : State :=
  let m : Rill := { source := 0x7F, kind := 0x01, cls := .grave, island := aoIsland s }
  graveReact m 0xFFFFFFFF (keepCopy m 0xFFFFFFFF s)

/-- The bound of a crossing between SYSK and an island, in ns (R428). -/
def crossBound (island : Nat) : Nat := match island with
  | 0x00 | 0x01 => 100000
  | 0x03 => 25
  | 0x04 | 0x05 => 40
  | 0x06 | 0x07 => 300
  | 0x08 => 120
  | 0x09 => 50
  | 0x0A => 3000
  | 0x0B | 0x0C => 400
  | 0x0D => 100
  | _ => 0

/-- The bound of a crossing between two islands: it passes through SYSK (R428). -/
def crossingBound (near far : Nat) : Nat := crossBound near + crossBound far

/-- BRIDGE_TIMEOUT (R429, R594): a crossing not completed within 4 times its bound, reported by the near island, DETAIL naming both. -/
def bridgeStep (near far ns : Nat) (s : State) : State :=
  if near != far && decide (4 * crossingBound near far < ns) then report 0x08 0x01 near (far % 256 * 256 + near % 256) s else s

end Sys2Proof.Machine
end

