-- ==== Sys2Proof/Machine/HandBus.lean ====
section
/-! DEFINITION. Handlers of the BUS group (R92, 03_commands.md; R240 to R243, R248, R254, 08_buses.md). -/

namespace Sys2Proof.Machine

/-- BUS.GET (R243). -/
def hBusGet (r : Req) (s : State) : Reply :=
  let n := byte r.payload 0
  if 5 < n then deny stRange s
  else if n < 2 then let c := getCan s n; okay ([b8 c.state, b8 c.tec, b8 c.rec_] ++ be 2 c.busOff) s
  else let c := getLin s (n - 2); okay ([b8 c.state, 0, 0] ++ be 2 c.errors) s

/-- A working routing table of 64 entries. -/
def padRoutes (l : List TwRoute) : List TwRoute := l ++ List.replicate (64 - l.length) ({} : TwRoute)

/-- BUS.ROUTE (R242, R254). -/
def hBusRoute (r : Req) (s : State) : Reply :=
  let n := byte r.payload 0
  let b := r.payload.drop 1
  if decide (63 < n) || !routeOk b || routeReserved (tw s).transports (readRoute b) then deny stRange s
  else okay [] (modUp (fun u => { u with routes := setAt n (readRoute b) (padRoutes u.routes) }) s)

/-- Data lengths of a CAN frame: 0 to 8, and those of CAN FD. -/
def canLenOk (fd : Bool) (n : Nat) : Bool := decide (n ≤ 8) || (fd && [12, 16, 20, 24, 32, 48, 64].contains n)

/-- An identifier field with bit 31 for 29-bit. -/
def canIdOk (v : Nat) : Bool := if v.testBit 31 then decide (v % 2147483648 < 536870912) else decide (v < 2048)

/-- The CAN frame that BUS.SEND or CAN_SEND names. -/
def sendFrameOf (v flags : Nat) (data : Bytes) : CanFrame := { id := v % 536870912, ext := v.testBit 31, fd := tbit flags 0, brs := tbit flags 1, data := data }

/-- The fields of BUS.SEND are in range (R92, R242). -/
def sendOk (s : State) (ch v flags : Nat) (data : Bytes) : Bool :=
  decide (ch ≤ 1) && canIdOk v && decide (flags < 4) && (tbit flags 0 || !tbit flags 1) && canLenOk (tbit flags 0) data.length &&
    !reservedId s ch (v % 536870912) (v.testBit 31)

/-- BUS.SEND (R92, R240 to R242): answered when the frame is acknowledged, or by time-out. -/
def hBusSend (r : Req) (s : State) : Reply :=
  let ch := byte r.payload 0
  let v := field r.payload 1 4
  let fl := byte r.payload 5
  let d := r.payload.drop 6
  if !sendOk s ch v fl d then deny stRange s
  else inMode 0x2103 r s (
    if !canActive s ch then deny stState s
    else .later (canQueue ch { frame := sendFrameOf v fl d, origin := .busSend r.transport r.session r.seq, dueAt := s.now + ms 20 } s))

/-- A schedule that Twill fills (R248). -/
def schedFilled (s : State) (ch n : Nat) : Bool := match linSched s ch n with
  | some t => !t.slots.isEmpty
  | none => false

/-- BUS.LINSCHED (R248): it takes effect at the end of the running slot. -/
def hBusLinsched (r : Req) (s : State) : Reply :=
  let ch := byte r.payload 0
  let n := byte r.payload 1
  if decide (ch < 2) || decide (5 < ch) || decide (15 < n) || !schedFilled s (ch - 2) n then deny stRange s
  else inMode 0x2104 r s (
    if (getLin s (ch - 2)).state == 1 || (getLin s (ch - 2)).startAt.isSome then okay [] (modLin (ch - 2) (fun x => { x with next := some n }) s)
    else deny stState s)

end Sys2Proof.Machine
end

