-- ==== Sys2Proof/Machine/PowSteps.lean ====
section
/-! DEFINITION. Timed events of mode policy, power, shutdown and clocks (R16 to R23, 01_system.md; R83, 03_commands.md; R396 to R424, 14_power.md; R431 to R437, 15_clocks_resets.md). -/

namespace Sys2Proof.Machine

/-- The wake code of a mode source (R409): what a change of its level would have been as a wake. -/
def sourceCode (d : SrcDesc) : Nat := match d.kind with
  | 0 => 0x40
  | 1 => 0x10 + d.loc
  | 3 => 0x48
  | _ => 0x70

/-- MODE_HOLD_EXPIRY (R83). -/
def holdExpiryStep (s : State) : State := match s.mode.hold with
  | some (t, _, _) => if t ≤ s.now then { s with mode := { s.mode with hold := none }, work := true } else s
  | none => s

/-- TRIGGER_LEVEL_CHANGE (R17, R18): a source named by Twill gives a new level. -/
def triggerStep (tr : Trigger) (s : State) : State :=
  if !smisaRuns s then s
  else match tr with
  | .ign (some v) => if (tw s).mode.ign.kind == 0xFF then s else setIgn (sourceCode (tw s).mode.ign) v s
  | .ign none => if (tw s).mode.ign.kind == 0xFF then s else loseIgn s
  | .lock v => if (tw s).mode.lock.kind == 0xFF then s else setLock (sourceCode (tw s).mode.lock) v s
  | .door v => setDoor (0x10 + ((List.range 24).find? (tbit (tw s).mode.doorSw)).getD 0) v s
  | .session => levelChanged 0x38 s
  | .transport => levelChanged 0x38 s

/-- MODE_EVALUATION (R18): at least every 10 ms. -/
def modeEvalStep (s : State) : State := modeEval 0 s

/-- APPROACH_LINGER_ELAPSED (R18). -/
def lingerStep (s : State) : State := if s.mode.mode == .approach && lingerOver s then modeEval 0 s else s

/-- APPROACH_TIMEOUT (R18). -/
def approachStep (s : State) : State := if s.mode.mode == .approach && approachOver s then modeEval 0 s else s

/-- SERVICE_INACTIVITY (R18): 30 min with no P3 frame. -/
def inactivityStep (s : State) : State := if policyRuns s && decide (s.mode.serviceAt + sec 1800 ≤ s.now) then leaveService 0 s else s

/-- CRANK_LIMIT (R21): 30 s in CRANK; the reported CRANK counts as RUN from here, and CRANK_LONG is raised. -/
def crankLimitStep (s : State) : State :=
  if s.mode.crank && due s.mode.crankEnd s then
    issue 0x28 0x02 0 (applyDrives { s with mode := { s.mode with crank := false, crankEnd := none, crankSpent := true } })
  else s

/-- IGNITION_TIMEOUT (R22). -/
def ignTimeoutStep (s : State) : State := if smisaRuns s && due s.mode.ignTimeoutAt s then loseIgn s else s

/-- IGNITION_INVALID_LIMIT (R22): still invalid 10 min later, the ignition is OFF. -/
def ignInvalidStep (s : State) : State :=
  if smisaRuns s && due s.mode.ignOffAt s && s.mode.ign != .off then
    levelChanged (sourceCode (tw s).mode.ign) (wiperRest { s with mode := { s.mode with ign := .off, crankSpent := false } })
  else s

/-- The entry to TRANSPORT waits for refused domains at S5 (R405, R418): a wake ends it (log 98). -/
def heldTransport (s : State) : Bool := match s.pwr.shutdown with
  | some d => d.target == 2 && decide (5 ≤ d.step) && !isOn s .svc
  | none => false

/-- WAKE0_QUALIFIED (R18, R154): WAKE0 high for 50 ms in TRANSPORT, having read inactive since the entry: a start, held below 5.5 V (R411), or during the shutdown what R420 and R421 say. -/
def wake0Step (s : State) : State :=
  if s.mode.mode == .transport && (getPin s 0).armed && s.env.wakeLevel.getD 0 false && due (getPin s 0).qualAt s && !s.pwr.inReset && !s.pwr.supplyOff then
    let s1 := modPin 0 (fun p => { p with qualAt := none }) s
    if s.pwr.shutdown.isSome && !heldTransport s then wakeEvent 0x01 s1
    else if s.env.vbat < 5500 then { s1 with ao := { s1.ao with wakeHeld := some 0x01 } }
    else callReset .transportExit s1
  else s

/-- SUPPLY_TRIGGER (R18, R417): VBAT below 5.5 V for more than 2 ms; no mode function runs in Rescue (R518). -/
def supplyTriggerStep (mv : Nat) (s : State) : State :=
  let s1 := setVbat mv s
  if decide (mv < 5500) && s.mode.mode != .transport && !s.pwr.supplyOff && !s.pwr.inReset && (s.boot.runs == 1 || s.boot.runs == 2) then supplyShutdown s1 else s1

/-- SUPPLY_RETURN (R420, R422): at or above 6.0 V for 1 ms. -/
def supplyReturnStep (mv : Nat) (s : State) : State :=
  let s1 := setVbat mv s
  match s1.pwr.shutdown with
  | some d =>
    if decide (6000 ≤ mv) && d.target == 0 then
      (if d.step < 3 then abortShutdown s1 else { s1 with pwr := { s1.pwr with shutdown := some { d with supplyBack := true } } })
    else s1
  | none => s1

/-- SUPPLY_RESTART (R424): at or above 6.0 V for 10 ms after a completed supply shutdown. -/
def supplyRestartStep (mv : Nat) (s : State) : State :=
  let s1 := setVbat mv s
  if s.pwr.supplyOff && decide (6000 ≤ mv) && !s.pwr.inReset then callReset .shutdownSupply s1 else s1

/-- PARKED awake with its awake timer expired (R414). -/
def awakeOver (s : State) : Bool := policyRuns s && s.mode.mode == .parked && due s.pwr.awakeAt s

/-- AWAKE_TIMER_EXPIRY (R414): where no transition leaves PARKED, the shutdown towards asleep. -/
def awakeExpiryStep (s : State) : State :=
  if awakeOver s then
    let s1 := modeEval 0 s
    if awakeOver s1 then parkEntry 1 0 s1 else s1
  else s

/-- SHUTDOWN_BY_MODE_POLICY (R417): target 1 PARKED, from APPROACH or on the awake timer; the one to TRANSPORT (2) begins with its MODE.SET. -/
def policyShutdownStep (target : Nat) (s : State) : State :=
  if target != 1 then s
  else if s.mode.mode == .parked then awakeExpiryStep s
  else if s.mode.mode == .approach then modeEval 0 s
  else s

/-- SHUTDOWN_STEP_COMPLETE (R418). -/
def stepCompleteStep (s : State) : State := match s.pwr.shutdown with
  | some d => stepDone d s
  | none => s

/-- ENTRY_RETRY (R405): what was refused is tried again, and not counted again; at S5 of a shutdown to TRANSPORT its end is (R418). -/
def entryRetryStep (s : State) : State :=
  let s1 := match s.pwr.shutdown with
    | some d => if d.target == 2 && decide (5 ≤ d.step) then transportEnd d s else s
    | none => if s.pwr.inReset || s.pwr.supplyOff then s else retryEntries s
  if s1.pwr.parkRefused then (if s1.mode.mode == .approach then modeEval 0 s1 else if awakeOver s1 then parkEntry 1 0 s1 else s1) else s1

/-- DOMAIN_ON (R398, R399, R402): a domain that is to be ON reaches it, not while the ignition source reports CRANK but by PWR.SET (R393); the SVC group comes with a start or a wake. -/
def domainOnStep (d : Domain) (s : State) : State :=
  if [Domain.svc, .mema, .memb, .nvm].contains d || domTarget s d != .on || s.pwr.inReset || s.pwr.supplyOff || s.ao.grave.isSome || !(s.pwr.full || s.pwr.lowPower) || (cranking s && (s.pwr.override.getD (domCode d) none).isNone) then s
  else
    let s1 := raiseDomain d .on s
    if d == .enc && s1.enc.avail then acceptPresent s1 else s1

/-- A wake source is armed in PARKED asleep (R409). -/
def armedSource (s : State) (src : Nat) : Bool :=
  if decide (0x01 ≤ src) && decide (src ≤ 0x04) then tbit (tw s).inputs.pinEn (src - 1) && (getPin s (src - 1)).armed
  else if decide (0x10 ≤ src) && decide (src < 0x28) then domSt s .scan != .off && (swCfg s (src - 0x10)).wake != 0
  else match src with
  | 0x30 => domSt s .scan != .off && (tw s).keys.scanned
  | 0x38 => true
  | 0x40 => domSt s .vbus == .ret && canEnabled s 0 && (getCan s 0).state != 4
  | 0x48 => domSt s .net == .ret && (tw s).power.wakePort != 0xFF
  | 0x50 => domSt s .rfd == .ret
  | 0x58 => tagEnabled s
  | 0x60 => (tw s).power.wakeIntS != 0 && (match s.pwr.asleepAt with
    | some t => decide (t + sec (tw s).power.wakeIntS ≤ s.now)
    | none => false)
  | 0x68 => true
  | 0x70 => true
  | _ => false

/-- WAKE (R409 to R412): an armed source in PARKED; in TRANSPORT only WAKE0 is one, under its own qualification. -/
def wakeStep (src : Nat) (s : State) : State := if s.mode.mode == .parked && armedSource s src then wakeEvent src s else s

/-- WAKE_TIMER (R409). -/
def wakeTimerStep (s : State) : State := wakeStep 0x60 s

/-- WAKE_HELD_RELEASE (R411): VBAT at or above 6.0 V for 10 ms. -/
def wakeHeldStep (mv : Nat) (s : State) : State :=
  let s1 := setVbat mv s
  match s1.ao.wakeHeld with
  | some src =>
    let s2 := { s1 with ao := { s1.ao with wakeHeld := none } }
    if mv < 6000 then s1
    else if s1.pwr.shutdown.isNone && s1.pwr.asleep then wakeEvent src s2
    else if s1.mode.mode == .transport && (s1.pwr.shutdown.isNone || heldTransport s1) then callReset .transportExit s2
    else s1
  | none => s1

/-- A transport cut off with its clock (R431): sessions close, and what was queued or running is lost; its abort records stay (R64). -/
def cutTransport (t : Transport) (s : State) : State :=
  if (getPort s t).served then
    let s1 := closeSession t 0 (closeAuth (fun x => x.transport == t) s)
    let s2 := modPort t (fun p => { p with served := false, slots := [], out := [] }) s1
    if t == .can then { s2 with mbx := { s2.mbx with canTx := none, canRx := none } } else s2
  else s

/-- The device on the fallback oscillator (R431): CAN and the uplink off, the Millrace engine stopped, the radios silent and the insert interface deactivated. -/
def enterFallback (s : State) : State :=
  let s1 := canDown false (cutTransport .eth (cutTransport .can { s with pwr := { s.pwr with fallback := true } }))
  issueAt 0x09 0x01 0x02 0 { s1 with
    mill := { s1.mill with on := false, startDue := false, parking := false, keyRetryAt := none, segWait := [], ports := s1.mill.ports.map (fun p => { p with running := false, keyWait := false }) },
    tag := { s1.tag with accept := none, wb := none, vcc := false } }

/-- A failed XTAL25 is found when the regulator is in full mode (R431). -/
def clockCheck (s : State) : State := if !s.pwr.xtalOk && s.pwr.full && !s.pwr.fallback then enterFallback s else s

/-- XTAL25 is treated as failed (R431): outside 23.5 MHz to 26.5 MHz over 10 µs, or without an edge for 1 µs. -/
def xtalFailed : XtalSeen → Bool
  | .freq khz us => decide (10 ≤ us) && (decide (khz < 23500) || decide (26500 < khz))
  | .noEdge ns => decide (1000 ≤ ns)

/-- XTAL25_FAIL (R431). -/
def xtalFailStep (seen : XtalSeen) (s : State) : State :=
  if xtalFailed seen then clockCheck { s with pwr := { s.pwr with xtalOk := false } } else s

/-- AOK_FAIL is issued once SVC is ON (R432). -/
def aokReport (s : State) : State :=
  if s.ao.aokFailHeld && isOn s .svc then issueAt 0x09 0x02 0x01 0 { s with ao := { s.ao with aokFailHeld := false } } else s

/-- AOK_FAIL (R432): no edge for 250 µs, and AORC clocks AO. -/
def aokFailStep (noEdge : Nat) (s : State) : State := if s.ao.onAorc || decide (noEdge < 250) then s else aokReport { s with ao := { s.ao with onAorc := true, aokFailHeld := true } }

/-- AOK_RETRY (R432): AOK takes over again as soon as it runs. -/
def aokRetryStep (runs : Bool) (s : State) : State := if runs then { s with ao := { s.ao with onAorc := false } } else s

/-- AORC_CALIBRATION (R432): every 60 s while SVC is ON. -/
def aorcCalStep (s : State) : State := if isOn s .svc then { s with ao := { s.ao with aorcCal := true } } else s

/-- A regulator mode is on. -/
def powered (s : State) : Bool := s.pwr.full || s.pwr.lowPower

/-- REG_FAULT (R351): Severe with a CFR. -/
def regFaultStep (s : State) : State := if powered s then issue 0x0A 0x01 0 s else s

/-- A dip that is a brown-out (R391, R397, R435): VBAT below 2.8 V for less than 10 ms with a regulator mode on; V33 below 2.95 V or VCORE below 0.81 V for 1 µs in full mode. -/
def brownOut (d : Dip) (s : State) : Bool := match d with
  | .vbat us => powered s && decide (0 < us) && decide (us < 10000)
  | .v33 mv us => s.pwr.full && decide (mv < 2950) && decide (1 ≤ us)
  | .vcore mv us => s.pwr.full && decide (mv < 810) && decide (1 ≤ us)

/-- BOR (R397, R435): none in full stop. -/
def borStep (d : Dip) (s : State) : State := if brownOut d s then callReset .bor s else s

/-- LPBO (R407, R408): the LP path at its limit of 2.0 mA for 20 µs; counted, and the third within 3600 s blocks low-power mode. -/
def lpboStep (ua us : Nat) (s : State) : State :=
  if s.pwr.lowPower && decide (2000 ≤ ua) && decide (20 ≤ us) then
    let l := s.ao.life :: s.ao.lpbos.filter (fun t => decide (s.ao.life < t + 3600))
    callReset .lpbo { s with ao := { s.ao with lpbos := l.take 8, lpBlocked := s.ao.lpBlocked || decide (3 ≤ l.length) } }
  else s

/-- A service of the watchdog `gap` µs after the last one, or its absence for that long, calls for the reset (R437): earlier than 25 % of the period, or not within it. -/
def wdtFails (gap : Nat) (s : State) : Bool := decide (4 * gap < ms (tw s).power.wdtMs) || decide (ms (tw s).power.wdtMs < gap)

/-- WDT (R437): while SVC is ON and Smisa or the Grave service runs; no service lies further back than the last known one or the end of U7; a service in time restarts the period. -/
def wdtStep (gap : Nat) (s : State) : State :=
  if isOn s .svc && (s.boot.runs == 1 || s.boot.runs == 2) && decide (gap ≤ s.now - s.pwr.wdtAt) then
    (if wdtFails gap s then callReset .wdt s else { s with pwr := { s.pwr with wdtAt := s.now } })
  else s

/-- DOM_RESET (R438): while the device is powered and not held in reset; RFD of a BZ-7464 goes from OFF to OFF (R2). -/
def domResetStep (d : Domain) (s : State) : State := if powered s && !s.pwr.inReset then callReset (.dom d) s else s

end Sys2Proof.Machine
end

