-- ==== Sys2Proof/Machine/Startup.lean ====
section
/-! DEFINITION. Resets, what survives them, and the start-up sequence (R434 to R446, 15_clocks_resets.md; R23, 01_system.md; R475, 16_persistent.md; R500, 17_images.md). A reset and the start-up that follows it run in one step (log 29). -/

namespace Sys2Proof.Machine

/-- A reset that empties MEMA and the life region, and ends a Severe reaction (R442). -/
def weakCause (c : Cause) : Bool := c == .por || c == .bor || c == .lpbo

/-- The life clock after AO loss: one above the highest readable in an opening line of the ring or in the tamper log (R487). -/
def resumeLife (s : State) : Nat :=
  let a := s.nvm.journal.foldl (fun m f => max m f.life) 0
  let b := s.enc.log.foldl (fun m e => max m e.life) a
  if s.nvm.journal.isEmpty && s.enc.log.isEmpty then 0 else min 0xFFFFFFFF (b + 1)

/-- AO after AO loss: every item initial, the marker lost, the trim of snapshot page 0 applied again (R441, R337, R487, R488). -/
def lostAo (s : State) : Ao := { valid := false, life := resumeLife s, trim := s.nvm.trim }

/-- AO at a reset or start of a cause (R442): what the column of the cause clears, and the entry in the history. -/
def resetAo (c : Cause) (a : Ao) : Ao :=
  let b : Ao := if c == .por then
      { a with refusals := List.replicate 9 0, lastRefuser := 0, grave := none, recovery := [], severeStarts := [], rillCopies := [], aborts := [], lpbos := [], lpBlocked := false }
    else a
  let d : Ao := if weakCause c then { b with severeAt := none, tdxReplays := 0, tdxSecond := 0 } else b
  addHistory c { d with wakeHeld := none }

/-- An actuator after a reset: what it learnt is kept; the position of the last S2, or an uncertain one that is free (R143; log 7). -/
def resetAct (pos : Option Nat) (a : Actuator) (s : State) : Actuator × State :=
  match pos with
  | some p => ({ pos := p, state := restState a, travel := a.travel, ripple := a.ripple, profile := a.profile }, s)
  | none => let d := draw s; ({ pos := d.1 % 1001, state := restState a, uncertain := true, travel := a.travel, ripple := a.ripple, profile := a.profile }, d.2)

/-- The four actuators after a reset. -/
def resetActs (ps : Option (List Nat)) : Nat → List Actuator → State → List Actuator × State
  | _, [], s => ([], s)
  | i, a :: r, s =>
    let x := resetAct (ps.map (fun l => l.getD i 0)) a s
    let y := resetActs ps (i + 1) r x.2
    (x.1 :: y.1, y.2)

/-- The actuators put in place after a reset; the positions of S2 serve once (R143). -/
def placeActs (ps : Option (List Nat)) (old : List Actuator) (s : State) : State :=
  let r := resetActs ps 0 old s
  { r.2 with outs := { r.2.outs with acts := r.1 }, nvm := { r.2.nvm with positions := none } }

/-- Data NVM and the life region after a reset of SVC: what is in progress is gone, what is stored stays (R442, R443). -/
def resetNvm (n : Nvm) : Nvm := { n with staging := none, active := none, tw := {}, poisonRead := [], ops := [], commit := none, diag := {} }

/-- The enclave after a device reset: NVM content kept, SRAM lost, a key update cut (R292, R307, R442). -/
def resetEnc (e : Enc) : Enc :=
  { ksk := e.ksk, cert := e.cert, slots := e.slots, counters := e.counters, dayNo := e.dayNo, dayUpdates := e.dayUpdates,
    policy := e.policy, log := e.log, overflow := e.overflow, slowAt := e.slowAt }

/-- The tag after a device reset: what enclave NVM and the insert record keep (R263, R282, R286), the sticky mount bit of an insert that stays fitted (R285), and `ins` its state until it is accepted again (R279, R292). -/
def resetTag (ins : Nat) (t : Tag) : Tag :=
  { ins := ins, stickyMount := t.stickyMount, enableFlag := t.enableFlag, lastTxn := t.lastTxn, log := t.log, recs := t.recs.map (fun r => { r with reserved := false }), forced := t.forced }

/-- The boot side at a reset: the record, the banks and the external flash stay (R494, R499, R501). -/
def resetBoot (c : Cause) (now : Nat) (b : Boot) : Boot :=
  { sel := b.sel, bankA := b.bankA, bankB := b.bankB, flash := b.flash, smisaHash := b.smisaHash, cause := c, startAt := now }

/-- The sources of the AO region, which only POR resets (R350, R442, R594). -/
def aoSource (n : Nat) : Bool := n == 0x0A || n == 0x33

/-- A device reset asserted, or a start without one from full stop (R434, R442): every domain, the fabric and the power dies reset, every channel OFF; AO as its table says. -/
def deviceReset (c : Cause) (s : State) : State :=
  let s := copyCut (nvmCut (weakCause c) (keysCut s))
  let t : State :=
    { now := s.now, freeCtr := s.freeCtr, env := s.env, otp := s.otp,
      ao := resetAo c s.ao,
      mbx := { eth := { src0 := if c == .por then none else s.mbx.eth.src0 } },
      mode := { mode := if s.ao.grave.isSome && c != .por then s.mode.mode else .parked },
      pwr := { wdtAt := s.now, inReset := !s.env.rstn },
      outs := { dieA := { vbat := s.outs.dieA.vbat, lowV := s.outs.dieA.lowV, overV := s.outs.dieA.overV },
                dieB := { vbat := s.outs.dieB.vbat, lowV := s.outs.dieB.lowV, overV := s.outs.dieB.overV } },
      scan := if c == .por then {} else
        { pins := s.scan.pins, sw := if c == .transportExit then s.scan.sw.map (fun w => { stuckUs := w.stuckUs, stuckRaised := w.stuckRaised }) else List.replicate 24 {} },
      rls := { dry0 := s.rls.dry0, dry1 := s.rls.dry1, mountRef := s.rls.mountRef },
      tag := resetTag (insPending s) s.tag, enc := resetEnc s.enc, fab := { arrival0 := s.now, seq := if c == .por then [] else s.fab.seq.filter (fun e => aoSource e.1) }, ext := { sectors := s.ext.sectors },
      nvm := resetNvm s.nvm, boot := resetBoot c s.now s.boot, pending := s.pending }
  placeActs s.nvm.positions s.outs.acts t

/-- A channel after a reset of SVC (R438, R442): default owner, no request; its drive and what the fabric and the die keep stay. -/
def svcChan (c : Chan) : Chan := { c with own := {}, req := { freq := c.req.freq }, dflt := {}, fade := none }

/-- Sources of an island start SEQ afresh (R350). -/
def resetSeq (p : Nat → Bool) (s : State) : State := { s with fab := { s.fab with seq := s.fab.seq.filter (fun e => !p e.1) } }

/-- The sources of the COREK island (R351, R594). -/
def corekSource (n : Nat) : Bool := [0x01, 0x02, 0x04, 0x28, 0x38, 0x40].contains n

/-- A DOM reset of SVC, MEMA, MEMB or NVM (R438, R442, R443): the SVC group through OFF and back to ON; the other domains, the fabric and AO stay as they are. A shutdown by supply goes on; one by mode policy is gone with Smisa (log 30). -/
def svcReset (c : Cause) (s : State) : State :=
  let s := copyCut (nvmCut false s)
  let t : State := { s with
    ao := addHistory c s.ao,
    mbx := { eth := { src0 := s.mbx.eth.src0 } }, win := {},
    mode := { mode := if s.ao.grave.isSome then s.mode.mode else .parked },
    pwr := { s.pwr with dom := setAt 0 .on (setAt 1 .on (setAt 2 .on (setAt 3 .on s.pwr.dom))), override := List.replicate 12 none, full := true, lowPower := false, asleep := false, asleepAt := none,
                        shutdown := (match s.pwr.shutdown with
                          | some d => if d.target == 0 then some d else none
                          | none => none),
                        awakeAt := none, retry := [], parkRefused := false, wdtAt := s.now },
    outs := { s.outs with chans := s.outs.chans.map svcChan, claims := [], parking := false, lamps := List.replicate 32 {}, wiper := {}, depHold := [] },
    scan := { s.scan with watch := 0, reported := 0, keysReported := 0, inChangeAt := none, changeDue := false, an := List.replicate 8 {} },
    rls := { dry0 := s.rls.dry0, dry1 := s.rls.dry1, mountRef := s.rls.mountRef },
    hap := {},
    mill := { s.mill with stn := s.mill.stn.map (fun x => { x with image := [], dflt := [], own := {} }) },
    bus := { s.bus with can := s.bus.can.map (fun x => { x with queue := [], waiting := [] }), up := { link := s.bus.up.link, speed := s.bus.up.speed } },
    enc := { s.enc with export_ := none },
    fab := { s.fab with history := [], noticeAt := [] },
    core := {}, ext := { sectors := s.ext.sectors },
    nvm := resetNvm s.nvm, boot := resetBoot c s.now s.boot }
  restartAcks (resetSeq corekSource (placeActs s.nvm.positions s.outs.acts t))

/-- The copies of Twill in descending order of sequence number (R475). -/
def copyOrder (s : State) : List Nat :=
  match copySeq s.nvm.copyA, copySeq s.nvm.copyB with
  | some a, some b => if b < a then [0, 1] else [1, 0]
  | some _, none => [0]
  | none, some _ => [1]
  | none, none => []

/-- A copy by number. -/
def twCopy (s : State) (n : Nat) : TwillCopy := if n == 0 then s.nvm.copyA else s.nvm.copyB

/-- Stamp, LENGTH and CRC of a copy (R475). -/
def stampOk (c : TwillCopy) : Bool := match c.stamp with
  | some (_, len, crc) => len == field c.image 8 4 && len == c.image.length && crc32 c.image == crc
  | none => false

/-- A TWILL_REJECT entry (R476): the first failing TYPE and its record index in DETAIL (log 16). -/
def logReject (e : Reject) (s : State) : State := logWrite { kind := 1, detail := e.1 * 65536 + e.2 } 1 s

/-- The first copy that passes is active; with none the built-in defaults run (R475, R476, R478). -/
def selectTwill : List Nat → State → State
  | [], s => { s with nvm := { s.nvm with active := none, tw := {} } }
  | n :: r, s =>
    if stampOk (twCopy s n) then
      match parseTwill s.otp.part (twCopy s n).image with
      | .ok t => { s with nvm := { s.nvm with active := some n, tw := t } }
      | .error e => selectTwill r (logReject e s)
    else selectTwill r s

/-- What the working Twill sets at a start: routes, cycle codes, restart counts after a device reset, images, sensitivity, the armed effect, references and source time-outs (R219, R254, R442, R468, R467, R191, R173, R22). -/
def applyTwill (whole : Bool) (s : State) : State :=
  let t : Twill := tw s
  let s1 : State := { s with
    bus := { s.bus with up := { s.bus.up with routes := padRoutes t.routes } },
    outs := { s.outs with
      chans := mapIdx (fun o (c : Chan) => { c with
        restarts := if whole then (chanCfg s o).restart else c.restarts,
        req := { c.req with freq := (chanCfg s o).pwm }, dflt := { c.dflt with freq := (chanCfg s o).pwm } }) 0 s.outs.chans,
      wiper := { sens := (t.rain.getD {}).sens } },
    hap := { s.hap with armed := (t.haptic.map (fun h => h.armed)).getD 0xFF },
    rls := { s.rls with ref0 := dryRef s 0, ref1 := dryRef s 1 },
    mill := { s.mill with
      ports := mapIdx (fun p (e : Engine) =>
        let code := ((t.ports.find? (fun c => c.port == p)).map (fun c => c.code)).getD 0
        if e.running then { e with nextCode := some code } else { e with code := code }) 0 s.mill.ports,
      stn := mapIdx (fun a (x : Station) => match t.stations.find? (fun c => c.addr == a) with
        | some c => { x with image := List.replicate c.olen 0, dflt := List.replicate c.olen 0 }
        | none => x) 0 s.mill.stn,
      depsDue := true } }
  { s1 with mode := { s1.mode with ignTimeoutAt := sourceTimeout s1 } }

/-- The wiper's park switch as the initial debounce left it (R135, R155). -/
def readParkSwitch (s : State) : State :=
  match (tw s).wiper with
  | some c => modWiper (fun w => { w with parkSw := (getSw s c.parkSw).closed == c.parkLvl, phase := if (getSw s c.parkSw).closed == c.parkLvl then .parked else .stopped }) s
  | none => s

/-- The life region at a start (R443, R484, R485): lost with MEMA on POR, BOR and LPBO, flushed to the journal otherwise; an LPBO and time asleep or in TRANSPORT are counted (R479). -/
def startLife (c : Cause) (s : State) : State :=
  let s1 := if weakCause c then loseUnflushed s else flushLife false s
  addSleep (if c == .lpbo then bump 0x50 9 1 s1 else s1)

/-- Copies of unraised Severe and Grave messages placed at the head of a queue that a device reset has emptied (R358). -/
def requeueCopies (s : State) : State :=
  { s with fab := { s.fab with queue := s.ao.rillCopies.map (fun c => ({ msg := c.msg, stamp := c.stamp } : QEntry)) ++ s.fab.queue } }

/-- Every domain ON, and what each does there (R400, R444 U6 and U7): buses, the engine's start, monitors; the enclave is available from its own start. -/
def raiseDomains (s : State) : State :=
  let s1 := { s with pwr := { s.pwr with full := true, lowPower := false, dom := allDomains.map (fun d => if noRfd s d then .off else .on) } }
  armMonitors (busUp { s1 with mill := { s1.mill with startDue := true } })

/-- The atomic-page sector count of an extension image (R495 GEN byte 2, R493). -/
def extSectors (h : Header) : Nat := byte h.gen 2

/-- The extension data partition divided anew: its 13 sectors erased (R493, R516). -/
def divideExt (n : Nat) (s : State) : State :=
  let s1 := eraseSectors 113 13 (bump 0x51 4 13 s)
  { s1 with ext := { s1.ext with sectors := n },
            nvm := { s1.nvm with atomic := List.replicate 13 (List.replicate 8 {}), raw := s1.nvm.raw.map (fun a => { lines := [], erases := a.erases + 1 }) } }

/-- The extension after a start of SVC (R514, R516, R545, R548): none, refused, or stopped with its start due. -/
def prepareExt (s : State) : State :=
  match regionHeader 2 (activeBank s).ext with
  | none => { s with ext := { s.ext with st := if (activeBank s).ext.isSome then .refused else .none } }
  | some h =>
    let api := (((regionHeader 0 (activeBank s).smisa).getD {}).gen)
    if imageOk s false 2 (activeBank s).ext && decide (field h.gen 0 2 ≤ field api 4 2) then
      let s1 := if extSectors h == s.ext.sectors then s else divideExt (extSectors h) s
      { s1 with ext := { s1.ext with st := .stopped, startAt := some s1.now } }
    else { s with ext := { s.ext with st := .refused } }

/-- The payload of SYS.STARTED (R65, R98). -/
def startedBody (s : State) : Bytes := [b8 (causeCode s.boot.cause), b8 (modeCode s.mode.mode)] ++ be 4 s.ao.life

/-- First output control (R144, U9). -/
def takeControl (s : State) : State := applyDrives { s with outs := { s.outs with control := true } }

/-- The end of a start under Smisa (U8 to U11): debounce, first output control, transports with SYS.STARTED and ST_ABORTED, held messages, the extension, and mode policy with cause 3, or 2 after a supply shutdown, or TRANSPORT under its flag (R20, R23, R65, R358, R444). -/
def smisaServe (c : Cause) (s : State) : State :=
  let s1 := readParkSwitch (initialDebounce s)
  let s2 := takeControl (refreshLamps s1)
  let s3 := takeAll (serveAll (some (startedBody s2)) s2)
  let s4 := if c == .transportExit then notifyMode .transport .parked 0 s3 else s3
  if s4.mode.mode == .transport then takeTransport (aokReport s4)
  else
  let s5 := modeEval (if c == .shutdownSupply then 2 else 3) (tagEval (aokReport (prepareExt s4)))
  if s5.mode.mode == .parked then startAwake s5 else s5

/-- U7 under Smisa: Twill, the life region and the transport flag (R23, R443, R475). -/
def smisaStart (c : Cause) (whole : Bool) (s : State) : State :=
  let s1 := startLife c (applyTwill whole (selectTwill (copyOrder s) s))
  let s2 := if c == .transportExit && s1.boot.sel.transport then bootWrite (fun b => { b with transport := false }) s1 else s1
  let s3 := if s2.boot.sel.transport && c != .transportExit then { s2 with mode := { s2.mode with mode := .transport } } else s2
  smisaServe c (startPoisons (if whole then requeueCopies (raiseDomains s3) else s3))

/-- FLT.RILL with the Grave record on each served transport (R366), after which AO holds no copy of it (R358), in the sessions at or above its minimum privilege P1 (R98). -/
def graveRill (s : State) : State :=
  match s.ao.grave with
  | some g => emitEvent 0x40E0 1 (rillBytes g.msg ++ be 4 g.stamp)
      { s with ao := { s.ao with rillCopies := s.ao.rillCopies.filter (fun c => !(c.msg == g.msg && c.stamp == g.stamp)) } }
  | none => s

/-- A start under the Grave service (R366): Twill and the life region as at every start, hard safe values, session 0 only, no mode policy. -/
def graveStart (c : Cause) (whole : Bool) (s : State) : State :=
  let s1 := startLife c (applyTwill whole (selectTwill (copyOrder s) s))
  let s2 := startPoisons (if whole then requeueCopies (raiseDomains s1) else s1)
  let s3 := takeControl (if domSt s2 .scan == .off then s2 else initialDebounce s2)
  takeAll (graveRill (serveAll (some (startedBody s3)) s3))

/-- Rescue (R518): MBX-SPI and MBX-CAN in session 0 under the built-in transports, hard safe values, nothing else. -/
def rescueStart (s : State) : State :=
  let on := [Domain.svc, .mema, .memb, .nvm, .vbus, .outA, .outB]
  let s0 := allDomains.foldl (fun acc d => if on.contains d then acc else lowerDomain d .off acc) { s with nvm := { s.nvm with active := none, tw := {} } }
  let s1 := { s0 with pwr := { s0.pwr with full := true, lowPower := false, dom := allDomains.map (fun d => if on.contains d then .on else .off) } }
  let s2 := takeControl (busUp s1)
  let s3 := serveAll (some (startedBody s2)) s2
  { s3 with win := { s3.win with rescue := true } }

/-- The comparator test of U4 at every start of SVC (R387). -/
def comparatorTest (s : State) : State := if s.env.comparator then s else issueAt 0x02 0x03 0x03 0 s

/-- The start-up sequence from U4 (R444): the TEST strap, the comparator, ISMODE, what the boot ROM runs, and its start. -/
def bootFrom (c : Cause) (whole rescue : Bool) (s : State) : State :=
  if s.env.testPin then { s with pwr := { s.pwr with testHeld := true, full := true } }
  else
    let s1 := comparatorTest { s with pwr := { s.pwr with full := true, lowPower := false, testHeld := false }, outs := { s.outs with isMode := s.env.isModePin } }
    let s2 := bootSelect c rescue s1
    startPins (if s2.boot.runs == 1 then smisaStart c whole s2
      else if s2.boot.runs == 2 then graveStart c whole s2
      else rescueStart s2)

/-- The last-wake record at a start (R410). -/
def startWake (c : Cause) (s : State) : State := match c with
  | .por => recordWake 0x00 s
  | .shutdownSupply => recordWake 0x78 s
  | .transportExit => recordWake 0x01 s
  | _ => s

/-- The start after a device reset or from full stop (R445): not while RSTN is low, and once VBAT is at or above 6.0 V. -/
def startDevice (c : Cause) (rescue : Bool) (s : State) : State :=
  if s.pwr.inReset then s
  else if s.env.vbat < 6000 then { s with pwr := { s.pwr with waiting := some c } }
  else bootFrom c true rescue (startWake c { s with pwr := { s.pwr with waiting := none, wdtAt := s.now } })

/-- The sources of a domain's islands (R349, R594). -/
def domSource (d : Domain) (n : Nat) : Bool := match d with
  | .nvm => n == 0x05
  | .enc => n == 0x32 || n == 0x33
  | .net => n == 0x20
  | .vbus => n == 0x21
  | .scan => n == 0x18 || n == 0x19
  | .outA => n == 0x10 || n == 0x12
  | .outB => n == 0x11
  | .ana => n == 0x1A || n == 0x1B
  | _ => false

/-- A DOM reset of another domain (R438, R442): through OFF and back to its state before; a configuration staging is abandoned as on any reset (R95); an enclave in RET starts afresh at its next ON. -/
def domReset (d : Domain) (s : State) : State :=
  let was := domSt s d
  let s1 := raiseDomain d was (lowerDomain d .off { s with ao := addHistory (.dom d) s.ao, nvm := { s.nvm with staging := none } })
  let s2 := if d == .enc then clearWindows (if was == .off then encLost s1 else s1) else s1
  resetSeq (domSource d) (if d == .enc && was == .ret then { s2 with enc := { s2.enc with restartAt := some s2.now } } else s2)

/-- The domains whose DOM reset takes SVC with it (R438). -/
def svcGroup (d : Domain) : Bool := d == .svc || d == .mema || d == .memb || d == .nvm

/-- A reset or start called for is executed (R434, R438, R445). -/
def runReset (c : Cause) (s : State) : State :=
  match c with
  | .dom d =>
    if s.pwr.inReset || s.pwr.waiting.isSome || !powered s then s
    else if svcGroup d then bootFrom c false false (svcReset c (if d == .mema then flushLife false s else s))
    else domReset d s
  | c => startDevice c false (deviceReset c s)

/-- AO loss (R441): VBAT below 1.8 V for 1 ms. -/
def aoLoss (below18 : Nat) : Bool := decide (1000 ≤ below18)

/-- Power cycling, VBAT below 2.8 V for 10 ms (R9, R391), or AO loss: a POR follows at the rise of VBAT (R434, R441). -/
def powerCycled (below28 below18 : Nat) : Bool := decide (10000 ≤ below28) || aoLoss below18

/-- POR (R391, R434, R441, R445): VBAT was below 2.8 V and 1.8 V for these times in µs and has risen to 6.0 V; with AO loss every AO item is initial; the straps are as the world presents them. -/
def porStep (below28 below18 : Nat) (testPin isMode ok : Bool) (s : State) : State :=
  if powerCycled below28 below18 then
    let s1 := { s with env := { s.env with testPin := testPin, isModePin := isMode, comparator := ok, vbat := max 6000 s.env.vbat }, ao := if aoLoss below18 then lostAo s else s.ao }
    startDevice .por false (deviceReset .por s1)
  else s

/-- RSTN held low (R436): the device is in reset until its release. -/
def pinAssert (s : State) : State := deviceReset .pin { s with env := { s.env with rstn := false } }

/-- The Rescue request at the release of RSTN (R517): WAKE0 active and HSPI_CSN low, both for 100 ms after it. -/
def rescueRequest (csnLow : Bool) (heldMs : Nat) (s : State) : Bool := pinLevel s 0 && csnLow && decide (100 ≤ heldMs)

/-- PIN_RESET (R436, R517): RSTN low for 1 µs asserts it and below 100 ns is ignored; between the two it may or may not (R436 states neither: a free value, log 139). Its release starts the device. -/
def pinResetStep (release : Bool) (lowNs : Nat) (csnLow : Bool) (heldMs : Nat) (s : State) : State :=
  let rescue := rescueRequest csnLow heldMs s
  if release then
    (if s.pwr.inReset then startDevice s.boot.cause rescue { s with env := { s.env with rstn := true }, pwr := { s.pwr with inReset := false, wdtAt := s.now } } else s)
  else if s.pwr.inReset || decide (lowNs < 100) then s
  else if 1000 ≤ lowNs then pinAssert s
  else
    let d := draw s
    if d.1 % 2 == 1 then pinAssert d.2 else d.2

/-- VBAT has reached 6.0 V: a start that waited for it goes on (R445). -/
def startWaiting (s : State) : State := match s.pwr.waiting with
  | some c => if 6000 ≤ s.env.vbat then startDevice c false s else s
  | none => s

end Sys2Proof.Machine
end

