-- ==== Sys2Proof/Machine/ExtOps.lean ====
section
/-! DEFINITION. Extension code: its start, its threads, the EXT commands and every syscall (R542 to R554, 18_core.md; R97, 03_commands.md). -/

namespace Sys2Proof.Machine

/-- Code of the extension's state in EXT.INFO. -/
def extCode : ExtState → Nat
  | .none => 0 | .stopped => 1 | .running => 2 | .refused => 3

/-- The Smisa API level: the header of the running Smisa declares it (R495, R545; DEDUCED, log 31). -/
def apiLevel (s : State) : Nat := field ((regionHeader 0 (activeBank s).smisa).getD {}).gen 4 2

/-- A span that lies wholly in the extension data window (R543, R552). -/
def bufWrite (a n : Nat) : Bool := decide (0x40000000 ≤ a) && decide (a + n ≤ 0x40020000)

/-- A span that may be read: the data window or the extension region (R543, R552). -/
def bufRead (a n : Nat) : Bool := bufWrite a n || (decide (0x10380000 ≤ a) && decide (a + n ≤ 0x10480000))

/-- The base of a thread's fresh save area: in MEMA, where Smisa places it, apart from every other thread's (R545; free, log 7). -/
def saveBase (n : Nat) (s : State) : Nat × State := let d := draw s; (0x20000000 + 4096 * (32 * n + d.1 % 32), d.2)

/-- The registers of a thread at its start (R545): IE set, as preemption needs it (DEDUCED, log 32). -/
def freshRegs (pc k5 k7 : Word) (base : Nat) : Regs :=
  { k := #v[0, 0, 0, 0, 0, k5, 0, k7], lk := 0xFFFFFFF0, pc := pc, psr := { u := true, ie := true },
    wsp := base + 3328, wlimit := base, wtop := base + 3328 }

/-- The MPU as Smisa sets it for extension code: the extension region read and execute, the data window read and write (R536, R543; log 12). -/
def extMpu : List MpuRegion :=
  [{ base := 0x10380000, log2 := 19, user := 2, sup := 4 }, { base := 0x10400000, log2 := 19, user := 2, sup := 4 },
   { base := 0x40000000, log2 := 17, user := 3, sup := 4 }] ++ List.replicate 13 ({} : MpuRegion)

/-- The extension starts (R544, R545): the data window zeroed, no window left from before (log 144), and thread 0 ready at its entry; its priority is free (log 7). -/
def extStart (auto : Bool) (s : State) : State :=
  let h := (regionHeader 2 (activeBank s).ext).getD {}
  let b := saveBase 0 s
  let d := draw b.2
  let r := freshRegs (BitVec.ofNat 32 (0x10380200 + h.entry)) 0 0x40020000 b.1
  let ring := ((r.ring.setIfInBounds 0 (BitVec.ofNat 32 (apiLevel s))).setIfInBounds 1 (BitVec.ofNat 32 (causeCode s.boot.cause))).setIfInBounds 2 (BitVec.ofNat 32 (bit auto))
  let s1 := d.2
  { s1 with
    core := { s1.core with r := { r with ring := ring }, mpu := extMpu, wfi := false, tdx := { emptyTdx s1.core.tdx with replay := false, replayLen := 0 }, mem := memClear s1.core.mem 0x40000000 131072 },
    ext := { s1.ext with st := .running, threads := setAt 0 { live := true, prio := d.1 % 4 } (List.replicate 4 {}), cur := 0, startAt := none, restartAt := none } }

/-- The extension may start now (R545): under Smisa, out of TRANSPORT, and not while it runs already. -/
def extMayStart (s : State) : Bool := smisaRuns s && s.ext.st == .stopped && s.mode.mode != .transport

/-- EXTENSION_START (R545). -/
def extensionStartStep (s : State) : State := if extMayStart s && s.ext.startAt.isSome then extStart false s else s

/-- EXTENSION_RESTART (R549): 1 s after a fault, three times at most. -/
def extensionRestartStep (s : State) : State :=
  if extMayStart s && due s.ext.restartAt s then extStart true { s with ext := { s.ext with restarts := s.ext.restarts + 1 } } else s

/-- TIME_SLICE (R546): threads of equal priority take turns. -/
def timeSliceStep (s : State) : State :=
  if smisaRuns s && s.ext.st == .running && s.core.r.psr.u && !s.ext.frozen then
    match pickThread s s.ext.cur with
    | some n => if (getThread s n).prio == (getThread s s.ext.cur).prio || !runnable (getThread s s.ext.cur) then switchTo n s else s
    | none => s
  else s

/-- SHARE_PERIOD (R546): 25 % of the COREK cycles of 10 ms. -/
def sharePeriodStep (s : State) : State := { s with ext := { s.ext with share := 1000000 } }

/-- EXT.INFO: with no readable image the spec states no version (free, log 7). -/
def hExtInfo (_ : Req) (s : State) : Reply :=
  match regionHeader 2 (activeBank s).ext with
  | some h => okay (b8 (extCode s.ext.st) :: be 2 (apiLevel s) ++ be 4 h.imageVer) s
  | none => let d := drawBytes 4 s; okay (b8 (extCode s.ext.st) :: be 2 (apiLevel s) ++ d.1) d.2

/-- EXT.CTRL (R545, R548, R549): a start also resets the count of automatic restarts. -/
def hExtCtrl (r : Req) (s : State) : Reply :=
  let v := byte r.payload 0
  if 1 < v then deny stRange s
  else inMode 0x6102 r s (
    if v == 0 then
      let s1 := if s.ext.st == .running then stopExtension s else s
      let s2 := { s1 with ext := { s1.ext with startAt := none, restartAt := none } }
      okay [b8 (extCode s2.ext.st)] s2
    else match s.ext.st with
    | .running => okay [2] { s with ext := { s.ext with restarts := 0 } }
    | .stopped => okay [2] (extStart false { s with ext := { s.ext with restarts := 0 } })
    | _ => deny stState s)

/-- Messages not yet taken by extension code. -/
def untaken (s : State) : List ExtMsg := s.ext.msgs.filter (fun m => !m.taken)

/-- EXT.MSG (R97, R552): queued for extension code, four at most, and answered by it. -/
def hExtMsg (r : Req) (s : State) : Reply :=
  if s.ext.st != .running then deny stState s
  else if 4 ≤ (untaken s).length then deny stBusy s
  else
    let m : ExtMsg := { id := s.ext.nextMsg, t := r.transport, sess := r.session, seq := r.seq, data := r.payload, dueAt := s.now + sec 1 }
    .later (raiseExt 0 { s with ext := { s.ext with msgs := s.ext.msgs ++ [m], nextMsg := (s.ext.nextMsg + 1) % 4294967296 }, work := true })

/-- EXT_MSG_TIMEOUT (R97). -/
def extMsgTimeoutStep (id : Nat) (s : State) : State :=
  match s.ext.msgs.find? (fun m => m.id == id) with
  | some m => if m.dueAt ≤ s.now then complete m.t m.sess m.seq stTimeout [] { s with ext := { s.ext with msgs := s.ext.msgs.filter (fun x => x.id != id) } } else s
  | none => s

/-- What a syscall does: it returns a status with results, its thread waits, or it does not return. -/
inductive SysRes where
  | ret (status : Nat) (res : List Nat) (s : State)
  | block (w : Waiting) (dueAt : Option Nat) (s : State)
  | over (s : State)

/-- A syscall: its arguments w12 to w15. -/
abbrev Sys := Nat → Nat → Nat → Nat → State → SysRes

/-- A syscall's end for its thread (R551): results in w12 to w15, or the wait, and the scheduler. -/
def sysEnd : SysRes → State
  | .ret st res s => reschedule (modRegs (putResults st res) s)
  | .block w d s => reschedule (modThread s.ext.cur (fun t => { t with wait := some w, dueAt := d }) s)
  | .over s => s

/-- Argument `i` of a syscall: w12 + i of the calling window (R551). -/
def sysArg (s : State) (i : Nat) : Nat := (s.core.r.ring.getD (wIndex s.core.r.cwp (12 + i)) 0).toNat

/-- SYSC in user mode (R522, R532, R551): the window closes and its comparison comes first (R377); the trap entry slides the window and the return slides it back; what Smisa answers is the syscall's. In supervisor mode it is the trap with EPC at the next instruction. -/
def syscall (f : Sys) (s : State) : CoreRes :=
  let pc := s.core.r.pc
  serial (fun s1 => match slideIn pc s1 with
  | none => .error (0x09, 0)
  | some s2 =>
    if s1.core.r.psr.tw then .ok (doubleTrap s1, 0, 0)
    else if !s1.core.r.psr.u then .ok (enterTrap 0x08 (pc + 4) 0 s1, 0, 0)
    else
      let s3 := nextPc (modRegs (fun r => { r with cwp := (r.cwp + 7) % 8, res := r.res - 1 }) (saveTrap 0x08 (pc + 4) 0 s2))
      .ok (sysEnd (f (sysArg s3 0) (sysArg s3 1) (sysArg s3 2) (sysArg s3 3) s3), 0, 0)) s

/-- A status alone. -/
def sret (status : Nat) (s : State) : SysRes := .ret status [] s

/-- When a syscall's time-out in ms ends; 0xFFFFFFFF never (R552). -/
def sysDue (tmo : Nat) (s : State) : Option Nat := if tmo == 0xFFFFFFFF then none else some (s.now + ms tmo)

/-- A syscall that its command's mode refusals and the shutdown refuse (R552). -/
def sysMode (code : Nat) (s : State) (k : SysRes) : SysRes := if modeRefused code [] s then sret stState s else k

/-- Syscalls that write data NVM or raise a counter are refused from S1 until a shutdown ends or aborts (R552). -/
def sysStill (s : State) (k : SysRes) : SysRes := if s.pwr.shutdown.isSome then sret stState s else k

/-- Syscalls that use the enclave (R13, R552). -/
def sysEnc (s : State) (k : SysRes) : SysRes := if s.enc.segregated then sret stCompat s else if s.enc.avail then k else sret stState s

/-- 0x0001 EXIT. -/
def sysExit : Sys := fun _ _ _ _ s => .over (threadExit s)

/-- 0x0002 THREAD (R546, R552): a new thread at its entry with its own save area. -/
def sysThread : Sys := fun entry top prio k5 s =>
  if decide (3 < prio) || !bufWrite top 0 || top % 8 != 0 then sret stRange s
  else match [1, 2, 3].find? (fun n => !(getThread s n).live) with
  | none => sret stBusy s
  | some n =>
    let b := saveBase n s
    let r := freshRegs (BitVec.ofNat 32 entry) (BitVec.ofNat 32 k5) (BitVec.ofNat 32 top) b.1
    .ret stOk [n] (modThread n (fun _ => { live := true, prio := prio, regs := r }) b.2)

/-- 0x0003 YIELD: the next thread of the highest ready priority runs. -/
def sysYield : Sys := fun _ _ _ _ s =>
  let s1 := modRegs (putResults stOk []) s
  .over (match pickThread s1 s1.ext.cur with
    | some n => switchTo n s1
    | none => s1)

/-- 0x0004 SLEEP. -/
def sysSleep : Sys := fun us _ _ _ s => if us == 0 then sret stRange s else .block .sleep (some (s.now + us)) s

/-- The pending WAIT events of the calling thread under a mask. -/
def pendingEvents (s : State) (m : Nat) : Nat := ((getThread s s.ext.cur).events &&& m) % 128

/-- 0x0005 WAIT: returned events are cleared. -/
def sysWait : Sys := fun m tmo _ _ s =>
  let e := pendingEvents s m
  if e != 0 then .ret stOk [e] (modThread s.ext.cur (fun t => { t with events := t.events ^^^ (t.events &&& e) }) s)
  else if tmo == 0 then sret stTimeout s
  else .block (.events m) (sysDue tmo s) s

/-- 0x0006 TIME. -/
def sysTime : Sys := fun _ _ _ _ s => .ret stOk [s.ao.life, utcStamp s, bit s.ao.rtcSet] s

/-- 0x0007 LASTFAULT. -/
def sysLastfault : Sys := fun _ _ _ _ s => .ret stOk [s.ext.fault.1, s.ext.fault.2.1.toNat, s.ext.fault.2.2.toNat] s

/-- 0x0008 TDX (R372): from the instruction after the return. -/
def sysTdx : Sys := fun v _ _ _ s =>
  if 1 < v then sret stRange s else sret stOk (modRegs (fun r => { r with psr := { r.psr with tdx := v == 1 } }) s)

/-- A message handed to extension code. -/
def takeMsg (buf : Nat) (m : ExtMsg) (s : State) : State :=
  storeMem buf m.data { s with ext := { s.ext with msgs := s.ext.msgs.map (fun x => if x.id == m.id then { x with taken := true } else x) } }

/-- 0x0010 MSG_WAIT. -/
def sysMsgWait : Sys := fun buf n tmo _ s =>
  if !bufWrite buf n then sret stRange s
  else match (untaken s).head? with
  | some m => if n < m.data.length then sret stPayload s else .ret stOk [m.data.length, m.id] (takeMsg buf m s)
  | none => if tmo == 0 then sret stTimeout s else .block (.msg buf n) (sysDue tmo s) s

/-- 0x0011 MSG_REPLY. -/
def sysMsgReply : Sys := fun id buf n _ s =>
  if decide (992 < n) || !bufRead buf n then sret stRange s
  else match s.ext.msgs.find? (fun m => m.id == id) with
  | some m => sret stOk (complete m.t m.sess m.seq stOk (loadBytes s buf n) { s with ext := { s.ext with msgs := s.ext.msgs.filter (fun x => x.id != id) } })
  | none => sret stState s

/-- A body put into a buffer of a fixed size. -/
def sysBody (buf size : Nat) (body : Bytes) (s : State) : SysRes :=
  if bufWrite buf size then sret stOk (storeMem buf body s) else sret stRange s

/-- 0x0020 IN_GET. -/
def sysInGet : Sys := fun buf _ _ _ s => sysBody buf 20 (inGetBody s) s

/-- 0x0021 KEY_GET. -/
def sysKeyGet : Sys := fun buf _ _ _ s => sysBody buf 16 (keyGetBody s) s

/-- 0x0022 MODE_GET. -/
def sysModeGet : Sys := fun _ _ _ _ s => .ret stOk [modeCode s.mode.mode + 256 * bit s.mode.crank, ignCode s.mode.ign, lockCode s.mode.lock] s

/-- 0x0023 WATCH: switch mask bits as in IN.WATCH (R149). -/
def sysWatch : Sys := fun sw k0 k1 _ s =>
  if 2 ^ 28 ≤ sw then sret stRange s else sret stOk { s with ext := { s.ext with watchSw := sw, watchKeys := k0 + 4294967296 * k1 } }

/-- 0x0030 OUT_CLAIM (R74): it returns at the end of the arbitration step. -/
def sysOutClaim : Sys := fun o p _ _ s =>
  if !objectAssigned s o || p == 0 || decide (15 < p) then sret stRange s
  else sysMode 0x1003 s (
    .block (.claim o) none { s with outs := { s.outs with claims := s.outs.claims ++ [{ owner := .ext, object := o, prio := p, thread := s.ext.cur }] } })

/-- 0x0031 OUT_RELEASE. -/
def sysOutRelease : Sys := fun o _ _ _ s =>
  if o == 0xFFFF then .ret stOk [(heldBy s .ext).length] (releaseList (heldBy s .ext) s)
  else if !objectAssigned s o then sret stRange s
  else if owns s .ext o then .ret stOk [1] (releaseObject o s) else .ret stOk [0] s

/-- 0x0032 OUT_SET (R86). -/
def sysOutSet : Sys := fun o m d f s =>
  if !isChannel o || !modeAllowed o m || decide (10000 < d) || !freqOk f then sret stRange s
  else sysMode 0x1002 s (if owns s .ext o then sret stOk (outRequest o m d f s) else sret stNotOwner s)

/-- 0x0033 OUT_GET. -/
def sysOutGet : Sys := fun o buf _ _ s => if objectAssigned s o then sysBody buf 11 (outGetBody s o) s else sret stRange s

/-- 0x0034 HAP_PLAY (R193). -/
def sysHapPlay : Sys := fun n amp _ _ s =>
  if decide (63 < n) || amp == 0 || decide (100 < amp) then sret stRange s
  else sysMode 0x1B01 s (let x := hapPlay n amp s; sret x.1 x.2)

/-- 0x0040 STN_GET. -/
def sysStnGet : Sys := fun a buf _ _ s => match stationCfg s a with
  | some c => sysBody buf 74 (stnGetBody s c) s
  | none => sret stRange s

/-- 0x0041 STN_WRITE (R91, R218). -/
def sysStnWrite : Sys := fun a off buf n s => match stationCfg s a with
  | some c =>
    if decide (n < 1) || decide (64 < n) || !bufRead buf n || decide (c.olen < off + n) then sret stRange s
    else sysMode 0x2003 s (
      if !inSnapshot (getStn s c.addr) then sret stState s
      else if !owns s .ext (0x100 + c.addr) then sret stNotOwner s
      else .ret stOk [firstCycle s c.port] (imagePut c off (loadBytes s buf n) s))
  | none => sret stRange s

/-- 0x0048 CAN_FILTER: channel 0xFF removes the filter. -/
def sysCanFilter : Sys := fun i ch v m s =>
  if 7 < i then sret stRange s
  else if ch == 0xFF then sret stOk { s with ext := { s.ext with filters := setAt i none s.ext.filters } }
  else if decide (1 < ch) || !canIdOk v then sret stRange s
  else sret stOk { s with ext := { s.ext with filters := setAt i (some (ch, v % 536870912, v.testBit 31, m)) s.ext.filters } }

/-- The record of a received frame (R552), 72 bytes: flags as BUS.SEND has them; the data bytes beyond the length are free (log 7). -/
def canRecord (ch : Nat) (f : CanFrame) (s : State) : Bytes × State :=
  let d := drawBytes (64 - f.data.length) s
  ([b8 ch, b8 (bit f.fd + 2 * bit f.brs), b8 f.data.length, 0] ++ be 4 (f.id + 2147483648 * bit f.ext) ++ f.data ++ d.1, d.2)

/-- The oldest received frame handed to extension code. -/
def takeCan (buf : Nat) (s : State) : State := match s.ext.rx with
  | (ch, f) :: r => let x := canRecord ch f s; storeMem buf x.1 { x.2 with ext := { x.2.ext with rx := r } }
  | [] => s

/-- 0x0049 CAN_RECV. -/
def sysCanRecv : Sys := fun buf tmo _ _ s =>
  if !bufWrite buf 72 then sret stRange s
  else if !s.ext.rx.isEmpty then sret stOk (takeCan buf s)
  else if tmo == 0 then sret stTimeout s
  else .block (.canRecv buf) (sysDue tmo s) s

/-- 0x004A CAN_SEND (R92, R242). -/
def sysCanSend : Sys := fun ch v buf fl s =>
  if !bufRead buf (fl % 256) || !sendOk s ch v (fl / 256) (loadBytes s buf (fl % 256)) then sret stRange s
  else if !canActive s ch then sret stState s
  else
    let d := loadBytes s buf (fl % 256)
    .block .canSend none (canQueue ch { frame := sendFrameOf v (fl / 256) d, origin := .ext s.ext.cur, dueAt := s.now + ms 20 } s)

/-- An atomic-page area (R553). -/
def areaAtomic (s : State) (a : Nat) : Bool := decide (a < s.ext.sectors)

/-- A raw area's state. -/
def getRaw (s : State) (a : Nat) : RawArea := s.nvm.raw.getD a {}

/-- An atomic page's state. -/
def getPage (s : State) (a p : Nat) : APage := (s.nvm.atomic.getD a []).getD p {}

/-- The bytes of an area as ND_READ addresses them (R448, R451, R453, R553). -/
def areaBytes (s : State) (a : Nat) : Bytes :=
  if areaAtomic s a then (s.nvm.atomic.getD a []).flatMap (fun p => p.data.getD (List.replicate 240 0xFF))
  else padTo 4096 0xFF ((getRaw s a).lines.flatMap (fun l => l.getD (List.replicate 16 0)))

/-- Every poisoned line of a span of a raw area read. -/
def readPoisons (a off n : Nat) (s : State) : State :=
  if areaAtomic s a then s
  else ((getRaw s a).lines.zipIdx).foldl (fun acc e =>
    if e.1.isNone && decide (off < 16 * e.2 + 16) && decide (16 * e.2 < off + n) then readPoison ((113 + a) * 4096 + 16 * e.2) acc else acc) s

/-- 0x0050 ND_READ (R553). -/
def sysNdRead : Sys := fun a off buf n s =>
  if decide (12 < a) || !bufWrite buf n || decide ((if areaAtomic s a then 1920 else 4096) < off + n) then sret stRange s
  else sret stOk (storeMem buf (slice (areaBytes s a) off n) (readPoisons a off n s))

/-- Every line of 16 bytes (R453). -/
def linesOf (b : Bytes) : List Bytes := (List.range (b.length / 16)).map (fun i => slice b (16 * i) 16)

/-- A line of 16 bytes of 0xFF is refused (R493, R553). -/
def hasBlankLine (b : Bytes) : Bool := (linesOf b).any allOnes

/-- 0x0051 ND_WRITE (R451, R452, R455, R553). -/
def sysNdWrite : Sys := fun a p buf _ s =>
  let d := loadBytes s buf 240
  if decide (12 < a) || !areaAtomic s a || decide (7 < p) || !bufRead buf 240 || hasBlankLine d then sret stRange s
  else sysStill s (
    if s.ao.life / 3600 + 64 ≤ (getPage s a p).writes then sret stEndurance s
    else
      let s1 := bump 0x51 5 1 s
      sret stOk (nvmOp (16 * lineUs) (.page a p (getPage s a p)) { s1 with nvm := { s1.nvm with atomic := modAt (modAt (fun x => { data := some d, stamp := x.stamp + 1, writes := x.writes + 1, eraseAt := some (s1.now + sec 1) }) p) a s1.nvm.atomic } }))

/-- An area whose erase was interrupted is erased again before it is written (R450). -/
def eraseCut (a : Nat) (s : State) : State :=
  if (getRaw s a).eraseAgain then
    eraseSector (113 + a) { s with nvm := { s.nvm with raw := modAt (fun x => { lines := [], erases := x.erases + 1 }) a s.nvm.raw } }
  else s

/-- 0x0052 ND_APPEND (R450, R453, R553). -/
def sysNdAppend : Sys := fun a buf n _ s0 =>
  let s := eraseCut a s0
  let d := loadBytes s0 buf n
  if decide (12 < a) || areaAtomic s0 a || decide (n < 16) || decide (256 < n) || n % 16 != 0 || !bufRead buf n || hasBlankLine d then sret stRange s0
  else sysStill s0 (
    let k := (getRaw s a).lines.length
    if 256 < k + n / 16 then sret stState s
    else .ret stOk [16 * k] (nvmOp (n / 16 * lineUs) (.append a k) { s with nvm := { s.nvm with raw := modAt (fun x => { x with lines := x.lines ++ (linesOf d).map some }) a s.nvm.raw } }))

/-- 0x0053 ND_ERASE (R455, R553). -/
def sysNdErase : Sys := fun a _ _ _ s =>
  if decide (12 < a) || areaAtomic s a then sret stRange s
  else sysStill s (
    if s.ao.life / 7200 + 64 ≤ (getRaw s a).erases then sret stEndurance s
    else
      let s1 := eraseSector (113 + a) (bump 0x51 4 1 s)
      sret stOk (nvmOp (ms 40) (.erase a (getRaw s a).lines) { s1 with nvm := { s1.nvm with raw := modAt (fun x => { lines := [], erases := x.erases + 1 }) a s1.nvm.raw } }))

/-- 0x0060 SHA256 (R303). -/
def sysSha256 : Sys := fun buf n out _ s =>
  if decide (4096 < n) || !bufRead buf n || !bufWrite out 32 then sret stRange s
  else sysEnc s (sret stOk (storeMem out (padTo 32 0 (sha256 (loadBytes s buf n))) s))

/-- 0x0061 RANDOM (R303): DRBG output (free, log 7). -/
def sysRandom : Sys := fun buf n _ _ s =>
  if decide (n < 1) || decide (256 < n) || !bufWrite buf n then sret stRange s
  else sysEnc s (let d := randomBytes n s; sret stOk (storeMem buf d.1 d.2))

/-- The key of a slot that extension code may use (R305, R554). -/
def extKey (s : State) (slot : Nat) : Option Bytes :=
  if decide (8 ≤ slot) && decide (slot ≤ 23) then (activeCell (getSlot s slot)).bind (fun c => if tbit c.usage 4 then some c.key else none) else none

/-- 0x0062 CMAC (R554). -/
def sysCmac : Sys := fun slot buf n out s =>
  if decide (4096 < n) || !bufRead buf n || !bufWrite out 16 then sret stRange s
  else sysEnc s (match extKey s slot with
    | some k => sret stOk (storeMem out (padTo 16 0 (cmac k (loadBytes s buf n))) s)
    | none => sret stDenied s)

/-- The GCM descriptor (R554): IV, and the pointers and lengths of additional data, input, output and tag. -/
structure GcmDesc where
  iv : Bytes := []
  aad : Nat := 0
  aadLen : Nat := 0
  inp : Nat := 0
  inpLen : Nat := 0
  out : Nat := 0
  tag : Nat := 0

/-- A descriptor read, little-endian. -/
def gcmDesc (s : State) (a : Nat) : GcmDesc :=
  let w := fun o => leNat (loadBytes s (a + o) 4)
  { iv := loadBytes s a 12, aad := w 12, aadLen := w 16, inp := w 20, inpLen := w 24, out := w 28, tag := w 32 }

/-- The descriptor and its spans are in range (R552, R554); the tag is written on seal and read on open. -/
def gcmOk (s : State) (a : Nat) (opening : Bool) : Bool :=
  let d := gcmDesc s a
  bufRead a 36 && decide (d.aadLen + d.inpLen ≤ 4096) && bufRead d.aad d.aadLen && bufRead d.inp d.inpLen && bufWrite d.out d.inpLen &&
    (if opening then bufRead d.tag 16 else bufWrite d.tag 16)

/-- 0x0063 GCM_SEAL (R554). -/
def sysGcmSeal : Sys := fun slot a _ _ s =>
  if !gcmOk s a false then sret stRange s
  else sysEnc s (match extKey s slot with
    | some k =>
      let d := gcmDesc s a
      let x := Config.gcmSeal k d.iv (loadBytes s d.aad d.aadLen) (loadBytes s d.inp d.inpLen)
      sret stOk (storeMem d.tag (padTo 16 0 x.2) (storeMem d.out (padTo d.inpLen 0 x.1) s))
    | none => sret stDenied s)

/-- 0x0064 GCM_OPEN (R554): a wrong tag gives ST_VERIFY and writes no output. -/
def sysGcmOpen : Sys := fun slot a _ _ s =>
  if !gcmOk s a true then sret stRange s
  else sysEnc s (match extKey s slot with
    | some k =>
      let d := gcmDesc s a
      match Config.gcmOpen k d.iv (loadBytes s d.aad d.aadLen) (loadBytes s d.inp d.inpLen) (loadBytes s d.tag 16) with
      | some x => sret stOk (storeMem d.out (padTo d.inpLen 0 x) s)
      | none => sret stVerify s
    | none => sret stDenied s)

/-- 0x0068 CTR_GET. -/
def sysCtrGet : Sys := fun n _ _ _ s =>
  if decide (n < 4) || decide (7 < n) then sret stRange s else sysEnc s (.ret stOk [s.enc.counters.getD n 0] s)

/-- 0x0069 CTR_RAISE (R312): a counter at 0xFFFFFFFF stays there, and a raise to it is out of range. -/
def sysCtrRaise : Sys := fun n v _ _ s =>
  if decide (n < 4) || decide (7 < n) || (v == 0xFFFFFFFF && s.enc.counters.getD n 0 == 0xFFFFFFFF) then sret stRange s
  else sysStill s (sysEnc s (
    .ret stOk [max v (s.enc.counters.getD n 0)] { s with enc := { s.enc with counters := modAt (fun x => max v x) n s.enc.counters } }))

/-- The syscall of a number (R552); an unknown one returns ST_UNSUPPORTED (R551). -/
def sysTable (n : Nat) : Sys := match n with
  | 0x0001 => sysExit | 0x0002 => sysThread | 0x0003 => sysYield | 0x0004 => sysSleep | 0x0005 => sysWait | 0x0006 => sysTime
  | 0x0007 => sysLastfault | 0x0008 => sysTdx | 0x0010 => sysMsgWait | 0x0011 => sysMsgReply | 0x0020 => sysInGet | 0x0021 => sysKeyGet
  | 0x0022 => sysModeGet | 0x0023 => sysWatch | 0x0030 => sysOutClaim | 0x0031 => sysOutRelease | 0x0032 => sysOutSet | 0x0033 => sysOutGet
  | 0x0034 => sysHapPlay | 0x0040 => sysStnGet | 0x0041 => sysStnWrite | 0x0048 => sysCanFilter | 0x0049 => sysCanRecv | 0x004A => sysCanSend
  | 0x0050 => sysNdRead | 0x0051 => sysNdWrite | 0x0052 => sysNdAppend | 0x0053 => sysNdErase | 0x0060 => sysSha256 | 0x0061 => sysRandom
  | 0x0062 => sysCmac | 0x0063 => sysGcmSeal | 0x0064 => sysGcmOpen | 0x0068 => sysCtrGet | 0x0069 => sysCtrRaise
  | _ => fun _ _ _ _ s => sret stUnsupported s

/-- A thread whose wait has ended returns (R552): an event, a message or a CAN frame is there. -/
def wakeThread (s : State) (n : Nat) : State :=
  let t := getThread s n
  match t.wait with
  | some (.events m) =>
    let e := (t.events &&& m) % 128
    if e == 0 then s else threadReturn n stOk [e] (modThread n (fun t => { t with events := t.events ^^^ (t.events &&& e) }) s)
  | some (.msg buf len) => (match (untaken s).head? with
    | some m => if len < m.data.length then threadReturn n stPayload [] s else threadReturn n stOk [m.data.length, m.id] (takeMsg buf m s)
    | none => s)
  | some (.canRecv buf) => if s.ext.rx.isEmpty then s else threadReturn n stOk [] (takeCan buf s)
  | _ => s

/-- Every thread whose wait has ended returns, while none is frozen (R547, R552). -/
def wakeThreads (s : State) : State :=
  if s.ext.st == .running && !s.ext.frozen then [0, 1, 2, 3].foldl wakeThread s else s

/-- SYSCALL_TIMEOUT (R552): SLEEP returns with ST_OK, any other wait with ST_TIMEOUT. -/
def syscallTimeoutStep (n : Nat) (s : State) : State :=
  let t := getThread s n
  if s.ext.st == .running && !s.ext.frozen && t.live && due t.dueAt s then
    match t.wait with
    | some .sleep => threadReturn n stOk [] s
    | some _ => threadReturn n stTimeout [] s
    | none => s
  else s

end Sys2Proof.Machine
end

