-- ==== Sys2Proof/Machine/HandFlt.lean ====
section
/-! DEFINITION. Handlers of the FLT and TDX groups (03_commands.md; R358, R362, R364, 12_confluence.md; R388, 13_tdx.md). -/

namespace Sys2Proof.Machine

/-- FLT.READ (R358): the newest entries, newest first, and the dropped-Notice count. -/
def hFltRead (r : Req) (s : State) : Reply :=
  let n := byte r.payload 0
  if n == 0 || decide (80 < n) then deny stRange s
  else okay ((s.fab.history.take n).flatMap (fun e => rillBytes e.msg ++ be 4 e.stamp) ++ be 2 s.fab.dropped) s

/-- FLT.COUNTERS (R362). -/
def hFltCounters (r : Req) (s : State) : Reply :=
  let f := byte r.payload 0
  let n := byte r.payload 1
  if n == 0 || decide (200 < n) || decide (256 < f + n) then deny stRange s
  else okay ((List.range' f n).map (fun i => b8 (lookupN i s.ao.recovery))) s

/-- FLT.CLEAR (R364). -/
def hFltClear (r : Req) (s : State) : Reply :=
  let n := byte r.payload 0
  inMode 0x4003 r s (okay [] (
    if n == 0xFF then { s with ao := { s.ao with recovery := [], severeStarts := [] }, fab := { s.fab with dropped := 0 } }
    else { s with ao := { s.ao with recovery := s.ao.recovery.filter (fun e => e.1 != n) } }))

/-- TDX.STATUS (R388, R472). -/
def hTdxStatus (_ : Req) (s : State) : Reply := okay (be 2 s.ao.tdxReplays ++ be 2 s.ao.tdxSecond ++ [b8 (tdxLen s)]) s

end Sys2Proof.Machine
end

