-- ==== Sys2Proof/Machine/Serve.lean ====
section
/-! DEFINITION. The mailbox service: the frame checks of R51, sequence numbers, slots and lanes, and the table of commands (R47 to R62, 02_mailboxes.md; R68 to R71, 03_commands.md). -/

namespace Sys2Proof.Machine

/-- A command's minimum privilege, whether ASYNC is allowed, and the least and greatest payload length (R68 to R71; tables of 03_commands.md). -/
structure CmdRow where
  priv : Nat := 0
  async : Bool := true
  lo : Nat := 0
  hi : Nat := 0
  deriving DecidableEq, Repr

/-- The table of commands; none for a code that is not listed (R70). ENC.KEYUPD's length is a range check of its own (R306). -/
def cmdRow : Nat → Option CmdRow
  | 0x0101 => some { priv := 0, async := true, lo := 0, hi := 0 }
  | 0x0102 => some { priv := 0, async := true, lo := 0, hi := 0 }
  | 0x0103 => some { priv := 2, async := false, lo := 2, hi := 2 }
  | 0x0104 => some { priv := 0, async := true, lo := 0, hi := 0 }
  | 0x0105 => some { priv := 2, async := false, lo := 6, hi := 6 }
  | 0x0106 => some { priv := 0, async := true, lo := 0, hi := 0 }
  | 0x0107 => some { priv := 0, async := true, lo := 0, hi := 0 }
  | 0x0201 => some { priv := 0, async := true, lo := 0, hi := 0 }
  | 0x0202 => some { priv := 1, async := false, lo := 1, hi := 1 }
  | 0x0203 => some { priv := 2, async := false, lo := 2, hi := 2 }
  | 0x0301 => some { priv := 0, async := true, lo := 0, hi := 0 }
  | 0x0302 => some { priv := 2, async := false, lo := 2, hi := 2 }
  | 0x0303 => some { priv := 0, async := true, lo := 0, hi := 0 }
  | 0x1001 => some { priv := 0, async := true, lo := 2, hi := 2 }
  | 0x1002 => some { priv := 1, async := true, lo := 7, hi := 7 }
  | 0x1003 => some { priv := 1, async := false, lo := 3, hi := 3 }
  | 0x1004 => some { priv := 1, async := false, lo := 2, hi := 2 }
  | 0x1005 => some { priv := 1, async := true, lo := 0, hi := 0 }
  | 0x1006 => some { priv := 1, async := false, lo := 2, hi := 2 }
  | 0x1007 => some { priv := 0, async := true, lo := 0, hi := 0 }
  | 0x1008 => some { priv := 0, async := true, lo := 0, hi := 0 }
  | 0x1101 => some { priv := 0, async := true, lo := 1, hi := 1 }
  | 0x1102 => some { priv := 1, async := true, lo := 5, hi := 5 }
  | 0x1103 => some { priv := 1, async := false, lo := 1, hi := 1 }
  | 0x1201 => some { priv := 0, async := true, lo := 0, hi := 0 }
  | 0x1202 => some { priv := 1, async := false, lo := 3, hi := 3 }
  | 0x1203 => some { priv := 1, async := true, lo := 2, hi := 2 }
  | 0x1301 => some { priv := 0, async := true, lo := 1, hi := 1 }
  | 0x1302 => some { priv := 1, async := false, lo := 4, hi := 4 }
  | 0x1303 => some { priv := 1, async := true, lo := 1, hi := 1 }
  | 0x1304 => some { priv := 3, async := false, lo := 1, hi := 1 }
  | 0x1B01 => some { priv := 1, async := true, lo := 2, hi := 2 }
  | 0x1B02 => some { priv := 1, async := false, lo := 1, hi := 1 }
  | 0x1B03 => some { priv := 0, async := true, lo := 0, hi := 0 }
  | 0x1801 => some { priv := 0, async := true, lo := 0, hi := 0 }
  | 0x1802 => some { priv := 1, async := false, lo := 4, hi := 4 }
  | 0x1901 => some { priv := 0, async := true, lo := 0, hi := 0 }
  | 0x1A01 => some { priv := 0, async := true, lo := 0, hi := 0 }
  | 0x1A02 => some { priv := 3, async := false, lo := 1, hi := 1 }
  | 0x2001 => some { priv := 0, async := true, lo := 0, hi := 0 }
  | 0x2002 => some { priv := 0, async := true, lo := 1, hi := 1 }
  | 0x2003 => some { priv := 1, async := true, lo := 3, hi := 66 }
  | 0x2004 => some { priv := 2, async := false, lo := 2, hi := 2 }
  | 0x2101 => some { priv := 0, async := true, lo := 1, hi := 1 }
  | 0x2102 => some { priv := 2, async := false, lo := 13, hi := 13 }
  | 0x2103 => some { priv := 2, async := true, lo := 6, hi := 70 }
  | 0x2104 => some { priv := 2, async := false, lo := 2, hi := 2 }
  | 0x3001 => some { priv := 0, async := true, lo := 0, hi := 0 }
  | 0x3002 => some { priv := 2, async := false, lo := 1, hi := 1 }
  | 0x3003 => some { priv := 1, async := true, lo := 5, hi := 5 }
  | 0x3101 => some { priv := 0, async := true, lo := 0, hi := 0 }
  | 0x3102 => some { priv := 4, async := false, lo := 5, hi := 261 }
  | 0x3201 => some { priv := 0, async := true, lo := 2, hi := 2 }
  | 0x3202 => some { priv := 0, async := false, lo := 82, hi := 82 }
  | 0x3203 => some { priv := 0, async := false, lo := 70, hi := 970 }
  | 0x3204 => some { priv := 0, async := false, lo := 0, hi := 0 }
  | 0x3205 => some { priv := 0, async := true, lo := 16, hi := 16 }
  | 0x3206 => some { priv := 4, async := false, lo := 1, hi := 1000 }
  | 0x3207 => some { priv := 0, async := true, lo := 1, hi := 1 }
  | 0x3208 => some { priv := 0, async := true, lo := 1, hi := 1 }
  | 0x3301 => some { priv := 0, async := true, lo := 0, hi := 0 }
  | 0x3302 => some { priv := 3, async := true, lo := 3, hi := 3 }
  | 0x3303 => some { priv := 3, async := false, lo := 4, hi := 4 }
  | 0x3304 => some { priv := 3, async := false, lo := 2, hi := 2 }
  | 0x4001 => some { priv := 1, async := false, lo := 1, hi := 1 }
  | 0x4002 => some { priv := 0, async := true, lo := 2, hi := 2 }
  | 0x4003 => some { priv := 3, async := false, lo := 1, hi := 1 }
  | 0x4101 => some { priv := 0, async := true, lo := 0, hi := 0 }
  | 0x5001 => some { priv := 0, async := true, lo := 0, hi := 0 }
  | 0x5002 => some { priv := 2, async := false, lo := 4, hi := 4 }
  | 0x5003 => some { priv := 2, async := false, lo := 5, hi := 996 }
  | 0x5004 => some { priv := 2, async := false, lo := 4, hi := 4 }
  | 0x5005 => some { priv := 2, async := true, lo := 6, hi := 6 }
  | 0x5006 => some { priv := 2, async := false, lo := 0, hi := 0 }
  | 0x5101 => some { priv := 0, async := true, lo := 0, hi := 0 }
  | 0x5102 => some { priv := 0, async := true, lo := 4, hi := 4 }
  | 0x5103 => some { priv := 0, async := true, lo := 0, hi := 0 }
  | 0x5104 => some { priv := 3, async := false, lo := 4, hi := 4 }
  | 0x6001 => some { priv := 0, async := true, lo := 0, hi := 0 }
  | 0x6002 => some { priv := 3, async := false, lo := 5, hi := 996 }
  | 0x6003 => some { priv := 3, async := false, lo := 9, hi := 9 }
  | 0x6004 => some { priv := 3, async := false, lo := 0, hi := 0 }
  | 0x6005 => some { priv := 3, async := false, lo := 1, hi := 1 }
  | 0x6101 => some { priv := 0, async := true, lo := 0, hi := 0 }
  | 0x6102 => some { priv := 3, async := false, lo := 1, hi := 1 }
  | 0x6103 => some { priv := 1, async := true, lo := 0, hi := 992 }
  | 0x7001 => some { priv := 1, async := false, lo := 1, hi := 999 }
  | _ => none

/-- The handler of a command. -/
def handle (code : Nat) (r : Req) (s : State) : Reply := match code with
  | 0x0101 => hSysInfo r s
  | 0x0102 => hSysStatus r s
  | 0x0103 => hSysReset r s
  | 0x0104 => hSysGettime r s
  | 0x0105 => hSysSettime r s
  | 0x0106 => hSysResetlog r s
  | 0x0107 => hSysWake r s
  | 0x0201 => hModeGet r s
  | 0x0202 => hModeSet r s
  | 0x0203 => hModeHold r s
  | 0x0301 => hPwrGet r s
  | 0x0302 => hPwrSet r s
  | 0x0303 => hPwrRefusals r s
  | 0x1001 => hOutGet r s
  | 0x1002 => hOutSet r s
  | 0x1003 => hOutClaim r s
  | 0x1004 => hOutRelease r s
  | 0x1005 => hOutKeep r s
  | 0x1006 => hOutClear r s
  | 0x1007 => hOutOwners r s
  | 0x1008 => hOutStnowners r s
  | 0x1101 => hLampGet r s
  | 0x1102 => hLampSet r s
  | 0x1103 => hLampScene r s
  | 0x1201 => hWipeGet r s
  | 0x1202 => hWipeSet r s
  | 0x1203 => hWipeWash r s
  | 0x1301 => hMotnGet r s
  | 0x1302 => hMotnMove r s
  | 0x1303 => hMotnStop r s
  | 0x1304 => hMotnLearn r s
  | 0x1B01 => hHapPlay r s
  | 0x1B02 => hHapArm r s
  | 0x1B03 => hHapGet r s
  | 0x1801 => hInGet r s
  | 0x1802 => hInWatch r s
  | 0x1901 => hKeyGet r s
  | 0x1A01 => hRlsGet r s
  | 0x1A02 => hRlsCal r s
  | 0x2001 => hStnList r s
  | 0x2002 => hStnGet r s
  | 0x2003 => hStnWrite r s
  | 0x2004 => hStnCycle r s
  | 0x2101 => hBusGet r s
  | 0x2102 => hBusRoute r s
  | 0x2103 => hBusSend r s
  | 0x2104 => hBusLinsched r s
  | 0x3001 => hTagGet r s
  | 0x3002 => hTagEnable r s
  | 0x3003 => hTagTxnlog r s
  | 0x3101 => hInsGet r s
  | 0x3102 => hInsApdu r s
  | 0x3201 => hEncCert r s
  | 0x3202 => hEncOpen r s
  | 0x3203 => hEncProve r s
  | 0x3204 => hEncClose r s
  | 0x3205 => hEncAttest r s
  | 0x3206 => hEncKeyupd r s
  | 0x3207 => hEncKeyinfo r s
  | 0x3208 => hEncCounter r s
  | 0x3301 => hTmpFlags r s
  | 0x3302 => hTmpLog r s
  | 0x3303 => hTmpExport r s
  | 0x3304 => hTmpTest r s
  | 0x4001 => hFltRead r s
  | 0x4002 => hFltCounters r s
  | 0x4003 => hFltClear r s
  | 0x4101 => hTdxStatus r s
  | 0x5001 => hCfgInfo r s
  | 0x5002 => hCfgBegin r s
  | 0x5003 => hCfgData r s
  | 0x5004 => hCfgCommit r s
  | 0x5005 => hCfgRead r s
  | 0x5006 => hCfgAbort r s
  | 0x5101 => hLifeClock r s
  | 0x5102 => hLifeCounter r s
  | 0x5103 => hLifeNotices r s
  | 0x5104 => hLifeAck r s
  | 0x6001 => hUpdInfo r s
  | 0x6002 => hUpdWrite r s
  | 0x6003 => hUpdStage r s
  | 0x6004 => hUpdActivate r s
  | 0x6005 => hUpdConfirm r s
  | 0x6101 => hExtInfo r s
  | 0x6102 => hExtCtrl r s
  | 0x6103 => hExtMsg r s
  | 0x7001 => hDiagReq r s
  | _ => deny stUnsupported s

/-- Commands that the Grave service serves (R366). -/
def graveServes (code : Nat) : Bool := [0x0101, 0x0102, 0x0106, 0x0107, 0x0201, 0x1001, 0x4001, 0x4002, 0x4101, 0x5101, 0x3201, 0x3205].contains code

/-- Commands that Rescue serves (R518). -/
def rescueServes (code : Nat) : Bool := [0x0101, 0x6001, 0x6002, 0x6003, 0x6004].contains code

/-- Step 14 (R51): under the Grave service and in Rescue a command they do not serve is answered ST_STATE; then the payload length (R69), then the command. -/
def serveCode (code : Nat) (r : Req) (s : State) : Reply :=
  if (s.boot.runs == 2 && !graveServes code) || (s.boot.runs == 3 && !rescueServes code) then deny stState s
  else match cmdRow code with
  | none => deny stUnsupported s
  | some c => if decide (r.payload.length < c.lo) || decide (c.hi < r.payload.length) then deny stPayload s else handle code r s

/-- A function that the part does not have (R1): the TAG and INS groups on BZ-7464. -/
def partLacks (s : State) (code : Nat) : Bool := s.otp.part == .bz7464 && decide (0x3000 ≤ code) && decide (code < 0x3200)

/-- Step 11 of R51: PRIV at most the session's privilege, and the command's least privilege at most PRIV; in an operator session every command but INS.APDU runs at P0 (R315). -/
def privOk (code least : Nat) (r : Req) (s : State) : Bool := match findSession s r.transport r.session with
  | some x => decide (r.priv ≤ sessPriv x) && decide (least ≤ (if isOperator x && code != 0x3102 then 0 else r.priv))
  | none => false

/-- Steps 11 to 13 of R51: privilege, code, lane; the status of the first that fails. In Rescue the minimum privilege does not count (R518). -/
def laneCheck (code : Nat) (r : Req) (s : State) : Option Nat :=
  let row := cmdRow code
  let least := if s.boot.runs == 3 && rescueServes code then 0 else (row.getD {}).priv
  if !privOk code least r s then some stPriv
  else match row with
  | none => some stUnsupported
  | some c => if partLacks s code then some stUnsupported else if r.async && !c.async then some stLane else none

/-- The leases that a request renews once it has passed step 13: of the object its payload names, where it names one (R76). -/
def renewLeases (code : Nat) (r : Req) (s : State) : State :=
  let me := requester s r
  match code with
  | 0x1002 => if 2 ≤ r.payload.length then renewLease me (field r.payload 0 2) s else s
  | 0x1003 => if 2 ≤ r.payload.length then renewLease me (field r.payload 0 2) s else s
  | 0x2003 => if 1 ≤ r.payload.length then renewLease me (0x100 + byte r.payload 0) s else s
  | 0x1005 => (heldBy s me).foldl (fun acc o => renewLease me o acc) s
  | _ => s

/-- A request's handler runs; the events it causes follow its response (R62). -/
def runRequest (code : Nat) (r : Req) (s : State) : State :=
  match serveCode code r { s with mbx := { s.mbx with hold := some [] } } with
  | .done st b s1 => releaseEvents (finish code st b r s1)
  | .later s1 => releaseEvents s1
  | .thenDo st b s1 k => k (releaseEvents (finish code st b r s1))

/-- A request in its turn: the refusal of steps 11 to 13, or its handler. -/
def startSlot (x : Slot) (s : State) : State :=
  match x.refuse with
  | some st => finish x.code st [] x.req s
  | none => runRequest x.code x.req s

/-- A slot marked as started. -/
def markStarted (t : Transport) (sess seq : Nat) (s : State) : State :=
  modPort t (fun p => { p with slots := p.slots.map (fun x => if x.req.session == sess && x.req.seq == seq then { x with started := true } else x) }) s

/-- The ordered lane goes on: its first request starts when none runs (R54, R67). -/
def pumpOne (t : Transport) (s : State) : State :=
  match (getPort s t).slots.find? (fun x => !x.req.async && x.done.isNone) with
  | some x => if x.started then s else startSlot x (markStarted t x.req.session x.req.seq s)
  | none => s

/-- Up to `n` ordered requests of a transport run in turn. -/
def pumpLane (t : Transport) : Nat → State → State
  | 0, s => s
  | n + 1, s => pumpLane t n (pumpOne t s)

/-- Every lane goes on. -/
def pump (s : State) : State := pumpLane .eth 8 (pumpLane .can 8 (pumpLane .spi 8 s))

/-- The header bytes of a request (R47). -/
def reqHeader (code : Nat) (r : Req) : Bytes :=
  let h := [0x03, b8 (bit r.async + 2 * bit r.auth)] ++ be 2 code ++ be 2 r.seq ++ be 2 r.payload.length ++ be 4 r.session ++ [b8 r.priv, 0]
  h ++ be 2 (crc16 h)

/-- How a sequence number stands in its session (R55). -/
inductive SeqClass where
  | fresh | known (e : CacheEntry) | gap | stale
  deriving DecidableEq, Repr

/-- The class of a sequence number (R55): the first request in a session is new. -/
def seqClass (x : Session) (seq : Nat) : SeqClass :=
  match x.h with
  | none => .fresh
  | some h =>
    let d := (seq + 65536 - h) % 65536
    let b := (h + 65536 - seq) % 65536
    if 1 ≤ d ∧ d ≤ 32767 then .fresh
    else if b ≤ 63 then (match x.cache.find? (fun e => e.seq == seq) with
      | some e => .known e
      | none => .gap)
    else .stale

/-- The session counter after a request is accepted (R56): one more on a new, numerically lower SEQ. -/
def ctrAfter (x : Session) (seq : Nat) : Nat := match x.h with
  | some h => if seqClass x seq == .fresh && decide (seq < h) then x.ctr + 1 else x.ctr
  | none => x.ctr

/-- The session counter a request's MAC is computed with (R49, R56; DEDUCED, log 34): the one the request is accepted under, or one less for an in-window request with a numerically higher SEQ. -/
def macCounter (x : Session) (seq : Nat) : Nat := match x.h with
  | some h => (match seqClass x seq with
    | .fresh => ctrAfter x seq
    | .stale => x.ctr
    | _ => if h < seq then (x.ctr + 0xFFFFFFFF) % 4294967296 else x.ctr)
  | none => x.ctr

/-- The MAC of a request is correct (R49, R51 step 9). -/
def macOk (code : Nat) (r : Req) (x : Session) : Bool :=
  r.mac == (cmac x.kHd (be 4 (macCounter x r.seq) ++ reqHeader code r ++ r.payload)).take 8

/-- The enclave serves authenticated frames (R13). -/
def encServes (s : State) : Bool := s.enc.avail && !s.enc.segregated

/-- Step 8 (R51, R93): the session, or the status of the refusal; an unproven session takes no request. -/
def sessionCheck (r : Req) (s : State) : Except Nat Session :=
  let no := if r.auth && !encServes s then stAuth else stSession
  if r.auth != (r.session != 0) then .error no
  else match findSession s r.transport r.session with
  | none => .error no
  | some x => if x.id != 0 && !x.proven then .error no else .ok x

/-- A MAC failure (R53): the eighth in a row closes the session, with a Notice. -/
def macFailure (x : Session) (s : State) : State :=
  if 7 ≤ x.macFails then issue 0x38 0x01 0 (closeSession x.transport x.id s)
  else modSession x.transport x.id (fun y => { y with macFails := y.macFails + 1 }) s

/-- A cached response sent again (R57), with a MAC of the session's present counter. -/
def resend (r : Req) (f : Frame) (s : State) : State :=
  let g := { f with dest := r.src, accId := recordOf s r.transport r.session r.seq }
  match findSession s r.transport r.session with
  | some x => if r.session == 0 then sendFrame r.transport g s
      else let h := { g with auth := true }; sendFrame r.transport { h with mac := frameMac x h } s
  | none => sendFrame r.transport g s

/-- What an accepted request leaves at once (R46, R53, R55 to R57, R60, R64, R18, R414); an older cache entry under its number gives way (log 49). -/
def noteAccepted (code : Nat) (r : Req) (x : Session) (isNew : Bool) (s : State) : State :=
  let entry : CacheEntry := { seq := r.seq, code := code }
  let s1 := modSession r.transport r.session (fun y =>
    { y with h := if isNew then some r.seq else y.h, ctr := ctrAfter x r.seq, macFails := 0,
             cache := (entry :: y.cache.filter (fun e => e.seq != r.seq)).take 64,
             idleAt := s.now + sec (tw s).transports.idleS, src := some r.src }) s
  let s2 := if r.transport == .eth && r.session == 0 then modPort .eth (fun p => { p with src0 := some r.src }) s1 else s1
  { s2 with
    ao := { s2.ao with accepted := s2.ao.accepted + 1, aborts := s2.ao.aborts ++ [{ id := s2.ao.accepted, transport := r.transport, code := code, seq := r.seq, session := r.session, async := r.async, priv := r.priv, src := r.src }] },
    mode := { s2.mode with serviceAt := if isService x then s2.now else s2.mode.serviceAt },
    pwr := { s2.pwr with awakeAt := s2.pwr.awakeAt.map (fun _ => s2.now + (tw s2).power.awake10ms * 10000), parkRefused := s2.pwr.parkRefused && s2.mode.mode != .parked } }

/-- An accepted request takes its slot (R54): steps 11 to 13, the leases it renews, and its start, at once in the async lane and in its turn in the ordered one. -/
def accept (code : Nat) (r : Req) (x : Session) (isNew : Bool) (s : State) : State :=
  let s1 := noteAccepted code r x isNew s
  let refuse := laneCheck code r s1
  let s2 := if refuse.isNone then renewLeases code r s1 else s1
  let slot : Slot := { code := code, req := r, started := r.async, refuse := refuse }
  let s3 := modPort r.transport (fun p => { p with slots := p.slots ++ [slot] }) s2
  if r.async then startSlot slot s3 else pumpOne r.transport s3

/-- A correct MAC ends a row of MAC failures (R53). -/
def macGood (r : Req) (s : State) : State := modSession r.transport r.session (fun y => { y with macFails := 0 }) s

/-- Step 10 and what follows (R55 to R57). Its refusals and cached responses leave at once, ahead of an earlier ordered request that still runs (log 103). -/
def classify (code : Nat) (r : Req) (x : Session) (s : State) : State :=
  match seqClass x r.seq with
  | .known e =>
    if e.code != code then respondPlain code stSequence [] r (macGood r s)
    else (match e.resp with
      | some f => resend r f (macGood r s)
      | none => macGood r s)
  | .stale => if r.session == 0 then accept code r x true s else respondPlain code stSequence [] r (macGood r s)
  | .gap => accept code r x false s
  | .fresh =>
    if 0xFFFFFFFF < ctrAfter x r.seq then respondPlain code stSession [] r (closeSession r.transport r.session s)
    else accept code r x true s

/-- Steps 8 to 14 of R51 for a request that has a free slot. -/
def checkSession (code : Nat) (r : Req) (s : State) : State :=
  match sessionCheck r s with
  | .error st => respondPlain code st [] r s
  | .ok x =>
    if r.auth && !encServes s then respondPlain code stAuth [] r s
    else if r.auth && !macOk code r x then respondPlain code stAuth [] r (macFailure x s)
    else classify code r x s

/-- A request that its transport does not serve is lost (R36); on SPI it records error 0x06, and while SVC is not ON its chip select wakes the device (R43). -/
def lostRequest (t : Transport) (s : State) : State :=
  if t == .spi then (let s1 := winErr 0x06 s; if isOn s .svc then s1 else wakeEvent 0x38 s1) else s

/-- A request from step 5 of R51 on. -/
def request (code : Nat) (r : Req) (s : State) : State :=
  if !(getPort s r.transport).served then lostRequest r.transport s
  else if 1000 < r.payload.length then respondPlain code stLength [] r s
  else if 8 ≤ (getPort s r.transport).slots.length then respondPlain code stBusy [] r s
  else checkSession code r s

/-- A mailbox command row: its request at its time. -/
def requestAt (code : Nat) (r : Req) (s : State) : State := request code r (advance r.time s)

/-- The request that a header spells (R47), without its payload. -/
def headerReq (t : Transport) (src : Addr) (b : Bytes) (s : State) : Req :=
  let fl := byte b 1
  { transport := t, session := field b 8 4, seq := field b 4 2, async := tbit fl 0, priv := byte b 12, auth := tbit fl 1, src := src, time := s.now }

/-- Steps 2 to 6 of R51 on a header: the status and body of the refusal; `none` inside means no response at all. -/
def headerCheck (t : Transport) (b : Bytes) (s : State) : Option (Option (Nat × Bytes)) :=
  if crc16 (b.take 14) != field b 14 2 then some none
  else if byte b 0 != 3 then some (some (stGeneration, [3]))
  else if decide (4 ≤ byte b 1) || byte b 13 != 0 then some (some (stFraming, []))
  else if 1000 < field b 6 2 then some (some (stLength, []))
  else if 8 ≤ (getPort s t).slots.length then some (some (stBusy, []))
  else none

/-- The length that R49 gives the frame of a header. -/
def frameLen (b : Bytes) : Nat := 16 + field b 6 2 + (if tbit (byte b 1) 1 then 8 else 0)

/-- A frame as delivered on a transport that is served: the checks of R51 from step 1 on. -/
def frameIn (t : Transport) (src : Addr) (b : Bytes) (s : State) : State :=
  if b.length < 16 then (if t == .spi then winErr 0x01 s else s)
  else
    let r := headerReq t src b s
    let code := field b 2 2
    match headerCheck t b s with
    | some none => if t == .spi then winErr 0x02 s else s
    | some (some (st, body)) => respondPlain code st body r s
    | none =>
      if b.length < frameLen b then respondPlain code stTruncated [] r s
      else if frameLen b < b.length then respondPlain code stFraming [] r s
      else request code { r with payload := slice b 16 (field b 6 2), mac := b.drop (16 + field b 6 2) } s

/-- The end of a session whose idle time has run out (R60). -/
def sessionIdleStep (t : Transport) (id : Nat) (s : State) : State :=
  match findSession s t id with
  | some x => if x.id != 0 && decide (x.idleAt ≤ s.now) then closeSession t id s else s
  | none => s

/-- A session not proven within 10 s closes (R93). -/
def unprovenStep (t : Transport) (id : Nat) (s : State) : State :=
  match findSession s t id with
  | some x => if x.id != 0 && !x.proven && decide (x.proveAt ≤ s.now) then closeSession t id s else s
  | none => s

/-- The end of an arbitration step (R74). -/
def arbitrationStep (s : State) : State := eventsAfter arbitrate s

/-- The end of a claim's lease (R27, R76). -/
def leaseStep (obj : Nat) (s : State) : State :=
  if (getOwn s obj).owner != .dflt && due (getOwn s obj).leaseAt s then releaseObject obj s else s

end Sys2Proof.Machine
end

