-- ==== Sys2Proof/Machine/Recv.lean ====
section
/-! DEFINITION. Frames as the transports carry them: the SPI host window, CAN reception with MBX-CAN segmentation, and datagrams (R37 to R46, 02_mailboxes.md; R238, R255, 08_buses.md). -/

namespace Sys2Proof.Machine

/-- The host window answers: the device is powered and not held in reset. -/
def winLive (s : State) : Bool := powered s && !s.pwr.inReset

/-- A falling edge of HSPI_CSN while SVC is not ON (R43). -/
def spiEdge (s : State) : State := if isOn s .svc then s else wakeEvent 0x38 s

/-- WIN_STAT (R41). -/
def winStat (s : State) : Nat :=
  2147483648 * bit s.win.ready + 1073741824 * bit s.win.rescue + 65536 * freeSlots s .spi + 256 * rxCount s + s.win.irq.toNat

/-- WIN_STAT[31:24], shifted out with every opcode (R37). -/
def statByte (s : State) : Byte := b8 (winStat s / 16777216)

/-- The value of a host window register; none where the offset names none (R38, R40, R41). -/
def winRead (s : State) (off : Nat) : Option Nat := match off with
  | 0x00 => some 0x0B010301
  | 0x04 => some (winStat s)
  | 0x08 => some s.win.irq.toNat
  | 0x0C => some s.win.irqEn.toNat
  | 0x10 => some (match s.mbx.spi.out with
    | f :: _ => (frameBytes f).length
    | [] => 0)
  | 0x14 => some 0
  | 0x18 => some (s.win.errCode * 16777216 + s.win.errCount)
  | 0x1C => some s.win.scratch.toNat
  | _ => none

/-- WIN_CTRL.EVFLUSH: every queued event discarded (R41). -/
def flushEvents (s : State) : State := rxLeave (fun q => q.filter (fun f => !f.event)) s

/-- The head frame leaves the RX queue; a frame that waited behind 40 enters it (R41). -/
def popRx (s : State) : State := rxLeave List.tail s

/-- WIN_IRQ is write-one-to-clear (R41). -/
def irqClear (v : Word) (s : State) : State := { s with win := { s.win with irq := s.win.irq &&& ~~~ (v.truncate 6) } }

/-- WIN_IRQEN (R41). -/
def irqEnable (v : Word) (s : State) : State := { s with win := { s.win with irqEn := v.truncate 6 } }

/-- Any write to WIN_ERR clears COUNT (R41). -/
def errClear (s : State) : State := { s with win := { s.win with errCount := 0 } }

/-- A host window register written (R38, R41): read-only fields ignore it, an unmapped offset is error 0x05. One write of WIN_CTRL with both bits discards the events first, then the head that is left (log 104). -/
def winWrite (off : Nat) (v : Word) (s : State) : State := match off with
  | 0x08 => irqClear v s
  | 0x0C => irqEnable v s
  | 0x14 =>
    let s1 := if v.getLsbD 1 then flushEvents s else s
    if v.getLsbD 0 then popRx s1 else s1
  | 0x18 => errClear s
  | 0x1C => { s with win := { s.win with scratch := v } }
  | _ => if (winRead s off).isSome then s else winErr 0x05 s

/-- What the device shifted out in an assertion. -/
def shiftOut (b : Bytes) (s : State) : State := { s with win := { s.win with miso := b } }

/-- REGISTER_WRITE (R37): opcode 0x02; a value cut short writes nothing (DEDUCED, log 36). -/
def registerWriteStep (off : Nat) (b : Bytes) (s : State) : State :=
  if !winLive s then s
  else
    let s1 := shiftOut [statByte s] s
    spiEdge (if (winRead s off).isNone then winErr 0x05 s1 else if b.length < 4 then s1 else winWrite off (BitVec.ofNat 32 (field b 0 4)) s1)

/-- WIN_IRQ_WRITE (R41, R42). -/
def irqWriteStep (v : Word) (s : State) : State := if winLive s then spiEdge (irqClear v (shiftOut [statByte s] s)) else s

/-- WIN_IRQEN_WRITE (R41, R42). -/
def irqEnWriteStep (v : Word) (s : State) : State := if winLive s then spiEdge (irqEnable v (shiftOut [statByte s] s)) else s

/-- EVFLUSH (R41). -/
def evflushStep (s : State) : State := if winLive s then spiEdge (flushEvents (shiftOut [statByte s] s)) else s

/-- RXDROP (R41): a frame the host has not read is not delivered (R64; log 37). -/
def rxdropStep (s : State) : State := if winLive s then spiEdge (popRx (shiftOut [statByte s] s)) else s

/-- WIN_ERR_WRITE (R41). -/
def errWriteStep (s : State) : State := if winLive s then spiEdge (errClear (shiftOut [statByte s] s)) else s

/-- A frame written by the host (R37, R43, R51): discarded with error 0x06 while READY is 0. -/
def frameWrite (b : Bytes) (s : State) : State :=
  let s1 := shiftOut [statByte s] s
  if s.mbx.spi.served then frameIn .spi {} b s1 else winErr 0x06 s1

/-- The head frame read, `n` bytes clocked (R39). -/
def frameRead (n : Nat) (s : State) : State :=
  match s.mbx.spi.out with
  | [] => winErr 0x07 (shiftOut (statByte s :: List.replicate n 0) s)
  | f :: _ =>
    let b := frameBytes f
    if n < b.length then shiftOut (statByte s :: b.take n) s
    else
      let s1 := popRx (shiftOut (statByte s :: padTo n 0 b) s)
      let s2 := if b.length < n then winErr 0x04 s1 else s1
      delivered f s2

/-- FRAME_WRITE (R37). -/
def frameWriteStep (b : Bytes) (s : State) : State := if winLive s then spiEdge (frameWrite b s) else s

/-- FRAME_READ (R39). -/
def frameReadStep (n : Nat) (s : State) : State := if winLive s then spiEdge (frameRead n s) else s

/-- What the device shifts out in a register read of `n` bytes after the opcode (R37): the bytes under the offset and the dummy byte are free (log 105), then the value as far as it is clocked. -/
def readOut (v n : Nat) (s : State) : State :=
  let d := drawBytes 2 s
  shiftOut (statByte s :: (d.1 ++ be 4 v).take n) d.2

/-- UNKNOWN_OPCODE (R38): an assertion by its opcode, offset and number of bytes; a register read gives the value, 0 for an unmapped offset. -/
def opcodeStep (op off n : Nat) (s : State) : State :=
  if !winLive s then s
  else
    let s1 := shiftOut [statByte s] s
    spiEdge (match op with
      | 0x02 => if (winRead s off).isNone && decide (1 ≤ n) then winErr 0x05 s1 else s1
      | 0x03 =>
        let s2 := readOut ((winRead s off).getD 0) n s
        if (winRead s off).isNone && decide (1 ≤ n) then winErr 0x05 s2 else s2
      | 0x20 => frameWrite [] s
      | 0x21 => frameRead n s
      | _ => winErr 0x03 s1)

/-- HSPI_WAKE (R43). -/
def hspiWakeStep (s : State) : State := if winLive s then spiEdge s else s

/-- A datagram that the device takes (R46, R249, R250): IPv4, whole, in a frame of at most 1522 bytes with the device's VLAN, to its address and the Twill port, with no room for a second header. -/
def datagramOk (s : State) (d : Datagram) : Bool :=
  let u := (tw s).uplink
  !d.v6 && !d.fragmented && decide (d.data.length ≤ 1472) && d.vlan == u.vlan && d.dst.ip == u.ipv4 && d.dst.port == (tw s).transports.ethPort &&
    !(decide (16 ≤ d.data.length) && decide (frameLen d.data + 16 ≤ d.data.length))

/-- MBX_ETH_DATAGRAM (R46). -/
def datagramStep (d : Datagram) (s : State) : State :=
  if uplinkRuns s && s.bus.up.link && s.mbx.eth.served && datagramOk s d then frameIn .eth d.src d.data s else s

/-- A message of MBX-CAN is complete, or was cut short (R44, R51). -/
def isoComplete (b : Bytes) (s : State) : State := frameIn .can {} b { s with mbx := { s.mbx with canRx := none } }

/-- A single frame (R44; ISO 15765-2): the length in the first byte, or in the second for a frame of more than 8 bytes. -/
def isoSingle (d : Bytes) (s : State) : State :=
  let short := d.length ≤ 8
  let n := if short then byte d 0 % 16 else if byte d 0 % 16 == 0 then byte d 1 else 0
  let b := if short then d.drop 1 else d.drop 2
  if n == 0 || decide (b.length < n) then s else isoComplete (b.take n) s

/-- N_Cr from Twill (R44, R462). -/
def crUs (s : State) : Nat := ms (tw s).transports.nCrMs

/-- A reception begins with a first frame's bytes. -/
def isoBegin (n : Nat) (b : Bytes) (s : State) : State :=
  { s with mbx := { s.mbx with canRx := some { ffDl := n, bytes := b.take n, crAt := s.now + crUs s } } }

/-- A first frame (R45): steps 2 to 6 of R51 run on its header before the flow control. -/
def isoFirstFrame (d : Bytes) (s : State) : State :=
  let n := (byte d 0 % 16) * 256 + byte d 1
  let b := d.drop 2
  if n == 0 || 1024 < n then sendFlow 2 s
  else if n + 1 < d.length || b.length < 6 then s
  else if b.length < 16 then sendFlow 0 (isoBegin n b s)
  else match headerCheck .can b s with
  | none => sendFlow 0 (isoBegin n b s)
  | some none => sendFlow 2 s
  | some (some (st, body)) => respondPlain (field b 2 2) st body (headerReq .can {} b s) (sendFlow 2 s)

/-- A consecutive frame (R44): a wrong sequence number ends the reception. -/
def isoConsecutive (d : Bytes) (s : State) : State :=
  match s.mbx.canRx with
  | none => s
  | some x =>
    if byte d 0 % 16 != x.nextSn then { s with mbx := { s.mbx with canRx := none } }
    else
      let b := (x.bytes ++ d.drop 1).take x.ffDl
      if x.ffDl ≤ b.length then isoComplete b s
      else { s with mbx := { s.mbx with canRx := some { x with bytes := b, nextSn := (x.nextSn + 1) % 16, crAt := s.now + crUs s } } }

/-- A frame on the request identifier of MBX-CAN (R44): a new message ends a reception in progress. -/
def isoReceive (d : Bytes) (s : State) : State :=
  match byte d 0 / 16 with
  | 0 => isoSingle d { s with mbx := { s.mbx with canRx := none } }
  | 1 => isoFirstFrame d { s with mbx := { s.mbx with canRx := none } }
  | 2 => isoConsecutive d s
  | 3 => isoFlow d s
  | _ => s

/-- A frame on the request identifier of the served transport. -/
def isMbxFrame (s : State) (ch : Nat) (f : CanFrame) : Bool :=
  let t := (tw s).transports
  s.mbx.can.served && ch == t.canCh && t.canReq.testBit 31 == f.ext && t.canReq % 536870912 == f.id && !f.data.isEmpty

/-- A CAN frame received (R238, R239, R255): a remote frame is only counted; any other feeds mode policy, MBX-CAN, the routing table and extension code. -/
def canReceive (ch : Nat) (f : CanFrame) (s : State) : State :=
  if decide (1 < ch) || !canActive s ch then s
  else if f.remote then modCan ch (fun c => { c with remotes := (c.remotes + 1) % 65536 }) s
  else
    let s1 := if smisaRuns s then extReceive ch f (routeCan ch f (feedCan ch f s)) else s
    if isMbxFrame s1 ch f then isoReceive f.data s1 else s1

/-- The WUF that woke the device is the first frame after VBUS reaches ON (R245). -/
def deliverWuf (s : State) : State :=
  match (getCan s 0).wuf with
  | some f => if canActive s 0 && isOn s .svc && s.pwr.shutdown.isNone then canReceive 0 f (modCan 0 (fun c => { c with wuf := none }) s) else s
  | none => s

/-- CAN_FRAME_RECEIVED, after `errs` receive errors (R243). -/
def canReceivedStep (ch : Nat) (f : CanFrame) (errs : Nat) (s : State) : State :=
  if decide (ch ≤ 1) && canActive s ch then canReceive ch f (modCan ch (canRxErrors errs) s) else s

/-- A frame of MBX-CAN of a given kind on its channel. -/
def mbxFrameStep (kind : Nat) (f : CanFrame) (s : State) : State :=
  if byte f.data 0 / 16 == kind then canReceive (tw s).transports.canCh f s else s

/-- FIRST_FRAME (R44, R45). -/
def firstFrameStep (f : CanFrame) (s : State) : State := mbxFrameStep 1 f s

/-- CONSECUTIVE_FRAME (R44). -/
def consecutiveFrameStep (f : CanFrame) (s : State) : State := mbxFrameStep 2 f s

/-- FLOW_CONTROL (R44). -/
def flowControlStep (f : CanFrame) (s : State) : State := mbxFrameStep 3 f s

/-- N_CR_TIMEOUT (R44, R51): the message is cut short; step 7 finds fewer bytes delivered. -/
def nCrStep (s : State) : State :=
  match s.mbx.canRx with
  | some x => if x.crAt ≤ s.now then isoComplete x.bytes s else s
  | none => s

end Sys2Proof.Machine
end

