-- ==== Sys2Proof/Machine/Settle.lean ====
section
/-! DEFINITION. What follows a command before the next one: a reset or wake it called for, an aborted shutdown, a key update's commit, a start that waited for the supply, requests and threads whose turn has come, and mode policy (log 18). -/

namespace Sys2Proof.Machine

/-- A start that waited for VBAT may go on (R445). -/
def startReady (s : State) : Bool := s.pwr.waiting.isSome && decide (6000 ≤ s.env.vbat)

/-- A refused entry whose refuser has ceased (R405). -/
def retryFree (s : State) : Bool :=
  s.pwr.shutdown.isNone && !s.pwr.inReset && !s.pwr.supplyOff && s.pwr.retry.any (fun e => match e.1 with
    | some d => (refuserOf s d).isNone && !cranking s
    | none => (lpRefuser s).isNone && !fullNeeded s)

/-- Nothing is left to follow. -/
def quiet (s : State) : Bool := !hapWaits s && !changeWaits s && !([0, 1, 2, 3].any (learnBroken s)) && !depsWait s && !encDue s && !commitDue s && !s.work && s.resetDue.isNone && s.wakeDue.isNone && !startReady s && !retryFree s

/-- A shutdown whose abort was called for before S3 (R420). -/
def abortCalled (s : State) : Bool := match s.pwr.shutdown with
  | some d => d.abort
  | none => false

/-- The follow-up of an awake device: mode policy, clocks, frames, requests and threads (R18, R54, R245, R276, R431, R432, R552). -/
def followUp (s : State) : State :=
  let s1 := deliverWuf (clockCheck (aokReport (acceptPresent s)))
  modeEval 0 (wakeThreads (canKick (pump s1)))

/-- One round: a reset first, then a wake, an abort, a waiting start; otherwise the follow-up. -/
def settleOnce (s : State) : State :=
  match s.resetDue with
  | some c => runReset c { s with resetDue := none, wakeDue := none, work := true }
  | none => match s.wakeDue with
    | some src => wakeEvent src { s with wakeDue := none, work := true }
    | none =>
      if startReady s then { startWaiting s with work := true }
      else if abortCalled s then abortShutdown s
      else if encDue s then { encStep s with work := true }
      else if commitDue s then { commitEnd s with work := true }
      else if [0, 1, 2, 3].any (learnBroken s) then { eventsAfter breakLearns s with work := true }
      else if depsWait s then { actDeps s with work := true }
      else if hapWaits s then { hapTick s with work := true }
      else if changeWaits s then { inChange s with work := true }
      else if retryFree s then retryEntries { s with work := true }
      else followUp { s with work := false }

/-- Rounds until nothing is left, `n` at most. -/
def settleLoop : Nat → State → State
  | 0, s => s
  | n + 1, s => if quiet s then s else settleLoop n (settleOnce s)

/-- The end of every command. -/
def settle (s : State) : State := settleLoop 16 s

end Sys2Proof.Machine
end

