-- ==== Sys2Proof/Machine/CmdAlu.lean ====
section
/-! DEFINITION. The ALU and MULDIV groups (R530, R531; 18_core.md): each writes rd from its operands and moves to the next instruction. -/

namespace Sys2Proof.Machine

/-- ADDI: rd = ra + sext(imm16) (R530). -/
def execAddi (rd : BitVec 5) (ra : BitVec 5) (imm : BitVec 16) (s : State) : Host.Outcome State Fault Refusal :=
  .next (settle (coreAlu rd [ra] (fun r => readReg r ra + imm.signExtend 32) (fun r => shAdd (readReg r ra) (imm.signExtend 32)) s))

/-- ANDI: rd = ra AND zext(imm16) (R530). -/
def execAndi (rd : BitVec 5) (ra : BitVec 5) (imm : BitVec 16) (s : State) : Host.Outcome State Fault Refusal :=
  .next (settle (coreAlu rd [ra] (fun r => readReg r ra &&& imm.zeroExtend 32) (fun r => shAnd (readReg r ra) (imm.zeroExtend 32)) s))

/-- ORI: rd = ra OR zext(imm16) (R530). -/
def execOri (rd : BitVec 5) (ra : BitVec 5) (imm : BitVec 16) (s : State) : Host.Outcome State Fault Refusal :=
  .next (settle (coreAlu rd [ra] (fun r => readReg r ra ||| imm.zeroExtend 32) (fun r => shOr (readReg r ra) (imm.zeroExtend 32)) s))

/-- XORI: rd = ra XOR zext(imm16) (R530). -/
def execXori (rd : BitVec 5) (ra : BitVec 5) (imm : BitVec 16) (s : State) : Host.Outcome State Fault Refusal :=
  .next (settle (coreAlu rd [ra] (fun r => readReg r ra ^^^ imm.zeroExtend 32) (fun r => shXor (readReg r ra) (imm.zeroExtend 32)) s))

/-- LUI: rd = imm16 shifted left by 16 (R530). -/
def execLui (rd : BitVec 5) (imm : BitVec 16) (s : State) : Host.Outcome State Fault Refusal :=
  .next (settle (coreAlu rd [] (fun _ => (imm.zeroExtend 32) <<< 16) (fun _ => shData ((imm.zeroExtend 32) <<< 16)) s))

/-- ADD (R530). -/
def execAdd (rd : BitVec 5) (ra : BitVec 5) (rb : BitVec 5) (s : State) : Host.Outcome State Fault Refusal :=
  .next (settle (coreAlu rd [ra, rb] (fun r => readReg r ra + readReg r rb) (fun r => shAdd (readReg r ra) (readReg r rb)) s))

/-- SUB (R530). -/
def execSub (rd : BitVec 5) (ra : BitVec 5) (rb : BitVec 5) (s : State) : Host.Outcome State Fault Refusal :=
  .next (settle (coreAlu rd [ra, rb] (fun r => readReg r ra - readReg r rb) (fun r => shSub (readReg r ra) (readReg r rb)) s))

/-- AND (R530). -/
def execAnd (rd : BitVec 5) (ra : BitVec 5) (rb : BitVec 5) (s : State) : Host.Outcome State Fault Refusal :=
  .next (settle (coreAlu rd [ra, rb] (fun r => readReg r ra &&& readReg r rb) (fun r => shAnd (readReg r ra) (readReg r rb)) s))

/-- OR (R530). -/
def execOr (rd : BitVec 5) (ra : BitVec 5) (rb : BitVec 5) (s : State) : Host.Outcome State Fault Refusal :=
  .next (settle (coreAlu rd [ra, rb] (fun r => readReg r ra ||| readReg r rb) (fun r => shOr (readReg r ra) (readReg r rb)) s))

/-- XOR (R530). -/
def execXor (rd : BitVec 5) (ra : BitVec 5) (rb : BitVec 5) (s : State) : Host.Outcome State Fault Refusal :=
  .next (settle (coreAlu rd [ra, rb] (fun r => readReg r ra ^^^ readReg r rb) (fun r => shXor (readReg r ra) (readReg r rb)) s))

/-- SLL: fills with zeros (R531). By rb[4:0]. -/
def execSll (rd : BitVec 5) (ra : BitVec 5) (rb : BitVec 5) (s : State) : Host.Outcome State Fault Refusal :=
  .next (settle (coreAlu rd [ra, rb] (fun r => readReg r ra <<< ((readReg r rb).toNat % 32)) (fun r => shSll (readReg r ra) ((readReg r rb).toNat % 32)) s))

/-- SRL: fills with zeros (R531). By rb[4:0]. -/
def execSrl (rd : BitVec 5) (ra : BitVec 5) (rb : BitVec 5) (s : State) : Host.Outcome State Fault Refusal :=
  .next (settle (coreAlu rd [ra, rb] (fun r => readReg r ra >>> ((readReg r rb).toNat % 32)) (fun r => shSrl (readReg r ra) ((readReg r rb).toNat % 32)) s))

/-- SRA: fills with the sign bit (R531), by rb[4:0]. -/
def execSra (rd : BitVec 5) (ra : BitVec 5) (rb : BitVec 5) (s : State) : Host.Outcome State Fault Refusal :=
  .next (settle (coreAlu rd [ra, rb] (fun r => (readReg r ra).sshiftRight ((readReg r rb).toNat % 32)) (fun r => shSra (readReg r ra) ((readReg r rb).toNat % 32)) s))

/-- ROR by rb[4:0] (R530). -/
def execRor (rd : BitVec 5) (ra : BitVec 5) (rb : BitVec 5) (s : State) : Host.Outcome State Fault Refusal :=
  .next (settle (coreAlu rd [ra, rb] (fun r => (readReg r ra).rotateRight ((readReg r rb).toNat % 32)) (fun r => shRor (readReg r ra) ((readReg r rb).toNat % 32)) s))

/-- SLLI by the value of the rb field (R530). -/
def execSlli (rd : BitVec 5) (ra : BitVec 5) (sh : BitVec 5) (s : State) : Host.Outcome State Fault Refusal :=
  .next (settle (coreAlu rd [ra] (fun r => readReg r ra <<< sh.toNat) (fun r => shSll (readReg r ra) sh.toNat) s))

/-- SRLI by the value of the rb field (R530). -/
def execSrli (rd : BitVec 5) (ra : BitVec 5) (sh : BitVec 5) (s : State) : Host.Outcome State Fault Refusal :=
  .next (settle (coreAlu rd [ra] (fun r => readReg r ra >>> sh.toNat) (fun r => shSrl (readReg r ra) sh.toNat) s))

/-- SRAI by the value of the rb field (R530). -/
def execSrai (rd : BitVec 5) (ra : BitVec 5) (sh : BitVec 5) (s : State) : Host.Outcome State Fault Refusal :=
  .next (settle (coreAlu rd [ra] (fun r => (readReg r ra).sshiftRight sh.toNat) (fun r => shSra (readReg r ra) sh.toNat) s))

/-- RORI by the value of the rb field (R530). -/
def execRori (rd : BitVec 5) (ra : BitVec 5) (sh : BitVec 5) (s : State) : Host.Outcome State Fault Refusal :=
  .next (settle (coreAlu rd [ra] (fun r => (readReg r ra).rotateRight sh.toNat) (fun r => shRor (readReg r ra) sh.toNat) s))

/-- MUL: low 32 bits (R530). -/
def execMul (rd : BitVec 5) (ra : BitVec 5) (rb : BitVec 5) (s : State) : Host.Outcome State Fault Refusal :=
  .next (settle (coreAlu rd [ra, rb] (fun r => readReg r ra * readReg r rb) (fun r => shMul (readReg r ra) (readReg r rb)) s))

/-- MULH: high 32 bits of the signed product (R530). -/
def execMulh (rd : BitVec 5) (ra : BitVec 5) (rb : BitVec 5) (s : State) : Host.Outcome State Fault Refusal :=
  .next (settle (coreStep (alu rd [ra, rb] (fun r => BitVec.ofInt 32 (((readReg r ra).toInt * (readReg r rb).toInt) / 4294967296))) s))

/-- MULHU: high 32 bits of the unsigned product (R530). -/
def execMulhu (rd : BitVec 5) (ra : BitVec 5) (rb : BitVec 5) (s : State) : Host.Outcome State Fault Refusal :=
  .next (settle (coreStep (alu rd [ra, rb] (fun r => BitVec.ofNat 32 (((readReg r ra).toNat * (readReg r rb).toNat) / 4294967296))) s))

/-- DIV, rounded towards zero; by zero 0xFFFF_FFFF; 0x8000_0000 by -1 gives 0x8000_0000 (R530, R531). -/
def execDiv (rd : BitVec 5) (ra : BitVec 5) (rb : BitVec 5) (s : State) : Host.Outcome State Fault Refusal :=
  .next (settle (coreStep (alu rd [ra, rb] (fun r => if readReg r rb == 0 then 0xFFFFFFFF else (readReg r ra).sdiv (readReg r rb))) s))

/-- DIVU; by zero 0xFFFF_FFFF (R530, R531). -/
def execDivu (rd : BitVec 5) (ra : BitVec 5) (rb : BitVec 5) (s : State) : Host.Outcome State Fault Refusal :=
  .next (settle (coreStep (alu rd [ra, rb] (fun r => if readReg r rb == 0 then 0xFFFFFFFF else (readReg r ra).udiv (readReg r rb))) s))

/-- REM; by zero the dividend (R530, R531). -/
def execRem (rd : BitVec 5) (ra : BitVec 5) (rb : BitVec 5) (s : State) : Host.Outcome State Fault Refusal :=
  .next (settle (coreStep (alu rd [ra, rb] (fun r => if readReg r rb == 0 then readReg r ra else (readReg r ra).srem (readReg r rb))) s))

/-- REMU; by zero the dividend (R530, R531). -/
def execRemu (rd : BitVec 5) (ra : BitVec 5) (rb : BitVec 5) (s : State) : Host.Outcome State Fault Refusal :=
  .next (settle (coreStep (alu rd [ra, rb] (fun r => if readReg r rb == 0 then readReg r ra else (readReg r ra).umod (readReg r rb))) s))

end Sys2Proof.Machine
end

