-- ==== Sys2Proof/Machine/CmdBus.lean ====
section
/-! DEFINITION. Events of the vehicle buses, the uplink and vehicle time (08_buses.md; R44, 02_mailboxes.md). -/

namespace Sys2Proof.Machine

/-- CAN_BUS_OFF_ENTRY (R240). -/
def execCanBusOffEntry (t : Nat) (ch : Nat) (s : State) : Host.Outcome State Fault Refusal :=
  .next (settle (busOffStep ch (advance t s)))

/-- BUS_OFF_RECOVERY (R240). -/
def execBusOffRecovery (t : Nat) (ch : Nat) (s : State) : Host.Outcome State Fault Refusal :=
  .next (settle (busOffRecoveryStep ch (advance t s)))

/-- BUS_SEND_ACK_TIMEOUT (R92). -/
def execBusSendAckTimeout (t : Nat) (ch : Nat) (s : State) : Host.Outcome State Fault Refusal :=
  .next (settle (sendTimeoutStep ch (advance t s)))

/-- CAN_FRAME_TRANSMITTED (R92). -/
def execCanFrameTransmitted (t : Nat) (ch : Nat) (errs : Nat) (s : State) : Host.Outcome State Fault Refusal :=
  .next (settle (canSentStep ch errs (advance t s)))

/-- N_BS_TIMEOUT (R44). -/
def execNBsTimeout (t : Nat) (s : State) : Host.Outcome State Fault Refusal :=
  .next (settle (nBsStep (advance t s)))

/-- N_CR_TIMEOUT (R44). -/
def execNCrTimeout (t : Nat) (s : State) : Host.Outcome State Fault Refusal :=
  .next (settle (nCrStep (advance t s)))

/-- WUF (R245). -/
def execWuf (t : Nat) (f : CanFrame) (s : State) : Host.Outcome State Fault Refusal :=
  .next (settle (wufStep f (advance t s)))

/-- WAKE_ERROR_COUNT (R245). -/
def execWakeErrorCount (t : Nat) (count : Nat) (s : State) : Host.Outcome State Fault Refusal :=
  .next (settle (wakeErrorStep count (advance t s)))

/-- LIN_SLOT_END (R247). -/
def execLinSlotEnd (t : Nat) (ch : Nat) (resp : Option Bytes) (collision : Bool) (s : State) : Host.Outcome State Fault Refusal :=
  .next (settle (linSlotStep ch resp collision (advance t s)))

/-- LIN_BUS_FAULT (R243). -/
def execLinBusFault (t : Nat) (ch : Nat) (ms : Nat) (s : State) : Host.Outcome State Fault Refusal :=
  .next (settle (linFaultStep ch ms (advance t s)))

/-- LIN_SCHEDULE_START (R248). -/
def execLinScheduleStart (t : Nat) (ch : Nat) (s : State) : Host.Outcome State Fault Refusal :=
  .next (settle (linStartStep ch (advance t s)))

/-- LINK_POLL (R249). -/
def execLinkPoll (t : Nat) (up : Bool) (speed : Nat) (full : Bool) (s : State) : Host.Outcome State Fault Refusal :=
  .next (settle (linkPollStep up speed full (advance t s)))

/-- GPTP_SYNC (R252). -/
def execGptpSync (t : Nat) (domain : Nat) (seq : Nat) (twoStep : Bool) (ns : Nat) (interval : Nat) (s : State) : Host.Outcome State Fault Refusal :=
  .next (settle (gptpSyncStep domain seq twoStep ns interval (advance t s)))

/-- GPTP_FOLLOW_UP (R251). -/
def execGptpFollowUp (t : Nat) (domain : Nat) (seq : Nat) (ns : Nat) (s : State) : Host.Outcome State Fault Refusal :=
  .next (settle (followUpStep domain seq ns (advance t s)))

/-- PDELAY_RESPONSE (R251). -/
def execPdelayResponse (t : Nat) (peer : Option Nat) (t1 : Nat) (t2 : Nat) (t3 : Nat) (t4 : Nat) (s : State) : Host.Outcome State Fault Refusal :=
  .next (settle (pdelayStep peer t1 t2 t3 t4 (advance t s)))

/-- ANNOUNCE (R252). -/
def execAnnounce (t : Nat) (domain : Nat) (valid : Bool) (offset : Int) (s : State) : Host.Outcome State Fault Refusal :=
  .next (settle (announceStep domain valid offset (advance t s)))

/-- GPTP_INVALID (R252). -/
def execGptpInvalid (t : Nat) (s : State) : Host.Outcome State Fault Refusal :=
  .next (settle (gptpInvalidStep (advance t s)))

/-- ARP_REQUEST (R250). -/
def execArpRequest (t : Nat) (vlan : Nat) (target : Nat) (sender : Nat) (s : State) : Host.Outcome State Fault Refusal :=
  .next (settle (arpStep vlan target sender (advance t s)))

/-- ICMP_ECHO (R250). -/
def execIcmpEcho (t : Nat) (vlan : Nat) (target : Nat) (sender : Nat) (ident : Nat) (seq : Nat) (data : Bytes) (s : State) : Host.Outcome State Fault Refusal :=
  .next (settle (icmpStep vlan target sender ident seq data (advance t s)))

/-- NTSCF_RECEIVED (R257). -/
def execNtscfReceived (t : Nat) (vlan : Nat) (etherType : Nat) (pdu : Bytes) (s : State) : Host.Outcome State Fault Refusal :=
  .next (settle (ntscfStep vlan etherType pdu (advance t s)))

/-- BATCH_CLOSE (R256). -/
def execBatchClose (t : Nat) (stream : Nat) (s : State) : Host.Outcome State Fault Refusal :=
  .next (settle (batchCloseStep stream (advance t s)))

end Sys2Proof.Machine
end

