-- ==== Sys2Proof/Machine/CmdCxv.lean ====
section
/-! DEFINITION. The CXV coprocessor (R538 to R541; 18_core.md). -/

namespace Sys2Proof.Machine

/-- A field that names a v register: 0 to 7 (R538). -/
def vOk (f : BitVec 5) : Bool := decide (f.toNat < 8)

/-- A v register. -/
def readV (c : Cxv) (f : BitVec 5) : BitVec 64 := c.v.getD f.toNat 0

/-- Lane `i` of a vector, bits 16i + 15 to 16i (R538). -/
def lane (v : BitVec 64) (i : Nat) : BitVec 16 := (v >>> (16 * i)).truncate 16

/-- A vector from its lanes. -/
def ofLanes (f : Nat → BitVec 16) : BitVec 64 := f 3 ++ f 2 ++ f 1 ++ f 0

/-- A result into a v register, committed at once: the model runs instructions in order (R539). -/
def cxvResult (vd : BitVec 5) (v : BitVec 64) (s : State) : CoreRes :=
  .ok (nextPc (modRegs (fun r => { r with cxv := { r.cxv with v := r.cxv.v.setIfInBounds vd.toNat v } }) s), vecWord v, 0)

/-- A lane operation of two v registers (R538). -/
def cxvLanes (vd va vb : BitVec 5) (f : BitVec 16 → BitVec 16 → BitVec 16) (s : State) : CoreRes :=
  if vOk vd && vOk va && vOk vb then
    let a := readV s.core.r.cxv va
    let b := readV s.core.r.cxv vb
    cxvResult vd (ofLanes (fun i => f (lane a i) (lane b i))) s
  else .error (0x01, 0)

/-- An integer saturated to 16 bits. -/
def sat16 (x : Int) : Int := max (-32768) (min 32767 x)

/-- A saturating lane operation: the flag of a lane that saturates sets and stays (R538). -/
def cxvSat (vd va vb : BitVec 5) (f : Int → Int → Int) (s : State) : CoreRes :=
  if vOk vd && vOk va && vOk vb then
    let a := readV s.core.r.cxv va
    let b := readV s.core.r.cxv vb
    let x := fun i => f (lane a i).toInt (lane b i).toInt
    cxvResult vd (ofLanes (fun i => BitVec.ofInt 16 (sat16 (x i))))
      (modRegs (fun r => { r with cxv := { r.cxv with flag := r.cxv.flag.mapIdx (fun i p => p || x i != sat16 (x i)) } }) s)
  else .error (0x01, 0)

/-- The accumulators after a multiply-accumulate of lane products: saturated at 40 bits, the flag of a lane that saturates set (R386, R538). -/
def macAcc (p : Nat → Int) (sub : Bool) (acc : Vector Int 4) (flag : Vector Bool 4) : Vector Int 4 × Vector Bool 4 :=
  let x := fun i (a : Int) => if sub then a - p i else a + p i
  (acc.mapIdx (fun i a => sat40 (x i a)), flag.mapIdx (fun i q => q || x i (acc.getD i 0) != sat40 (x i (acc.getD i 0))))

/-- The shadow accumulators changed while a window is open (R385). -/
def shadowAccs (p : Vector Int 4 × Vector Bool 4) (s : State) : State :=
  if s.core.tdx.open_ then { s with core := { s.core with tdx := { s.core.tdx with shAcc := p.1, shFlag := p.2 } } } else s

/-- The accumulators as the one word that is folded (R376, R386): a lane that either copy has saturated gives its flag and sign in place of its value. -/
def accWord (acc : Vector Int 4) (sat : Nat → Bool) : Word :=
  (List.range 4).foldl (fun m i =>
    let a := acc.getD i 0
    let v := BitVec.ofInt 40 a
    if sat i then misrFold m (if a < 0 then 3 else 2) else misrFold (misrFold m (v.truncate 32)) ((v >>> 32).truncate 32)) 0

/-- The shadow accumulators transformed back: negated, or complemented in a saturated lane (R385, R386; DEDUCED, log 136). -/
def unShadow (acc : Vector Int 4) (sat : Nat → Bool) : Vector Int 4 := acc.mapIdx (fun i a => if sat i then -1 - a else -a)

/-- A lane that either copy has saturated (R386). -/
def eitherSat (p q : Vector Bool 4) (i : Nat) : Bool := p.getD i false || q.getD i false

/-- The products of the lanes of two vectors; the shadow's have the first operand negated (R385). -/
def laneProducts (neg : Bool) (a b : BitVec 64) (i : Nat) : Int := (if neg then -(lane a i).toInt else (lane a i).toInt) * (lane b i).toInt

/-- Both copies of a multiply-accumulate. -/
def macBoth (va vb : BitVec 5) (sub : Bool) (s : State) : (Vector Int 4 × Vector Bool 4) × (Vector Int 4 × Vector Bool 4) :=
  let a := readV s.core.r.cxv va
  let b := readV s.core.r.cxv vb
  (macAcc (laneProducts false a b) sub s.core.r.cxv.acc s.core.r.cxv.flag, macAcc (laneProducts true a b) sub s.core.tdx.shAcc s.core.tdx.shFlag)

/-- A multiply-accumulate of every lane, with its repeat in the shadow accumulators (R385, R538). -/
def cxvMac (va vb : BitVec 5) (sub : Bool) (s : State) : CoreRes :=
  if vOk va && vOk vb then
    let m := macBoth va vb sub s
    .ok (nextPc (modRegs (fun r => { r with cxv := { r.cxv with acc := m.1.1, flag := m.1.2 } }) (shadowAccs m.2 s)), accWord m.1.1 (eitherSat m.1.2 m.2.2), 0)
  else .error (0x01, 0)

/-- What the shadow of a multiply-accumulate finds (R385, R386). -/
def shMac (va vb : BitVec 5) (sub : Bool) (u : State) (_ _ : Word) : Word × Word :=
  let m := macBoth va vb sub u
  (accWord (unShadow m.2.1 (eitherSat m.1.2 m.2.2)) (eitherSat m.1.2 m.2.2), 0)

/-- What the shadow of a lane operation finds: the transform of each lane (R373, R385). -/
def shLanes (va vb : BitVec 5) (g : BitVec 16 → BitVec 16 → BitVec 16) (u : State) (_ _ : Word) : Word × Word :=
  (vecWord (ofLanes (fun i => g (lane (readV u.core.r.cxv va) i) (lane (readV u.core.r.cxv vb) i))), 0)

/-- A saturated sum by the complement: −1 − x saturates as x does (R373, R385). -/
def shSat (x : Int) : BitVec 16 := BitVec.ofInt 16 (-1 - sat16 (-1 - x))

/-- An accumulator shifted right by n, rounded to nearest with halves upwards, saturated to 16 bits (R538; halves: DESIGN CHOICE, log 13). -/
def accRead (n : Nat) (acc : Int) : BitVec 16 :=
  BitVec.ofInt 16 (sat16 (if n == 0 then acc else (acc + 2 ^ (n - 1)) / 2 ^ n))

/-- VADD per lane (R538). -/
def execVadd (rd : BitVec 5) (ra : BitVec 5) (rb : BitVec 5) (s : State) : Host.Outcome State Fault Refusal :=
  .next (settle (coreWith (shLanes ra rb shAdd) (cxvLanes rd ra rb (fun a b => a + b)) s))

/-- VSUB per lane (R538). -/
def execVsub (rd : BitVec 5) (ra : BitVec 5) (rb : BitVec 5) (s : State) : Host.Outcome State Fault Refusal :=
  .next (settle (coreWith (shLanes ra rb shSub) (cxvLanes rd ra rb (fun a b => a - b)) s))

/-- VAND per lane (R538). -/
def execVand (rd : BitVec 5) (ra : BitVec 5) (rb : BitVec 5) (s : State) : Host.Outcome State Fault Refusal :=
  .next (settle (coreWith (shLanes ra rb shAnd) (cxvLanes rd ra rb (fun a b => a &&& b)) s))

/-- VOR per lane (R538). -/
def execVor (rd : BitVec 5) (ra : BitVec 5) (rb : BitVec 5) (s : State) : Host.Outcome State Fault Refusal :=
  .next (settle (coreWith (shLanes ra rb shOr) (cxvLanes rd ra rb (fun a b => a ||| b)) s))

/-- VXOR per lane (R538). -/
def execVxor (rd : BitVec 5) (ra : BitVec 5) (rb : BitVec 5) (s : State) : Host.Outcome State Fault Refusal :=
  .next (settle (coreWith (shLanes ra rb shXor) (cxvLanes rd ra rb (fun a b => a ^^^ b)) s))

/-- VMUL: low 16 bits per lane (R538). -/
def execVmul (rd : BitVec 5) (ra : BitVec 5) (rb : BitVec 5) (s : State) : Host.Outcome State Fault Refusal :=
  .next (settle (coreWith (shLanes ra rb shMul) (cxvLanes rd ra rb (fun a b => a * b)) s))

/-- VADDS: saturating lane add (R538). -/
def execVadds (rd : BitVec 5) (ra : BitVec 5) (rb : BitVec 5) (s : State) : Host.Outcome State Fault Refusal :=
  .next (settle (coreWith (shLanes ra rb (fun a b => shSat (a.toInt + b.toInt))) (cxvSat rd ra rb (fun a b => a + b)) s))

/-- VSUBS: saturating lane subtract (R538). -/
def execVsubs (rd : BitVec 5) (ra : BitVec 5) (rb : BitVec 5) (s : State) : Host.Outcome State Fault Refusal :=
  .next (settle (coreWith (shLanes ra rb (fun a b => shSat (a.toInt - b.toInt))) (cxvSat rd ra rb (fun a b => a - b)) s))

/-- VMAC: acc + va × vb (R538). -/
def execVmac (ra : BitVec 5) (rb : BitVec 5) (s : State) : Host.Outcome State Fault Refusal :=
  .next (settle (coreWith (shMac ra rb false) (cxvMac ra rb false) s))

/-- VMSU: acc − va × vb (R538). -/
def execVmsu (ra : BitVec 5) (rb : BitVec 5) (s : State) : Host.Outcome State Fault Refusal :=
  .next (settle (coreWith (shMac ra rb true) (cxvMac ra rb true) s))

/-- The accumulators and their shadow cleared (R385, R538). -/
def cxvClear (s : State) : CoreRes :=
  .ok (nextPc (modRegs (fun r => { r with cxv := { r.cxv with acc := Vector.replicate 4 0, flag := Vector.replicate 4 false } })
    (shadowAccs (Vector.replicate 4 0, Vector.replicate 4 false) s)), 0, 0)

/-- The lanes of an accumulator read as they are folded: a saturated lane gives its flag and sign (R386). -/
def accLanes (n : Nat) (acc : Vector Int 4) (sat : Nat → Bool) : BitVec 64 :=
  ofLanes (fun i => if sat i then (if acc.getD i 0 < 0 then 3 else 2) else accRead n (acc.getD i 0))

/-- The accumulators shifted, rounded and saturated into a v register (R538). -/
def cxvRead (vd sh : BitVec 5) (s : State) : CoreRes :=
  if vOk vd then
    let c := s.core.r.cxv
    let v := ofLanes (fun i => accRead sh.toNat (c.acc.getD i 0))
    .ok (nextPc (modRegs (fun r => { r with cxv := { r.cxv with v := r.cxv.v.setIfInBounds vd.toNat v } }) s),
      vecWord (accLanes sh.toNat c.acc (eitherSat c.flag s.core.tdx.shFlag)), 0)
  else .error (0x01, 0)

/-- What the shadow of that read finds, from its own accumulators (R385, R386). -/
def shAccRead (sh : BitVec 5) (u : State) (_ _ : Word) : Word × Word :=
  let sat := eitherSat u.core.r.cxv.flag u.core.tdx.shFlag
  (vecWord (accLanes sh.toNat (unShadow u.core.tdx.shAcc sat) sat), 0)

/-- VACLR: accumulators 0, flags cleared (R538). -/
def execVaclr (s : State) : Host.Outcome State Fault Refusal :=
  .next (settle (coreStep cxvClear s))

/-- VACRD: accumulators shifted, rounded and saturated (R538). -/
def execVacrd (rd : BitVec 5) (sh : BitVec 5) (s : State) : Host.Outcome State Fault Refusal :=
  .next (settle (coreWith (shAccRead sh) (cxvRead rd sh) s))

/-- VMOVG: general rd = sext(lane of va) (R538); a lane field above 3 is ILLEGAL (DEDUCED, log 13). -/
def execVmovg (rd : BitVec 5) (ra : BitVec 5) (lane_ : BitVec 5) (s : State) : Host.Outcome State Fault Refusal :=
  .next (settle (coreStep (fun s => if vOk ra && decide (lane_.toNat < 4) then alu rd [] (fun r => (lane (readV r.cxv ra) lane_.toNat).signExtend 32) s else .error (0x01, 0)) s))

/-- VMOVV: a lane of vd = low 16 bits of general ra (R538). -/
def execVmovv (rd : BitVec 5) (ra : BitVec 5) (lane_ : BitVec 5) (s : State) : Host.Outcome State Fault Refusal :=
  .next (settle (coreStep (fun s => if vOk rd && regOk ra && decide (lane_.toNat < 4) then cxvResult rd (ofLanes (fun i => if i == lane_.toNat then (readReg s.core.r ra).truncate 16 else lane (readV s.core.r.cxv rd) i)) s else .error (0x01, 0)) s))

/-- VSPLAT: every lane of vd = low 16 bits of general ra (R538). -/
def execVsplat (rd : BitVec 5) (ra : BitVec 5) (s : State) : Host.Outcome State Fault Refusal :=
  .next (settle (coreStep (fun s => if vOk rd && regOk ra then cxvResult rd (ofLanes (fun _ => (readReg s.core.r ra).truncate 16)) s else .error (0x01, 0)) s))

/-- VLD's load of 64 bits (R530, R531, R541). -/
def vload (vd ra : BitVec 5) (imm : BitVec 16) (s : State) : CoreRes :=
  if vOk vd && regOk ra then
    let ea := effAddr s.core.r ra imm
    if ea.toNat % 8 != 0 then .error (0x05, ea)
    else if mpuSpan s.core s.core.r.psr.u 1 ea.toNat 8 then
      accessWindow 0 ea (fun s =>
        let v := BitVec.ofNat 64 (leNat (loadBytes s ea.toNat 8))
        .ok (nextPc (modRegs (fun r => { r with cxv := { r.cxv with v := r.cxv.v.setIfInBounds vd.toNat v } }) s), vecWord v, ea)) s
    else .error (0x03, ea)
  else .error (0x01, 0)

/-- A CXV DMA form (R530, R539, R541): supervisor only; dispatched at commit, after the preceding window has matched (R385); it feeds the stream of one v register to DMA (the fields of the form: DESIGN CHOICE, log 13). -/
def dmaFeed (va : BitVec 5) (s : State) : CoreRes :=
  if s.core.r.psr.u || !vOk va then .error (0x01, 0)
  else
    serial (fun s1 => .ok (nextPc { s1 with core := { s1.core with dma := s1.core.dma ++ [readV s1.core.r.cxv va] } }, 0, 0)) s

/-- VLD: vd = mem64[ra + sext(imm16)] (R530, R538). -/
def execVld (rd : BitVec 5) (ra : BitVec 5) (imm : BitVec 16) (s : State) : Host.Outcome State Fault Refusal :=
  .next (settle (coreWith (shAccess ra imm) (vload rd ra imm) s))

/-- VST: mem64 = vd, at commit (R530, R538, R539). -/
def execVst (rd : BitVec 5) (ra : BitVec 5) (imm : BitVec 16) (s : State) : Host.Outcome State Fault Refusal :=
  .next (settle (coreStore 8 (vOk rd) ra imm (fun r => le 8 (readV r.cxv rd).toNat) s))

/-- CXV_DMA: feed a CXV result stream to DMA at commit (R530, R541). -/
def execCxvDma (ra : BitVec 5) (s : State) : Host.Outcome State Fault Refusal :=
  .next (settle (coreStep (dmaFeed ra) s))

end Sys2Proof.Machine
end

