-- ==== Sys2Proof/Machine/CmdEnc.lean ====
section
/-! DEFINITION. Events of the enclave and of the tamper monitors (10_enclave.md, 11_tamper.md). -/

namespace Sys2Proof.Machine

/-- ENC_START (R308). -/
def execEncStart (t : Nat) (entropyOk : Bool) (s : State) : Host.Outcome State Fault Refusal :=
  .next (settle (encStartStep entropyOk (advance t s)))

/-- ENCLAVE_WATCHDOG_EXPIRY (R294). -/
def execEnclaveWatchdogExpiry (t : Nat) (s : State) : Host.Outcome State Fault Refusal :=
  .next (settle (encWatchdogStep (advance t s)))

/-- ENCR (R294). -/
def execEncr (t : Nat) (s : State) : Host.Outcome State Fault Refusal :=
  .next (settle (encrStep (advance t s)))

/-- TAMPER_EVENT (R326). -/
def execTamperEvent (t : Nat) (seen : TamperSeen) (s : State) : Host.Outcome State Fault Refusal :=
  .next (settle (tamperEventStep seen (advance t s)))

/-- SLOW_CHECK (R324). -/
def execSlowCheck (t : Nat) (pass : Bool) (s : State) : Host.Outcome State Fault Refusal :=
  .next (settle (slowCheckStep pass (advance t s)))

/-- SLOW_CHECK_CONFIRM (R324). -/
def execSlowCheckConfirm (t : Nat) (pass : Bool) (s : State) : Host.Outcome State Fault Refusal :=
  .next (settle (slowConfirmStep pass (advance t s)))

/-- MONITOR_ARMED (R325). -/
def execMonitorArmed (t : Nat) (source : Nat) (s : State) : Host.Outcome State Fault Refusal :=
  .next (settle (monitorArmedStep source (advance t s)))

/-- TAMPER_REARM (R326). -/
def execTamperRearm (t : Nat) (source : Nat) (s : State) : Host.Outcome State Fault Refusal :=
  .next (settle (rearmStep source (advance t s)))

/-- TAMPER_LOG_WRITE (R340). -/
def execTamperLogWrite (t : Nat) (line : Nat) (s : State) : Host.Outcome State Fault Refusal :=
  .next (settle (logWriteStep line (advance t s)))

end Sys2Proof.Machine
end

