-- ==== Sys2Proof/Machine/CmdExt.lean ====
section
/-! DEFINITION. Events of extension code and of the diagnostic session (R545 to R552, 18_core.md; R97, R102, 03_commands.md). -/

namespace Sys2Proof.Machine

/-- EXT_MSG_TIMEOUT (R97). -/
def execExtMsgTimeout (t : Nat) (id : Nat) (s : State) : Host.Outcome State Fault Refusal :=
  .next (settle (extMsgTimeoutStep id (advance t s)))

/-- DIAG_S3_TIMEOUT (R102). -/
def execDiagS3Timeout (t : Nat) (s : State) : Host.Outcome State Fault Refusal :=
  .next (settle (s3TimeoutStep (advance t s)))

/-- EXTENSION_START (R545). -/
def execExtensionStart (t : Nat) (s : State) : Host.Outcome State Fault Refusal :=
  .next (settle (extensionStartStep (advance t s)))

/-- EXTENSION_RESTART (R549). -/
def execExtensionRestart (t : Nat) (s : State) : Host.Outcome State Fault Refusal :=
  .next (settle (extensionRestartStep (advance t s)))

/-- TIME_SLICE (R546). -/
def execTimeSlice (t : Nat) (s : State) : Host.Outcome State Fault Refusal :=
  .next (settle (timeSliceStep (advance t s)))

/-- SHARE_PERIOD (R546). -/
def execSharePeriod (t : Nat) (s : State) : Host.Outcome State Fault Refusal :=
  .next (settle (sharePeriodStep (advance t s)))

/-- SYSCALL_TIMEOUT (R552). -/
def execSyscallTimeout (t : Nat) (thread : Nat) (s : State) : Host.Outcome State Fault Refusal :=
  .next (settle (syscallTimeoutStep thread (advance t s)))

end Sys2Proof.Machine
end

