-- ==== Sys2Proof/Machine/CmdFab.lean ====
section
/-! DEFINITION. Events of the Confluence collector (12_confluence.md; R429, 15_clocks_resets.md). -/

namespace Sys2Proof.Machine

/-- NOTICE_ARRIVAL (R357). -/
def execNoticeArrival (t : Nat) (src : Nat) (kind : Nat) (island : Nat) (detail : Nat) (s : State) : Host.Outcome State Fault Refusal :=
  .next (settle (noticeStep src kind island detail (advance t s)))

/-- RECOVERABLE_ARRIVAL (R354). -/
def execRecoverableArrival (t : Nat) (src : Nat) (kind : Nat) (island : Nat) (detail : Nat) (s : State) : Host.Outcome State Fault Refusal :=
  .next (settle (recoverableStep src kind island detail (advance t s)))

/-- SEVERE_ARRIVAL (R359). -/
def execSevereArrival (t : Nat) (src : Nat) (kind : Nat) (island : Nat) (detail : Nat) (s : State) : Host.Outcome State Fault Refusal :=
  .next (settle (severeStep src kind island detail (advance t s)))

/-- GRAVE_ARRIVAL (R365). -/
def execGraveArrival (t : Nat) (src : Nat) (kind : Nat) (island : Nat) (detail : Nat) (s : State) : Host.Outcome State Fault Refusal :=
  .next (settle (graveStep src kind island detail (advance t s)))

/-- QUIET_PERIOD_END (R360). -/
def execQuietPeriodEnd (t : Nat) (s : State) : Host.Outcome State Fault Refusal :=
  .next (settle (quietStep (advance t s)))

/-- FAULT_HISTORY_TAKE (R358). -/
def execFaultHistoryTake (t : Nat) (s : State) : Host.Outcome State Fault Refusal :=
  .next (settle (historyStep (advance t s)))

/-- RECOVERABLE_ACK (R354). -/
def execRecoverableAck (t : Nat) (s : State) : Host.Outcome State Fault Refusal :=
  .next (settle (recoverableAckStep (advance t s)))

/-- ACK_TIMEOUT (R354). -/
def execAckTimeout (t : Nat) (s : State) : Host.Outcome State Fault Refusal :=
  .next (settle (ackTimeoutStep (advance t s)))

/-- COLLECTOR_HANDSHAKE_MISS (R368). -/
def execCollectorHandshakeMiss (t : Nat) (s : State) : Host.Outcome State Fault Refusal :=
  .next (settle (handshakeStep (advance t s)))

/-- BRIDGE_TIMEOUT (R429). -/
def execBridgeTimeout (t : Nat) (near : Nat) (far : Nat) (ns : Nat) (s : State) : Host.Outcome State Fault Refusal :=
  .next (settle (bridgeStep near far ns (advance t s)))

end Sys2Proof.Machine
end

