-- ==== Sys2Proof/Machine/CmdFlow.lean ====
section
/-! DEFINITION. Branches, jumps, calls, windows, traps and control registers (R520 to R537; 18_core.md). -/

namespace Sys2Proof.Machine

/-- BEQ: branch if ra = rb (R529, R530). -/
def execBeq (ra : BitVec 5) (rb : BitVec 5) (off : BitVec 16) (s : State) : Host.Outcome State Fault Refusal :=
  .next (settle (coreBranch (regOk ra && regOk rb) (fun r => readReg r ra == readReg r rb) (fun r => shEq (readReg r ra) (readReg r rb)) (off.signExtend 32) s))

/-- BNE: branch if ra ≠ rb (R529, R530). -/
def execBne (ra : BitVec 5) (rb : BitVec 5) (off : BitVec 16) (s : State) : Host.Outcome State Fault Refusal :=
  .next (settle (coreBranch (regOk ra && regOk rb) (fun r => readReg r ra != readReg r rb) (fun r => !shEq (readReg r ra) (readReg r rb)) (off.signExtend 32) s))

/-- BLT: branch if ra < rb, signed (R529, R530). -/
def execBlt (ra : BitVec 5) (rb : BitVec 5) (off : BitVec 16) (s : State) : Host.Outcome State Fault Refusal :=
  .next (settle (coreBranch (regOk ra && regOk rb) (fun r => (readReg r ra).slt (readReg r rb)) (fun r => shSlt (readReg r ra) (readReg r rb)) (off.signExtend 32) s))

/-- BGE: branch if ra ≥ rb, signed (R529, R530). -/
def execBge (ra : BitVec 5) (rb : BitVec 5) (off : BitVec 16) (s : State) : Host.Outcome State Fault Refusal :=
  .next (settle (coreBranch (regOk ra && regOk rb) (fun r => !(readReg r ra).slt (readReg r rb)) (fun r => !shSlt (readReg r ra) (readReg r rb)) (off.signExtend 32) s))

/-- BLTU: branch if ra < rb, unsigned (R529, R530). -/
def execBltu (ra : BitVec 5) (rb : BitVec 5) (off : BitVec 16) (s : State) : Host.Outcome State Fault Refusal :=
  .next (settle (coreBranch (regOk ra && regOk rb) (fun r => (readReg r ra).ult (readReg r rb)) (fun r => shUlt (readReg r ra) (readReg r rb)) (off.signExtend 32) s))

/-- BGEU: branch if ra ≥ rb, unsigned (R529, R530). -/
def execBgeu (ra : BitVec 5) (rb : BitVec 5) (off : BitVec 16) (s : State) : Host.Outcome State Fault Refusal :=
  .next (settle (coreBranch (regOk ra && regOk rb) (fun r => !(readReg r ra).ult (readReg r rb)) (fun r => !shUlt (readReg r ra) (readReg r rb)) (off.signExtend 32) s))

/-- BEQI: branch if ra = sext(imm6) (R529, R530). -/
def execBeqi (ra : BitVec 5) (imm : BitVec 6) (off : BitVec 10) (s : State) : Host.Outcome State Fault Refusal :=
  .next (settle (coreBranch (regOk ra) (fun r => readReg r ra == imm.signExtend 32) (fun r => shEq (readReg r ra) (imm.signExtend 32)) (off.signExtend 32) s))

/-- BNEI: branch if ra ≠ sext(imm6) (R529, R530). -/
def execBnei (ra : BitVec 5) (imm : BitVec 6) (off : BitVec 10) (s : State) : Host.Outcome State Fault Refusal :=
  .next (settle (coreBranch (regOk ra) (fun r => readReg r ra != imm.signExtend 32) (fun r => !shEq (readReg r ra) (imm.signExtend 32)) (off.signExtend 32) s))

/-- BLTI: branch if ra < sext(imm6), signed (R529, R530). -/
def execBlti (ra : BitVec 5) (imm : BitVec 6) (off : BitVec 10) (s : State) : Host.Outcome State Fault Refusal :=
  .next (settle (coreBranch (regOk ra) (fun r => (readReg r ra).slt (imm.signExtend 32)) (fun r => shSlt (readReg r ra) (imm.signExtend 32)) (off.signExtend 32) s))

/-- BGEI: branch if ra ≥ sext(imm6), signed (R529, R530). -/
def execBgei (ra : BitVec 5) (imm : BitVec 6) (off : BitVec 10) (s : State) : Host.Outcome State Fault Refusal :=
  .next (settle (coreBranch (regOk ra) (fun r => !(readReg r ra).slt (imm.signExtend 32)) (fun r => !shSlt (readReg r ra) (imm.signExtend 32)) (off.signExtend 32) s))

/-- A call that does not slide the window: lk gets the next address, unless the target is misaligned (R526). -/
def callTo (target : Word) (s : State) : CoreRes :=
  if target.toNat % 4 != 0 then .error (0x05, target)
  else .ok (modRegs (fun r => { r with lk := r.pc + 4, pc := target }) s, target, s.core.r.pc + 4)

/-- A window trap of a call or return comes once every TDX window before it has matched (R379, R384). -/
def windowTrap (due : Bool) (k : State → CoreRes) (s : State) : CoreRes := if due then serial k s else k s

/-- A windowed call: the window slides, with WFULL first when RES is 7, after which the call stands in a new TDX window (R384); WDEPTH when the save area is exhausted; ALIGN after a window trap (R522, R523, R526, R533). -/
def callWindow (target : Word) (s : State) : CoreRes :=
  windowTrap (7 ≤ s.core.r.res) (fun s => match roomIn s.core.r.pc s with
  | none => .error (0x09, 0)
  | some s1 =>
    if target.toNat % 4 != 0 then (if 7 ≤ s.core.r.res then .ok (trap 0x05 target s1, 0, 0) else .error (0x05, target))
    else .ok (modRegs (fun r => { r with lk := s.core.r.pc + 4, pc := target }) (slide (openWindow s1)), target, s.core.r.pc + 4)) s

/-- A windowed return (R522, R525, R526): to the exit address the thread ends with no window trap; otherwise the window slides back, with WEMPTY first when RES is 1, then the jump to lk. -/
def returnWindow (s : State) : CoreRes :=
  let target := s.core.r.lk
  if target.toNat == exitAddr && s.core.r.psr.u then serial (fun s => .ok (threadExit s, target, target)) s
  else windowTrap (s.core.r.res ≤ 1) (fun s => match roomOut s.core.r.pc s with
    | .error c => .error (c, 0)
    | .ok s1 =>
      if target.toNat % 4 != 0 then (if s.core.r.res ≤ 1 then .ok (trap 0x05 target s1, 0, 0) else .error (0x05, target))
      else .ok (modRegs (fun r => { r with pc := target }) (slideBack (openWindow s1)), target, target)) s

/-- J: jump (R529, R530). -/
def execJ (off : BitVec 26) (s : State) : Host.Outcome State Fault Refusal :=
  .next (settle (coreWith (shJump (fun r => shTarget r (off.signExtend 32))) (fun s => jumpTo (branchTarget s (off.signExtend 32)) s) s))

/-- CALL: lk = next; jump (R526). -/
def execCall (off : BitVec 26) (s : State) : Host.Outcome State Fault Refusal :=
  .next (settle (coreWith (shCall (fun r => shTarget r (off.signExtend 32))) (fun s => callTo (branchTarget s (off.signExtend 32)) s) s))

/-- CALLW: lk = next; slide; jump (R522, R526). -/
def execCallw (off : BitVec 26) (s : State) : Host.Outcome State Fault Refusal :=
  .next (settle (coreWith (shCall (fun r => shTarget r (off.signExtend 32))) (fun s => callWindow (branchTarget s (off.signExtend 32)) s) s))

/-- JR: jump to ra (R530). -/
def execJr (ra : BitVec 5) (s : State) : Host.Outcome State Fault Refusal :=
  .next (settle (coreWith (shJump (fun r => shAdd (readReg r ra) 0)) (fun s => if regOk ra then jumpTo (readReg s.core.r ra) s else .error (0x01, 0)) s))

/-- CALLR: call to ra (R526). -/
def execCallr (ra : BitVec 5) (s : State) : Host.Outcome State Fault Refusal :=
  .next (settle (coreWith (shCall (fun r => shAdd (readReg r ra) 0)) (fun s => if regOk ra then callTo (readReg s.core.r ra) s else .error (0x01, 0)) s))

/-- CALLWR: windowed call; the target is read before the window slides (R526). -/
def execCallwr (ra : BitVec 5) (s : State) : Host.Outcome State Fault Refusal :=
  .next (settle (coreWith (shCall (fun r => shAdd (readReg r ra) 0)) (fun s => if regOk ra then callWindow (readReg s.core.r ra) s else .error (0x01, 0)) s))

/-- RET: jump to lk (R526). -/
def execRet (s : State) : Host.Outcome State Fault Refusal :=
  .next (settle (coreWith (shJump (fun r => shAdd r.lk 0)) (fun s => jumpTo s.core.r.lk s) s))

/-- RETW: slide back, then jump to lk (R526). -/
def execRetw (s : State) : Host.Outcome State Fault Refusal :=
  .next (settle (coreWith (shJump (fun r => shAdd r.lk 0)) (fun s => returnWindow s) s))

/-- An instruction of the PRIV group: ILLEGAL in user mode (R530); it takes effect once the windows before it have matched (R377). -/
def privileged (f : State → CoreRes) (s : State) : CoreRes :=
  if s.core.r.psr.u then .error (0x01, 0) else serial f s

/-- TRET (R522, R532): PSR from EPSR and the pc from EPC; outside a window trap (TW clear) the window slides back, with WEMPTY when RES is 1, and WDEPTH or WSEAL as R523 states. -/
def trapReturn (s : State) : CoreRes :=
  let back := fun (x : State) => reschedule (modRegs (fun r => { r with psr := x.core.epsr, pc := x.core.epc }) x)
  if s.core.r.psr.tw then .ok (back s, s.core.epc, 0)
  else
    let epc := s.core.epc
    let epsr := s.core.epsr
    match slideOut s.core.r.pc s with
    | .error c => .error (c, 0)
    | .ok s1 => .ok (reschedule (modRegs (fun r => { r with psr := epsr, pc := epc }) s1), epc, 0)

/-- WSPILL (R523): the oldest resident window stored to the record below WSP; WDEPTH when fewer than 52 bytes remain. -/
def windowSpill (s : State) : CoreRes :=
  match spillOne s with
  | some s1 => .ok (nextPc s1, 0, 0)
  | none => .error (0x09, 0)

/-- WFILL (R523): one window refilled from the record at WSP after its seal check; WDEPTH with no record, WSEAL on a mismatch. -/
def windowFill (s : State) : CoreRes :=
  if s.core.r.depth == 0 then .error (0x09, 0)
  else match refillOne s with
    | some s1 => .ok (nextPc s1, 0, 0)
    | none => .error (0x0A, 0)

/-- TRET: return from trap (R532). -/
def execTret (s : State) : Host.Outcome State Fault Refusal :=
  .next (settle (coreStep (fun s => privileged trapReturn s) s))

/-- WSPILL: a whole frame stored to the save area (R523). -/
def execWspill (s : State) : Host.Outcome State Fault Refusal :=
  .next (settle (coreStep (fun s => privileged windowSpill s) s))

/-- WFILL: a whole frame refilled from the save area (R523). -/
def execWfill (s : State) : Host.Outcome State Fault Refusal :=
  .next (settle (coreStep (fun s => privileged windowFill s) s))

/-- WFI: wait for an interrupt; with one pending it goes on at once (R530). -/
def execWfi (s : State) : Host.Outcome State Fault Refusal :=
  .next (settle (coreStep (fun s => privileged (fun s => .ok (nextPc { s with core := { s.core with wfi := s.core.pend.isEmpty } }, 0, 0)) s) s))

/-- HALT: the core halts (R530). -/
def execHalt (s : State) : Host.Outcome State Fault Refusal :=
  .next (settle (coreStep (fun s => privileged (fun s => .ok (nextPc { s with core := { s.core with halted := true } }, 0, 0)) s) s))

/-- PSR as a word (R520). -/
def psrWord (p : Psr) : Word := BitVec.ofNat 32 (bit p.u + 2 * bit p.ie + 4 * bit p.tw + 8 * bit p.tdx + 16 * (p.ipl % 16))

/-- PSR from a word; all other bits read 0 (R520). -/
def wordPsr (w : Word) : Psr :=
  { u := w.getLsbD 0, ie := w.getLsbD 1, tw := w.getLsbD 2, tdx := w.getLsbD 3, ipl := bits w.toNat 4 4 }

/-- MPUBASE as a word: base in bits 31 to 8, n in bits 5 to 0 (layout DESIGN CHOICE, log 12; R521, R536). -/
def mpuBaseWord (m : MpuRegion) : Word := BitVec.ofNat 32 ((m.base / 256) * 256 + m.log2 % 64)

/-- MPUATTR as a word: user permission in bits 2 to 0, supervisor in bits 6 to 4, device in bit 8 (layout DESIGN CHOICE, log 12). -/
def mpuAttrWord (m : MpuRegion) : Word := BitVec.ofNat 32 (m.user % 8 + 16 * (m.sup % 8) + 256 * bit m.device)

/-- The value of a control register, none for an unlisted number (R521). -/
def csrRead (c : Core) (n : Nat) : Option Word :=
  if 0x10 ≤ n ∧ n < 0x20 then some (mpuBaseWord (c.mpu.getD (n - 0x10) {}))
  else if 0x20 ≤ n ∧ n < 0x30 then some (mpuAttrWord (c.mpu.getD (n - 0x20) {}))
  else match n with
  | 0x00 => some (psrWord c.r.psr)
  | 0x01 => some c.epc
  | 0x02 => some (psrWord c.epsr)
  | 0x03 => some (BitVec.ofNat 32 c.ecause)
  | 0x04 => some c.eaddr
  | 0x05 => some c.vbr
  | 0x06 => some (BitVec.ofNat 32 c.r.wsp)
  | 0x07 => some (BitVec.ofNat 32 (c.r.cwp % 8 + 16 * (c.r.res % 8) + 65536 * (c.r.depth % 65536)))
  | 0x08 => some (BitVec.ofNat 32 c.r.wlimit)
  | 0x09 => some (BitVec.ofNat 32 c.r.wtop)
  | 0x30 => some (BitVec.ofNat 32 c.cycle)
  | 0x31 => some (BitVec.ofNat 32 c.cycleH)
  | _ => none

/-- A control register written, none for an unlisted number (R521, R536): VBR a multiple of 1024, WTOP of 4; a write to CYCLE or CYCLEH changes nothing (log 12). -/
def csrWrite (c : Core) (n : Nat) (w : Word) : Option Core :=
  let v := w.toNat
  if 0x10 ≤ n ∧ n < 0x20 then some { c with mpu := modAt (fun m => { m with base := (v / 256) * 256, log2 := v % 64 }) (n - 0x10) c.mpu }
  else if 0x20 ≤ n ∧ n < 0x30 then some { c with mpu := modAt (fun m => { m with user := v % 8, sup := (v / 16) % 8, device := v.testBit 8 }) (n - 0x20) c.mpu }
  else match n with
  | 0x00 => some { c with r := { c.r with psr := wordPsr w } }
  | 0x01 => some { c with epc := w }
  | 0x02 => some { c with epsr := wordPsr w }
  | 0x03 => some { c with ecause := v }
  | 0x04 => some { c with eaddr := w }
  | 0x05 => some { c with vbr := BitVec.ofNat 32 ((v / 1024) * 1024) }
  | 0x06 => some { c with r := { c.r with wsp := v } }
  | 0x07 => some { c with r := { c.r with cwp := v % 8, res := bits v 4 3, depth := bits v 16 16 } }
  | 0x08 => some { c with r := { c.r with wlimit := v } }
  | 0x09 => some { c with r := { c.r with wtop := (v / 4) * 4 } }
  | 0x30 => some c
  | 0x31 => some c
  | _ => none

/-- CSRR (R521): in user mode only CYCLE and CYCLEH; a read of CYCLE latches CYCLEH; the TDX window closes first (R377). -/
def csrRead1 (rd : BitVec 5) (n : Nat) (s : State) : CoreRes :=
  if regOk rd && (!s.core.r.psr.u || n == 0x30 || n == 0x31) then
    match csrRead s.core n with
    | none => .error (0x01, 0)
    | some v => serial (fun s1 =>
      let s2 := if n == 0x30 then { s1 with core := { s1.core with cycleH := s1.core.cycle / 4294967296 } } else s1
      .ok (nextPc (modRegs (fun r => writeReg r rd v) s2), v, 0)) s
  else .error (0x01, 0)

/-- CSRW (R521): ILLEGAL in user mode and for an unlisted number; the TDX window closes first (R377). -/
def csrWrite1 (ra : BitVec 5) (n : Nat) (s : State) : CoreRes :=
  if regOk ra && !s.core.r.psr.u && (csrRead s.core n).isSome then
    serial (fun s1 => match csrWrite s1.core n (readReg s1.core.r ra) with
      | none => .error (0x01, 0)
      | some c => .ok (nextPc { s1 with core := c }, 0, 0)) s
  else .error (0x01, 0)

/-- CSRR: rd = control register (R521). -/
def execCsrr (rd : BitVec 5) (csr : BitVec 16) (s : State) : Host.Outcome State Fault Refusal :=
  .next (settle (coreStep (fun s => csrRead1 rd csr.toNat s) s))

/-- CSRW: control register = ra (R521). -/
def execCsrw (ra : BitVec 5) (csr : BitVec 16) (s : State) : Host.Outcome State Fault Refusal :=
  .next (settle (coreStep (fun s => csrWrite1 ra csr.toNat s) s))

/-- The pending source of the highest level, the lowest number among equals (R534). -/
def bestPending (s : State) : Option (Nat × Nat) :=
  s.core.pend.foldl (fun acc n =>
    let l := s.core.levels.getD n 0
    if l == 0 then acc else match acc with
    | none => some (n, l)
    | some (m, k) => if decide (k < l) || (l == k && decide (n < m)) then some (n, l) else acc) none

/-- An interrupt accepted (R534, R535): IE 1, TW 0, level above IPL, no replay running (R381); the running window closes first and the interrupt waits for its comparison (R379); the next instruction goes to EPC, IPL takes the level, the pc goes to VBR + 0x100 + 4 × source. -/
def acceptInterrupt (s : State) : State :=
  match bestPending s with
  | none => s
  | some (n, l) =>
    if s.core.r.psr.ie && !s.core.r.psr.tw && decide (s.core.r.psr.ipl < l) && !s.core.halted && !s.core.tdx.stopped && !s.core.tdx.replay then
      let s0 := closeWindow { s with core := { s.core with wfi := false } }
      if mustWait s0 then s0
      else
        let s1 := (slideIn s0.core.r.pc s0).getD s0
        let s2 := { s1 with core := { s1.core with pend := s.core.pend.filter (· != n), epc := s0.core.r.pc, epsr := s0.core.r.psr } }
        modRegs (fun r => { r with psr := { r.psr with u := false, ie := false, ipl := l }, pc := vector s (64 + n) }) s2
    else { s with core := { s.core with wfi := false } }

/-- A source becomes pending at the level Smisa has set for it (R534): the operand gives that setting, as no command of the spec makes it (log 143). -/
def pendAt (source level : Nat) (s : State) : State :=
  { s with core := { s.core with
      levels := setAt source (level % 16) s.core.levels,
      pend := if s.core.pend.contains source then s.core.pend else s.core.pend ++ [source] } }

/-- INTERRUPT (R534): the source becomes pending while SVC is ON, and the highest one above IPL is accepted. -/
def interruptStep (source level : Nat) (s : State) : State :=
  if isOn s .svc && decide (source < 128) then acceptInterrupt (pendAt source level s) else s

/-- INTERRUPT (R534). -/
def execInterrupt (t source level : Nat) (s : State) : Host.Outcome State Fault Refusal :=
  .next (settle (interruptStep source level (advance t s)))

/-- The TDX mode bit of a Smisa task (R371). -/
def tdxBit : SmisaTask → Bool
  | .other => false
  | .outputs => true | .millrace => true | .policy => true | .lamps => true | .wiper => true | .motion => true | .confluence => true

/-- A first mismatch reported: the replay counter and the Notice (R381, R388). -/
def noteReplay (s : State) : State := issue 0x02 0x01 0 { s with ao := { s.ao with tdxReplays := satInc 0xFFFF s.ao.tdxReplays } }

/-- A second mismatch reported: its counter and the Severe message (R382, R388). -/
def noteSecond (s : State) : State := issue 0x02 0x02 0 { s with ao := { s.ao with tdxSecond := satInc 0xFFFF s.ao.tdxSecond } }

/-- Both signatures of a window agree and no address mismatched (R376): `upset` is what a fault put into the shadow's signature, `addr` whether one of its addresses differed. -/
def winMatches (w : ClosedWin) (upset : Word) (addr : Bool) : Bool := w.misr == w.shadow ^^^ upset && !w.bad && !addr

/-- The oldest closed window compared (R380 to R382): a match releases its stores in program order, and what waited for it, an interrupt or a ready thread, follows; a first mismatch discards every held store, restores the checkpoint and replays once; a second one stops the core. -/
def windowCompare (upset : Word) (addr : Bool) (s : State) : State :=
  match s.core.tdx.closed with
  | [] => s
  | w :: rest =>
    let emptied := emptyTdx s.core.tdx
    if winMatches w upset addr then
      let s1 := releaseStores w.held { s with core := { s.core with tdx := { s.core.tdx with closed := rest, replay := false, passed := if w.access then some w.check.pc else s.core.tdx.passed } } }
      if s1.core.pend.isEmpty then reschedule s1 else acceptInterrupt s1
    else if s.core.tdx.replay then noteSecond { s with core := { s.core with tdx := { emptied with replay := false, stopped := true } } }
    else noteReplay { s with core := { s.core with tdx := { emptied with replay := true, replayLen := w.count }, r := w.check } }

/-- The window of a Smisa task compared (R30, R371, R380 to R382): a first mismatch replays it, a second one in the same window stops the core. -/
def smisaCompare (task : SmisaTask) (ok : Bool) (s : State) : State :=
  let again := s.core.tdx.smisa == some task
  if !smisaRuns s || !tdxBit task then s
  else if ok then { s with core := { s.core with tdx := { s.core.tdx with smisa := if again then none else s.core.tdx.smisa } } }
  else if again then noteSecond { s with core := { s.core with tdx := { s.core.tdx with smisa := none, stopped := true } } }
  else noteReplay { s with core := { s.core with tdx := { s.core.tdx with smisa := some task } } }

/-- The comparison of a window: of extension code, or of a Smisa task. -/
def compareStep (task : Option SmisaTask) (upset : Word) (addr : Bool) (s : State) : State := match task with
  | some k => smisaCompare k (upset == 0 && !addr) s
  | none => windowCompare upset addr s

/-- TDX_WINDOW_COMPARE (R380, R381, R382). -/
def execTdxWindowCompare (t : Nat) (task : Option SmisaTask) (upset : Word) (addr : Bool) (s : State) : Host.Outcome State Fault Refusal :=
  .next (settle (compareStep task upset addr (advance t s)))

end Sys2Proof.Machine
end

