-- ==== Sys2Proof/Machine/CmdInput.lean ====
section
/-! DEFINITION. Input, sensing and haptic events (05_inputs.md, 06_haptics.md). -/

namespace Sys2Proof.Machine

/-- The voltage present on a switch input (R145). -/
def noteSwitch (n mv : Nat) (s : State) : State := { s with env := { s.env with swMv := setAt n mv s.env.swMv } }

/-- SWITCH_POLL: the voltage present on an input, sampled and its debounce advanced where inputs are polled (R145 to R151); a pass ends with SW23 and its IN.CHANGE follows (R149; log 125). -/
def switchPollStep (n mv : Nat) (s00 : State) : State :=
  let s := noteSwitch n mv s00
  if !polls s then (if s.env.vbat < 4500 then suspendPolls s else s)
  else
    let x := pollSample n mv { s with scan := { s.scan with suspended := false } }
    let s1 := if x.1.mode.mode == .parked then pollParked n x.2 x.1 else pollActive n x.2 x.1
    if n == 23 then inChange s1 else s1

/-- SWITCH_POLL (R147). -/
def execSwitchPoll (t : Nat) (sw : Nat) (mv : Nat) (s : State) : Host.Outcome State Fault Refusal :=
  .next (settle (switchPollStep sw mv (advance t s)))

/-- A confirm poll of a burst in PARKED, 1 ms after the last (R151). -/
def confirmPollStep (n mv : Nat) (s : State) : State :=
  if polls s && s.mode.mode == .parked && (getSw s n).burst then
    let x := pollSample n mv (noteSwitch n mv s)
    inChange (pollParked n x.2 x.1)
  else if s.env.vbat < 4500 then suspendPolls s
  else s

/-- CONFIRM_BURST_POLL (R151). -/
def execConfirmBurstPoll (t : Nat) (sw : Nat) (mv : Nat) (s : State) : Host.Outcome State Fault Refusal :=
  .next (settle (confirmPollStep sw mv (advance t s)))

/-- The stuck time of an input runs out (R150): its Notice once, until the input has read open. -/
def switchStuckStep (n : Nat) (s : State) : State :=
  let w := getSw s n
  let lim := (swCfg s n).stuckS
  let us := stuckAdd w s.now (w.closed && w.reading)
  if lim != 0 && polls s && !w.stuckRaised && decide (sec lim < us) then
    issue 0x18 0x01 0 (modSw n (fun w => { w with stuckRaised := true }) s)
  else s

/-- SWITCH_STUCK_TIME (R150). -/
def execSwitchStuckTime (t : Nat) (sw : Nat) (s : State) : Host.Outcome State Fault Refusal :=
  .next (settle (switchStuckStep sw (advance t s)))

/-- A level change on a pin starts its filter time in every mode; in TRANSPORT also WAKE0's 50 ms, or the 1 ms that arms it (R153, R154). -/
def wakeEdgeStep (pin : Nat) (high : Bool) (s : State) : State :=
  let s1 := { s with env := { s.env with wakeLevel := setAt pin high s.env.wakeLevel } }
  modPin pin (fun p => { p with dueAt := some (s.now + ms (tw s).inputs.pinFiltMs),
                                qualAt := if s.mode.mode == .transport && pin == 0 then some (s.now + (if high then ms 50 else ms 1)) else none }) s1

/-- WAKE_PIN_EDGE (R154). -/
def execWakePinEdge (t : Nat) (pin : Nat) (high : Bool) (s : State) : Host.Outcome State Fault Refusal :=
  .next (settle (wakeEdgeStep pin high (advance t s)))

/-- WAKE0 low for 1 ms in TRANSPORT arms it (R154). -/
def armWake0 (pin : Nat) (s : State) : State :=
  if pin == 0 && s.mode.mode == .transport && !s.env.wakeLevel.getD 0 false && due (getPin s 0).qualAt s then
    modPin 0 (fun p => { p with armed := true, qualAt := none }) s
  else s

/-- A level has held for its filter time (R153, R154): the filtered state, IN.CHANGE, and outside TRANSPORT a wake from PARKED by an enabled pin that has been inactive. -/
def wakeFilteredStep (pin : Nat) (s0 : State) : State :=
  let s := armWake0 pin s0
  let p := getPin s pin
  if !due p.dueAt s then s
  else
    let a := pinLevel s pin
    let moved := s.mode.mode == .transport
    let s1 := modPin pin (fun p => { p with active := a, dueAt := none, armed := if moved then p.armed else p.armed || !a }) s
    let s3 := inChange (if a != p.active then noteChange (24 + pin) s1 else s1)
    if a && !p.active && p.armed && !moved && tbit (tw s).inputs.pinEn pin then wakeEvent (pin + 1) s3 else s3

/-- WAKE_PIN_FILTERED (R154). -/
def execWakePinFiltered (t : Nat) (pin : Nat) (s : State) : Host.Outcome State Fault Refusal :=
  .next (settle (wakeFilteredStep pin (advance t s)))

/-- ANALOG_SAMPLE (R156). -/
def execAnalogSample (t : Nat) (mvs : List Nat) (s : State) : Host.Outcome State Fault Refusal :=
  .next (settle (let s := advance t s; if isOn s .ana then anSamples 0 (mvs.take 8) s else s))

/-- KEY_SCAN (R160). -/
def execKeyScan (t : Nat) (rows : List Nat) (idle : Nat) (s : State) : Host.Outcome State Fault Refusal :=
  .next (settle (let s := advance t s; if matrixScans s then scanMatrix rows idle s else s))

/-- A key held beyond its stuck time (R164): its Notice, once until it reads open. -/
def keyStuckStep (n : Nat) (s : State) : State :=
  let k := getKey s n
  let us := k.heldUs + (match s.scan.keyAt with
    | some t => s.now - t
    | none => 0)
  if (tw s).keys.stuckS != 0 && matrixScans s && k.pressed && !k.stuck && decide (sec (tw s).keys.stuckS < us) then
    issue 0x19 0x02 0 { s with scan := { s.scan with keys := modAt (fun k => { k with stuck := true }) n s.scan.keys } }
  else s

/-- KEY_STUCK_TIME (R164). -/
def execKeyStuckTime (t : Nat) (key : Nat) (s : State) : Host.Outcome State Fault Refusal :=
  .next (settle (keyStuckStep key (advance t s)))

/-- A row carries a key reported stuck (R163). -/
def rowStuck (s : State) (r : Nat) : Bool := (List.range 8).any (fun c => (getKey s (8 * r + c)).stuck)

/-- The any-key sense of PARKED (R163): a row low in two senses in a row wakes the device; a row with a stuck key is left out until it reads high. -/
def anyKeyStep (rows : Nat) (s : State) : State :=
  if (tw s).keys.scanned && s.mode.mode == .parked && domSt s .scan != .off then
    let s1 := { s with scan := { s.scan with keys := mapIdx (fun n k => { k with stuck := k.stuck && tbit rows (n / 8) }) 0 s.scan.keys } }
    let low := (List.range 8).map (fun r => tbit rows r && !rowStuck s1 r)
    let hit := (List.range 8).any (fun r => low.getD r false && s.scan.senseLow.getD r false)
    let s2 := { s1 with scan := { s1.scan with senseLow := low } }
    if hit then wakeEvent 0x30 s2 else s2
  else s

/-- ANY_KEY_SENSE (R163). -/
def execAnyKeySense (t : Nat) (rows : Nat) (s : State) : Host.Outcome State Fault Refusal :=
  .next (settle (anyKeyStep rows (advance t s)))

/-- RAIN_MEASUREMENT (R174). -/
def execRainMeasurement (t : Nat) (s0 : Nat) (ok0 : Bool) (s1 : Nat) (ok1 : Bool) (s : State) : Host.Outcome State Fault Refusal :=
  .next (settle (let s := advance t s
    if isOn s .ana then rainBurst (if ok0 then some (min 65535 s0) else none) (if ok1 then some (min 65535 s1) else none) s else s))

/-- The intensity falls by one after 2 s below the falling threshold, and its clock runs on for the next step (R175). -/
def intensityFallStep (s : State) : State :=
  match s.rls.fallAt, screenCfg s with
  | some t, some c =>
    if t + sec 2 ≤ s.now ∧ s.rls.intensity ≠ 0 ∧ !s.rls.failed then
      let n := s.rls.intensity - 1
      let again := n != 0 && !reaches (meanCover s.rls.cover) (c.thr.getD (n - 1) 0 - c.hyst) s.outs.wiper.sens
      setIntensity n (modRls (fun r => { r with fallAt := if again then some s.now else none }) s)
    else s
  | _, _ => s

/-- INTENSITY_FALL (R175). -/
def execIntensityFall (t : Nat) (s : State) : Host.Outcome State Fault Refusal :=
  .next (settle (intensityFallStep (advance t s)))

/-- Both channels failed for 10 s (R177): the Notice, and FALLBACK until a valid measurement. -/
def rainFailedStep (s : State) : State :=
  match s.rls.failAt with
  | some t =>
    if t + sec 10 ≤ s.now ∧ !s.rls.failed then
      let s1 := issue 0x1A 0x01 0 (modRls (fun r => { r with failed := true, fallAt := none }) s)
      if s1.rls.removed then s1 else setIntensity ((screenCfg s1).getD {}).fallback s1
    else s
  | none => s

/-- RAIN_SENSING_FAILED (R177). -/
def execRainSensingFailed (t : Nat) (s : State) : Host.Outcome State Fault Refusal :=
  .next (settle (rainFailedStep (advance t s)))

/-- ALS_SAMPLE (R171, R180). -/
def execAlsSample (t : Nat) (raw0 : Nat) (ok0 : Bool) (raw1 : Nat) (ok1 : Bool) (s : State) : Host.Outcome State Fault Refusal :=
  .next (settle (let s := advance t s; if isOn s .ana then alsTake raw0 ok0 raw1 ok1 s else s))

/-- LIGHT_STATE_DELAY_EXPIRY (R180). -/
def execLightStateDelayExpiry (t : Nat) (s : State) : Host.Outcome State Fault Refusal :=
  .next (settle (lightEval (advance t s)))

/-- A sensor out of range for 1 s is failed (R171). -/
def alsFailedStep (ch : Nat) (s : State) : State :=
  let bad := if ch == 0 then s.rls.alsBad0 else s.rls.alsBad1
  match bad with
  | some t => if t + sec 1 ≤ s.now then lightEval (modRls (fun r => if ch == 0 then { r with alsFail0 := true } else { r with alsFail1 := true }) s) else s
  | none => s

/-- ALS_FAILED (R171). -/
def execAlsFailed (t : Nat) (ch : Nat) (s : State) : Host.Outcome State Fault Refusal :=
  .next (settle (alsFailedStep ch (advance t s)))

/-- The rain light comes into force 10 s after the threshold, and ends after the light delay below it (R182). -/
def rainLightStep (s : State) : State :=
  let up := match s.rls.rlUp with
    | some t => decide (t + sec 10 ≤ s.now)
    | none => false
  let down := match s.rls.rlDown with
    | some t => decide (t + sec ((tw s).light.getD {}).lightS ≤ s.now)
    | none => false
  if up && !s.rls.rainLight then refreshLamps (modRls (fun r => { r with rainLight := true }) s)
  else if down && s.rls.rainLight then refreshLamps (modRls (fun r => { r with rainLight := false }) s)
  else s

/-- RAIN_LIGHT (R182). -/
def execRainLight (t : Nat) (s : State) : Host.Outcome State Fault Refusal :=
  .next (settle (rainLightStep (advance t s)))

/-- MOUNT_MEASUREMENT (R183). -/
def execMountMeasurement (t : Nat) (v : Nat) (s : State) : Host.Outcome State Fault Refusal :=
  .next (settle (let s := advance t s; if isOn s .ana then mountRead v (modRls (fun r => { r with msns := some v }) s) else s))

/-- An HTRIG edge that HTRIG enables: 1 rising, 2 falling, 3 both (R186, R190); with no effect armed it is ignored and counted. -/
def htrigStep (rising : Bool) (s : State) : State :=
  match (tw s).haptic with
  | none => s
  | some c =>
    if c.htrig == 3 || (c.htrig == 1 && rising) || (c.htrig == 2 && !rising) then
      if s.hap.armed == 0xFF then (if isOn s .ana && s.ao.grave.isNone then hapIgnored s else s)
      else hapTrigger 0 s.hap.armed c.htrigAmp s
    else s

/-- HTRIG_EDGE (R190). -/
def execHtrigEdge (t : Nat) (rising : Bool) (s : State) : Host.Outcome State Fault Refusal :=
  .next (settle (htrigStep rising (advance t s)))

/-- An effect's drive ends (R188, R203): the bridge is high-impedance for the back-EMF window of 1 ms, whose peak is `bemf`; its check and the brake follow at its end. -/
def effectEndStep (bemf : Nat) (s : State) : State :=
  match (tw s).haptic, s.hap.playing with
  | some c, some p =>
    let e := p.t0 + driveUs p.effect c.fRes
    if p.phase == .drive && decide (e ≤ s.now) then
      hapTick (modHap (fun h => { h with bridge := false, playing := some { p with phase := .bemf, windowAt := e + 1000, bemf := bemf } }) s)
    else s
  | _, _ => s

/-- EFFECT_END (R203). -/
def execEffectEnd (t : Nat) (bemf : Nat) (s : State) : Host.Outcome State Fault Refusal :=
  .next (settle (effectEndStep bemf (advance t s)))

/-- The brake ends, and the playing with it (R188). -/
def brakeEndStep (s0 : State) : State :=
  let s := hapTick s0
  match s.hap.playing with
  | some p => if p.phase == .brake && decide (p.brakeAt ≤ s.now) then hapEnd s else s
  | none => s

/-- EFFECT_BRAKE_END (R188). -/
def execEffectBrakeEnd (t : Nat) (s : State) : Host.Outcome State Fault Refusal :=
  .next (settle (brakeEndStep (advance t s)))

/-- An effect reaches 60 ms from its first drive (R189). -/
def timeLimitStep (s : State) : State :=
  match s.hap.playing with
  | some p => if p.t0 + ms 60 ≤ s.now then hapEnd s else s
  | none => s

/-- EFFECT_TIME_LIMIT (R189). -/
def execEffectTimeLimit (t : Nat) (s : State) : Host.Outcome State Fault Refusal :=
  .next (settle (timeLimitStep (advance t s)))

/-- I2T_UPDATE (R197). -/
def execI2tUpdate (t : Nat) (ma : Nat) (s : State) : Host.Outcome State Fault Refusal :=
  .next (settle (let s := advance t s; if isOn s .ana then i2tUpdate ma s else s))

/-- A resistance measurement begins (R201, R565): with a haptic record, ANA ON, no effect playing, and 1 s after the last; the bridge drives the test current for 500 µs, at whose end the result is taken. -/
def resistanceStep (mv ua : Nat) (s0 : State) : State :=
  let s := hapTick s0
  let free := match s.hap.testAt with
    | some t => decide (t + sec 1 ≤ s.now)
    | none => true
  if (tw s).haptic.isSome && isOn s .ana && s.hap.playing.isNone && s.hap.testing.isNone && s.ao.grave.isNone && free then
    modHap (fun h => { h with bridge := true, testing := some (s.now + 500, resistance mv ua), testAt := some s.now }) s
  else s

/-- RESISTANCE_CHECK (R201). -/
def execResistanceCheck (t : Nat) (mv : Nat) (ua : Nat) (s : State) : Host.Outcome State Fault Refusal :=
  .next (settle (resistanceStep mv ua (advance t s)))

/-- V_bat falls under 5.0 V (R198): a playing effect stops with no brake. -/
def hapticLowStep (mv : Nat) (s : State) : State :=
  let s1 := setVbat mv s
  if mv < 5000 ∧ s1.hap.playing.isSome then hapEnd s1 else s1

/-- HAPTIC_UNDERVOLTAGE (R198). -/
def execHapticUndervoltage (t : Nat) (mv : Nat) (s : State) : Host.Outcome State Fault Refusal :=
  .next (settle (hapticLowStep mv (advance t s)))

end Sys2Proof.Machine
end

