-- ==== Sys2Proof/Machine/LifeOps.lean ====
section
/-! DEFINITION. The life clock's second, wear, and the timed NVM work (R452, R479 to R489, 16_persistent.md; R510, 17_images.md). -/

namespace Sys2Proof.Machine

/-- The RTC's next second under its trim (R81, R488): a whole second gathered by the trim is added or left out. -/
def rtcSecond (a : Ao) : Ao :=
  let acc := a.trimAcc + a.trim
  if 10000000 ≤ acc then { a with rtc := (a.rtc + 2) % 4294967296, trimAcc := acc - 10000000 }
  else if acc ≤ -10000000 then { a with trimAcc := acc + 10000000 }
  else { a with rtc := (a.rtc + 1) % 4294967296, trimAcc := acc }

/-- The life clock and the RTC advance by one second (R487, R488). -/
def clockSecond (s : State) : State :=
  let a : Ao := { s.ao with life := min 0xFFFFFFFF (s.ao.life + 1) }
  { s with ao := if a.rtcSet then rtcSecond a else a }

/-- The mean shunt voltage in µV that ISNS gave for a gate driver's pair in this second (R116, R489). -/
def meanShunt (s : State) (o : Nat) : Int :=
  let e := s.outs.shunts.getD ((o - 52) / 2) (0, 0)
  if e.2 == 0 then 0 else e.1 / e.2

/-- The wear of one driven second in 1/1024 s (R489): 0 for a channel without a wear model. -/
def wearUnits (s : State) (o : Nat) : Nat :=
  let c := getChan s o
  let cfg := chanCfg s o
  if motorChannel s o then
    if groupOf o == .gd then Config.motorWear (meanShunt s o) else 1024
  else if cfg.k == 2 then Config.powScaled (getDie s (dieOf o)).vbat (cfg.vref * 100) c.drive.duty
  else if cfg.k == 1 then c.drive.duty * 1024 / 10000
  else 0

/-- Prognostics of a channel advance: always with ISMODE low, and with ISMODE high while the host selects it (R116). -/
def prognosed (s : State) (o : Nat) : Bool :=
  !s.outs.isMode || (hasSense o && s.env.isel == o) || (groupOf o == .gd && s.env.isel == 28 + (o - 52) / 2)

/-- One second of one channel: on-time and wear (R479, R489). -/
def chanSecond (s : State) (o : Nat) : State :=
  if (getChan s o).drive.mode == 0 then s
  else
    let s1 := bump 0x01 o 1 s
    if prognosed s1 o then let x := fracAdd o (wearUnits s1 o) s1; bump 0x04 o x.2 x.1 else s1

/-- A die's second at or above its governor threshold (class 0x50 indices 6 and 7). -/
def hotSecond (idx : Nat) (temp : Int) (thr : Nat) (s : State) : State := if (thr : Int) ≤ temp then bump 0x50 idx 1 s else s

/-- An actuator's run second (class 0x41). -/
def actSecond (s : State) (n : Nat) : State :=
  if (getAct s n).state == 1 || (getAct s n).state == 2 || (getAct s n).learn != 0 then bump 0x41 n 1 s else s

/-- The wiper motor's run second (class 0x40 index 3). -/
def wiperSecond (s : State) : State := if s.outs.wiper.duty != 0 then bump 0x40 3 1 s else s

/-- A second of mode, and of RUN since Smisa's start (R479, R510). -/
def modeSecond (s : State) : State :=
  let s1 := bump 0x50 (modeCode s.mode.mode) 1 s
  if s.mode.mode == .run then { s1 with boot := { s1.boot with runSecs := s1.boot.runSecs + 1 } } else s1

/-- What Smisa counts each second while SVC is ON (R479). -/
def countSecond (s : State) : State :=
  let s0 := (List.range 56).foldl chanSecond s
  let s1 := modeSecond { s0 with outs := { s0.outs with shunts := [(0, 0), (0, 0)] } }
  let s2 := hotSecond 7 (s1.env.temps.getD 2 0) (tw s1).power.govB (hotSecond 6 (s1.env.temps.getD 1 0) (tw s1).power.govA s1)
  let s3 := [0, 1, 2, 3].foldl actSecond (wiperSecond s2)
  if 18000 < s3.env.vbat then bump 0x50 10 1 s3 else s3

/-- LIFE_CLOCK_SECOND (R487): AO counts in every mode; Smisa counts while it runs. -/
def lifeSecondStep (s : State) : State :=
  let s1 := clockSecond s
  if smisaRuns s1 then countSecond s1 else s1

/-- JOURNAL_FLUSH (R481): every 600 s of life clock while SVC is ON. -/
def journalStep (s : State) : State :=
  if smisaRuns s && decide (s.nvm.lastFlush + 600 ≤ s.ao.life) then flushLife false s else s

/-- A page whose former physical page is due for its erase (R452). -/
def eraseFormer (now : Nat) (p : APage) : APage := match p.eraseAt with
  | some t => if t ≤ now then { p with eraseAt := none } else p
  | none => p

/-- FORMER_PAGE_ERASE (R452): within 1 s of a write the former page is erased. -/
def formerEraseStep (s : State) : State :=
  if isOn s .nvm then
    { s with nvm := { s.nvm with didPages := s.nvm.didPages.map (eraseFormer s.now), atomic := s.nvm.atomic.map (fun l => l.map (eraseFormer s.now)) } }
  else s

end Sys2Proof.Machine
end

