-- ==== Sys2Proof/Machine/CmdLife.lean ====
section
/-! DEFINITION. Events of the life clock, the journal and configuration staging (16_persistent.md; R95, 03_commands.md). -/

namespace Sys2Proof.Machine

/-- LIFE_CLOCK_SECOND (R489). -/
def execLifeClockSecond (t : Nat) (s : State) : Host.Outcome State Fault Refusal :=
  .next (settle (lifeSecondStep (advance t s)))

/-- JOURNAL_FLUSH (R481). -/
def execJournalFlush (t : Nat) (s : State) : Host.Outcome State Fault Refusal :=
  .next (settle (journalStep (advance t s)))

/-- FORMER_PAGE_ERASE (R452). -/
def execFormerPageErase (t : Nat) (s : State) : Host.Outcome State Fault Refusal :=
  .next (settle (formerEraseStep (advance t s)))

/-- CFG_STAGING_IDLE (R95). -/
def execCfgStagingIdle (t : Nat) (s : State) : Host.Outcome State Fault Refusal :=
  .next (settle (stagingIdleStep (advance t s)))

end Sys2Proof.Machine
end

