-- ==== Sys2Proof/Machine/CmdMbx1.lean ====
section
/-! DEFINITION. Mailbox commands of the groups SYS, MODE, PWR as requests from step 5 of R51 on (02_mailboxes.md, 03_commands.md). -/

namespace Sys2Proof.Machine

/-- SYS_INFO (R68). -/
def execSysInfo (r : Req) (s : State) : Host.Outcome State Fault Refusal :=
  .next (settle (requestAt 0x0101 r s))

/-- SYS_STATUS (R68). -/
def execSysStatus (r : Req) (s : State) : Host.Outcome State Fault Refusal :=
  .next (settle (requestAt 0x0102 r s))

/-- SYS_RESET (R80). -/
def execSysReset (r : Req) (s : State) : Host.Outcome State Fault Refusal :=
  .next (settle (requestAt 0x0103 r s))

/-- SYS_GETTIME (R68). -/
def execSysGettime (r : Req) (s : State) : Host.Outcome State Fault Refusal :=
  .next (settle (requestAt 0x0104 r s))

/-- SYS_SETTIME (R81). -/
def execSysSettime (r : Req) (s : State) : Host.Outcome State Fault Refusal :=
  .next (settle (requestAt 0x0105 r s))

/-- SYS_RESETLOG (R440). -/
def execSysResetlog (r : Req) (s : State) : Host.Outcome State Fault Refusal :=
  .next (settle (requestAt 0x0106 r s))

/-- SYS_WAKE (R410). -/
def execSysWake (r : Req) (s : State) : Host.Outcome State Fault Refusal :=
  .next (settle (requestAt 0x0107 r s))

/-- MODE_GET (R68). -/
def execModeGet (r : Req) (s : State) : Host.Outcome State Fault Refusal :=
  .next (settle (requestAt 0x0201 r s))

/-- MODE_SET (R82). -/
def execModeSet (r : Req) (s : State) : Host.Outcome State Fault Refusal :=
  .next (settle (requestAt 0x0202 r s))

/-- MODE_HOLD (R83). -/
def execModeHold (r : Req) (s : State) : Host.Outcome State Fault Refusal :=
  .next (settle (requestAt 0x0203 r s))

/-- PWR_GET (R68). -/
def execPwrGet (r : Req) (s : State) : Host.Outcome State Fault Refusal :=
  .next (settle (requestAt 0x0301 r s))

/-- PWR_SET (R402). -/
def execPwrSet (r : Req) (s : State) : Host.Outcome State Fault Refusal :=
  .next (settle (requestAt 0x0302 r s))

/-- PWR_REFUSALS (R405). -/
def execPwrRefusals (r : Req) (s : State) : Host.Outcome State Fault Refusal :=
  .next (settle (requestAt 0x0303 r s))

end Sys2Proof.Machine
end

