-- ==== Sys2Proof/Machine/CmdMbx2.lean ====
section
/-! DEFINITION. Mailbox commands of the groups OUT, LAMP, WIPE, MOTN, HAP, IN, KEY, RLS, STN, BUS as requests from step 5 of R51 on (02_mailboxes.md, 03_commands.md). -/

namespace Sys2Proof.Machine

/-- OUT_GET (R85). -/
def execOutGet (r : Req) (s : State) : Host.Outcome State Fault Refusal :=
  .next (settle (requestAt 0x1001 r s))

/-- OUT_SET (R86). -/
def execOutSet (r : Req) (s : State) : Host.Outcome State Fault Refusal :=
  .next (settle (requestAt 0x1002 r s))

/-- OUT_CLAIM (R74). -/
def execOutClaim (r : Req) (s : State) : Host.Outcome State Fault Refusal :=
  .next (settle (requestAt 0x1003 r s))

/-- OUT_RELEASE (R596). -/
def execOutRelease (r : Req) (s : State) : Host.Outcome State Fault Refusal :=
  .next (settle (requestAt 0x1004 r s))

/-- OUT_KEEP (R76). -/
def execOutKeep (r : Req) (s : State) : Host.Outcome State Fault Refusal :=
  .next (settle (requestAt 0x1005 r s))

/-- OUT_CLEAR (R86). -/
def execOutClear (r : Req) (s : State) : Host.Outcome State Fault Refusal :=
  .next (settle (requestAt 0x1006 r s))

/-- OUT_OWNERS (R68). -/
def execOutOwners (r : Req) (s : State) : Host.Outcome State Fault Refusal :=
  .next (settle (requestAt 0x1007 r s))

/-- OUT_STNOWNERS (R87). -/
def execOutStnowners (r : Req) (s : State) : Host.Outcome State Fault Refusal :=
  .next (settle (requestAt 0x1008 r s))

/-- LAMP_GET (R597). -/
def execLampGet (r : Req) (s : State) : Host.Outcome State Fault Refusal :=
  .next (settle (requestAt 0x1101 r s))

/-- LAMP_SET (R137). -/
def execLampSet (r : Req) (s : State) : Host.Outcome State Fault Refusal :=
  .next (settle (requestAt 0x1102 r s))

/-- LAMP_SCENE (R137). -/
def execLampScene (r : Req) (s : State) : Host.Outcome State Fault Refusal :=
  .next (settle (requestAt 0x1103 r s))

/-- WIPE_GET (R68). -/
def execWipeGet (r : Req) (s : State) : Host.Outcome State Fault Refusal :=
  .next (settle (requestAt 0x1201 r s))

/-- WIPE_SET (R134). -/
def execWipeSet (r : Req) (s : State) : Host.Outcome State Fault Refusal :=
  .next (settle (requestAt 0x1202 r s))

/-- WIPE_WASH (R136). -/
def execWipeWash (r : Req) (s : State) : Host.Outcome State Fault Refusal :=
  .next (settle (requestAt 0x1203 r s))

/-- MOTN_GET (R68). -/
def execMotnGet (r : Req) (s : State) : Host.Outcome State Fault Refusal :=
  .next (settle (requestAt 0x1301 r s))

/-- MOTN_MOVE (R141). -/
def execMotnMove (r : Req) (s : State) : Host.Outcome State Fault Refusal :=
  .next (settle (requestAt 0x1302 r s))

/-- MOTN_STOP (R68). -/
def execMotnStop (r : Req) (s : State) : Host.Outcome State Fault Refusal :=
  .next (settle (requestAt 0x1303 r s))

/-- MOTN_LEARN (R140). -/
def execMotnLearn (r : Req) (s : State) : Host.Outcome State Fault Refusal :=
  .next (settle (requestAt 0x1304 r s))

/-- HAP_PLAY (R193). -/
def execHapPlay (r : Req) (s : State) : Host.Outcome State Fault Refusal :=
  .next (settle (requestAt 0x1B01 r s))

/-- HAP_ARM (R191). -/
def execHapArm (r : Req) (s : State) : Host.Outcome State Fault Refusal :=
  .next (settle (requestAt 0x1B02 r s))

/-- HAP_GET (R196). -/
def execHapGet (r : Req) (s : State) : Host.Outcome State Fault Refusal :=
  .next (settle (requestAt 0x1B03 r s))

/-- IN_GET (R153). -/
def execInGet (r : Req) (s : State) : Host.Outcome State Fault Refusal :=
  .next (settle (requestAt 0x1801 r s))

/-- IN_WATCH (R149). -/
def execInWatch (r : Req) (s : State) : Host.Outcome State Fault Refusal :=
  .next (settle (requestAt 0x1802 r s))

/-- KEY_GET (R161). -/
def execKeyGet (r : Req) (s : State) : Host.Outcome State Fault Refusal :=
  .next (settle (requestAt 0x1901 r s))

/-- RLS_GET (R184). -/
def execRlsGet (r : Req) (s : State) : Host.Outcome State Fault Refusal :=
  .next (settle (requestAt 0x1A01 r s))

/-- RLS_CAL (R173). -/
def execRlsCal (r : Req) (m : CalMeas) (s : State) : Host.Outcome State Fault Refusal :=
  .next (settle (requestAt 0x1A02 r { s with env := { s.env with cal := m } }))

/-- STN_LIST (R68). -/
def execStnList (r : Req) (s : State) : Host.Outcome State Fault Refusal :=
  .next (settle (requestAt 0x2001 r s))

/-- STN_GET (R224). -/
def execStnGet (r : Req) (s : State) : Host.Outcome State Fault Refusal :=
  .next (settle (requestAt 0x2002 r s))

/-- STN_WRITE (R91). -/
def execStnWrite (r : Req) (s : State) : Host.Outcome State Fault Refusal :=
  .next (settle (requestAt 0x2003 r s))

/-- STN_CYCLE (R219). -/
def execStnCycle (r : Req) (s : State) : Host.Outcome State Fault Refusal :=
  .next (settle (requestAt 0x2004 r s))

/-- BUS_GET (R243). -/
def execBusGet (r : Req) (s : State) : Host.Outcome State Fault Refusal :=
  .next (settle (requestAt 0x2101 r s))

/-- BUS_ROUTE (R254). -/
def execBusRoute (r : Req) (s : State) : Host.Outcome State Fault Refusal :=
  .next (settle (requestAt 0x2102 r s))

/-- BUS_SEND (R92). -/
def execBusSend (r : Req) (s : State) : Host.Outcome State Fault Refusal :=
  .next (settle (requestAt 0x2103 r s))

/-- BUS_LINSCHED (R248). -/
def execBusLinsched (r : Req) (s : State) : Host.Outcome State Fault Refusal :=
  .next (settle (requestAt 0x2104 r s))

end Sys2Proof.Machine
end

