-- ==== Sys2Proof/Machine/CmdMbx3.lean ====
section
/-! DEFINITION. Mailbox commands of the groups TAG, INS, ENC, TMP as requests from step 5 of R51 on (02_mailboxes.md, 03_commands.md). -/

namespace Sys2Proof.Machine

/-- TAG_GET (R264). -/
def execTagGet (r : Req) (s : State) : Host.Outcome State Fault Refusal :=
  .next (settle (requestAt 0x3001 r s))

/-- TAG_ENABLE (R263). -/
def execTagEnable (r : Req) (s : State) : Host.Outcome State Fault Refusal :=
  .next (settle (requestAt 0x3002 r s))

/-- TAG_TXNLOG (R286). -/
def execTagTxnlog (r : Req) (s : State) : Host.Outcome State Fault Refusal :=
  .next (settle (requestAt 0x3003 r s))

/-- INS_GET (R280). -/
def execInsGet (r : Req) (s : State) : Host.Outcome State Fault Refusal :=
  .next (settle (requestAt 0x3101 r s))

/-- INS_APDU (R92). -/
def execInsApdu (r : Req) (s : State) : Host.Outcome State Fault Refusal :=
  .next (settle (requestAt 0x3102 r s))

/-- ENC_CERT (R298). -/
def execEncCert (r : Req) (s : State) : Host.Outcome State Fault Refusal :=
  .next (settle (requestAt 0x3201 r s))

/-- ENC_OPEN (R313). -/
def execEncOpen (r : Req) (s : State) : Host.Outcome State Fault Refusal :=
  .next (settle (requestAt 0x3202 r s))

/-- ENC_PROVE (R315). -/
def execEncProve (r : Req) (s : State) : Host.Outcome State Fault Refusal :=
  .next (settle (requestAt 0x3203 r s))

/-- ENC_CLOSE (R93). -/
def execEncClose (r : Req) (s : State) : Host.Outcome State Fault Refusal :=
  .next (settle (requestAt 0x3204 r s))

/-- ENC_ATTEST (R300). -/
def execEncAttest (r : Req) (s : State) : Host.Outcome State Fault Refusal :=
  .next (settle (requestAt 0x3205 r s))

/-- ENC_KEYUPD (R307). -/
def execEncKeyupd (r : Req) (run : KeyRun) (s : State) : Host.Outcome State Fault Refusal :=
  .next (settle (requestAt 0x3206 r { s with env := { s.env with keyRun := run } }))

/-- ENC_KEYINFO (R304). -/
def execEncKeyinfo (r : Req) (s : State) : Host.Outcome State Fault Refusal :=
  .next (settle (requestAt 0x3207 r s))

/-- ENC_COUNTER (R312). -/
def execEncCounter (r : Req) (s : State) : Host.Outcome State Fault Refusal :=
  .next (settle (requestAt 0x3208 r s))

/-- TMP_FLAGS (R336). -/
def execTmpFlags (r : Req) (s : State) : Host.Outcome State Fault Refusal :=
  .next (settle (requestAt 0x3301 r s))

/-- TMP_LOG (R342). -/
def execTmpLog (r : Req) (s : State) : Host.Outcome State Fault Refusal :=
  .next (settle (requestAt 0x3302 r s))

/-- TMP_EXPORT (R344). -/
def execTmpExport (r : Req) (s : State) : Host.Outcome State Fault Refusal :=
  .next (settle (requestAt 0x3303 r s))

/-- TMP_TEST (R345). -/
def execTmpTest (r : Req) (found : Nat) (s : State) : Host.Outcome State Fault Refusal :=
  .next (settle (requestAt 0x3304 r { s with env := { s.env with found := found } }))

end Sys2Proof.Machine
end

