-- ==== Sys2Proof/Machine/CmdMbx4.lean ====
section
/-! DEFINITION. Mailbox commands of the groups FLT, TDX, CFG, LIFE, UPD, EXT, DIAG as requests from step 5 of R51 on (02_mailboxes.md, 03_commands.md). -/

namespace Sys2Proof.Machine

/-- FLT_READ (R358). -/
def execFltRead (r : Req) (s : State) : Host.Outcome State Fault Refusal :=
  .next (settle (requestAt 0x4001 r s))

/-- FLT_COUNTERS (R362). -/
def execFltCounters (r : Req) (s : State) : Host.Outcome State Fault Refusal :=
  .next (settle (requestAt 0x4002 r s))

/-- FLT_CLEAR (R364). -/
def execFltClear (r : Req) (s : State) : Host.Outcome State Fault Refusal :=
  .next (settle (requestAt 0x4003 r s))

/-- TDX_STATUS (R388). -/
def execTdxStatus (r : Req) (s : State) : Host.Outcome State Fault Refusal :=
  .next (settle (requestAt 0x4101 r s))

/-- CFG_INFO (R477). -/
def execCfgInfo (r : Req) (s : State) : Host.Outcome State Fault Refusal :=
  .next (settle (requestAt 0x5001 r s))

/-- CFG_BEGIN (R95). -/
def execCfgBegin (r : Req) (s : State) : Host.Outcome State Fault Refusal :=
  .next (settle (requestAt 0x5002 r s))

/-- CFG_DATA (R95). -/
def execCfgData (r : Req) (s : State) : Host.Outcome State Fault Refusal :=
  .next (settle (requestAt 0x5003 r s))

/-- CFG_COMMIT (R474). -/
def execCfgCommit (r : Req) (runs : Bool) (s : State) : Host.Outcome State Fault Refusal :=
  .next (settle (requestAt 0x5004 r { s with env := { s.env with commitRuns := runs } }))

/-- CFG_READ (R477). -/
def execCfgRead (r : Req) (s : State) : Host.Outcome State Fault Refusal :=
  .next (settle (requestAt 0x5005 r s))

/-- CFG_ABORT (R95). -/
def execCfgAbort (r : Req) (s : State) : Host.Outcome State Fault Refusal :=
  .next (settle (requestAt 0x5006 r s))

/-- LIFE_CLOCK (R487). -/
def execLifeClock (r : Req) (s : State) : Host.Outcome State Fault Refusal :=
  .next (settle (requestAt 0x5101 r s))

/-- LIFE_COUNTER (R479). -/
def execLifeCounter (r : Req) (s : State) : Host.Outcome State Fault Refusal :=
  .next (settle (requestAt 0x5102 r s))

/-- LIFE_NOTICES (R490). -/
def execLifeNotices (r : Req) (s : State) : Host.Outcome State Fault Refusal :=
  .next (settle (requestAt 0x5103 r s))

/-- LIFE_ACK (R491). -/
def execLifeAck (r : Req) (s : State) : Host.Outcome State Fault Refusal :=
  .next (settle (requestAt 0x5104 r s))

/-- UPD_INFO (R513). -/
def execUpdInfo (r : Req) (s : State) : Host.Outcome State Fault Refusal :=
  .next (settle (requestAt 0x6001 r s))

/-- UPD_WRITE (R96). -/
def execUpdWrite (r : Req) (s : State) : Host.Outcome State Fault Refusal :=
  .next (settle (requestAt 0x6002 r s))

/-- UPD_STAGE (R502). -/
def execUpdStage (r : Req) (s : State) : Host.Outcome State Fault Refusal :=
  .next (settle (requestAt 0x6003 r s))

/-- UPD_ACTIVATE (R503). -/
def execUpdActivate (r : Req) (s : State) : Host.Outcome State Fault Refusal :=
  .next (settle (requestAt 0x6004 r s))

/-- UPD_CONFIRM (R509). -/
def execUpdConfirm (r : Req) (runs : Bool) (s : State) : Host.Outcome State Fault Refusal :=
  .next (settle (requestAt 0x6005 r { s with env := { s.env with raiseRuns := runs } }))

/-- EXT_INFO (R68). -/
def execExtInfo (r : Req) (s : State) : Host.Outcome State Fault Refusal :=
  .next (settle (requestAt 0x6101 r s))

/-- EXT_CTRL (R548). -/
def execExtCtrl (r : Req) (s : State) : Host.Outcome State Fault Refusal :=
  .next (settle (requestAt 0x6102 r s))

/-- EXT_MSG (R97). -/
def execExtMsg (r : Req) (s : State) : Host.Outcome State Fault Refusal :=
  .next (settle (requestAt 0x6103 r s))

/-- DIAG_REQ (R102). -/
def execDiagReq (r : Req) (s : State) : Host.Outcome State Fault Refusal :=
  .next (settle (requestAt 0x7001 r s))

end Sys2Proof.Machine
end

