-- ==== Sys2Proof/Machine/CmdMem.lean ====
section
/-! DEFINITION. Loads, stores and SWAP (R530, R531; 18_core.md). -/

namespace Sys2Proof.Machine

/-- The stores of the running window dropped (R383). -/
def dropWindowStores (s : State) : State :=
  let keep := heldClosed s.core.tdx
  if s.core.tdx.open_ then { s with core := { s.core with tdx := { s.core.tdx with buffer := s.core.tdx.buffer.take keep, open_ := false, count := 0, misr := 0, shadow := 0, bad := false, check := none } } } else s

/-- What the ECC finds at a load or its fetch (R351, R383): a corrected error issues SRC_MEM CORRECTED with the byte address and the load goes on; an uncorrectable one issues its Severe message, drops the window's held stores and leaves the instruction uncompleted. -/
def withEcc (ecc : Ecc) (ea : Word) (f : State → CoreRes) (s : State) : CoreRes :=
  match ecc with
  | .clean => f s
  | .corrected => match f s with
    | .ok (s1, v, a) => .ok (issue 0x04 0x01 ea.toNat s1, v, a)
    | .error e => .error e
  | .uncorrected => match f s with
    | .ok _ => .ok (issue 0x04 0x02 ea.toNat (dropWindowStores s), 0, 0)
    | .error e => .error e
  | .fetchUncorr => .ok (issue 0x05 0x02 s.core.r.pc.toNat (dropWindowStores s), 0, 0)

/-- SWAP's memory access: atomic, uncached, under TDX in a window of its own (R378, R530, R531). -/
def swapMem (rd ra : BitVec 5) (imm : BitVec 16) (s : State) : CoreRes :=
  if regOk rd && regOk ra then
    let ea := effAddr s.core.r ra imm
    if ea.toNat % 4 != 0 then .error (0x05, ea)
    else if !mpuSpan s.core s.core.r.psr.u 1 ea.toNat 4 then .error (0x03, ea)
    else if !mpuSpan s.core s.core.r.psr.u 2 ea.toNat 4 then .error (0x04, ea)
    else
      let old := readReg s.core.r rd
      let go := fun (u : State) =>
        let v := BitVec.ofNat 32 (leNat (loadBytes u ea.toNat 4))
        (.ok (nextPc (modRegs (fun r => writeReg r rd v) (storeMem ea.toNat (le 4 old.toNat) u)), v, ea) : CoreRes)
      if s.core.r.psr.tdx then ownWindow old ea go s else go (closeWindow s)
  else .error (0x01, 0)

/-- LW: rd = mem32[ra + sext(imm16)], with what the ECC finds (R530, R351, R383). -/
def execLw (rd : BitVec 5) (ra : BitVec 5) (imm : BitVec 16) (ecc : Ecc) (s : State) : Host.Outcome State Fault Refusal :=
  .next (settle (coreWith (shAccess ra imm) (withEcc ecc (effAddr s.core.r ra imm) (loadWith 4 rd ra imm (fun b => BitVec.ofNat 32 (leNat b)))) s))

/-- LH: sign-extended halfword (R530). -/
def execLh (rd : BitVec 5) (ra : BitVec 5) (imm : BitVec 16) (s : State) : Host.Outcome State Fault Refusal :=
  .next (settle (coreLoad 2 rd ra imm (fun b => (BitVec.ofNat 16 (leNat b)).signExtend 32) s))

/-- LHU: zero-extended halfword (R530). -/
def execLhu (rd : BitVec 5) (ra : BitVec 5) (imm : BitVec 16) (s : State) : Host.Outcome State Fault Refusal :=
  .next (settle (coreLoad 2 rd ra imm (fun b => BitVec.ofNat 32 (leNat b)) s))

/-- LB: sign-extended byte (R530). -/
def execLb (rd : BitVec 5) (ra : BitVec 5) (imm : BitVec 16) (s : State) : Host.Outcome State Fault Refusal :=
  .next (settle (coreLoad 1 rd ra imm (fun b => (BitVec.ofNat 8 (leNat b)).signExtend 32) s))

/-- LBU: zero-extended byte (R530). -/
def execLbu (rd : BitVec 5) (ra : BitVec 5) (imm : BitVec 16) (s : State) : Host.Outcome State Fault Refusal :=
  .next (settle (coreLoad 1 rd ra imm (fun b => BitVec.ofNat 32 (leNat b)) s))

/-- SW: mem32 = rd (R530). -/
def execSw (rd : BitVec 5) (ra : BitVec 5) (imm : BitVec 16) (s : State) : Host.Outcome State Fault Refusal :=
  .next (settle (coreStore 4 (regOk rd) ra imm (fun r => le 4 (readReg r rd).toNat) s))

/-- SH: mem16 = low bits of rd (R530). -/
def execSh (rd : BitVec 5) (ra : BitVec 5) (imm : BitVec 16) (s : State) : Host.Outcome State Fault Refusal :=
  .next (settle (coreStore 2 (regOk rd) ra imm (fun r => le 2 (readReg r rd).toNat) s))

/-- SB: mem8 = low bits of rd (R530). -/
def execSb (rd : BitVec 5) (ra : BitVec 5) (imm : BitVec 16) (s : State) : Host.Outcome State Fault Refusal :=
  .next (settle (coreStore 1 (regOk rd) ra imm (fun r => le 1 (readReg r rd).toNat) s))

/-- SWAP: atomically rd = mem32 and mem32 = old rd, as an uncached access (R530, R531, R378). -/
def execSwap (rd : BitVec 5) (ra : BitVec 5) (imm : BitVec 16) (s : State) : Host.Outcome State Fault Refusal :=
  .next (settle (coreStep (swapMem rd ra imm) s))

end Sys2Proof.Machine
end

