-- ==== Sys2Proof/Machine/CmdMill.lean ====
section
/-! DEFINITION. Events of the Millrace station network (07_millrace.md). -/

namespace Sys2Proof.Machine

/-- CYCLE_INSTANT (R214). -/
def execCycleInstant (t : Nat) (port : Nat) (s : State) : Host.Outcome State Fault Refusal :=
  .next (settle (cycleInstantStep port (advance t s)))

/-- INPUT_FRAME (R215). -/
def execInputFrame (t : Nat) (f : InputFrame) (s : State) : Host.Outcome State Fault Refusal :=
  .next (settle (inputFrameStep f (advance t s)))

/-- INPUT_DEADLINE (R223). -/
def execInputDeadline (t : Nat) (port : Nat) (s : State) : Host.Outcome State Fault Refusal :=
  .next (settle (inputDeadlineStep port (advance t s)))

/-- COMPUTE_COMPLETE (R217). -/
def execComputeComplete (t : Nat) (port : Nat) (s : State) : Host.Outcome State Fault Refusal :=
  .next (settle (computeStep port (advance t s)))

/-- OUTPUTS_READY_DEADLINE (R217). -/
def execOutputsReadyDeadline (t : Nat) (port : Nat) (s : State) : Host.Outcome State Fault Refusal :=
  .next (settle (outputsReadyStep port (advance t s)))

/-- RESIDUAL_FRAME (R233). -/
def execResidualFrame (t : Nat) (port : Nat) (src : Nat) (millrace : Bool) (frame : Bytes) (s : State) : Host.Outcome State Fault Refusal :=
  .next (settle (residualFrameStep port src millrace frame (advance t s)))

/-- RESIDUAL_UPLINK_FRAME (R233). -/
def execResidualUplinkFrame (t : Nat) (dst : Nat) (vlan : Nat) (frame : Bytes) (s : State) : Host.Outcome State Fault Refusal :=
  .next (settle (residualUplinkStep dst vlan frame (advance t s)))

/-- RESIDUAL_WINDOW_OPEN (R233). -/
def execResidualWindowOpen (t : Nat) (port : Nat) (s : State) : Host.Outcome State Fault Refusal :=
  .next (settle (residualOpenStep port (advance t s)))

/-- ENGINE_START (R234). -/
def execEngineStart (t : Nat) (s : State) : Host.Outcome State Fault Refusal :=
  .next (settle (engineStartStep (advance t s)))

/-- KEY_LOAD_RETRY (R232). -/
def execKeyLoadRetry (t : Nat) (s : State) : Host.Outcome State Fault Refusal :=
  .next (settle (keyRetryStep (advance t s)))

/-- T1S_ENERGY_DETECT (R207). -/
def execT1sEnergyDetect (t : Nat) (port : Nat) (us : Nat) (s : State) : Host.Outcome State Fault Refusal :=
  .next (settle (energyStep port us (advance t s)))

end Sys2Proof.Machine
end

