-- ==== Sys2Proof/Machine/CmdOut.lean ====
section
/-! DEFINITION. Events of the output sequencers, the wiper and the motion service (04_outputs.md; R11, 01_system.md; R392, 14_power.md; R433, 15_clocks_resets.md; R351, 12_confluence.md). -/

namespace Sys2Proof.Machine

/-- LIMIT_HOLD_EXPIRY (R107). -/
def execLimitHoldExpiry (t : Nat) (obj : Nat) (onUs : Nat) (s : State) : Host.Outcome State Fault Refusal :=
  .next (settle (limitHoldStep obj onUs (advance t s)))

/-- OVERCURRENT_TRIP (R107). -/
def execOvercurrentTrip (t : Nat) (obj : Nat) (s : State) : Host.Outcome State Fault Refusal :=
  .next (settle (overcurrentStep obj (advance t s)))

/-- THERMAL_SHUTDOWN (R109). -/
def execThermalShutdown (t : Nat) (obj : Nat) (temp : Int) (s : State) : Host.Outcome State Fault Refusal :=
  .next (settle (thermalStep obj temp (advance t s)))

/-- BOOTSTRAP_UNDERVOLTAGE (R105). -/
def execBootstrapUndervoltage (t : Nat) (obj : Nat) (s : State) : Host.Outcome State Fault Refusal :=
  .next (settle (bootstrapStep obj (advance t s)))

/-- RESTART_INTERVAL_EXPIRY (R110). -/
def execRestartIntervalExpiry (t : Nat) (obj : Nat) (temp : Int) (s : State) : Host.Outcome State Fault Refusal :=
  .next (settle (restartStep obj temp (advance t s)))

/-- SENSOR_COOLED (R109). -/
def execSensorCooled (t : Nat) (obj : Nat) (temp : Int) (s : State) : Host.Outcome State Fault Refusal :=
  .next (settle (cooledStep obj temp (advance t s)))

/-- RESTART_COUNT_RESTORE (R111). -/
def execRestartCountRestore (t : Nat) (obj : Nat) (s : State) : Host.Outcome State Fault Refusal :=
  .next (settle (restoreStep obj (advance t s)))

/-- INRUSH_WINDOW_END (R108). -/
def execInrushWindowEnd (t : Nat) (obj : Nat) (s : State) : Host.Outcome State Fault Refusal :=
  .next (settle (inrushEndStep obj (advance t s)))

/-- PWM_PERIOD_START (R121). -/
def execPwmPeriodStart (t : Nat) (obj : Nat) (mv : Nat) (ripples : Nat) (s : State) : Host.Outcome State Fault Refusal :=
  .next (settle (pwmPeriodStep obj mv ripples (advance t s)))

/-- SENSE_SLOT (R115). -/
def execSenseSlot (t : Nat) (sel : Nat) (x : Int) (s : State) : Host.Outcome State Fault Refusal :=
  .next (settle (senseSlotStep sel x (advance t s)))

/-- OFF_STATE_CHECK (R117). -/
def execOffStateCheck (t : Nat) (obj : Nat) (mv : Nat) (pulled : Nat) (s : State) : Host.Outcome State Fault Refusal :=
  .next (settle (offStateStep obj mv pulled (advance t s)))

/-- ON_STATE_OPEN_LOAD (R119). -/
def execOnStateOpenLoad (t : Nat) (obj : Nat) (ma : Nat) (s : State) : Host.Outcome State Fault Refusal :=
  .next (settle (onStateStep obj ma (advance t s)))

/-- CRANK_THRESHOLD_CROSSING (R123). -/
def execCrankThresholdCrossing (t : Nat) (die : Die) (mv : Nat) (s : State) : Host.Outcome State Fault Refusal :=
  .next (settle (crankStep die mv (advance t s)))

/-- OVERVOLTAGE_OFF (R392). -/
def execOvervoltageOff (t : Nat) (die : Die) (mv : Nat) (s : State) : Host.Outcome State Fault Refusal :=
  .next (settle (overvoltageStep die mv (advance t s)))

/-- OVERVOLTAGE_RELEASE (R392). -/
def execOvervoltageRelease (t : Nat) (die : Die) (mv : Nat) (s : State) : Host.Outcome State Fault Refusal :=
  .next (settle (overvoltageEndStep die mv (advance t s)))

/-- GOVERNOR_EVALUATION (R125). -/
def execGovernorEvaluation (t : Nat) (die : Die) (temp : Int) (ma : List Nat) (s : State) : Host.Outcome State Fault Refusal :=
  .next (settle (governorStep die temp ma (advance t s)))

/-- LINK_LOSS (R11). -/
def execLinkLoss (t : Nat) (die : Die) (s : State) : Host.Outcome State Fault Refusal :=
  .next (settle (linkLossStep die (advance t s)))

/-- LINK_RETURN (R11). -/
def execLinkReturn (t : Nat) (die : Die) (s : State) : Host.Outcome State Fault Refusal :=
  .next (settle (linkReturnStep die (advance t s)))

/-- POWER_DIE_CLOCK_FAIL (R433). -/
def execPowerDieClockFail (t : Nat) (die : Die) (khz : Nat) (s : State) : Host.Outcome State Fault Refusal :=
  .next (settle (dieClockStep die khz (advance t s)))

/-- SENSOR_FAIL (R351). -/
def execSensorFail (t : Nat) (die : Die) (s : State) : Host.Outcome State Fault Refusal :=
  .next (settle (sensorFailStep die (advance t s)))

/-- SEQ_PARITY (R351). -/
def execSeqParity (t : Nat) (die : Die) (s : State) : Host.Outcome State Fault Refusal :=
  .next (settle (seqParityStep die (advance t s)))

/-- WIPER_PARKED (R135). -/
def execWiperParked (t : Nat) (s : State) : Host.Outcome State Fault Refusal :=
  .next (settle (wiperParkedStep (advance t s)))

/-- PARK_TIMEOUT (R135). -/
def execParkTimeout (t : Nat) (s : State) : Host.Outcome State Fault Refusal :=
  .next (settle (parkTimeoutStep (advance t s)))

/-- WIPER_STALL (R135). -/
def execWiperStall (t : Nat) (ma : Nat) (s : State) : Host.Outcome State Fault Refusal :=
  .next (settle (wiperStallStep ma (advance t s)))

/-- STALL_RETRY (R135). -/
def execStallRetry (t : Nat) (s : State) : Host.Outcome State Fault Refusal :=
  .next (settle (stallRetryStep (advance t s)))

/-- WIPE_INTERVAL_EXPIRY (R134). -/
def execWipeIntervalExpiry (t : Nat) (s : State) : Host.Outcome State Fault Refusal :=
  .next (settle (wipeIntervalStep (advance t s)))

/-- WASH_END (R136). -/
def execWashEnd (t : Nat) (s : State) : Host.Outcome State Fault Refusal :=
  .next (settle (washEndStep (advance t s)))

/-- WIPER_SERVICE_POSITION (R465). -/
def execWiperServicePosition (t : Nat) (s : State) : Host.Outcome State Fault Refusal :=
  .next (settle (servicePositionStep (advance t s)))

/-- PINCH_DETECTED (R142). -/
def execPinchDetected (t : Nat) (act : Nat) (ma : Nat) (ripples : Nat) (s : State) : Host.Outcome State Fault Refusal :=
  .next (settle (pinchStep act ma ripples (advance t s)))

/-- END_STOP_STALL (R141). -/
def execEndStopStall (t : Nat) (act : Nat) (ma : Nat) (ripple : Nat) (profile : List Nat) (s : State) : Host.Outcome State Fault Refusal :=
  .next (settle (endStopStep act ma ripple profile (advance t s)))

/-- MOTION_TARGET_REACHED (R141). -/
def execMotionTargetReached (t : Nat) (act : Nat) (ripples : Nat) (s : State) : Host.Outcome State Fault Refusal :=
  .next (settle (targetStep act ripples (advance t s)))

/-- HOLD_TO_RUN_TIMEOUT (R89). -/
def execHoldToRunTimeout (t : Nat) (act : Nat) (s : State) : Host.Outcome State Fault Refusal :=
  .next (settle (holdToRunStep act (advance t s)))

end Sys2Proof.Machine
end

