-- ==== Sys2Proof/Machine/CmdPow.lean ====
section
/-! DEFINITION. Events of mode policy, power, shutdown, clocks and resets (R16 to R24, 01_system.md; 14_power.md; 15_clocks_resets.md). -/

namespace Sys2Proof.Machine

/-- MODE_HOLD_EXPIRY (R83). -/
def execModeHoldExpiry (t : Nat) (s : State) : Host.Outcome State Fault Refusal :=
  .next (settle (holdExpiryStep (advance t s)))

/-- TRIGGER_LEVEL_CHANGE (R18). -/
def execTriggerLevelChange (t : Nat) (tr : Trigger) (s : State) : Host.Outcome State Fault Refusal :=
  .next (settle (triggerStep tr (advance t s)))

/-- MODE_EVALUATION (R18). -/
def execModeEvaluation (t : Nat) (s : State) : Host.Outcome State Fault Refusal :=
  .next (settle (modeEvalStep (advance t s)))

/-- WAKE0_QUALIFIED (R154). -/
def execWake0Qualified (t : Nat) (s : State) : Host.Outcome State Fault Refusal :=
  .next (settle (wake0Step (advance t s)))

/-- APPROACH_LINGER_ELAPSED (R18). -/
def execApproachLingerElapsed (t : Nat) (s : State) : Host.Outcome State Fault Refusal :=
  .next (settle (lingerStep (advance t s)))

/-- APPROACH_TIMEOUT (R18). -/
def execApproachTimeout (t : Nat) (s : State) : Host.Outcome State Fault Refusal :=
  .next (settle (approachStep (advance t s)))

/-- SERVICE_INACTIVITY (R18). -/
def execServiceInactivity (t : Nat) (s : State) : Host.Outcome State Fault Refusal :=
  .next (settle (inactivityStep (advance t s)))

/-- CRANK_LIMIT (R21). -/
def execCrankLimit (t : Nat) (s : State) : Host.Outcome State Fault Refusal :=
  .next (settle (crankLimitStep (advance t s)))

/-- IGNITION_TIMEOUT (R22). -/
def execIgnitionTimeout (t : Nat) (s : State) : Host.Outcome State Fault Refusal :=
  .next (settle (ignTimeoutStep (advance t s)))

/-- IGNITION_INVALID_LIMIT (R22). -/
def execIgnitionInvalidLimit (t : Nat) (s : State) : Host.Outcome State Fault Refusal :=
  .next (settle (ignInvalidStep (advance t s)))

/-- XTAL25_FAIL (R431). -/
def execXtal25Fail (t : Nat) (seen : XtalSeen) (s : State) : Host.Outcome State Fault Refusal :=
  .next (settle (xtalFailStep seen (advance t s)))

/-- AOK_FAIL (R432). -/
def execAokFail (t : Nat) (noEdge : Nat) (s : State) : Host.Outcome State Fault Refusal :=
  .next (settle (aokFailStep noEdge (advance t s)))

/-- AOK_RETRY (R432). -/
def execAokRetry (t : Nat) (runs : Bool) (s : State) : Host.Outcome State Fault Refusal :=
  .next (settle (aokRetryStep runs (advance t s)))

/-- AORC_CALIBRATION (R432). -/
def execAorcCalibration (t : Nat) (s : State) : Host.Outcome State Fault Refusal :=
  .next (settle (aorcCalStep (advance t s)))

/-- REG_FAULT (R351). -/
def execRegFault (t : Nat) (s : State) : Host.Outcome State Fault Refusal :=
  .next (settle (regFaultStep (advance t s)))

/-- SUPPLY_TRIGGER (R417). -/
def execSupplyTrigger (t : Nat) (mv : Nat) (s : State) : Host.Outcome State Fault Refusal :=
  .next (settle (supplyTriggerStep mv (advance t s)))

/-- SHUTDOWN_BY_MODE_POLICY (R417). -/
def execShutdownByModePolicy (t : Nat) (target : Nat) (s : State) : Host.Outcome State Fault Refusal :=
  .next (settle (policyShutdownStep target (advance t s)))

/-- SHUTDOWN_STEP_COMPLETE (R418). -/
def execShutdownStepComplete (t : Nat) (s : State) : Host.Outcome State Fault Refusal :=
  .next (settle (stepCompleteStep (advance t s)))

/-- SUPPLY_RETURN (R420). -/
def execSupplyReturn (t : Nat) (mv : Nat) (s : State) : Host.Outcome State Fault Refusal :=
  .next (settle (supplyReturnStep mv (advance t s)))

/-- SUPPLY_RESTART (R424). -/
def execSupplyRestart (t : Nat) (mv : Nat) (s : State) : Host.Outcome State Fault Refusal :=
  .next (settle (supplyRestartStep mv (advance t s)))

/-- ENTRY_RETRY (R405). -/
def execEntryRetry (t : Nat) (s : State) : Host.Outcome State Fault Refusal :=
  .next (settle (entryRetryStep (advance t s)))

/-- DOMAIN_ON (R399). -/
def execDomainOn (t : Nat) (d : Domain) (s : State) : Host.Outcome State Fault Refusal :=
  .next (settle (domainOnStep d (advance t s)))

/-- WAKE (R412). -/
def execWake (t : Nat) (source : Nat) (s : State) : Host.Outcome State Fault Refusal :=
  .next (settle (wakeStep source (advance t s)))

/-- WAKE_TIMER (R409). -/
def execWakeTimer (t : Nat) (s : State) : Host.Outcome State Fault Refusal :=
  .next (settle (wakeTimerStep (advance t s)))

/-- WAKE_HELD_RELEASE (R411). -/
def execWakeHeldRelease (t : Nat) (mv : Nat) (s : State) : Host.Outcome State Fault Refusal :=
  .next (settle (wakeHeldStep mv (advance t s)))

/-- AWAKE_TIMER_EXPIRY (R414). -/
def execAwakeTimerExpiry (t : Nat) (s : State) : Host.Outcome State Fault Refusal :=
  .next (settle (awakeExpiryStep (advance t s)))

/-- POR (R445). -/
def execPor (t : Nat) (below28 : Nat) (below18 : Nat) (testPin : Bool) (isMode : Bool) (comparatorOk : Bool) (s : State) : Host.Outcome State Fault Refusal :=
  .next (settle (porStep below28 below18 testPin isMode comparatorOk (advance t s)))

/-- BOR (R435). -/
def execBor (t : Nat) (d : Dip) (s : State) : Host.Outcome State Fault Refusal :=
  .next (settle (borStep d (advance t s)))

/-- LPBO (R407). -/
def execLpbo (t : Nat) (ua : Nat) (us : Nat) (s : State) : Host.Outcome State Fault Refusal :=
  .next (settle (lpboStep ua us (advance t s)))

/-- PIN_RESET (R436). -/
def execPinReset (t : Nat) (release : Bool) (lowNs : Nat) (csnLow : Bool) (heldMs : Nat) (s : State) : Host.Outcome State Fault Refusal :=
  .next (settle (pinResetStep release lowNs csnLow heldMs (advance t s)))

/-- WDT (R437). -/
def execWdt (t : Nat) (gap : Nat) (s : State) : Host.Outcome State Fault Refusal :=
  .next (settle (wdtStep gap (advance t s)))

/-- DOM_RESET (R438). -/
def execDomReset (t : Nat) (d : Domain) (s : State) : Host.Outcome State Fault Refusal :=
  .next (settle (domResetStep d (advance t s)))

end Sys2Proof.Machine
end

