-- ==== Sys2Proof/Machine/CmdSys.lean ====
section
/-! DEFINITION. SYSC by number and each syscall of the table (R551 to R554, 18_core.md). -/

namespace Sys2Proof.Machine

/-- SYSC (R551). -/
def execSysc (n : BitVec 16) (s : State) : Host.Outcome State Fault Refusal :=
  .next (settle (coreStep (syscall (sysTable n.toNat)) s))

/-- SYSC_EXIT (R552). -/
def execSyscExit (s : State) : Host.Outcome State Fault Refusal :=
  .next (settle (coreStep (syscall sysExit) s))

/-- SYSC_THREAD (R552). -/
def execSyscThread (s : State) : Host.Outcome State Fault Refusal :=
  .next (settle (coreStep (syscall sysThread) s))

/-- SYSC_YIELD (R552). -/
def execSyscYield (s : State) : Host.Outcome State Fault Refusal :=
  .next (settle (coreStep (syscall sysYield) s))

/-- SYSC_SLEEP (R552). -/
def execSyscSleep (s : State) : Host.Outcome State Fault Refusal :=
  .next (settle (coreStep (syscall sysSleep) s))

/-- SYSC_WAIT (R552). -/
def execSyscWait (s : State) : Host.Outcome State Fault Refusal :=
  .next (settle (coreStep (syscall sysWait) s))

/-- SYSC_TIME (R552). -/
def execSyscTime (s : State) : Host.Outcome State Fault Refusal :=
  .next (settle (coreStep (syscall sysTime) s))

/-- SYSC_LASTFAULT (R552). -/
def execSyscLastfault (s : State) : Host.Outcome State Fault Refusal :=
  .next (settle (coreStep (syscall sysLastfault) s))

/-- SYSC_TDX (R372). -/
def execSyscTdx (s : State) : Host.Outcome State Fault Refusal :=
  .next (settle (coreStep (syscall sysTdx) s))

/-- SYSC_MSG_WAIT (R552). -/
def execSyscMsgWait (s : State) : Host.Outcome State Fault Refusal :=
  .next (settle (coreStep (syscall sysMsgWait) s))

/-- SYSC_MSG_REPLY (R552). -/
def execSyscMsgReply (s : State) : Host.Outcome State Fault Refusal :=
  .next (settle (coreStep (syscall sysMsgReply) s))

/-- SYSC_IN_GET (R552). -/
def execSyscInGet (s : State) : Host.Outcome State Fault Refusal :=
  .next (settle (coreStep (syscall sysInGet) s))

/-- SYSC_KEY_GET (R552). -/
def execSyscKeyGet (s : State) : Host.Outcome State Fault Refusal :=
  .next (settle (coreStep (syscall sysKeyGet) s))

/-- SYSC_MODE_GET (R552). -/
def execSyscModeGet (s : State) : Host.Outcome State Fault Refusal :=
  .next (settle (coreStep (syscall sysModeGet) s))

/-- SYSC_WATCH (R552). -/
def execSyscWatch (s : State) : Host.Outcome State Fault Refusal :=
  .next (settle (coreStep (syscall sysWatch) s))

/-- SYSC_OUT_CLAIM (R552). -/
def execSyscOutClaim (s : State) : Host.Outcome State Fault Refusal :=
  .next (settle (coreStep (syscall sysOutClaim) s))

/-- SYSC_OUT_RELEASE (R552). -/
def execSyscOutRelease (s : State) : Host.Outcome State Fault Refusal :=
  .next (settle (coreStep (syscall sysOutRelease) s))

/-- SYSC_OUT_SET (R552). -/
def execSyscOutSet (s : State) : Host.Outcome State Fault Refusal :=
  .next (settle (coreStep (syscall sysOutSet) s))

/-- SYSC_OUT_GET (R552). -/
def execSyscOutGet (s : State) : Host.Outcome State Fault Refusal :=
  .next (settle (coreStep (syscall sysOutGet) s))

/-- SYSC_HAP_PLAY (R193). -/
def execSyscHapPlay (s : State) : Host.Outcome State Fault Refusal :=
  .next (settle (coreStep (syscall sysHapPlay) s))

/-- SYSC_STN_GET (R552). -/
def execSyscStnGet (s : State) : Host.Outcome State Fault Refusal :=
  .next (settle (coreStep (syscall sysStnGet) s))

/-- SYSC_STN_WRITE (R552). -/
def execSyscStnWrite (s : State) : Host.Outcome State Fault Refusal :=
  .next (settle (coreStep (syscall sysStnWrite) s))

/-- SYSC_CAN_FILTER (R552). -/
def execSyscCanFilter (s : State) : Host.Outcome State Fault Refusal :=
  .next (settle (coreStep (syscall sysCanFilter) s))

/-- SYSC_CAN_RECV (R552). -/
def execSyscCanRecv (s : State) : Host.Outcome State Fault Refusal :=
  .next (settle (coreStep (syscall sysCanRecv) s))

/-- SYSC_CAN_SEND (R552). -/
def execSyscCanSend (s : State) : Host.Outcome State Fault Refusal :=
  .next (settle (coreStep (syscall sysCanSend) s))

/-- SYSC_ND_READ (R553). -/
def execSyscNdRead (s : State) : Host.Outcome State Fault Refusal :=
  .next (settle (coreStep (syscall sysNdRead) s))

/-- SYSC_ND_WRITE (R553). -/
def execSyscNdWrite (s : State) : Host.Outcome State Fault Refusal :=
  .next (settle (coreStep (syscall sysNdWrite) s))

/-- SYSC_ND_APPEND (R553). -/
def execSyscNdAppend (s : State) : Host.Outcome State Fault Refusal :=
  .next (settle (coreStep (syscall sysNdAppend) s))

/-- SYSC_ND_ERASE (R553). -/
def execSyscNdErase (s : State) : Host.Outcome State Fault Refusal :=
  .next (settle (coreStep (syscall sysNdErase) s))

/-- SYSC_SHA256 (R552). -/
def execSyscSha256 (s : State) : Host.Outcome State Fault Refusal :=
  .next (settle (coreStep (syscall sysSha256) s))

/-- SYSC_RANDOM (R552). -/
def execSyscRandom (s : State) : Host.Outcome State Fault Refusal :=
  .next (settle (coreStep (syscall sysRandom) s))

/-- SYSC_CMAC (R554). -/
def execSyscCmac (s : State) : Host.Outcome State Fault Refusal :=
  .next (settle (coreStep (syscall sysCmac) s))

/-- SYSC_GCM_SEAL (R554). -/
def execSyscGcmSeal (s : State) : Host.Outcome State Fault Refusal :=
  .next (settle (coreStep (syscall sysGcmSeal) s))

/-- SYSC_GCM_OPEN (R554). -/
def execSyscGcmOpen (s : State) : Host.Outcome State Fault Refusal :=
  .next (settle (coreStep (syscall sysGcmOpen) s))

/-- SYSC_CTR_GET (R552). -/
def execSyscCtrGet (s : State) : Host.Outcome State Fault Refusal :=
  .next (settle (coreStep (syscall sysCtrGet) s))

/-- SYSC_CTR_RAISE (R312). -/
def execSyscCtrRaise (s : State) : Host.Outcome State Fault Refusal :=
  .next (settle (coreStep (syscall sysCtrRaise) s))

end Sys2Proof.Machine
end

