-- ==== Sys2Proof/Machine/Air.lean ====
section
/-! DEFINITION. What the tag does on air: DSRC transactions (R265 to R270, R287) and the UHF tag (R271 to R274); 09_tag.md. Attribute numbers are those of ISO 14906, the UHF states and flags those of ISO/IEC 18000-63 (PRESUMED, log 24). -/

namespace Sys2Proof.Machine

/-- Both radios serve: RFD and the enclave ON, and 20 ms after a wake by the field (R259, R266). -/
def radioOn (s : State) : Bool := hasTag s && isOn s .rfd && s.enc.avail && !s.pwr.fallback && decide (s.tag.readyAt ≤ s.now)

/-- An answer on air. -/
def answer (a : AirOut) (s : State) : State := modTag (fun t => { t with air := some a }) s

/-- Nothing is sent. -/
def silent (s : State) : State := modTag (fun t => { t with air := none }) s

/-- The running transaction changed. -/
def modTxn (f : Dsrc → Dsrc) (s : State) : State := modTag (fun t => { t with txn := t.txn.map f }) s

/-- EquipmentStatus (R285). -/
def equipmentStatus (s : State) (c : Contract) : Nat :=
  let mount := s.rls.removed || (c.eqsSticky && s.tag.stickyMount)
  (if mount then 2 ^ c.eqsMount else 0) ||| (if s.tag.forced then 2 ^ c.eqsForced else 0)

/-- The value of an attribute and its source (R269): 33 and 34 the receipts, 24 EquipmentOBUId, 26 EquipmentStatus, those of the contract otherwise. -/
def attrValue (s : State) (id : Nat) : Option Bytes := match s.tag.sess with
  | none => none
  | some x =>
    if id == 33 then some (sessRec s).receipt1
    else if id == 34 then some (sessRec s).receipt2
    else if id == 24 then some (be 8 s.otp.serial)
    else if id == 26 then some (be 2 (equipmentStatus s x.contract))
    else if [0, 1, 2, 3, 4, 16, 17, 18, 19, 20, 32].contains id then contractAttr x.contract id
    else none

/-- A refused attempt recorded (R287): an insert that is expired or exhausted, at most once per beacon and 60 s. -/
def refusedAttempt (beacon : Nat) (s : State) : State :=
  if (tw s).tag.logRefused && (s.tag.ins == 3 || s.tag.ins == 4) && !(s.tag.refusedAt.any (fun e => e.1 == beacon && decide (s.now < e.2 + sec 60))) then
    logTxn { utc := utcStamp s, life := s.ao.life, outcome := 3, rtcSet := s.ao.rtcSet, beacon := beacon }
      (modTag (fun t => { t with refusedAt := setN beacon s.now t.refusedAt }) s)
  else s

/-- The contract data list an EFC context (R268): one of its context marks. -/
def listsContext (c : Contract) (ctx : Bytes) : Bool := c.attrs.any (fun a => a.1 == 0 && a.2 == ctx)

/-- BST (R265 to R268, R287): a VST and phase 1, a refused attempt, or silence; one that names another channel or profile than R267 supports is ignored. -/
def bstStep (beacon channel profile : Nat) (efc : Bool) (ctx : Bytes) (s : State) : State :=
  let s0 := silent s
  if !radioOn s || !(tw s).tag.dsrc || decide (3 < channel) || decide (1 < profile) || s.tag.txn.isSome || s.tag.state == 0 || s.tag.state == 4 || tagBufferFull s || s.tag.apduRuns then s0
  else if s.tag.ins == 3 || s.tag.ins == 4 then refusedAttempt beacon s0
  else match s.tag.sess with
  | none => s0
  | some x =>
    if s.tag.state != 3 || !efc || !listsContext x.contract ctx || s.tag.vstSent.any (fun e => e.1 == beacon && decide (s.now < e.2 + sec 10)) then s0
    else
      let a := random s0
      let b := random a.2
      let d : Dsrc := { beacon := beacon, profile := profile, channel := channel, phase := 1, utc := utcStamp s, life := s.ao.life, rtcSet := s.ao.rtcSet, rnd := b.1 % 4294967296, lastAt := s.now }
      answer (.vst (a.1 % 4294967296) channel profile ((x.contract.attrs.filter (fun e => e.1 == 0)).map (fun e => e.2)) s.otp.serial d.rnd)
        (modTag (fun t => { t with txn := some d, vstSent := setN beacon s.now t.vstSent }) (cutWrite b.2))

/-- DSRC serves (R264, R265): state 3 and permitted. -/
def dsrcOn (s : State) : Bool := radioOn s && (tw s).tag.dsrc && s.tag.state == 3

/-- An APDU succeeded, so that one chained to it is carried out (EN 12834; log 24). -/
def answerOk : Option AirOut → Bool
  | some (.setAnswer ok) => ok
  | some (.attrs l) => l.all (fun e => e.2.isSome)
  | _ => true

/-- The answer to an APDU joined to those of the frame so far. -/
def joinAnswer (prev : Option AirOut) (a : AirOut) : AirOut := match prev with
  | some x => .joined x a
  | none => a

/-- An APDU of a frame addressed to the tag (R260, R265, R267). With `link` 0 it opens the frame: a repeated one is answered from the last response, a fresh one is carried out. With 1 or 2 it is concatenated to the APDU before it, whose frame it shares; 2 chains it, so that it is carried out only where that one succeeded. A silent radio answers nothing. -/
def dsrcFrame (bit : Bool) (link : Nat) (k : State → State × Option AirOut) (s : State) : State :=
  match s.tag.txn with
  | none => silent s
  | some d =>
    if !dsrcOn s then silent s
    else if link != 0 then
      if d.lastBit != some bit || d.repeated || (link == 2 && !d.lastOk) then s
      else
        let r := k (modTxn (fun x => { x with lastAt := s.now }) s)
        let s1 := modTxn (fun x => { x with lastOk := answerOk r.2 }) r.1
        match r.2 with
        | some a => answer (joinAnswer d.lastResp a) (modTxn (fun x => { x with lastResp := some (joinAnswer d.lastResp a) }) s1)
        | none => s1
    else if d.lastBit == some bit then
      modTxn (fun x => { x with lastAt := s.now, repeated := true }) (modTag (fun t => { t with air := d.lastResp }) s)
    else
      let r := k (modTxn (fun x => { x with lastAt := s.now, lastBit := some bit, repeated := false }) s)
      let s1 := modTxn (fun x => { x with lastResp := r.2, lastOk := answerOk r.2 }) r.1
      match r.2 with
      | some a => answer a s1
      | none => silent s1

/-- The phase raised (R286). -/
def reach (p : Nat) (s : State) : State := modTxn (fun d => { d with phase := max d.phase p }) s

/-- The access credential of a frame is right, or none is called for (R270): at security level 1 one that is carried must verify (EN 15509; log 24). -/
def credentialOk (s : State) (cred : Bytes) : Bool := match s.tag.sess, s.tag.txn with
  | some x, some d => !tbit x.contract.profile 2 || cred.isEmpty || cred == (Config.tdesMac x.dsrcKeys x.contract.keygen (be 4 d.rnd)).take cred.length
  | _, _ => false

/-- A credential that fails ends the transaction with outcome 4, without an answer (R270). -/
def withCredential (cred : Bytes) (k : State → State × Option AirOut) (s : State) : State × Option AirOut :=
  if credentialOk s cred then k s else (endTxn 4 s, none)

/-- GET (R269, R270). -/
def getStep (bit : Bool) (link : Nat) (attrs : List Nat) (cred : Bytes) (s : State) : State :=
  dsrcFrame bit link (withCredential cred (fun s => (reach 2 s, some (.attrs (attrs.map (fun a => (a, attrValue s a))))))) s

/-- SET (R269): only the two receipts. -/
def setStep (bit : Bool) (link : Nat) (attr : Nat) (value : Bytes) (s : State) : State :=
  dsrcFrame bit link (fun s =>
    if attr == 33 || attr == 34 then
      (reach 4 (modTxn (fun d => { d with receipt := true })
        (modRec (sessRec s).serial (fun r => if attr == 33 then { r with receipt1 := value.take 32 } else { r with receipt2 := value.take 32 }) s)), some (.setAnswer true))
    else (s, some (.setAnswer false))) s

/-- The data an authenticator covers (EN 15509; log 24): the attributes, then the reader's random number. -/
def stampData (l : List (Nat × Option Bytes)) (rnd : Bytes) : Bytes := l.flatMap (fun e => b8 e.1 :: e.2.getD []) ++ rnd

/-- ACTION GET_STAMPED (R270, R281): the authenticator; the transaction is counted and spends its reservation. -/
def stampedStep (bit : Bool) (link : Nat) (attrs : List Nat) (rnd : Bytes) (key : Nat) (cred : Bytes) (s : State) : State :=
  dsrcFrame bit link (withCredential cred (fun s =>
    let l := attrs.map (fun a => (a, attrValue s a))
    let m := match s.tag.sess with
      | some x => Config.tdesMac x.dsrcKeys x.contract.keygen (b8 key :: stampData l rnd)
      | none => []
    (spend (reach 3 (modTxn (fun d => { d with counted := true }) s)), some (.stamped l m)))) s

/-- ACTION SET_MMI (R267, R286). -/
def mmiStep (bit : Bool) (link : Nat) (v : Nat) (s : State) : State :=
  dsrcFrame bit link (fun s => (modTxn (fun d => { d with mmi := v % 16 }) s, some (.mmi v))) s

/-- ACTION ECHO (R267). -/
def echoStep (bit : Bool) (link : Nat) (d : Bytes) (s : State) : State := dsrcFrame bit link (fun s => (s, some (.echo d))) s

/-- EVENT-REPORT release (R286): phase 5, and the transaction ends complete. -/
def releaseStep (bit : Bool) (link : Nat) (s : State) : State := dsrcFrame bit link (fun s => (endTxn 0 (reach 5 s), none)) s

/-- TRANSACTION_IDLE (R287): 200 ms without a frame. -/
def txnIdleStep (s : State) : State := match s.tag.txn with
  | some d => if d.lastAt + ms 200 ≤ s.now && decide (d.phase < 5) then endTxn 2 s else s
  | none => s

/-- UHF serves (R264, R265): state 3 or 2 and permitted. -/
def uhfOn (s : State) : Bool := radioOn s && (tw s).tag.uhf && (s.tag.state == 2 || s.tag.state == 3)

/-- The UHF tag changed. -/
def modUhf (f : Uhf → Uhf) (s : State) : State := modTag (fun t => { t with uhf := f t.uhf }) s

/-- The contract in force, in state 3 only (R272). -/
def uhfContract (s : State) : Option Contract := if s.tag.state == 3 then s.tag.sess.map (fun x => x.contract) else none

/-- PC and EPC (R272). -/
def pcEpc (s : State) : Nat × Bytes := match uhfContract s with
  | some c => (0x4400, padTo 16 0 c.epc)
  | none => (0x4000, List.replicate 16 0)

/-- The CRC-16 stored before PC and EPC (ISO/IEC 18000-63: the complement of R48's; log 24). -/
def epcCrc (s : State) : Nat := 65535 - crc16 (be 2 (pcEpc s).1 ++ (pcEpc s).2)

/-- The access password (R271): the contract's, zero in identity-only. The contract layout of R278 names no field for it: a free value of the contract (log 7). -/
def accessPw (s : State) : Nat := match uhfContract s with
  | some c => Config.free c.id % 4294967296
  | none => 0

/-- The TID (R273): 96 bits are stated as 32 fixed bits and the 64-bit serial. -/
def tidBank (s : State) : Bytes :=
  be 4 (0xE2 * 16777216 + 0x1C5 * 4096 + 0x746) ++ be 8 s.otp.serial

/-- The bytes of a bank (R272): reserved, EPC, TID, user; none where it is absent. -/
def uhfBank (s : State) (bank : Nat) : Option Bytes := match bank with
  | 0 => some (be 4 0 ++ be 4 (accessPw s))
  | 1 => some (be 2 (epcCrc s) ++ be 2 (pcEpc s).1 ++ (pcEpc s).2)
  | 2 => some (tidBank s)
  | 3 => (uhfContract s).bind (fun c => if tbit c.profile 3 then some (padTo 64 0 c.user) else none)
  | _ => none

/-- Bit `i` of a byte string, the first byte's most significant bit first. -/
def bitOf (b : Bytes) (i : Nat) : Bool := (b.getD (i / 8) 0).toNat.testBit (7 - i % 8)

/-- A Select mask matches memory (ISO/IEC 18000-63). -/
def selMatch (s : State) (bank ptr len : Nat) (mask : Bytes) : Bool := match uhfBank s bank with
  | some b => bank != 0 && decide (ptr + len ≤ 8 * b.length) && (List.range len).all (fun i => bitOf b (ptr + i) == bitOf mask i)
  | none => false

/-- The inventoried flag of a session, true for B. -/
def invFlag (u : Uhf) (session : Nat) : Bool := match session with
  | 0 => u.s0 | 1 => u.s1 | 2 => u.s2 | _ => u.s3

/-- A flag set; S1 set to B lapses after 1 s (R271). Target 4 is SL. -/
def setFlag (target : Nat) (v : Bool) (now : Nat) (u : Uhf) : Uhf := match target with
  | 0 => { u with s0 := v }
  | 1 => { u with s1 := v, s1At := if v then some (now + sec 1) else none }
  | 2 => { u with s2 := v }
  | 3 => { u with s3 := v }
  | _ => { u with sl := v }

/-- A flag's value by target: for SL, asserted reads as A reads for an inventoried flag. -/
def flagOf (target : Nat) (u : Uhf) : Bool := if target == 4 then u.sl else invFlag u target

/-- The action of Select on a flag (ISO/IEC 18000-63): `on` is asserted for SL and A for an inventoried flag. -/
def selAction (target action : Nat) (hit : Bool) (now : Nat) (u : Uhf) : Uhf :=
  let on := setFlag target (target == 4) now u
  let off := setFlag target (target != 4) now u
  let flip := setFlag target (!flagOf target u) now u
  match action, hit with
  | 0, true => on | 0, false => off
  | 1, true => on | 2, false => off
  | 3, true => flip
  | 4, true => off | 4, false => on
  | 5, true => off | 6, false => on
  | 7, false => flip
  | _, _ => u

/-- The carrier is back: flags whose persistence has run out lapse, the others stay (R271). -/
def carrierBack (s : State) : State :=
  if due s.tag.uhf.fieldLossAt s then modUhf (fun u => { u with s2 := false, s3 := false, sl := false, fieldLossAt := none }) s
  else modUhf (fun u => { u with fieldLossAt := none }) s

/-- SELECT (R271). -/
def selectStep (target action bank ptr len : Nat) (mask : Bytes) (s0 : State) : State :=
  let s := carrierBack s0
  if uhfOn s && decide (target ≤ 4) then modUhf (fun u => { selAction target action (selMatch s bank ptr len mask) s.now u with phase := 0 }) (silent s) else silent s

/-- A fresh slot of a round; slot 0 answers with an RN16 from the DRBG. -/
def drawSlot (q : Nat) (s : State) : State :=
  let d := random s
  let slot := d.1 % 2 ^ q
  if slot == 0 then
    let r := random d.2
    answer (.rn16 (r.1 % 65536)) (modUhf (fun u => { u with phase := 2, slot := 0, q := q, rn := r.1 % 65536 }) r.2)
  else modUhf (fun u => { u with phase := 1, slot := slot, q := q }) d.2

/-- A tag that was acknowledged in this session leaves with its flag inverted. -/
def leaveRound (session : Nat) (s : State) : State :=
  modUhf (fun u => if decide (3 ≤ u.phase) && u.session == session then { setFlag session (!invFlag u session) s.now u with phase := 0 } else { u with phase := if 3 ≤ u.phase then 0 else u.phase }) s

/-- QUERY (R271). -/
def queryStep (sel session : Nat) (target : Bool) (q : Nat) (s : State) : State :=
  let s0 := silent (carrierBack s)
  if !uhfOn s then s0
  else
    let s1 := leaveRound session s0
    let u := s1.tag.uhf
    if (decide (sel < 2) || u.sl == (sel == 3)) && invFlag u session == target then
      drawSlot (q % 16) (modUhf (fun u => { u with session := session, accessHalf := false, accessed := false }) s1)
    else modUhf (fun u => { u with phase := 0 }) s1

/-- QUERY_ADJUST (R271). -/
def queryAdjustStep (session : Nat) (updn : Int) (s : State) : State :=
  let s0 := silent s
  let u := s.tag.uhf
  if !uhfOn s || u.phase == 0 || u.session != session then s0
  else if 3 ≤ u.phase then leaveRound session s0
  else drawSlot (min 15 ((u.q : Int) + updn).toNat) s0

/-- QUERY_REP (R271). -/
def queryRepStep (session : Nat) (s : State) : State :=
  let s0 := silent s
  let u := s.tag.uhf
  if !uhfOn s || u.phase == 0 || u.session != session then s0
  else if 3 ≤ u.phase then leaveRound session s0
  else
    let n := (u.slot + 32767) % 32768
    if u.phase == 1 && n == 0 then
      let r := random s0
      answer (.rn16 (r.1 % 65536)) (modUhf (fun u => { u with phase := 2, slot := 0, rn := r.1 % 65536 }) r.2)
    else modUhf (fun u => { u with phase := 1, slot := n }) s0

/-- ACK (R271, R272): PC and EPC. -/
def ackStep (rn : Nat) (s : State) : State :=
  let u := s.tag.uhf
  if !uhfOn s || decide (u.phase < 2) then silent s
  else if u.rn == rn then answer (.epc (pcEpc s).1 (pcEpc s).2 (epcCrc s)) (modUhf (fun u => { u with phase := max 3 u.phase }) s)
  else silent (modUhf (fun u => { u with phase := 1 }) s)

/-- NAK (R271). -/
def nakStep (s : State) : State :=
  if uhfOn s && decide (1 ≤ s.tag.uhf.phase) then silent (modUhf (fun u => { u with phase := 1 }) s) else silent s

/-- REQ_RN (R271): a handle and the state open, or secured where the access password is zero; later a fresh RN16. -/
def reqRnStep (rn : Nat) (s : State) : State :=
  let u := s.tag.uhf
  if !uhfOn s || decide (u.phase < 3) || u.rn != rn then silent s
  else
    let d := random s
    let v := d.1 % 65536
    if u.phase == 3 then answer (.handle v) (modUhf (fun u => { u with phase := if accessPw s == 0 then 5 else 4, rn := v }) d.2)
    else answer (.rn16 v) d.2

/-- A command under a handle: served in the states open and secured, silent otherwise. -/
def underHandle (handle : Nat) (k : State → State) (s : State) : State :=
  if uhfOn s && decide (4 ≤ s.tag.uhf.phase) && s.tag.uhf.rn == handle then k s else silent s

/-- READ (R272): the reserved bank stays locked (ISO/IEC 18000-63), the user bank is readable after Access. -/
def readStep (bank ptr count handle : Nat) (s : State) : State :=
  underHandle handle (fun s =>
    match uhfBank s bank with
    | none => answer (.error .memOverrun handle) s
    | some b =>
      let n := if count == 0 then b.length / 2 - ptr else count
      if bank == 0 || (bank == 3 && !s.tag.uhf.accessed) then answer (.error .memLocked handle) s
      else if decide (b.length < 2 * (ptr + n)) || decide (b.length ≤ 2 * ptr) then answer (.error .memOverrun handle) s
      else answer (.words (slice b (2 * ptr) (2 * n)) handle) s) s

/-- ACCESS (R271): the two halves of the password, the upper first; a wrong one returns the tag to arbitrate (ISO/IEC 18000-63). -/
def accessStep (pw handle : Nat) (s : State) : State :=
  underHandle handle (fun s =>
    let half := s.tag.uhf.accessHalf
    let want := if half then accessPw s % 65536 else accessPw s / 65536
    if pw != want then silent (modUhf (fun u => { u with phase := 1, accessHalf := false }) s)
    else if half then answer (.handle handle) (modUhf (fun u => { u with phase := 5, accessHalf := false, accessed := true }) s)
    else answer (.handle handle) (modUhf (fun u => { u with accessHalf := true }) s)) s

/-- AUTHENTICATE (R274, R281, R286): TAM1 under key 0 is a transaction of kind 1; another method is answered with an error; in state 2 nothing is answered. -/
def authenticateStep (csi method keyId : Nat) (challenge : Bytes) (handle : Nat) (s : State) : State :=
  underHandle handle (fun s =>
    if s.tag.state != 3 || s.tag.txn.isSome then silent s
    else if csi != 0 || method != 0 || keyId != 0 then answer (.error .unsupported handle) s
    else match s.tag.sess with
    | none => silent s
    | some x =>
      let s1 := answer (.tam1 (Config.tam1 x.uhfKey challenge) handle) (spend (cutWrite s))
      afterTxn false (logTxn { utc := utcStamp s, life := s.ao.life, kind := 1, phase := 3, rtcSet := s.ao.rtcSet, counted := true } s1)) s

/-- WRITE (R271): memory locked. -/
def uhfWriteStep (handle : Nat) (s : State) : State := underHandle handle (answer (.error .memLocked handle)) s
/-- BLOCKWRITE (R271): memory locked. -/
def blockWriteStep (handle : Nat) (s : State) : State := underHandle handle (answer (.error .memLocked handle)) s
/-- BLOCKERASE (R271): memory locked. -/
def blockEraseStep (handle : Nat) (s : State) : State := underHandle handle (answer (.error .memLocked handle)) s
/-- LOCK (R271): memory locked. -/
def lockStep (handle : Nat) (s : State) : State := underHandle handle (answer (.error .memLocked handle)) s
/-- KILL (R271): memory locked. -/
def killStep (handle : Nat) (s : State) : State := underHandle handle (answer (.error .memLocked handle)) s

/-- UHF_FIELD_LOSS (R271): the tag on air is gone, and S2, S3 and SL persist for 2 s. -/
def fieldLossStep (s : State) : State :=
  modUhf (fun u => { u with phase := 0, s0 := false, accessHalf := false, accessed := false, fieldLossAt := some (s.now + sec 2) }) (silent s)

/-- UHF_FLAG_PERSISTENCE (R271): S1 1 s after it was set; S2, S3 and SL 2 s after field loss. -/
def flagPersistStep (s : State) : State :=
  let s1 := if due s.tag.uhf.s1At s then modUhf (fun u => { u with s1 := false, s1At := none }) s else s
  if due s.tag.uhf.fieldLossAt s then modUhf (fun u => { u with s2 := false, s3 := false, sl := false, fieldLossAt := none }) s1 else s1

/-- RF_FIELD_DETECT (R266): a carrier of at least 100 µs in PARKED wakes the device where FLAGS bit 2 is set. -/
def rfFieldStep (us : Nat) (s : State) : State :=
  if hasTag s && domSt s .rfd == .ret && (tw s).tag.fieldDetect && decide (100 ≤ us) then wakeEvent 0x50 s else s

end Sys2Proof.Machine
end

