-- ==== Sys2Proof/Machine/CmdTag.lean ====
section
/-! DEFINITION. Air commands and insert events of the tag (09_tag.md; R14, 01_system.md). -/

namespace Sys2Proof.Machine

/-- BST (R268). -/
def execBst (t : Nat) (beacon : Nat) (channel : Nat) (profile : Nat) (efc : Bool) (context : Bytes) (s : State) : Host.Outcome State Fault Refusal :=
  .next (settle (bstStep beacon channel profile efc context (advance t s)))

/-- GET (R269). -/
def execGet (t : Nat) (bit : Bool) (link : Nat) (attrs : List Nat) (cred : Bytes) (s : State) : Host.Outcome State Fault Refusal :=
  .next (settle (getStep bit link attrs cred (advance t s)))

/-- SET (R269). -/
def execSet (t : Nat) (bit : Bool) (link : Nat) (attr : Nat) (value : Bytes) (s : State) : Host.Outcome State Fault Refusal :=
  .next (settle (setStep bit link attr value (advance t s)))

/-- ACTION_GET_STAMPED (R270). -/
def execActionGetStamped (t : Nat) (bit : Bool) (link : Nat) (attrs : List Nat) (rnd : Bytes) (key : Nat) (cred : Bytes) (s : State) : Host.Outcome State Fault Refusal :=
  .next (settle (stampedStep bit link attrs rnd key cred (advance t s)))

/-- ACTION_SET_MMI (R267). -/
def execActionSetMmi (t : Nat) (bit : Bool) (link : Nat) (v : Nat) (s : State) : Host.Outcome State Fault Refusal :=
  .next (settle (mmiStep bit link v (advance t s)))

/-- ACTION_ECHO (R267). -/
def execActionEcho (t : Nat) (bit : Bool) (link : Nat) (data : Bytes) (s : State) : Host.Outcome State Fault Refusal :=
  .next (settle (echoStep bit link data (advance t s)))

/-- EVENT_REPORT (R286). -/
def execEventReport (t : Nat) (bit : Bool) (link : Nat) (s : State) : Host.Outcome State Fault Refusal :=
  .next (settle (releaseStep bit link (advance t s)))

/-- TRANSACTION_IDLE (R287). -/
def execTransactionIdle (t : Nat) (s : State) : Host.Outcome State Fault Refusal :=
  .next (settle (txnIdleStep (advance t s)))

/-- SELECT (R271). -/
def execSelect (t : Nat) (target : Nat) (action : Nat) (bank : Nat) (ptr : Nat) (len : Nat) (mask : Bytes) (s : State) : Host.Outcome State Fault Refusal :=
  .next (settle (selectStep target action bank ptr len mask (advance t s)))

/-- QUERY (R271). -/
def execQuery (t : Nat) (sel : Nat) (session : Nat) (target : Bool) (q : Nat) (s : State) : Host.Outcome State Fault Refusal :=
  .next (settle (queryStep sel session target q (advance t s)))

/-- QUERY_ADJUST (R271). -/
def execQueryAdjust (t : Nat) (session : Nat) (updn : Int) (s : State) : Host.Outcome State Fault Refusal :=
  .next (settle (queryAdjustStep session updn (advance t s)))

/-- QUERY_REP (R271). -/
def execQueryRep (t : Nat) (session : Nat) (s : State) : Host.Outcome State Fault Refusal :=
  .next (settle (queryRepStep session (advance t s)))

/-- ACK (R271). -/
def execAck (t : Nat) (rn : Nat) (s : State) : Host.Outcome State Fault Refusal :=
  .next (settle (ackStep rn (advance t s)))

/-- NAK (R271). -/
def execNak (t : Nat) (s : State) : Host.Outcome State Fault Refusal :=
  .next (settle (nakStep (advance t s)))

/-- REQ_RN (R271). -/
def execReqRn (t : Nat) (rn : Nat) (s : State) : Host.Outcome State Fault Refusal :=
  .next (settle (reqRnStep rn (advance t s)))

/-- READ (R272). -/
def execRead (t : Nat) (bank : Nat) (ptr : Nat) (count : Nat) (handle : Nat) (s : State) : Host.Outcome State Fault Refusal :=
  .next (settle (readStep bank ptr count handle (advance t s)))

/-- ACCESS (R271). -/
def execAccess (t : Nat) (pw : Nat) (handle : Nat) (s : State) : Host.Outcome State Fault Refusal :=
  .next (settle (accessStep pw handle (advance t s)))

/-- AUTHENTICATE (R274). -/
def execAuthenticate (t : Nat) (csi : Nat) (method : Nat) (keyId : Nat) (challenge : Bytes) (handle : Nat) (s : State) : Host.Outcome State Fault Refusal :=
  .next (settle (authenticateStep csi method keyId challenge handle (advance t s)))

/-- WRITE (R271). -/
def execWrite (t : Nat) (handle : Nat) (s : State) : Host.Outcome State Fault Refusal :=
  .next (settle (uhfWriteStep handle (advance t s)))

/-- BLOCKWRITE (R271). -/
def execBlockwrite (t : Nat) (handle : Nat) (s : State) : Host.Outcome State Fault Refusal :=
  .next (settle (blockWriteStep handle (advance t s)))

/-- BLOCKERASE (R271). -/
def execBlockerase (t : Nat) (handle : Nat) (s : State) : Host.Outcome State Fault Refusal :=
  .next (settle (blockEraseStep handle (advance t s)))

/-- LOCK (R271). -/
def execLock (t : Nat) (handle : Nat) (s : State) : Host.Outcome State Fault Refusal :=
  .next (settle (lockStep handle (advance t s)))

/-- KILL (R271). -/
def execKill (t : Nat) (handle : Nat) (s : State) : Host.Outcome State Fault Refusal :=
  .next (settle (killStep handle (advance t s)))

/-- UHF_FIELD_LOSS (R271). -/
def execUhfFieldLoss (t : Nat) (s : State) : Host.Outcome State Fault Refusal :=
  .next (settle (fieldLossStep (advance t s)))

/-- UHF_FLAG_PERSISTENCE (R271). -/
def execUhfFlagPersistence (t : Nat) (s : State) : Host.Outcome State Fault Refusal :=
  .next (settle (flagPersistStep (advance t s)))

/-- RF_FIELD_DETECT (R266). -/
def execRfFieldDetect (t : Nat) (us : Nat) (s : State) : Host.Outcome State Fault Refusal :=
  .next (settle (rfFieldStep us (advance t s)))

/-- INSERTION (R279). -/
def execInsertion (t : Nat) (s : State) : Host.Outcome State Fault Refusal :=
  .next (settle (insertionStep (advance t s)))

/-- INSERT_APDU_RESPONSE (R277). -/
def execInsertApduResponse (t : Nat) (data : Bytes) (sw : Nat) (crcOk : Bool) (s : State) : Host.Outcome State Fault Refusal :=
  .next (settle (insertResponseStep data sw crcOk (advance t s)))

/-- BWT_TIMEOUT (R277). -/
def execBwtTimeout (t : Nat) (s : State) : Host.Outcome State Fault Refusal :=
  .next (settle (bwtStep (advance t s)))

/-- REMOVAL (R284). -/
def execRemoval (t : Nat) (s : State) : Host.Outcome State Fault Refusal :=
  .next (settle (removalStep (advance t s)))

/-- INSERT_STATE_TICK (R280). -/
def execInsertStateTick (t : Nat) (s : State) : Host.Outcome State Fault Refusal :=
  .next (settle (insertTickStep (advance t s)))

/-- WRITE_BACK (R283). -/
def execWriteBack (t : Nat) (s : State) : Host.Outcome State Fault Refusal :=
  .next (settle (writeBackStep (advance t s)))

/-- WRITE_BACK_RETRY (R283). -/
def execWriteBackRetry (t : Nat) (s : State) : Host.Outcome State Fault Refusal :=
  .next (settle (writeRetryStep (advance t s)))

/-- ENCLAVE_EVENT_TAKE (R14). -/
def execEnclaveEventTake (t : Nat) (s : State) : Host.Outcome State Fault Refusal :=
  .next (settle (eventTakeStep (advance t s)))

end Sys2Proof.Machine
end

