-- ==== Sys2Proof/Machine/CmdUpd.lean ====
section
/-! DEFINITION. Events of confirmation and of the bank checks (17_images.md). -/

namespace Sys2Proof.Machine

/-- AUTO_CONFIRM (R510). -/
def execAutoConfirm (t : Nat) (s : State) : Host.Outcome State Fault Refusal :=
  .next (settle (autoConfirmStep (advance t s)))

/-- FLOOR_RAISE_RETRY (R510). -/
def execFloorRaiseRetry (t : Nat) (s : State) : Host.Outcome State Fault Refusal :=
  .next (settle (floorRetryStep (advance t s)))

/-- INACTIVE_BANK_CHECK (R513). -/
def execInactiveBankCheck (t : Nat) (s : State) : Host.Outcome State Fault Refusal :=
  .next (settle (bankCheckStep (advance t s)))

end Sys2Proof.Machine
end

