-- ==== Sys2Proof/Machine/CmdWin.lean ====
section
/-! DEFINITION. The SPI host window, MBX-CAN and MBX-ETH reception, and session time-outs (02_mailboxes.md; R93, 03_commands.md). -/

namespace Sys2Proof.Machine

/-- REGISTER_WRITE (R37). -/
def execRegisterWrite (t : Nat) (off : Nat) (bytes : Bytes) (s : State) : Host.Outcome State Fault Refusal :=
  .next (settle (registerWriteStep off bytes (advance t s)))

/-- WIN_IRQ_WRITE (R41). -/
def execWinIrqWrite (t : Nat) (v : Word) (s : State) : Host.Outcome State Fault Refusal :=
  .next (settle (irqWriteStep v (advance t s)))

/-- WIN_IRQEN_WRITE (R42). -/
def execWinIrqenWrite (t : Nat) (v : Word) (s : State) : Host.Outcome State Fault Refusal :=
  .next (settle (irqEnWriteStep v (advance t s)))

/-- EVFLUSH (R41). -/
def execEvflush (t : Nat) (s : State) : Host.Outcome State Fault Refusal :=
  .next (settle (evflushStep (advance t s)))

/-- RXDROP (R41). -/
def execRxdrop (t : Nat) (s : State) : Host.Outcome State Fault Refusal :=
  .next (settle (rxdropStep (advance t s)))

/-- WIN_ERR_WRITE (R41). -/
def execWinErrWrite (t : Nat) (s : State) : Host.Outcome State Fault Refusal :=
  .next (settle (errWriteStep (advance t s)))

/-- UNKNOWN_OPCODE (R38). -/
def execUnknownOpcode (t : Nat) (op : Nat) (off : Nat) (n : Nat) (s : State) : Host.Outcome State Fault Refusal :=
  .next (settle (opcodeStep op off n (advance t s)))

/-- FRAME_WRITE (R51). -/
def execFrameWrite (t : Nat) (bytes : Bytes) (s : State) : Host.Outcome State Fault Refusal :=
  .next (settle (frameWriteStep bytes (advance t s)))

/-- FRAME_READ (R39). -/
def execFrameRead (t : Nat) (n : Nat) (s : State) : Host.Outcome State Fault Refusal :=
  .next (settle (frameReadStep n (advance t s)))

/-- HSPI_WAKE (R43). -/
def execHspiWake (t : Nat) (s : State) : Host.Outcome State Fault Refusal :=
  .next (settle (hspiWakeStep (advance t s)))

/-- FIRST_FRAME (R45). -/
def execFirstFrame (t : Nat) (f : CanFrame) (s : State) : Host.Outcome State Fault Refusal :=
  .next (settle (firstFrameStep f (advance t s)))

/-- CONSECUTIVE_FRAME (R44). -/
def execConsecutiveFrame (t : Nat) (f : CanFrame) (s : State) : Host.Outcome State Fault Refusal :=
  .next (settle (consecutiveFrameStep f (advance t s)))

/-- FLOW_CONTROL (R44). -/
def execFlowControl (t : Nat) (f : CanFrame) (s : State) : Host.Outcome State Fault Refusal :=
  .next (settle (flowControlStep f (advance t s)))

/-- MBX_ETH_DATAGRAM (R46). -/
def execMbxEthDatagram (t : Nat) (d : Datagram) (s : State) : Host.Outcome State Fault Refusal :=
  .next (settle (datagramStep d (advance t s)))

/-- SESSION_IDLE_TIMEOUT (R60). -/
def execSessionIdleTimeout (t : Nat) (tr : Transport) (id : Nat) (s : State) : Host.Outcome State Fault Refusal :=
  .next (settle (sessionIdleStep tr id (advance t s)))

/-- UNPROVEN_SESSION_TIMEOUT (R93). -/
def execUnprovenSessionTimeout (t : Nat) (tr : Transport) (id : Nat) (s : State) : Host.Outcome State Fault Refusal :=
  .next (settle (unprovenStep tr id (advance t s)))

/-- ARBITRATION_STEP (R74). -/
def execArbitrationStep (t : Nat) (s : State) : Host.Outcome State Fault Refusal :=
  .next (settle (arbitrationStep (advance t s)))

/-- CLAIM_LEASE_EXPIRY (R27). -/
def execClaimLeaseExpiry (t : Nat) (obj : Nat) (s : State) : Host.Outcome State Fault Refusal :=
  .next (settle (leaseStep obj (advance t s)))

/-- CAN_FRAME_RECEIVED (R255). -/
def execCanFrameReceived (t : Nat) (ch : Nat) (f : CanFrame) (errs : Nat) (s : State) : Host.Outcome State Fault Refusal :=
  .next (settle (canReceivedStep ch f errs (advance t s)))

end Sys2Proof.Machine
end

