-- ==== Sys2Proof/Machine/Dispatch.lean ====
section
/-! DEFINITION. The one dispatch of commands to their meanings: one arm per constructor. -/

namespace Sys2Proof.Machine

def exec (i : Instr) (s : State) : Host.Outcome State Fault Refusal :=
  match i with
  | .registerWrite t off bytes => Sys2Proof.Machine.execRegisterWrite t off bytes s
  | .winIrqWrite t v => Sys2Proof.Machine.execWinIrqWrite t v s
  | .winIrqenWrite t v => Sys2Proof.Machine.execWinIrqenWrite t v s
  | .evflush t => Sys2Proof.Machine.execEvflush t s
  | .rxdrop t => Sys2Proof.Machine.execRxdrop t s
  | .winErrWrite t => Sys2Proof.Machine.execWinErrWrite t s
  | .unknownOpcode t op off n => Sys2Proof.Machine.execUnknownOpcode t op off n s
  | .frameWrite t bytes => Sys2Proof.Machine.execFrameWrite t bytes s
  | .frameRead t n => Sys2Proof.Machine.execFrameRead t n s
  | .hspiWake t => Sys2Proof.Machine.execHspiWake t s
  | .firstFrame t f => Sys2Proof.Machine.execFirstFrame t f s
  | .consecutiveFrame t f => Sys2Proof.Machine.execConsecutiveFrame t f s
  | .nCrTimeout t => Sys2Proof.Machine.execNCrTimeout t s
  | .flowControl t f => Sys2Proof.Machine.execFlowControl t f s
  | .nBsTimeout t => Sys2Proof.Machine.execNBsTimeout t s
  | .mbxEthDatagram t d => Sys2Proof.Machine.execMbxEthDatagram t d s
  | .sessionIdleTimeout t tr id => Sys2Proof.Machine.execSessionIdleTimeout t tr id s
  | .unprovenSessionTimeout t tr id => Sys2Proof.Machine.execUnprovenSessionTimeout t tr id s
  | .sysInfo r => Sys2Proof.Machine.execSysInfo r s
  | .sysStatus r => Sys2Proof.Machine.execSysStatus r s
  | .sysReset r => Sys2Proof.Machine.execSysReset r s
  | .sysGettime r => Sys2Proof.Machine.execSysGettime r s
  | .sysSettime r => Sys2Proof.Machine.execSysSettime r s
  | .sysResetlog r => Sys2Proof.Machine.execSysResetlog r s
  | .sysWake r => Sys2Proof.Machine.execSysWake r s
  | .modeGet r => Sys2Proof.Machine.execModeGet r s
  | .modeSet r => Sys2Proof.Machine.execModeSet r s
  | .modeHold r => Sys2Proof.Machine.execModeHold r s
  | .modeHoldExpiry t => Sys2Proof.Machine.execModeHoldExpiry t s
  | .pwrGet r => Sys2Proof.Machine.execPwrGet r s
  | .pwrSet r => Sys2Proof.Machine.execPwrSet r s
  | .pwrRefusals r => Sys2Proof.Machine.execPwrRefusals r s
  | .outGet r => Sys2Proof.Machine.execOutGet r s
  | .outSet r => Sys2Proof.Machine.execOutSet r s
  | .outClaim r => Sys2Proof.Machine.execOutClaim r s
  | .outRelease r => Sys2Proof.Machine.execOutRelease r s
  | .outKeep r => Sys2Proof.Machine.execOutKeep r s
  | .outClear r => Sys2Proof.Machine.execOutClear r s
  | .outOwners r => Sys2Proof.Machine.execOutOwners r s
  | .outStnowners r => Sys2Proof.Machine.execOutStnowners r s
  | .lampGet r => Sys2Proof.Machine.execLampGet r s
  | .lampSet r => Sys2Proof.Machine.execLampSet r s
  | .lampScene r => Sys2Proof.Machine.execLampScene r s
  | .wipeGet r => Sys2Proof.Machine.execWipeGet r s
  | .wipeSet r => Sys2Proof.Machine.execWipeSet r s
  | .wipeWash r => Sys2Proof.Machine.execWipeWash r s
  | .motnGet r => Sys2Proof.Machine.execMotnGet r s
  | .motnMove r => Sys2Proof.Machine.execMotnMove r s
  | .motnStop r => Sys2Proof.Machine.execMotnStop r s
  | .motnLearn r => Sys2Proof.Machine.execMotnLearn r s
  | .hapPlay r => Sys2Proof.Machine.execHapPlay r s
  | .hapArm r => Sys2Proof.Machine.execHapArm r s
  | .hapGet r => Sys2Proof.Machine.execHapGet r s
  | .inGet r => Sys2Proof.Machine.execInGet r s
  | .inWatch r => Sys2Proof.Machine.execInWatch r s
  | .keyGet r => Sys2Proof.Machine.execKeyGet r s
  | .rlsGet r => Sys2Proof.Machine.execRlsGet r s
  | .rlsCal r m => Sys2Proof.Machine.execRlsCal r m s
  | .stnList r => Sys2Proof.Machine.execStnList r s
  | .stnGet r => Sys2Proof.Machine.execStnGet r s
  | .stnWrite r => Sys2Proof.Machine.execStnWrite r s
  | .stnCycle r => Sys2Proof.Machine.execStnCycle r s
  | .busGet r => Sys2Proof.Machine.execBusGet r s
  | .busRoute r => Sys2Proof.Machine.execBusRoute r s
  | .busSend r => Sys2Proof.Machine.execBusSend r s
  | .busSendAckTimeout t ch => Sys2Proof.Machine.execBusSendAckTimeout t ch s
  | .busLinsched r => Sys2Proof.Machine.execBusLinsched r s
  | .tagGet r => Sys2Proof.Machine.execTagGet r s
  | .tagEnable r => Sys2Proof.Machine.execTagEnable r s
  | .tagTxnlog r => Sys2Proof.Machine.execTagTxnlog r s
  | .insGet r => Sys2Proof.Machine.execInsGet r s
  | .insApdu r => Sys2Proof.Machine.execInsApdu r s
  | .encCert r => Sys2Proof.Machine.execEncCert r s
  | .encOpen r => Sys2Proof.Machine.execEncOpen r s
  | .encProve r => Sys2Proof.Machine.execEncProve r s
  | .encClose r => Sys2Proof.Machine.execEncClose r s
  | .encAttest r => Sys2Proof.Machine.execEncAttest r s
  | .encKeyupd r run => Sys2Proof.Machine.execEncKeyupd r run s
  | .encKeyinfo r => Sys2Proof.Machine.execEncKeyinfo r s
  | .encCounter r => Sys2Proof.Machine.execEncCounter r s
  | .tmpFlags r => Sys2Proof.Machine.execTmpFlags r s
  | .tmpLog r => Sys2Proof.Machine.execTmpLog r s
  | .tmpExport r => Sys2Proof.Machine.execTmpExport r s
  | .tmpTest r found => Sys2Proof.Machine.execTmpTest r found s
  | .fltRead r => Sys2Proof.Machine.execFltRead r s
  | .fltCounters r => Sys2Proof.Machine.execFltCounters r s
  | .fltClear r => Sys2Proof.Machine.execFltClear r s
  | .tdxStatus r => Sys2Proof.Machine.execTdxStatus r s
  | .cfgInfo r => Sys2Proof.Machine.execCfgInfo r s
  | .cfgBegin r => Sys2Proof.Machine.execCfgBegin r s
  | .cfgData r => Sys2Proof.Machine.execCfgData r s
  | .cfgCommit r runs => Sys2Proof.Machine.execCfgCommit r runs s
  | .cfgRead r => Sys2Proof.Machine.execCfgRead r s
  | .cfgAbort r => Sys2Proof.Machine.execCfgAbort r s
  | .cfgStagingIdle t => Sys2Proof.Machine.execCfgStagingIdle t s
  | .lifeClock r => Sys2Proof.Machine.execLifeClock r s
  | .lifeCounter r => Sys2Proof.Machine.execLifeCounter r s
  | .lifeNotices r => Sys2Proof.Machine.execLifeNotices r s
  | .lifeAck r => Sys2Proof.Machine.execLifeAck r s
  | .updInfo r => Sys2Proof.Machine.execUpdInfo r s
  | .updWrite r => Sys2Proof.Machine.execUpdWrite r s
  | .updStage r => Sys2Proof.Machine.execUpdStage r s
  | .updActivate r => Sys2Proof.Machine.execUpdActivate r s
  | .updConfirm r runs => Sys2Proof.Machine.execUpdConfirm r runs s
  | .extInfo r => Sys2Proof.Machine.execExtInfo r s
  | .extCtrl r => Sys2Proof.Machine.execExtCtrl r s
  | .extMsg r => Sys2Proof.Machine.execExtMsg r s
  | .extMsgTimeout t id => Sys2Proof.Machine.execExtMsgTimeout t id s
  | .diagReq r => Sys2Proof.Machine.execDiagReq r s
  | .diagS3Timeout t => Sys2Proof.Machine.execDiagS3Timeout t s
  | .arbitrationStep t => Sys2Proof.Machine.execArbitrationStep t s
  | .claimLeaseExpiry t obj => Sys2Proof.Machine.execClaimLeaseExpiry t obj s
  | .triggerLevelChange t tr => Sys2Proof.Machine.execTriggerLevelChange t tr s
  | .modeEvaluation t => Sys2Proof.Machine.execModeEvaluation t s
  | .wake0Qualified t => Sys2Proof.Machine.execWake0Qualified t s
  | .approachLingerElapsed t => Sys2Proof.Machine.execApproachLingerElapsed t s
  | .approachTimeout t => Sys2Proof.Machine.execApproachTimeout t s
  | .serviceInactivity t => Sys2Proof.Machine.execServiceInactivity t s
  | .crankLimit t => Sys2Proof.Machine.execCrankLimit t s
  | .ignitionTimeout t => Sys2Proof.Machine.execIgnitionTimeout t s
  | .ignitionInvalidLimit t => Sys2Proof.Machine.execIgnitionInvalidLimit t s
  | .linkLoss t die => Sys2Proof.Machine.execLinkLoss t die s
  | .linkReturn t die => Sys2Proof.Machine.execLinkReturn t die s
  | .enclaveEventTake t => Sys2Proof.Machine.execEnclaveEventTake t s
  | .limitHoldExpiry t obj onUs => Sys2Proof.Machine.execLimitHoldExpiry t obj onUs s
  | .overcurrentTrip t obj => Sys2Proof.Machine.execOvercurrentTrip t obj s
  | .thermalShutdown t obj temp => Sys2Proof.Machine.execThermalShutdown t obj temp s
  | .bootstrapUndervoltage t obj => Sys2Proof.Machine.execBootstrapUndervoltage t obj s
  | .restartIntervalExpiry t obj temp => Sys2Proof.Machine.execRestartIntervalExpiry t obj temp s
  | .sensorCooled t obj temp => Sys2Proof.Machine.execSensorCooled t obj temp s
  | .restartCountRestore t obj => Sys2Proof.Machine.execRestartCountRestore t obj s
  | .inrushWindowEnd t obj => Sys2Proof.Machine.execInrushWindowEnd t obj s
  | .pwmPeriodStart t obj mv ripples => Sys2Proof.Machine.execPwmPeriodStart t obj mv ripples s
  | .senseSlot t sel x => Sys2Proof.Machine.execSenseSlot t sel x s
  | .offStateCheck t obj mv pulled => Sys2Proof.Machine.execOffStateCheck t obj mv pulled s
  | .onStateOpenLoad t obj ma => Sys2Proof.Machine.execOnStateOpenLoad t obj ma s
  | .crankThresholdCrossing t die mv => Sys2Proof.Machine.execCrankThresholdCrossing t die mv s
  | .overvoltageOff t die mv => Sys2Proof.Machine.execOvervoltageOff t die mv s
  | .overvoltageRelease t die mv => Sys2Proof.Machine.execOvervoltageRelease t die mv s
  | .governorEvaluation t die temp ma => Sys2Proof.Machine.execGovernorEvaluation t die temp ma s
  | .wiperParked t => Sys2Proof.Machine.execWiperParked t s
  | .parkTimeout t => Sys2Proof.Machine.execParkTimeout t s
  | .wiperStall t ma => Sys2Proof.Machine.execWiperStall t ma s
  | .stallRetry t => Sys2Proof.Machine.execStallRetry t s
  | .wipeIntervalExpiry t => Sys2Proof.Machine.execWipeIntervalExpiry t s
  | .washEnd t => Sys2Proof.Machine.execWashEnd t s
  | .pinchDetected t act ma ripples => Sys2Proof.Machine.execPinchDetected t act ma ripples s
  | .endStopStall t act ma ripple profile => Sys2Proof.Machine.execEndStopStall t act ma ripple profile s
  | .motionTargetReached t act ripples => Sys2Proof.Machine.execMotionTargetReached t act ripples s
  | .holdToRunTimeout t act => Sys2Proof.Machine.execHoldToRunTimeout t act s
  | .switchPoll t sw mv => Sys2Proof.Machine.execSwitchPoll t sw mv s
  | .confirmBurstPoll t sw mv => Sys2Proof.Machine.execConfirmBurstPoll t sw mv s
  | .switchStuckTime t sw => Sys2Proof.Machine.execSwitchStuckTime t sw s
  | .wakePinFiltered t pin => Sys2Proof.Machine.execWakePinFiltered t pin s
  | .analogSample t mvs => Sys2Proof.Machine.execAnalogSample t mvs s
  | .keyScan t rows idle => Sys2Proof.Machine.execKeyScan t rows idle s
  | .keyStuckTime t key => Sys2Proof.Machine.execKeyStuckTime t key s
  | .anyKeySense t rows => Sys2Proof.Machine.execAnyKeySense t rows s
  | .rainMeasurement t s0 ok0 s1 ok1 => Sys2Proof.Machine.execRainMeasurement t s0 ok0 s1 ok1 s
  | .intensityFall t => Sys2Proof.Machine.execIntensityFall t s
  | .rainSensingFailed t => Sys2Proof.Machine.execRainSensingFailed t s
  | .alsSample t raw0 ok0 raw1 ok1 => Sys2Proof.Machine.execAlsSample t raw0 ok0 raw1 ok1 s
  | .lightStateDelayExpiry t => Sys2Proof.Machine.execLightStateDelayExpiry t s
  | .alsFailed t ch => Sys2Proof.Machine.execAlsFailed t ch s
  | .rainLight t => Sys2Proof.Machine.execRainLight t s
  | .mountMeasurement t v => Sys2Proof.Machine.execMountMeasurement t v s
  | .htrigEdge t rising => Sys2Proof.Machine.execHtrigEdge t rising s
  | .effectEnd t bemf => Sys2Proof.Machine.execEffectEnd t bemf s
  | .effectTimeLimit t => Sys2Proof.Machine.execEffectTimeLimit t s
  | .i2tUpdate t ma => Sys2Proof.Machine.execI2tUpdate t ma s
  | .resistanceCheck t mv ua => Sys2Proof.Machine.execResistanceCheck t mv ua s
  | .hapticUndervoltage t mv => Sys2Proof.Machine.execHapticUndervoltage t mv s
  | .cycleInstant t port => Sys2Proof.Machine.execCycleInstant t port s
  | .inputFrame t f => Sys2Proof.Machine.execInputFrame t f s
  | .inputDeadline t port => Sys2Proof.Machine.execInputDeadline t port s
  | .computeComplete t port => Sys2Proof.Machine.execComputeComplete t port s
  | .outputsReadyDeadline t port => Sys2Proof.Machine.execOutputsReadyDeadline t port s
  | .residualFrame t port src millrace frame => Sys2Proof.Machine.execResidualFrame t port src millrace frame s
  | .residualUplinkFrame t dst vlan frame => Sys2Proof.Machine.execResidualUplinkFrame t dst vlan frame s
  | .engineStart t => Sys2Proof.Machine.execEngineStart t s
  | .keyLoadRetry t => Sys2Proof.Machine.execKeyLoadRetry t s
  | .t1sEnergyDetect t port us => Sys2Proof.Machine.execT1sEnergyDetect t port us s
  | .canFrameReceived t ch f errs => Sys2Proof.Machine.execCanFrameReceived t ch f errs s
  | .canBusOffEntry t ch => Sys2Proof.Machine.execCanBusOffEntry t ch s
  | .busOffRecovery t ch => Sys2Proof.Machine.execBusOffRecovery t ch s
  | .wuf t f => Sys2Proof.Machine.execWuf t f s
  | .wakeErrorCount t count => Sys2Proof.Machine.execWakeErrorCount t count s
  | .linSlotEnd t ch resp collision => Sys2Proof.Machine.execLinSlotEnd t ch resp collision s
  | .linBusFault t ch ms => Sys2Proof.Machine.execLinBusFault t ch ms s
  | .linScheduleStart t ch => Sys2Proof.Machine.execLinScheduleStart t ch s
  | .linkPoll t up speed full => Sys2Proof.Machine.execLinkPoll t up speed full s
  | .gptpSync t domain seq twoStep ns interval => Sys2Proof.Machine.execGptpSync t domain seq twoStep ns interval s
  | .announce t domain valid offset => Sys2Proof.Machine.execAnnounce t domain valid offset s
  | .gptpInvalid t => Sys2Proof.Machine.execGptpInvalid t s
  | .arpRequest t vlan target sender => Sys2Proof.Machine.execArpRequest t vlan target sender s
  | .icmpEcho t vlan target sender ident seq data => Sys2Proof.Machine.execIcmpEcho t vlan target sender ident seq data s
  | .ntscfReceived t vlan etherType pdu => Sys2Proof.Machine.execNtscfReceived t vlan etherType pdu s
  | .batchClose t stream => Sys2Proof.Machine.execBatchClose t stream s
  | .bst t beacon channel profile efc context => Sys2Proof.Machine.execBst t beacon channel profile efc context s
  | .get t bit link attrs cred => Sys2Proof.Machine.execGet t bit link attrs cred s
  | .set t bit link attr value => Sys2Proof.Machine.execSet t bit link attr value s
  | .actionGetStamped t bit link attrs rnd key cred => Sys2Proof.Machine.execActionGetStamped t bit link attrs rnd key cred s
  | .actionSetMmi t bit link v => Sys2Proof.Machine.execActionSetMmi t bit link v s
  | .actionEcho t bit link data => Sys2Proof.Machine.execActionEcho t bit link data s
  | .eventReport t bit link => Sys2Proof.Machine.execEventReport t bit link s
  | .transactionIdle t => Sys2Proof.Machine.execTransactionIdle t s
  | .select t target action bank ptr len mask => Sys2Proof.Machine.execSelect t target action bank ptr len mask s
  | .query t sel session target q => Sys2Proof.Machine.execQuery t sel session target q s
  | .queryAdjust t session updn => Sys2Proof.Machine.execQueryAdjust t session updn s
  | .queryRep t session => Sys2Proof.Machine.execQueryRep t session s
  | .ack t rn => Sys2Proof.Machine.execAck t rn s
  | .nak t => Sys2Proof.Machine.execNak t s
  | .reqRn t rn => Sys2Proof.Machine.execReqRn t rn s
  | .read t bank ptr count handle => Sys2Proof.Machine.execRead t bank ptr count handle s
  | .access t pw handle => Sys2Proof.Machine.execAccess t pw handle s
  | .authenticate t csi method keyId challenge handle => Sys2Proof.Machine.execAuthenticate t csi method keyId challenge handle s
  | .write t handle => Sys2Proof.Machine.execWrite t handle s
  | .blockwrite t handle => Sys2Proof.Machine.execBlockwrite t handle s
  | .blockerase t handle => Sys2Proof.Machine.execBlockerase t handle s
  | .lock t handle => Sys2Proof.Machine.execLock t handle s
  | .kill t handle => Sys2Proof.Machine.execKill t handle s
  | .uhfFlagPersistence t => Sys2Proof.Machine.execUhfFlagPersistence t s
  | .rfFieldDetect t us => Sys2Proof.Machine.execRfFieldDetect t us s
  | .insertion t => Sys2Proof.Machine.execInsertion t s
  | .insertApduResponse t data sw crcOk => Sys2Proof.Machine.execInsertApduResponse t data sw crcOk s
  | .bwtTimeout t => Sys2Proof.Machine.execBwtTimeout t s
  | .removal t => Sys2Proof.Machine.execRemoval t s
  | .insertStateTick t => Sys2Proof.Machine.execInsertStateTick t s
  | .writeBack t => Sys2Proof.Machine.execWriteBack t s
  | .writeBackRetry t => Sys2Proof.Machine.execWriteBackRetry t s
  | .encStart t entropyOk => Sys2Proof.Machine.execEncStart t entropyOk s
  | .enclaveWatchdogExpiry t => Sys2Proof.Machine.execEnclaveWatchdogExpiry t s
  | .encr t => Sys2Proof.Machine.execEncr t s
  | .tamperEvent t seen => Sys2Proof.Machine.execTamperEvent t seen s
  | .slowCheck t pass => Sys2Proof.Machine.execSlowCheck t pass s
  | .slowCheckConfirm t pass => Sys2Proof.Machine.execSlowCheckConfirm t pass s
  | .monitorArmed t source => Sys2Proof.Machine.execMonitorArmed t source s
  | .tamperRearm t source => Sys2Proof.Machine.execTamperRearm t source s
  | .tamperLogWrite t line => Sys2Proof.Machine.execTamperLogWrite t line s
  | .noticeArrival t src kind island detail => Sys2Proof.Machine.execNoticeArrival t src kind island detail s
  | .recoverableArrival t src kind island detail => Sys2Proof.Machine.execRecoverableArrival t src kind island detail s
  | .severeArrival t src kind island detail => Sys2Proof.Machine.execSevereArrival t src kind island detail s
  | .graveArrival t src kind island detail => Sys2Proof.Machine.execGraveArrival t src kind island detail s
  | .quietPeriodEnd t => Sys2Proof.Machine.execQuietPeriodEnd t s
  | .faultHistoryTake t => Sys2Proof.Machine.execFaultHistoryTake t s
  | .recoverableAck t => Sys2Proof.Machine.execRecoverableAck t s
  | .ackTimeout t => Sys2Proof.Machine.execAckTimeout t s
  | .collectorHandshakeMiss t => Sys2Proof.Machine.execCollectorHandshakeMiss t s
  | .bridgeTimeout t near far ns => Sys2Proof.Machine.execBridgeTimeout t near far ns s
  | .xtal25Fail t seen => Sys2Proof.Machine.execXtal25Fail t seen s
  | .aokFail t noEdge => Sys2Proof.Machine.execAokFail t noEdge s
  | .aokRetry t runs => Sys2Proof.Machine.execAokRetry t runs s
  | .aorcCalibration t => Sys2Proof.Machine.execAorcCalibration t s
  | .powerDieClockFail t die khz => Sys2Proof.Machine.execPowerDieClockFail t die khz s
  | .regFault t => Sys2Proof.Machine.execRegFault t s
  | .sensorFail t die => Sys2Proof.Machine.execSensorFail t die s
  | .seqParity t die => Sys2Proof.Machine.execSeqParity t die s
  | .tdxWindowCompare t task upset addr => Sys2Proof.Machine.execTdxWindowCompare t task upset addr s
  | .supplyTrigger t mv => Sys2Proof.Machine.execSupplyTrigger t mv s
  | .shutdownByModePolicy t target => Sys2Proof.Machine.execShutdownByModePolicy t target s
  | .shutdownStepComplete t => Sys2Proof.Machine.execShutdownStepComplete t s
  | .supplyReturn t mv => Sys2Proof.Machine.execSupplyReturn t mv s
  | .supplyRestart t mv => Sys2Proof.Machine.execSupplyRestart t mv s
  | .entryRetry t => Sys2Proof.Machine.execEntryRetry t s
  | .domainOn t d => Sys2Proof.Machine.execDomainOn t d s
  | .wake t source => Sys2Proof.Machine.execWake t source s
  | .wakeTimer t => Sys2Proof.Machine.execWakeTimer t s
  | .wakeHeldRelease t mv => Sys2Proof.Machine.execWakeHeldRelease t mv s
  | .awakeTimerExpiry t => Sys2Proof.Machine.execAwakeTimerExpiry t s
  | .por t below28 below18 testPin isMode comparatorOk => Sys2Proof.Machine.execPor t below28 below18 testPin isMode comparatorOk s
  | .bor t d => Sys2Proof.Machine.execBor t d s
  | .lpbo t ua us => Sys2Proof.Machine.execLpbo t ua us s
  | .pinReset t release lowNs csnLow heldMs => Sys2Proof.Machine.execPinReset t release lowNs csnLow heldMs s
  | .wdt t gap => Sys2Proof.Machine.execWdt t gap s
  | .domReset t d => Sys2Proof.Machine.execDomReset t d s
  | .journalFlush t => Sys2Proof.Machine.execJournalFlush t s
  | .formerPageErase t => Sys2Proof.Machine.execFormerPageErase t s
  | .autoConfirm t => Sys2Proof.Machine.execAutoConfirm t s
  | .floorRaiseRetry t => Sys2Proof.Machine.execFloorRaiseRetry t s
  | .inactiveBankCheck t => Sys2Proof.Machine.execInactiveBankCheck t s
  | .extensionStart t => Sys2Proof.Machine.execExtensionStart t s
  | .extensionRestart t => Sys2Proof.Machine.execExtensionRestart t s
  | .timeSlice t => Sys2Proof.Machine.execTimeSlice t s
  | .sharePeriod t => Sys2Proof.Machine.execSharePeriod t s
  | .syscallTimeout t thread => Sys2Proof.Machine.execSyscallTimeout t thread s
  | .interrupt t source level => Sys2Proof.Machine.execInterrupt t source level s
  | .addi rd ra imm => Sys2Proof.Machine.execAddi rd ra imm s
  | .andi rd ra imm => Sys2Proof.Machine.execAndi rd ra imm s
  | .ori rd ra imm => Sys2Proof.Machine.execOri rd ra imm s
  | .xori rd ra imm => Sys2Proof.Machine.execXori rd ra imm s
  | .lui rd imm => Sys2Proof.Machine.execLui rd imm s
  | .add rd ra rb => Sys2Proof.Machine.execAdd rd ra rb s
  | .sub rd ra rb => Sys2Proof.Machine.execSub rd ra rb s
  | .and rd ra rb => Sys2Proof.Machine.execAnd rd ra rb s
  | .or rd ra rb => Sys2Proof.Machine.execOr rd ra rb s
  | .xor rd ra rb => Sys2Proof.Machine.execXor rd ra rb s
  | .sll rd ra rb => Sys2Proof.Machine.execSll rd ra rb s
  | .srl rd ra rb => Sys2Proof.Machine.execSrl rd ra rb s
  | .sra rd ra rb => Sys2Proof.Machine.execSra rd ra rb s
  | .ror rd ra rb => Sys2Proof.Machine.execRor rd ra rb s
  | .slli rd ra sh => Sys2Proof.Machine.execSlli rd ra sh s
  | .srli rd ra sh => Sys2Proof.Machine.execSrli rd ra sh s
  | .srai rd ra sh => Sys2Proof.Machine.execSrai rd ra sh s
  | .rori rd ra sh => Sys2Proof.Machine.execRori rd ra sh s
  | .mul rd ra rb => Sys2Proof.Machine.execMul rd ra rb s
  | .mulh rd ra rb => Sys2Proof.Machine.execMulh rd ra rb s
  | .mulhu rd ra rb => Sys2Proof.Machine.execMulhu rd ra rb s
  | .div rd ra rb => Sys2Proof.Machine.execDiv rd ra rb s
  | .divu rd ra rb => Sys2Proof.Machine.execDivu rd ra rb s
  | .rem rd ra rb => Sys2Proof.Machine.execRem rd ra rb s
  | .remu rd ra rb => Sys2Proof.Machine.execRemu rd ra rb s
  | .lw rd ra imm ecc => Sys2Proof.Machine.execLw rd ra imm ecc s
  | .lh rd ra imm => Sys2Proof.Machine.execLh rd ra imm s
  | .lhu rd ra imm => Sys2Proof.Machine.execLhu rd ra imm s
  | .lb rd ra imm => Sys2Proof.Machine.execLb rd ra imm s
  | .lbu rd ra imm => Sys2Proof.Machine.execLbu rd ra imm s
  | .sw rd ra imm => Sys2Proof.Machine.execSw rd ra imm s
  | .sh rd ra imm => Sys2Proof.Machine.execSh rd ra imm s
  | .sb rd ra imm => Sys2Proof.Machine.execSb rd ra imm s
  | .swap rd ra imm => Sys2Proof.Machine.execSwap rd ra imm s
  | .beq ra rb off => Sys2Proof.Machine.execBeq ra rb off s
  | .bne ra rb off => Sys2Proof.Machine.execBne ra rb off s
  | .blt ra rb off => Sys2Proof.Machine.execBlt ra rb off s
  | .bge ra rb off => Sys2Proof.Machine.execBge ra rb off s
  | .bltu ra rb off => Sys2Proof.Machine.execBltu ra rb off s
  | .bgeu ra rb off => Sys2Proof.Machine.execBgeu ra rb off s
  | .beqi ra imm off => Sys2Proof.Machine.execBeqi ra imm off s
  | .bnei ra imm off => Sys2Proof.Machine.execBnei ra imm off s
  | .blti ra imm off => Sys2Proof.Machine.execBlti ra imm off s
  | .bgei ra imm off => Sys2Proof.Machine.execBgei ra imm off s
  | .j off => Sys2Proof.Machine.execJ off s
  | .call off => Sys2Proof.Machine.execCall off s
  | .callw off => Sys2Proof.Machine.execCallw off s
  | .jr ra => Sys2Proof.Machine.execJr ra s
  | .callr ra => Sys2Proof.Machine.execCallr ra s
  | .callwr ra => Sys2Proof.Machine.execCallwr ra s
  | .ret => Sys2Proof.Machine.execRet s
  | .retw => Sys2Proof.Machine.execRetw s
  | .sysc n => Sys2Proof.Machine.execSysc n s
  | .tret => Sys2Proof.Machine.execTret s
  | .wspill => Sys2Proof.Machine.execWspill s
  | .wfill => Sys2Proof.Machine.execWfill s
  | .wfi => Sys2Proof.Machine.execWfi s
  | .halt => Sys2Proof.Machine.execHalt s
  | .csrr rd csr => Sys2Proof.Machine.execCsrr rd csr s
  | .csrw ra csr => Sys2Proof.Machine.execCsrw ra csr s
  | .vadd rd ra rb => Sys2Proof.Machine.execVadd rd ra rb s
  | .vadds rd ra rb => Sys2Proof.Machine.execVadds rd ra rb s
  | .vsub rd ra rb => Sys2Proof.Machine.execVsub rd ra rb s
  | .vsubs rd ra rb => Sys2Proof.Machine.execVsubs rd ra rb s
  | .vand rd ra rb => Sys2Proof.Machine.execVand rd ra rb s
  | .vor rd ra rb => Sys2Proof.Machine.execVor rd ra rb s
  | .vxor rd ra rb => Sys2Proof.Machine.execVxor rd ra rb s
  | .vmul rd ra rb => Sys2Proof.Machine.execVmul rd ra rb s
  | .vmac ra rb => Sys2Proof.Machine.execVmac ra rb s
  | .vmsu ra rb => Sys2Proof.Machine.execVmsu ra rb s
  | .vaclr => Sys2Proof.Machine.execVaclr s
  | .vacrd rd sh => Sys2Proof.Machine.execVacrd rd sh s
  | .vmovg rd ra lane => Sys2Proof.Machine.execVmovg rd ra lane s
  | .vmovv rd ra lane => Sys2Proof.Machine.execVmovv rd ra lane s
  | .vsplat rd ra => Sys2Proof.Machine.execVsplat rd ra s
  | .vld rd ra imm => Sys2Proof.Machine.execVld rd ra imm s
  | .vst rd ra imm => Sys2Proof.Machine.execVst rd ra imm s
  | .cxvDma ra => Sys2Proof.Machine.execCxvDma ra s
  | .syscExit => Sys2Proof.Machine.execSyscExit s
  | .syscThread => Sys2Proof.Machine.execSyscThread s
  | .syscYield => Sys2Proof.Machine.execSyscYield s
  | .syscSleep => Sys2Proof.Machine.execSyscSleep s
  | .syscWait => Sys2Proof.Machine.execSyscWait s
  | .syscTime => Sys2Proof.Machine.execSyscTime s
  | .syscLastfault => Sys2Proof.Machine.execSyscLastfault s
  | .syscTdx => Sys2Proof.Machine.execSyscTdx s
  | .syscMsgWait => Sys2Proof.Machine.execSyscMsgWait s
  | .syscMsgReply => Sys2Proof.Machine.execSyscMsgReply s
  | .syscInGet => Sys2Proof.Machine.execSyscInGet s
  | .syscKeyGet => Sys2Proof.Machine.execSyscKeyGet s
  | .syscModeGet => Sys2Proof.Machine.execSyscModeGet s
  | .syscWatch => Sys2Proof.Machine.execSyscWatch s
  | .syscOutClaim => Sys2Proof.Machine.execSyscOutClaim s
  | .syscOutRelease => Sys2Proof.Machine.execSyscOutRelease s
  | .syscOutSet => Sys2Proof.Machine.execSyscOutSet s
  | .syscOutGet => Sys2Proof.Machine.execSyscOutGet s
  | .syscHapPlay => Sys2Proof.Machine.execSyscHapPlay s
  | .syscStnGet => Sys2Proof.Machine.execSyscStnGet s
  | .syscStnWrite => Sys2Proof.Machine.execSyscStnWrite s
  | .syscCanFilter => Sys2Proof.Machine.execSyscCanFilter s
  | .syscCanRecv => Sys2Proof.Machine.execSyscCanRecv s
  | .syscCanSend => Sys2Proof.Machine.execSyscCanSend s
  | .syscNdRead => Sys2Proof.Machine.execSyscNdRead s
  | .syscNdWrite => Sys2Proof.Machine.execSyscNdWrite s
  | .syscNdAppend => Sys2Proof.Machine.execSyscNdAppend s
  | .syscNdErase => Sys2Proof.Machine.execSyscNdErase s
  | .syscSha256 => Sys2Proof.Machine.execSyscSha256 s
  | .syscRandom => Sys2Proof.Machine.execSyscRandom s
  | .syscCmac => Sys2Proof.Machine.execSyscCmac s
  | .syscGcmSeal => Sys2Proof.Machine.execSyscGcmSeal s
  | .syscGcmOpen => Sys2Proof.Machine.execSyscGcmOpen s
  | .syscCtrGet => Sys2Proof.Machine.execSyscCtrGet s
  | .syscCtrRaise => Sys2Proof.Machine.execSyscCtrRaise s
  | .canFrameTransmitted t ch errs => Sys2Proof.Machine.execCanFrameTransmitted t ch errs s
  | .residualWindowOpen t port => Sys2Proof.Machine.execResidualWindowOpen t port s
  | .gptpFollowUp t domain seq ns => Sys2Proof.Machine.execGptpFollowUp t domain seq ns s
  | .pdelayResponse t peer t1 t2 t3 t4 => Sys2Proof.Machine.execPdelayResponse t peer t1 t2 t3 t4 s
  | .lifeClockSecond t => Sys2Proof.Machine.execLifeClockSecond t s
  | .effectBrakeEnd t => Sys2Proof.Machine.execEffectBrakeEnd t s
  | .uhfFieldLoss t => Sys2Proof.Machine.execUhfFieldLoss t s
  | .wakePinEdge t pin high => Sys2Proof.Machine.execWakePinEdge t pin high s
  | .wiperServicePosition t => Sys2Proof.Machine.execWiperServicePosition t s

end Sys2Proof.Machine
end

