-- ==== Sys2Proof/Safety.lean ====
section
/-! DEFINITION. What counts as a safe step, and the words the claims use: an instruction that executes, the register result, the order of a request. -/

namespace Sys2Proof.Safety
open Sys2Proof.Machine

/-- The step answers a next state: no fault, no refusal. -/
def GoesOn (s : State) : Prop := ∃ t, step s = .next t

/-- Every memory of the device is in canonical form: the core's memory with default 0, the external flash with default 0xFF. -/
def MemoryWf (s : State) : Prop := memWf 0 s.core.mem = true ∧ memWf 0xFF s.boot.flash = true

/-- The core executes its next instruction: it runs, and the MPU permits the fetch (R533, R537). -/
def Fetches (s : State) : Prop := canRun s = true ∧ mpuOk s.core s.core.r.psr.u 0 s.core.r.pc.toNat = true

/-- The instruction counted: CYCLE, and the thread's share in user mode (R521, R546). -/
def counted (s : State) : State :=
  { s with core := { s.core with cycle := (s.core.cycle + 1) % 2 ^ 64 },
           ext := { s.ext with share := if s.core.r.psr.u then s.ext.share - 1 else s.ext.share } }

/-- The state an instruction works on: counted, with a TDX window open in a TDX task (R377). -/
def atInstr (s : State) : State := openWindow (counted s)

/-- Every TDX window before the instruction has matched, so that one which waits for that goes on (R377, R379). -/
def Compared (s : State) : Prop := s.core.r.psr.tdx = true → (closeWindow (atInstr s)).core.tdx.closed = []

/-- An access that takes no window of its own: memory that is no device's, or a task without TDX (R377, R378). -/
def Plain (s : State) (ea : Word) : Prop := s.core.r.psr.tdx = true → isDevice s.core ea.toNat = false

/-- An instruction complete: the running registers become `r`, all else as `s`, and its result and address folded into an open TDX window (R376). -/
def retired (r : Regs) (res ea : Word) (s : State) : State := foldWindow res ea { s with core := { s.core with r := r } }

/-- Registers after a register result: rd written, the pc at the next instruction (R519, R529). -/
def rdAndNext (r : Regs) (rd : BitVec 5) (v : Word) : Regs := { writeReg r rd v with pc := r.pc + 4 }

/-- `exec c s` answers a next state: `s₁` with what follows a command brought to its end (log 18). -/
def Does (c : Instr) (s s₁ : State) : Prop := exec c s = .next (settle s₁)

/-- `exec c s` is a register result: rd gets `v`, the pc moves on by 4, and nothing else changes but CYCLE, the thread's share and an open TDX window. -/
def WritesRd (c : Instr) (s : State) (rd : BitVec 5) (v : Word) : Prop :=
  Does c s (retired (rdAndNext s.core.r rd v) v 0 (atInstr s))

/-- `exec c s` is a trap of the core with a cause and an EADDR, handled once the TDX windows before it have matched (R379). -/
def Traps (c : Instr) (s : State) (cause : Nat) (eaddr : Word) : Prop := Does c s (trapStep cause eaddr (counted s))

/-- The exit address in user mode ends the thread (R525). -/
def Exits (s : State) (target : Word) : Prop := target = 0xFFFFFFF0#32 ∧ s.core.r.psr.u = true

/-- `exec c s` goes to a target: the pc alone changes; a target that is no multiple of 4 raises ALIGN with the target in EADDR; the exit address in user mode ends the thread, once every window has matched (R525, R529, R377). -/
def JumpsTo (c : Instr) (s : State) (target : Word) : Prop :=
  (Exits s target → Compared s → Does c s (foldWindow target target (threadExit (closeWindow (atInstr s))))) ∧
  (¬ Exits s target → target.toNat % 4 = 0 → Does c s (retired { s.core.r with pc := target } target target (atInstr s))) ∧
  (target.toNat % 4 ≠ 0 → Traps c s 0x05 target)

/-- `exec c s` is a compare-and-branch: to the target where taken, to the next instruction otherwise (R529). -/
def Branches (c : Instr) (s : State) (taken : Prop) (target : Word) : Prop :=
  (taken → JumpsTo c s target) ∧ (¬ taken → Does c s (retired { s.core.r with pc := s.core.r.pc + 4 } 0 0 (atInstr s)))

/-- A SYSC of extension code is served: user mode outside a window trap, a window free for the entry, no TDX comparison still due (R377, R522, R551). -/
def SyscallServed (s : State) : Prop :=
  Fetches s ∧ s.core.r.psr.u = true ∧ s.core.r.psr.tw = false ∧ s.core.r.res < 7 ∧ s.core.r.cwp < 8 ∧
    Compared s

/-- The state in which Smisa serves a syscall: the trap entry's registers saved, the thread at the instruction after the SYSC (R532, R551). -/
def inSyscall (s : State) : State :=
  let c := closeWindow (atInstr s)
  { c with core := { c.core with epc := s.core.r.pc + 4, epsr := s.core.r.psr, ecause := 0x08, eaddr := 0, r := { s.core.r with pc := s.core.r.pc + 4 } } }

/-- Argument `i` of a syscall, in w12 + i of the calling window (R551). -/
def argOf (s : State) (i : Nat) : Nat := (s.core.r.ring.getD (if s.core.r.cwp = 7 then i else 12 * s.core.r.cwp + 12 + i) 0).toNat

/-- A syscall returns a status in w12 and results from w13 on, over a state `p`; the scheduler follows (R546, R551). The window is closed, so nothing is folded (R377). -/
def Returns (c : Instr) (s : State) (status : Nat) (results : List Nat) (p : State) : Prop :=
  Does c s (foldWindow 0 0 (reschedule (modRegs (putResults status results) p)))

/-- A syscall makes its thread wait over a state `p`, until a time or for ever; the scheduler follows (R546, R552). -/
def Waits (c : Instr) (s : State) (w : Waiting) (dueAt : Option Nat) (p : State) : Prop :=
  Does c s (foldWindow 0 0 (reschedule (modThread p.ext.cur (fun t => { t with wait := some w, dueAt := dueAt }) p)))

/-- A request that is served at once, by steps 5 to 13 of R51: its transport is served, a slot and its lane are free, its session is open and its SEQ new, its MAC is correct, its privilege and lane allow the command, and Smisa runs. -/
def Ready (code : Nat) (r : Req) (s : State) : Prop :=
  (getPort s r.transport).served = true ∧ r.payload.length ≤ 1000 ∧ (getPort s r.transport).slots.length < 8 ∧
  (∀ y ∈ (getPort s r.transport).slots, y.req.async = true ∧ y.started = true) ∧
  (∃ x, sessionCheck r s = .ok x ∧ seqClass x r.seq = .fresh ∧ ctrAfter x r.seq ≤ 0xFFFFFFFF ∧
    (r.auth = true → encServes s = true ∧ macOk code r x = true)) ∧
  laneCheck code r s = none ∧ s.boot.runs = 1

/-- An accepted request in its slot: its session, its abort record, its leases and the timers it restarts (R46, R54 to R56, R60, R64, R76). -/
def taken (code : Nat) (r : Req) (s : State) : State :=
  modPort r.transport (fun p => { p with slots := p.slots ++ [{ code := code, req := r, started := true, refuse := none }] })
    (renewLeases code r (noteAccepted code r ((findSession s r.transport r.session).getD {}) true s))

/-- The state a command works on: the request taken at its time, its events held until its response (R62). -/
def serving (code : Nat) (r : Req) (s : State) : State :=
  let p := taken code r (advance r.time s)
  { p with mbx := { p.mbx with hold := some [] } }

/-- `exec c s` answers the request with a status and a body over a state `p`: the response, then the events held (R61, R62). -/
def Answers (c : Instr) (code : Nat) (r : Req) (s : State) (status : Nat) (body : Bytes) (p : State) : Prop :=
  Does c s (releaseEvents (finish code status body r p))

/-- `exec c s` leaves the request in its slot over a state `p`: its response comes later. -/
def Pends (c : Instr) (s p : State) : Prop := Does c s (releaseEvents p)

/-- `exec c s` answers the request, and what `k` does follows once the response has been handed over (R80, R82). -/
def AnswersThen (c : Instr) (code : Nat) (r : Req) (s : State) (status : Nat) (body : Bytes) (p : State) (k : State → State) : Prop :=
  Does c s (k (releaseEvents (finish code status body r p)))

/-- A request is served at its time with a payload of `lo` to `hi` bytes (R51, R69). -/
def Served (code lo hi : Nat) (r : Req) (s : State) : Prop :=
  Ready code r (advance r.time s) ∧ lo ≤ r.payload.length ∧ r.payload.length ≤ hi

/-- The present mode and a shutdown do not refuse the command (R99, R100, R419). -/
def Allowed (code : Nat) (r : Req) (p : State) : Prop := modeRefused code r.payload p = false ∧ shutdownRefused code p = false

/-- What a mailbox row's operand puts into the state before its request, for the rows as `mailboxRows` gives them: what a calibration, a key update, a monitor test, a commit and a floor raise meet. -/
def offered (code : Nat) (s : State) : State := match code with
  | 0x1A02 => { s with env := { s.env with cal := {} } }
  | 0x3206 => { s with env := { s.env with keyRun := .done } }
  | 0x3304 => { s with env := { s.env with found := 15 } }
  | 0x5004 => { s with env := { s.env with commitRuns := false } }
  | 0x6005 => { s with env := { s.env with raiseRuns := false } }
  | _ => s

/-- The mailbox commands: the code of each, and its row (R68, 03_commands.md). -/
def mailboxRows : List (Nat × (Req → Instr)) := [
   (0x0101, .sysInfo), (0x0102, .sysStatus), (0x0103, .sysReset), (0x0104, .sysGettime), (0x0105, .sysSettime), (0x0106, .sysResetlog),
   (0x0107, .sysWake), (0x0201, .modeGet), (0x0202, .modeSet), (0x0203, .modeHold), (0x0301, .pwrGet), (0x0302, .pwrSet),
   (0x0303, .pwrRefusals), (0x1001, .outGet), (0x1002, .outSet), (0x1003, .outClaim), (0x1004, .outRelease), (0x1005, .outKeep),
   (0x1006, .outClear), (0x1007, .outOwners), (0x1008, .outStnowners), (0x1101, .lampGet), (0x1102, .lampSet), (0x1103, .lampScene),
   (0x1201, .wipeGet), (0x1202, .wipeSet), (0x1203, .wipeWash), (0x1301, .motnGet), (0x1302, .motnMove), (0x1303, .motnStop),
   (0x1304, .motnLearn), (0x1B01, .hapPlay), (0x1B02, .hapArm), (0x1B03, .hapGet), (0x1801, .inGet), (0x1802, .inWatch),
   (0x1901, .keyGet), (0x1A01, .rlsGet), (0x1A02, fun r => .rlsCal r {}), (0x2001, .stnList), (0x2002, .stnGet), (0x2003, .stnWrite),
   (0x2004, .stnCycle), (0x2101, .busGet), (0x2102, .busRoute), (0x2103, .busSend), (0x2104, .busLinsched), (0x3001, .tagGet),
   (0x3002, .tagEnable), (0x3003, .tagTxnlog), (0x3101, .insGet), (0x3102, .insApdu), (0x3201, .encCert), (0x3202, .encOpen),
   (0x3203, .encProve), (0x3204, .encClose), (0x3205, .encAttest), (0x3206, fun r => .encKeyupd r .done), (0x3207, .encKeyinfo), (0x3208, .encCounter),
   (0x3301, .tmpFlags), (0x3302, .tmpLog), (0x3303, .tmpExport), (0x3304, fun r => .tmpTest r 15), (0x4001, .fltRead), (0x4002, .fltCounters),
   (0x4003, .fltClear), (0x4101, .tdxStatus), (0x5001, .cfgInfo), (0x5002, .cfgBegin), (0x5003, .cfgData), (0x5004, fun r => .cfgCommit r false),
   (0x5005, .cfgRead), (0x5006, .cfgAbort), (0x5101, .lifeClock), (0x5102, .lifeCounter), (0x5103, .lifeNotices), (0x5104, .lifeAck),
   (0x6001, .updInfo), (0x6002, .updWrite), (0x6003, .updStage), (0x6004, .updActivate), (0x6005, fun r => .updConfirm r false), (0x6101, .extInfo),
   (0x6102, .extCtrl), (0x6103, .extMsg), (0x7001, .diagReq)]

end Sys2Proof.Safety
end

