-- ==== Sys2Proof/Certificates/Slice0/Obligations.lean ====
section
/-! DEFINITION. The statements about the model: each names the rules of spec/ it states. -/

open Sys2Proof Sys2Proof.Machine Sys2Proof.Safety

/-- R530, R531: every register result of the ALU group and of the immediate forms, with its frame: rd alone is written. -/
def Obligations.AluWritesItsResult : Prop :=
  ∀ (s : State) (rd ra rb sh : BitVec 5) (imm : BitVec 16), Fetches s → regOk rd = true → regOk ra = true → regOk rb = true →
    let a := readReg s.core.r ra
    let b := readReg s.core.r rb
    let n := b.toNat % 32
    WritesRd (.addi rd ra imm) s rd (a + imm.signExtend 32) ∧
    WritesRd (.andi rd ra imm) s rd (a &&& imm.zeroExtend 32) ∧
    WritesRd (.ori rd ra imm) s rd (a ||| imm.zeroExtend 32) ∧
    WritesRd (.xori rd ra imm) s rd (a ^^^ imm.zeroExtend 32) ∧
    WritesRd (.lui rd imm) s rd (imm ++ 0#16) ∧
    WritesRd (.add rd ra rb) s rd (a + b) ∧
    WritesRd (.sub rd ra rb) s rd (a - b) ∧
    WritesRd (.and rd ra rb) s rd (a &&& b) ∧
    WritesRd (.or rd ra rb) s rd (a ||| b) ∧
    WritesRd (.xor rd ra rb) s rd (a ^^^ b) ∧
    WritesRd (.sll rd ra rb) s rd (BitVec.ofNat 32 (a.toNat * 2 ^ n)) ∧
    WritesRd (.srl rd ra rb) s rd (BitVec.ofNat 32 (a.toNat / 2 ^ n)) ∧
    WritesRd (.sra rd ra rb) s rd (BitVec.ofInt 32 (a.toInt / 2 ^ n)) ∧
    WritesRd (.ror rd ra rb) s rd (a >>> n ||| a <<< (32 - n)) ∧
    WritesRd (.slli rd ra sh) s rd (BitVec.ofNat 32 (a.toNat * 2 ^ sh.toNat)) ∧
    WritesRd (.srli rd ra sh) s rd (BitVec.ofNat 32 (a.toNat / 2 ^ sh.toNat)) ∧
    WritesRd (.srai rd ra sh) s rd (BitVec.ofInt 32 (a.toInt / 2 ^ sh.toNat)) ∧
    WritesRd (.rori rd ra sh) s rd (a >>> sh.toNat ||| a <<< (32 - sh.toNat))

/-- R530, R531: products, quotients and remainders, the division by zero and the overflowing quotient included. -/
def Obligations.MulDivWritesItsResult : Prop :=
  ∀ (s : State) (rd ra rb : BitVec 5), Fetches s → regOk rd = true → regOk ra = true → regOk rb = true →
    let a := readReg s.core.r ra
    let b := readReg s.core.r rb
    let q : Word := if b = 0 then 0xFFFFFFFF else BitVec.ofInt 32 (a.toInt.tdiv b.toInt)
    let qu : Word := if b = 0 then 0xFFFFFFFF else BitVec.ofNat 32 (a.toNat / b.toNat)
    WritesRd (.mul rd ra rb) s rd (BitVec.ofNat 32 (a.toNat * b.toNat)) ∧
    WritesRd (.mulh rd ra rb) s rd (BitVec.ofInt 32 (a.toInt * b.toInt / 4294967296)) ∧
    WritesRd (.mulhu rd ra rb) s rd (BitVec.ofNat 32 (a.toNat * b.toNat / 4294967296)) ∧
    WritesRd (.div rd ra rb) s rd q ∧
    WritesRd (.divu rd ra rb) s rd qu ∧
    WritesRd (.rem rd ra rb) s rd (if b = 0 then a else a - q * b) ∧
    WritesRd (.remu rd ra rb) s rd (if b = 0 then a else a - qu * b)

/-- R519: reads of z give 0 and writes to it change nothing; every other register reads back what was written, and no other register changes, in whichever frame the window stands. -/
def Obligations.RegistersReadBack : Prop :=
  ∀ (r : Regs) (f g : BitVec 5) (v : Word),
    readReg r 24#5 = 0 ∧ writeReg r 24#5 v = r ∧
    (regOk f = true → f ≠ 24#5 → readReg (writeReg r f v) f = v) ∧
    (regOk f = true → regOk g = true → g ≠ f → readReg (writeReg r f v) g = readReg r g) ∧
    { writeReg r f v with k := r.k, ring := r.ring, lk := r.lk } = r

/-- R351, R374, R377, R378, R383, R530, R531, R537: the aligned, permitted loads, with the bytes the task sees, and their frame: rd alone is written; a load from device memory in a TDX task closes the window and waits for every one before it, then is compared in a window of its own, and loads once that has matched (R378); and what an ECC error makes of LW: corrected, it loads and issues SRC_MEM CORRECTED with the byte address; uncorrectable, the window's held stores are dropped, the Severe message is issued and the instruction does not complete. What is the model's own reading or choice in it: logs 50, 136. -/
def Obligations.LoadsWriteRd : Prop :=
  (∀ (s : State) (rd ra : BitVec 5) (imm : BitVec 16), Fetches s → regOk ra = true →
      let ea := readReg s.core.r ra + imm.signExtend 32
      let u := atInstr s
      let b := fun n => leNat (loadBytes u ea.toNat n)
      let free := fun n => ea.toNat % n = 0 ∧ mpuSpan u.core s.core.r.psr.u 1 ea.toNat n = true ∧ Plain u ea
      let Loads := fun c (v : Word) => regOk rd = true → Does c s (retired (rdAndNext s.core.r rd v) v ea u)
      (free 4 → Loads (.lw rd ra imm .clean) (BitVec.ofNat 32 (b 4))) ∧
      (free 2 → Loads (.lh rd ra imm) ((BitVec.ofNat 16 (b 2)).signExtend 32)) ∧
      (free 2 → Loads (.lhu rd ra imm) (BitVec.ofNat 32 (b 2))) ∧
      (free 1 → Loads (.lb rd ra imm) ((BitVec.ofNat 8 (b 1)).signExtend 32)) ∧
      (free 1 → Loads (.lbu rd ra imm) (BitVec.ofNat 32 (b 1))) ∧
      (free 8 → rd.toNat < 8 → 
        Does (.vld rd ra imm) s (retired { s.core.r with pc := s.core.r.pc + 4, cxv := { s.core.r.cxv with v := s.core.r.cxv.v.setIfInBounds rd.toNat (BitVec.ofNat 64 (b 8)) } } (vecWord (BitVec.ofNat 64 (b 8))) ea u)) ∧
      (ea.toNat % 4 = 0 → mpuSpan u.core s.core.r.psr.u 1 ea.toNat 4 = true → regOk rd = true → s.core.r.psr.tdx = true → isDevice u.core ea.toNat = true →
        let c := closeWindow u
        let v := BitVec.ofNat 32 (leNat (loadBytes c ea.toNat 4))
        let m := misrFold (misrFold 0 0) ea
        (c.core.tdx.passed = some s.core.r.pc → Does (.lw rd ra imm .clean) s { c with core := { c.core with r := rdAndNext s.core.r rd v, tdx := { c.core.tdx with passed := none } } }) ∧
        (c.core.tdx.passed ≠ some s.core.r.pc → c.core.tdx.closed ≠ [] → Does (.lw rd ra imm .clean) s c) ∧
        (c.core.tdx.passed ≠ some s.core.r.pc → c.core.tdx.closed = [] → Does (.lw rd ra imm .clean) s
          { c with core := { c.core with tdx := { c.core.tdx with closed := [{ check := s.core.r, count := 1, held := 0, misr := m, shadow := m, access := true }] } } })) ∧
      (ea.toNat % 4 = 0 → mpuSpan u.core s.core.r.psr.u 1 ea.toNat 4 = true → mpuSpan u.core s.core.r.psr.u 2 ea.toNat 4 = true → regOk rd = true → s.core.r.psr.tdx = false →
        let c := closeWindow u
        let v := BitVec.ofNat 32 (leNat (loadBytes c ea.toNat 4))
        Does (.swap rd ra imm) s (retired (rdAndNext s.core.r rd v) v ea (storeMem ea.toNat (le 4 (readReg s.core.r rd).toNat) c)))) ∧
  (∀ (s : State) (rd ra : BitVec 5) (imm : BitVec 16), Fetches s → regOk rd = true → regOk ra = true →
      let ea := readReg s.core.r ra + imm.signExtend 32
      let u := atInstr s
      let v := BitVec.ofNat 32 (leNat (loadBytes u ea.toNat 4))
      ea.toNat % 4 = 0 → mpuSpan u.core s.core.r.psr.u 1 ea.toNat 4 = true → Plain u ea →
      Does (.lw rd ra imm .corrected) s (foldWindow v ea (issue 0x04 0x01 ea.toNat { u with core := { u.core with r := rdAndNext s.core.r rd v } })) ∧
      Does (.lw rd ra imm .uncorrected) s (foldWindow 0 0 (issue 0x04 0x02 ea.toNat (dropWindowStores u))) ∧
      Does (.lw rd ra imm .fetchUncorr) s (foldWindow 0 0 (issue 0x05 0x02 s.core.r.pc.toNat (dropWindowStores u))))

/-- R530, R531, R375, R377, R378: the aligned, permitted stores: in a TDX task the bytes are held, in every other task they go to memory, the pc moves on and nothing else changes; a store that finds the confirm buffer full closes its window and waits, and one to device memory in a TDX task goes past the buffer once a window of its own has matched (R378). What is the model's own reading or choice in it: logs 50, 136. -/
def Obligations.StoresTheirBytes : Prop :=
  ∀ (s : State) (rd ra : BitVec 5) (imm : BitVec 16), Fetches s → regOk ra = true →
    let ea := readReg s.core.r ra + imm.signExtend 32
    let u := atInstr s
    let w := readReg s.core.r rd
    let d := s.core.r.cxv.v.getD rd.toNat 0
    let free := fun n => ea.toNat % n = 0 ∧ mpuSpan u.core s.core.r.psr.u 2 ea.toNat n = true ∧ Plain u ea
    let after := fun (m : State) => { m with core := { m.core with r := { s.core.r with pc := s.core.r.pc + 4 } } }
    let Stores := fun c (b : Bytes) (res : Word) =>
      (s.core.r.psr.tdx = false → Does c s (foldWindow res ea (after (storeMem ea.toNat b u)))) ∧
      (s.core.r.psr.tdx = true → u.core.tdx.buffer.length < 16 → Does c s (foldWindow res ea (after { u with core := { u.core with tdx := { u.core.tdx with buffer := u.core.tdx.buffer ++ [{ addr := ea.toNat, bytes := b }] } } }))) ∧
      (s.core.r.psr.tdx = true → 16 ≤ u.core.tdx.buffer.length → Does c s (foldWindow 0 0 (closeWindow u)))
    (free 4 → regOk rd = true → Stores (.sw rd ra imm) (le 4 w.toNat) w) ∧
    (free 2 → regOk rd = true → Stores (.sh rd ra imm) (le 2 w.toNat) (w &&& 0xFFFF)) ∧
    (free 1 → regOk rd = true → Stores (.sb rd ra imm) (le 1 w.toNat) (w &&& 0xFF)) ∧
    (free 8 → rd.toNat < 8 → Stores (.vst rd ra imm) (le 8 d.toNat) (vecWord d)) ∧
    (ea.toNat % 4 = 0 → mpuSpan u.core s.core.r.psr.u 2 ea.toNat 4 = true → regOk rd = true → s.core.r.psr.tdx = true → isDevice u.core ea.toNat = true →
      let c := closeWindow u
      let m := misrFold (misrFold 0 w) ea
      (c.core.tdx.passed = some s.core.r.pc → Does (.sw rd ra imm) s (after (storeMem ea.toNat (le 4 w.toNat) { c with core := { c.core with tdx := { c.core.tdx with passed := none } } }))) ∧
      (c.core.tdx.passed ≠ some s.core.r.pc → c.core.tdx.closed ≠ [] → Does (.sw rd ra imm) s c) ∧
      (c.core.tdx.passed ≠ some s.core.r.pc → c.core.tdx.closed = [] → Does (.sw rd ra imm) s
        { c with core := { c.core with tdx := { c.core.tdx with closed := [{ check := s.core.r, count := 1, held := 0, misr := m, shadow := m, access := true }] } } }))

/-- R374, R494, R519: the frame of a store, byte by byte: an aligned store of 1, 2, 4 or 8 bytes changes those bytes alone, little-endian as given; program flash and the boot ROM keep theirs; and a load sees the newest held store that covers a byte, and otherwise the byte of memory. -/
def Obligations.MemoryBytesOfLoadsAndStores : Prop :=
  (∀ (s : State) (a n : Nat) (b : Bytes) (x : Nat), n ∈ [1, 2, 4, 8] → a % n = 0 → b.length = n →
      coreByte (storeMem a b s) x =
        (if a ≤ x ∧ x < a + n ∧ 0x10000 ≤ x ∧ ¬ (0x10000000 ≤ x ∧ x < 0x10500000) then b.getD (x - a) 0 else coreByte s x) ∧
      { storeMem a b s with core := { (storeMem a b s).core with mem := s.core.mem } } = s) ∧
  (∀ (s : State) (a n i : Nat), i < n →
      (loadBytes s a n).length = n ∧
      (∀ (older newer : List Held) (h : Held), s.core.tdx.buffer = older ++ h :: newer →
        h.addr ≤ a + i → a + i < h.addr + h.bytes.length → (∀ k ∈ newer, ¬ (k.addr ≤ a + i ∧ a + i < k.addr + k.bytes.length)) →
        (loadBytes s a n).getD i 0 = h.bytes.getD (a + i - h.addr) 0) ∧
      ((∀ k ∈ s.core.tdx.buffer, ¬ (k.addr ≤ a + i ∧ a + i < k.addr + k.bytes.length)) → (loadBytes s a n).getD i 0 = coreByte s (a + i)))

/-- R529, R530: the ten compare-and-branch instructions: signed, unsigned and immediate compares, target relative to the instruction itself, misaligned targets and the exit address; no register changes but the pc. -/
def Obligations.BranchesGoToTheirTarget : Prop :=
  ∀ (s : State) (ra rb : BitVec 5) (off : BitVec 16) (i6 : BitVec 6) (o10 : BitVec 10), Fetches s → regOk ra = true → regOk rb = true →
    let a := readReg s.core.r ra
    let b := readReg s.core.r rb
    let far := s.core.r.pc + 4 * off.signExtend 32
    let near := s.core.r.pc + 4 * o10.signExtend 32
    Branches (.beq ra rb off) s (a = b) far ∧
    Branches (.bne ra rb off) s (a ≠ b) far ∧
    Branches (.blt ra rb off) s (a.toInt < b.toInt) far ∧
    Branches (.bge ra rb off) s (b.toInt ≤ a.toInt) far ∧
    Branches (.bltu ra rb off) s (a.toNat < b.toNat) far ∧
    Branches (.bgeu ra rb off) s (b.toNat ≤ a.toNat) far ∧
    Branches (.beqi ra i6 o10) s (a.toInt = i6.toInt) near ∧
    Branches (.bnei ra i6 o10) s (a.toInt ≠ i6.toInt) near ∧
    Branches (.blti ra i6 o10) s (a.toInt < i6.toInt) near ∧
    Branches (.bgei ra i6 o10) s (i6.toInt ≤ a.toInt) near

/-- R525, R526, R529: jumps, calls without a window, and returns: the pc, and lk with the address of the next instruction for a call. -/
def Obligations.JumpsAndCallsGoToTheirTarget : Prop :=
  ∀ (s : State) (ra : BitVec 5) (off : BitVec 26), Fetches s → regOk ra = true →
    let here := s.core.r.pc + 4 * off.signExtend 32
    let a := readReg s.core.r ra
    let Calls := fun c (target : Word) =>
      (target.toNat % 4 = 0 → Does c s (retired { s.core.r with lk := s.core.r.pc + 4, pc := target } target (s.core.r.pc + 4) (atInstr s))) ∧
      (target.toNat % 4 ≠ 0 → Traps c s 0x05 target)
    JumpsTo (.j off) s here ∧ JumpsTo (.jr ra) s a ∧ JumpsTo .ret s s.core.r.lk ∧
    Calls (.call off) here ∧ Calls (.callr ra) a

/-- R522, R526: windowed calls and returns where the ring has room: the window slides by one frame, RES follows, lk names the next instruction. What is the model's own reading or choice in it: log 52. -/
def Obligations.WindowedCallsSlide : Prop :=
  ∀ (s : State) (ra : BitVec 5) (off : BitVec 26), Fetches s → regOk ra = true →
    let r := s.core.r
    let here := r.pc + 4 * off.signExtend 32
    let a := readReg r ra
    let Slides := fun c (target : Word) => r.res < 7 → target.toNat % 4 = 0 →
      Does c s (retired { r with cwp := (r.cwp + 1) % 8, res := r.res + 1, lk := r.pc + 4, pc := target } target (r.pc + 4) (atInstr s))
    Slides (.callw off) here ∧ Slides (.callwr ra) a ∧
    (1 < r.res → r.lk.toNat % 4 = 0 → ¬ Exits s r.lk →
      Does .retw s (retired { r with cwp := (r.cwp + 7) % 8, res := r.res - 1, pc := r.lk } r.lk r.lk (atInstr s))) ∧
    (Exits s r.lk → Compared s → Does .retw s (foldWindow r.lk r.lk (threadExit (closeWindow (atInstr s)))))

/-- R523: WSPILL stores the oldest resident window as a record of 52 bytes below WSP, its seal word last, and with fewer than 52 bytes above WLIMIT raises WDEPTH; WFILL takes the record at WSP into the frame below the oldest resident one, every other register of the ring as it was, and raises WDEPTH where no record is left and WSEAL where the seal does not match. That each moves one record, and where each raises WDEPTH, is the model's reading (log 51). -/
def Obligations.SpillAndFill : Prop :=
  ∀ (s : State), Fetches s → s.core.r.psr.u = false → Compared s →
    let u := closeWindow (atInstr s)
    let r := s.core.r
    (r.wlimit + 52 ≤ r.wsp →
      Does .wspill s (foldWindow 0 0 { storeMem (r.wsp - 52) (saveRecord r ((r.cwp + 8 - (r.res - 1)) % 8)) u with
        core := { (storeMem (r.wsp - 52) (saveRecord r ((r.cwp + 8 - (r.res - 1)) % 8)) u).core with
          r := { r with pc := r.pc + 4, wsp := r.wsp - 52, depth := (r.depth + 1) % 65536, res := r.res - 1 } } })) ∧
    (r.wsp < r.wlimit + 52 → Traps .wspill s 0x09 0) ∧
    (r.depth = 0 → Traps .wfill s 0x09 0) ∧
    (r.depth ≠ 0 → sealOk u = false → Traps .wfill s 0x0A 0) ∧
    (r.depth ≠ 0 → sealOk u = true → ∃ ring, Does .wfill s (retired { r with pc := r.pc + 4, wsp := r.wsp + 52, depth := r.depth - 1, res := r.res + 1, ring := ring } 0 0 u) ∧
      ∀ i < 96, ring.getD i 0 = (if i / 12 = (r.cwp + 8 - (r.res - 1) + 7) % 8 then BitVec.ofNat 32 (leNat (loadBytes u (r.wsp + 4 * (i % 12)) 4)) else r.ring.getD i 0))

/-- R521, R530, R532: TRET outside a window trap with a window to slide back to, WFI, HALT, and CSRR and CSRW of a listed register; each in supervisor mode, with every TDX window before it matched. -/
def Obligations.PrivilegedInstructions : Prop :=
  ∀ (s : State) (rd ra : BitVec 5) (n : BitVec 16), Fetches s → s.core.r.psr.u = false → Compared s →
    let u := atInstr s
    let c := closeWindow u
    let r := s.core.r
    (r.psr.tw = false → 1 < r.res → Does .tret s (foldWindow s.core.epc 0 (reschedule { c with core := { c.core with
      r := { r with cwp := (r.cwp + 7) % 8, res := r.res - 1, psr := s.core.epsr, pc := s.core.epc } } }))) ∧
    (r.psr.tw = true → Does .tret s (foldWindow s.core.epc 0 (reschedule { c with core := { c.core with r := { r with psr := s.core.epsr, pc := s.core.epc } } }))) ∧
    Does .wfi s (retired { r with pc := r.pc + 4 } 0 0 { c with core := { c.core with wfi := s.core.pend.isEmpty } }) ∧
    Does .halt s (retired { r with pc := r.pc + 4 } 0 0 { c with core := { c.core with halted := true } }) ∧
    (∀ v, regOk rd = true → csrRead u.core n.toNat = some v → n.toNat ≠ 0x30 → Does (.csrr rd n) s (retired (rdAndNext r rd v) v 0 c)) ∧
    (regOk rd = true → Does (.csrr rd 0x30#16) s (retired (rdAndNext r rd (BitVec.ofNat 32 u.core.cycle)) (BitVec.ofNat 32 u.core.cycle) 0
      { c with core := { c.core with cycleH := c.core.cycle / 4294967296 } })) ∧
    (∀ k, regOk ra = true → csrWrite c.core n.toNat (readReg r ra) = some k → Does (.csrw ra n) s (foldWindow 0 0 (nextPc { c with core := k }))) ∧
    (regOk rd = true → csrRead u.core n.toNat = none → Traps (.csrr rd n) s 0x01 0) ∧
    (regOk ra = true → csrWrite c.core n.toNat (readReg r ra) = none → Traps (.csrw ra n) s 0x01 0)

/-- R521: the listed control registers by number: what CSRR reads, and what CSRW leaves, with VBR a multiple of 1024 and WTOP of 4; every other number is unlisted. What is the model's own reading or choice in it: log 12. -/
def Obligations.ControlRegisters : Prop :=
  ∀ (c : Core) (w : Word) (n : Nat),
    csrRead c 0x01 = some c.epc ∧ csrRead c 0x03 = some (BitVec.ofNat 32 c.ecause) ∧ csrRead c 0x04 = some c.eaddr ∧ csrRead c 0x05 = some c.vbr ∧
    csrRead c 0x06 = some (BitVec.ofNat 32 c.r.wsp) ∧ csrRead c 0x08 = some (BitVec.ofNat 32 c.r.wlimit) ∧ csrRead c 0x09 = some (BitVec.ofNat 32 c.r.wtop) ∧
    csrRead c 0x30 = some (BitVec.ofNat 32 c.cycle) ∧ csrRead c 0x31 = some (BitVec.ofNat 32 c.cycleH) ∧
    csrWrite c 0x01 w = some { c with epc := w } ∧ csrWrite c 0x04 w = some { c with eaddr := w } ∧
    csrWrite c 0x05 w = some { c with vbr := w - BitVec.ofNat 32 (w.toNat % 1024) } ∧
    csrWrite c 0x06 w = some { c with r := { c.r with wsp := w.toNat } } ∧ csrWrite c 0x08 w = some { c with r := { c.r with wlimit := w.toNat } } ∧
    csrWrite c 0x09 w = some { c with r := { c.r with wtop := w.toNat - w.toNat % 4 } } ∧
    (∀ k, csrWrite c 0x00 w = some k → k = { c with r := { c.r with psr := k.r.psr } } ∧ csrRead k 0x00 = some (w &&& 0xFF#32)) ∧
    (∀ k, csrWrite c 0x07 w = some k → csrRead k 0x07 = some (w &&& 0xFFFF0077#32)) ∧
    ((csrRead c n).isSome = (n ∈ List.range 10 ++ List.range' 0x10 32 ++ [0x30, 0x31])) ∧
    ((csrWrite c n w).isSome = (csrRead c n).isSome)

/-- R519, R524, R530, R531, R533: a register field from 26 to 31 raises ILLEGAL in every group, a v register field above 7 in the CXV group, and every instruction of the PRIV group, CSRW and an access to a control register other than CYCLE and CYCLEH in user mode; a misaligned access raises ALIGN before any MPU fault, with the address in EADDR; an access the MPU refuses raises LOAD_MPU or STORE_MPU. -/
def Obligations.IllegalAndAccessFaultsTrap : Prop :=
  (∀ (s : State) (rd ra rb sh : BitVec 5) (imm : BitVec 16) (i6 : BitVec 6) (o10 : BitVec 10), Fetches s →
      (regOk rd = false ∨ regOk ra = false →
        ∀ c ∈ [Instr.addi rd ra imm, .andi rd ra imm, .ori rd ra imm, .xori rd ra imm, .slli rd ra sh, .srli rd ra sh, .srai rd ra sh, .rori rd ra sh,
          .lw rd ra imm .clean, .lh rd ra imm, .lhu rd ra imm, .lb rd ra imm, .lbu rd ra imm, .sw rd ra imm, .sh rd ra imm, .sb rd ra imm, .swap rd ra imm,
          .beq rd ra imm, .bne rd ra imm, .blt rd ra imm, .bge rd ra imm, .bltu rd ra imm, .bgeu rd ra imm], Traps c s 0x01 0) ∧
      (regOk rd = false ∨ regOk ra = false ∨ regOk rb = false →
        ∀ c ∈ [Instr.add rd ra rb, .sub rd ra rb, .and rd ra rb, .or rd ra rb, .xor rd ra rb, .sll rd ra rb, .srl rd ra rb, .sra rd ra rb, .ror rd ra rb,
          .mul rd ra rb, .mulh rd ra rb, .mulhu rd ra rb, .div rd ra rb, .divu rd ra rb, .rem rd ra rb, .remu rd ra rb], Traps c s 0x01 0) ∧
      (regOk ra = false → ∀ c ∈ [Instr.lui ra imm, .beqi ra i6 o10, .bnei ra i6 o10, .blti ra i6 o10, .bgei ra i6 o10, .jr ra, .callr ra, .callwr ra, .csrr ra imm, .csrw ra imm,
          .vsplat rd ra, .vmovg ra rd 0, .vmovv rd ra 0], Traps c s 0x01 0) ∧
      (8 ≤ rd.toNat → ∀ c ∈ [Instr.vadd rd ra rb, .vadds rd ra rb, .vsub rd ra rb, .vsubs rd ra rb, .vand rd ra rb, .vor rd ra rb, .vxor rd ra rb, .vmul rd ra rb,
          .vmac rd rb, .vmsu rd rb, .vacrd rd sh, .vmovg ra rd sh, .vmovv rd ra sh, .vsplat rd ra, .vld rd ra imm, .vst rd ra imm, .cxvDma rd], Traps c s 0x01 0) ∧
      (s.core.r.psr.u = true → ∀ c ∈ [Instr.tret, .wspill, .wfill, .wfi, .halt, .csrw ra imm, .cxvDma ra], Traps c s 0x01 0) ∧
      (s.core.r.psr.u = true → imm ≠ 0x30#16 → imm ≠ 0x31#16 → Traps (.csrr rd imm) s 0x01 0)) ∧
  (∀ (s : State) (rd ra : BitVec 5) (imm : BitVec 16), Fetches s → regOk rd = true → regOk ra = true →
      let ea := readReg s.core.r ra + imm.signExtend 32
      let u := atInstr s
      let Access := fun c (n acc cause : Nat) =>
        (ea.toNat % n ≠ 0 → Traps c s 0x05 ea) ∧ (ea.toNat % n = 0 → mpuSpan u.core s.core.r.psr.u acc ea.toNat n = false → Traps c s cause ea)
      Access (.lw rd ra imm .clean) 4 1 0x03 ∧ Access (.lh rd ra imm) 2 1 0x03 ∧ Access (.lhu rd ra imm) 2 1 0x03 ∧
      Access (.lb rd ra imm) 1 1 0x03 ∧ Access (.lbu rd ra imm) 1 1 0x03 ∧ Access (.swap rd ra imm) 4 1 0x03 ∧
      Access (.sw rd ra imm) 4 2 0x04 ∧ Access (.sh rd ra imm) 2 2 0x04 ∧ Access (.sb rd ra imm) 1 2 0x04 ∧
      (rd.toNat < 8 → Access (.vld rd ra imm) 8 1 0x03 ∧ Access (.vst rd ra imm) 8 2 0x04))

/-- R379, R532, R533, R522: trap entry with a free window, once the TDX windows before it have matched: EPC, EPSR, ECAUSE and EADDR saved, supervisor mode with interrupts off, the window one on, the pc at VBR + 4 × cause. No general register, no memory and nothing outside the core changes. What is the model's own reading or choice in it: log 52. -/
def Obligations.TrapEntrySaves : Prop :=
  ∀ (s : State) (cause : Nat) (epc eaddr : Word), s.core.r.res < 7 → s.core.tdx.open_ = false →
    enterTrap cause epc eaddr s = { s with core := { s.core with
      epc := epc, epsr := s.core.r.psr, ecause := cause, eaddr := eaddr,
      r := { s.core.r with psr := { s.core.r.psr with u := false, ie := false }, cwp := (s.core.r.cwp + 1) % 8, res := s.core.r.res + 1, pc := s.core.vbr + BitVec.ofNat 32 (4 * cause) } } } ∧
    (trapStep cause eaddr s = if s.core.r.psr.tdx = true ∧ s.core.tdx.closed ≠ [] then s else trap cause eaddr s) ∧
    (s.core.r.psr.tw = true → (trap cause eaddr s) = issue 0x01 0x01 0 { s with core := { s.core with halted := true } }) ∧
    (s.core.r.psr.tw = false → s.core.r.psr.u = false → cause ∈ [0x05, 0x06, 0x07, 0x08, 0x09] → trap cause eaddr s = enterTrap cause s.core.r.pc eaddr s) ∧
    (s.core.r.psr.tw = false → s.core.r.psr.u = false → cause = 0x01 → trap cause eaddr s = issue 0x01 0x03 0 (enterTrap cause s.core.r.pc eaddr s)) ∧
    (s.core.r.psr.tw = false → s.core.r.psr.u = false → cause ∈ [0x02, 0x03, 0x04] → trap cause eaddr s = issue 0x01 0x02 0 (enterTrap cause s.core.r.pc eaddr s)) ∧
    (s.core.r.psr.tw = false → s.core.r.psr.u = true → trap cause eaddr s = extFault cause s.core.r.pc eaddr (enterTrap cause s.core.r.pc eaddr s))

/-- R538: the lane operations of CXV and the moves between lanes and general registers: lane i of the result from lanes i of the sources, all other registers unchanged. What is the model's own reading or choice in it: log 13. -/
def Obligations.VectorLanes : Prop :=
  ∀ (s : State) (rd ra rb g : BitVec 5), Fetches s → rd.toNat < 8 → ra.toNat < 8 → rb.toNat < 8 → regOk g = true →
    let r := s.core.r
    let v := fun (f : BitVec 5) => r.cxv.v.getD f.toNat 0
    let l := fun (x : BitVec 64) (i : Nat) => x.extractLsb' (16 * i) 16
    let Lanes := fun c (flags : Nat → Prop) (f : Nat → BitVec 16) => ∃ (x : BitVec 64) (fl : Vector Bool 4),
      (∀ i < 4, l x i = f i) ∧ (∀ i < 4, fl.getD i false = true ↔ r.cxv.flag.getD i false = true ∨ flags i) ∧
      Does c s (retired { r with pc := r.pc + 4, cxv := { r.cxv with v := r.cxv.v.setIfInBounds rd.toNat x, flag := fl } } (vecWord x) 0 (atInstr s))
    let sum := fun i => (l (v ra) i).toInt + (l (v rb) i).toInt
    let dif := fun i => (l (v ra) i).toInt - (l (v rb) i).toInt
    let clip := fun (x : Int) => BitVec.ofInt 16 (if x < -32768 then -32768 else if 32767 < x then 32767 else x)
    let out := fun (x : Int) => x < -32768 ∨ 32767 < x
    Lanes (.vadd rd ra rb) (fun _ => False) (fun i => l (v ra) i + l (v rb) i) ∧
    Lanes (.vadds rd ra rb) (fun i => out (sum i)) (fun i => clip (sum i)) ∧
    Lanes (.vsub rd ra rb) (fun _ => False) (fun i => l (v ra) i - l (v rb) i) ∧
    Lanes (.vsubs rd ra rb) (fun i => out (dif i)) (fun i => clip (dif i)) ∧
    Lanes (.vand rd ra rb) (fun _ => False) (fun i => l (v ra) i &&& l (v rb) i) ∧
    Lanes (.vor rd ra rb) (fun _ => False) (fun i => l (v ra) i ||| l (v rb) i) ∧
    Lanes (.vxor rd ra rb) (fun _ => False) (fun i => l (v ra) i ^^^ l (v rb) i) ∧
    Lanes (.vmul rd ra rb) (fun _ => False) (fun i => l (v ra) i * l (v rb) i) ∧
    Lanes (.vsplat rd g) (fun _ => False) (fun _ => (readReg r g).extractLsb' 0 16) ∧
    (∀ n < 4, Lanes (.vmovv rd g (BitVec.ofNat 5 n)) (fun _ => False) (fun i => if i = n then (readReg r g).extractLsb' 0 16 else l (v rd) i)) ∧
    (∀ n < 4, WritesRd (.vmovg g ra (BitVec.ofNat 5 n)) s g ((l (v ra) n).signExtend 32))

/-- R538, R541, R385, R386: the accumulators: VMAC and VMSU add or subtract the lane products and saturate at 40 bits with the flag, VACLR clears both, VACRD reads them shifted and rounded to nearest, the DMA form hands a v register to the stream; beside unsaturated accumulators the shadow's hold the negated values and find the same. What is the model's own reading or choice in it: logs 13, 136. -/
def Obligations.VectorAccumulators : Prop :=
  ∀ (s : State) (rd ra rb sh : BitVec 5), Fetches s → rd.toNat < 8 → ra.toNat < 8 → rb.toNat < 8 →
    let r := s.core.r
    let u := atInstr s
    let l := fun (f : BitVec 5) (i : Nat) => ((r.cxv.v.getD f.toNat 0).extractLsb' (16 * i) 16).toInt
    let acc := fun i => r.cxv.acc.getD i 0
    let Macs := fun c (x : Nat → Int) => ∃ (a : Vector Int 4) (fl : Vector Bool 4),
      (∀ i < 4, a.getD i 0 = (if x i < -(2 ^ 39) then -(2 ^ 39) else if 2 ^ 39 - 1 < x i then 2 ^ 39 - 1 else x i)) ∧
      (∀ i < 4, fl.getD i false = true ↔ r.cxv.flag.getD i false = true ∨ x i < -(2 ^ 39) ∨ 2 ^ 39 - 1 < x i) ∧
      ∃ (sa : Vector Int 4) (sf : Vector Bool 4) (res sh : Word),
        Does c s (foldPair res 0 sh 0 { u with core := { u.core with r := { r with pc := r.pc + 4, cxv := { r.cxv with acc := a, flag := fl } }, tdx := { u.core.tdx with shAcc := sa, shFlag := sf } } }) ∧
        ((∀ i < 4, u.core.tdx.shAcc.getD i 0 = -acc i ∧ u.core.tdx.shFlag.getD i false = false ∧ r.cxv.flag.getD i false = false ∧ |x i| < 2 ^ 39) →
          res = sh ∧ (u.core.tdx.open_ = true → ∀ i < 4, sa.getD i 0 = -x i))
    Macs (.vmac ra rb) (fun i => acc i + l ra i * l rb i) ∧
    Macs (.vmsu ra rb) (fun i => acc i - l ra i * l rb i) ∧
    Does .vaclr s (retired { r with pc := r.pc + 4, cxv := { r.cxv with acc := Vector.replicate 4 0, flag := Vector.replicate 4 false } } 0 0
      { u with core := { u.core with tdx := { u.core.tdx with shAcc := if u.core.tdx.open_ = true then Vector.replicate 4 0 else u.core.tdx.shAcc, shFlag := if u.core.tdx.open_ = true then Vector.replicate 4 false else u.core.tdx.shFlag } } }) ∧
    (∃ (x : BitVec 64) (res sh2 : Word), Does (.vacrd rd sh) s (foldPair res 0 sh2 0 { u with core := { u.core with r := { r with pc := r.pc + 4, cxv := { r.cxv with v := r.cxv.v.setIfInBounds rd.toNat x } } } }) ∧
      ((∀ i < 4, u.core.tdx.shAcc.getD i 0 = -acc i ∧ u.core.tdx.shFlag.getD i false = false ∧ r.cxv.flag.getD i false = false) → res = vecWord x ∧ sh2 = res) ∧
      ∀ i < 4, ∃ q : Int, (x.extractLsb' (16 * i) 16).toInt = (if q < -32768 then -32768 else if 32767 < q then 32767 else q) ∧
        |2 ^ (sh.toNat + 1) * q - 2 * acc i| ≤ 2 ^ sh.toNat) ∧
    (s.core.r.psr.u = false → s.core.r.psr.tdx = false → Does (.cxvDma ra) s (foldWindow 0 0
      { closeWindow u with core := { (closeWindow u).core with r := { r with pc := r.pc + 4 }, dma := s.core.dma ++ [r.cxv.v.getD ra.toNat 0] } }))

/-- R551, R552: the SYSC instruction serves the syscall of its number, every listed row; an unlisted number returns ST_UNSUPPORTED with nothing changed; in supervisor mode it is the trap with EPC at the next instruction. -/
def Obligations.SyscNumbersAreTheSyscalls : Prop :=
  ∀ (s : State),
    (∀ e ∈ [(0x0001#16, Instr.syscExit), (0x0002#16, .syscThread), (0x0003#16, .syscYield), (0x0004#16, .syscSleep), (0x0005#16, .syscWait), (0x0006#16, .syscTime),
        (0x0007#16, .syscLastfault), (0x0008#16, .syscTdx), (0x0010#16, .syscMsgWait), (0x0011#16, .syscMsgReply), (0x0020#16, .syscInGet), (0x0021#16, .syscKeyGet),
        (0x0022#16, .syscModeGet), (0x0023#16, .syscWatch), (0x0030#16, .syscOutClaim), (0x0031#16, .syscOutRelease), (0x0032#16, .syscOutSet), (0x0033#16, .syscOutGet),
        (0x0034#16, .syscHapPlay), (0x0040#16, .syscStnGet), (0x0041#16, .syscStnWrite), (0x0048#16, .syscCanFilter), (0x0049#16, .syscCanRecv), (0x004A#16, .syscCanSend),
        (0x0050#16, .syscNdRead), (0x0051#16, .syscNdWrite), (0x0052#16, .syscNdAppend), (0x0053#16, .syscNdErase), (0x0060#16, .syscSha256), (0x0061#16, .syscRandom),
        (0x0062#16, .syscCmac), (0x0063#16, .syscGcmSeal), (0x0064#16, .syscGcmOpen), (0x0068#16, .syscCtrGet), (0x0069#16, .syscCtrRaise)],
      exec (.sysc e.1) s = exec e.2 s) ∧
    (∀ n : BitVec 16, SyscallServed s → n.toNat ∉ [1, 2, 3, 4, 5, 6, 7, 8, 0x10, 0x11, 0x20, 0x21, 0x22, 0x23, 0x30, 0x31, 0x32, 0x33, 0x34, 0x40, 0x41, 0x48, 0x49, 0x4A,
        0x50, 0x51, 0x52, 0x53, 0x60, 0x61, 0x62, 0x63, 0x64, 0x68, 0x69] → Returns (.sysc n) s stUnsupported [] (inSyscall s)) ∧
    (∀ n : BitVec 16, Fetches s → s.core.r.psr.u = false → s.core.r.psr.tw = false → s.core.r.psr.tdx = false → s.core.r.res < 7 →
      Does (.sysc n) s (foldWindow 0 0 (enterTrap 0x08 (s.core.r.pc + 4) 0 (closeWindow (atInstr s)))))

/-- R545, R546, R551, R552: the syscalls of threads, waits, time and messages, each with its results in w12 to w15 and every other register as it was. What is the model's own reading or choice in it: logs 32, 82, 86. -/
def Obligations.SyscallsOfThreads : Prop :=
  ∀ (s : State), SyscallServed s →
    let p := inSyscall s
    let a := argOf s
    let me := s.ext.cur
    let pend := ((getThread s me).events &&& a 0) % 128
    (me ≠ 0 → Does .syscExit s (foldWindow 0 0 (reschedule (modThread me (fun _ => {}) p)))) ∧
    (me = 0 → Does .syscExit s (foldWindow 0 0 (stopExtension p))) ∧
    (∀ n, a 2 ≤ 3 → bufWrite (a 1) 0 = true → a 1 % 8 = 0 → [1, 2, 3].find? (fun n => !(getThread s n).live) = some n →
      ∃ base, Returns .syscThread s stOk [n] (modThread n (fun _ => { live := true, prio := a 2, regs := freshRegs (BitVec.ofNat 32 (a 0)) (BitVec.ofNat 32 (a 3)) (BitVec.ofNat 32 (a 1)) base })
        { p with freeCtr := s.freeCtr + 1 })) ∧
    (∀ n, pickThread (modRegs (putResults stOk []) p) me = some n → Does .syscYield s (foldWindow 0 0 (switchTo n (modRegs (putResults stOk []) p)))) ∧
    (a 0 ≠ 0 → Waits .syscSleep s .sleep (some (s.now + a 0)) p) ∧
    (pend ≠ 0 → ∃ q, Returns .syscWait s stOk [pend] q ∧ q = modThread me (fun t => { t with events := t.events ^^^ (t.events &&& pend) }) p) ∧
    (pend = 0 → a 1 = 0 → Returns .syscWait s stTimeout [] p) ∧
    (pend = 0 → a 1 ≠ 0 → Waits .syscWait s (.events (a 0)) (if a 1 = 0xFFFFFFFF then none else some (s.now + 1000 * a 1)) p) ∧
    Returns .syscTime s stOk [s.ao.life, if s.ao.rtcSet then s.ao.rtc else 0, bit s.ao.rtcSet] p ∧
    Returns .syscLastfault s stOk [s.ext.fault.1, s.ext.fault.2.1.toNat, s.ext.fault.2.2.toNat] p ∧
    (∀ v < 2, a 0 = v → Returns .syscTdx s stOk [] (modRegs (fun r => { r with psr := { r.psr with tdx := decide (v = 1) } }) p)) ∧
    (∀ m, bufWrite (a 0) (a 1) = true → (s.ext.msgs.filter (fun m => !m.taken)).head? = some m → m.data.length ≤ a 1 →
      Returns .syscMsgWait s stOk [m.data.length, m.id] (takeMsg (a 0) m p)) ∧
    (bufWrite (a 0) (a 1) = true → (s.ext.msgs.filter (fun m => !m.taken)).head? = none → a 2 ≠ 0 →
      Waits .syscMsgWait s (.msg (a 0) (a 1)) (if a 2 = 0xFFFFFFFF then none else some (s.now + 1000 * a 2)) p) ∧
    (∀ m, a 2 ≤ 992 → bufRead (a 1) (a 2) = true → s.ext.msgs.find? (fun m => m.id == a 0) = some m →
      Returns .syscMsgReply s stOk [] (complete m.t m.sess m.seq stOk (loadBytes p (a 1) (a 2)) { p with ext := { p.ext with msgs := s.ext.msgs.filter (fun x => x.id != a 0) } }))

/-- R551, R552: the syscalls of inputs, outputs, stations and CAN: what each reads into its buffer, and what each changes, as the mailbox command of the same name does. What is the model's own reading or choice in it: log 85. -/
def Obligations.SyscallsOfInputsAndOutputs : Prop :=
  ∀ (s : State), SyscallServed s →
    let p := inSyscall s
    let a := argOf s
    let open_ := fun code => modeRefused code [] p = false
    let Reads := fun c buf size (body : Bytes) => bufWrite buf size = true → Returns c s stOk [] (storeMem buf body p)
    Reads .syscInGet (a 0) 20 (inGetBody p) ∧
    Reads .syscKeyGet (a 0) 16 (keyGetBody p) ∧
    Returns .syscModeGet s stOk [modeCode s.mode.mode + 256 * bit s.mode.crank, ignCode s.mode.ign, lockCode s.mode.lock] p ∧
    (a 0 < 2 ^ 28 → Returns .syscWatch s stOk [] { p with ext := { p.ext with watchSw := a 0, watchKeys := a 1 + 4294967296 * a 2 } }) ∧
    (objectAssigned p (a 0) = true → 1 ≤ a 1 → a 1 ≤ 15 → open_ 0x1003 →
      Waits .syscOutClaim s (.claim (a 0)) none { p with outs := { p.outs with claims := s.outs.claims ++ [{ owner := .ext, object := a 0, prio := a 1, thread := s.ext.cur }] } }) ∧
    (a 0 ≠ 0xFFFF → objectAssigned p (a 0) = true → owns p .ext (a 0) = true → Returns .syscOutRelease s stOk [1] (releaseObject (a 0) p)) ∧
    (a 0 ≠ 0xFFFF → objectAssigned p (a 0) = true → owns p .ext (a 0) = false → Returns .syscOutRelease s stOk [0] p) ∧
    (a 0 = 0xFFFF → Returns .syscOutRelease s stOk [(heldBy p .ext).length] (releaseList (heldBy p .ext) p)) ∧
    (isChannel (a 0) = true → modeAllowed (a 0) (a 1) = true → a 2 ≤ 10000 → (a 3 = 0 ∨ 100 ≤ a 3 ∧ a 3 ≤ 2000) → open_ 0x1002 →
      (owns p .ext (a 0) = true → Returns .syscOutSet s stOk [] (outRequest (a 0) (a 1) (a 2) (a 3) p)) ∧
      (owns p .ext (a 0) = false → Returns .syscOutSet s stNotOwner [] p)) ∧
    (objectAssigned p (a 0) = true → Reads .syscOutGet (a 1) 11 (outGetBody p (a 0))) ∧
    (a 0 ≤ 63 → 1 ≤ a 1 → a 1 ≤ 100 → open_ 0x1B01 → Returns .syscHapPlay s (hapPlay (a 0) (a 1) p).1 [] (hapPlay (a 0) (a 1) p).2) ∧
    (∀ c, stationCfg p (a 0) = some c →
      Reads .syscStnGet (a 1) 74 (stnGetBody p c) ∧
      (1 ≤ a 3 → a 3 ≤ 64 → bufRead (a 2) (a 3) = true → a 1 + a 3 ≤ c.olen → open_ 0x2003 → inSnapshot (getStn p c.addr) = true → owns p .ext (0x100 + c.addr) = true →
        Returns .syscStnWrite s stOk [firstCycle p c.port] (imagePut c (a 1) (loadBytes p (a 2) (a 3)) p))) ∧
    (a 0 ≤ 7 → a 1 = 0xFF → Returns .syscCanFilter s stOk [] { p with ext := { p.ext with filters := setAt (a 0) none s.ext.filters } }) ∧
    (a 0 ≤ 7 → a 1 ≤ 1 → canIdOk (a 2) = true →
      Returns .syscCanFilter s stOk [] { p with ext := { p.ext with filters := setAt (a 0) (some (a 1, a 2 % 536870912, (a 2).testBit 31, a 3)) s.ext.filters } }) ∧
    (bufWrite (a 0) 72 = true → s.ext.rx ≠ [] → Returns .syscCanRecv s stOk [] (takeCan (a 0) p)) ∧
    (bufWrite (a 0) 72 = true → s.ext.rx = [] → a 1 ≠ 0 → Waits .syscCanRecv s (.canRecv (a 0)) (if a 1 = 0xFFFFFFFF then none else some (s.now + 1000 * a 1)) p) ∧
    (let d := loadBytes p (a 2) (a 3 % 256)
     bufRead (a 2) (a 3 % 256) = true → sendOk p (a 0) (a 1) (a 3 / 256) d = true → canActive p (a 0) = true →
      Waits .syscCanSend s .canSend none (canQueue (a 0) { frame := sendFrameOf (a 1) (a 3 / 256) d, origin := .ext s.ext.cur, dueAt := s.now + 20000 } p))

/-- R312, R451 to R455, R551 to R554: the syscalls of data NVM, of the enclave's services and of its counters, in range and with the enclave available; a write, an append and an erase are in progress for their time (log 140), an area whose erase was cut is erased again first, and a refused raw erase and an exhausted page return ST_ENDURANCE with nothing changed. What is the model's own reading or choice in it: logs 83, 84, 140. -/
def Obligations.SyscallsOfDataAndKeys : Prop :=
  ∀ (s : State), SyscallServed s → s.pwr.shutdown = none → s.enc.segregated = false → s.enc.avail = true →
    let p := inSyscall s
    let a := argOf s
    let page := getPage s (a 0) (a 1)
    let area := getRaw s (a 0)
    (a 0 ≤ 12 → bufWrite (a 2) (a 3) = true → a 1 + a 3 ≤ (if areaAtomic s (a 0) then 1920 else 4096) →
      Returns .syscNdRead s stOk [] (storeMem (a 2) (slice (areaBytes p (a 0)) (a 1) (a 3)) (readPoisons (a 0) (a 1) (a 3) p))) ∧
    (a 0 ≤ 12 → areaAtomic s (a 0) = true → a 1 ≤ 7 → bufRead (a 2) 240 = true → hasBlankLine (loadBytes p (a 2) 240) = false →
      (page.writes < s.ao.life / 3600 + 64 → let q := bump 0x51 5 1 p
        Returns .syscNdWrite s stOk [] (nvmOp 320 (.page (a 0) (a 1) page) { q with nvm := { q.nvm with atomic := modAt (modAt (fun x =>
          { data := some (loadBytes p (a 2) 240), stamp := x.stamp + 1, writes := x.writes + 1, eraseAt := some (s.now + 1000000) }) (a 1)) (a 0) s.nvm.atomic } })) ∧
      (s.ao.life / 3600 + 64 ≤ page.writes → Returns .syscNdWrite s stEndurance [] p)) ∧
    (a 0 ≤ 12 → areaAtomic s (a 0) = false → 16 ≤ a 2 → a 2 ≤ 256 → a 2 % 16 = 0 → bufRead (a 1) (a 2) = true → hasBlankLine (loadBytes p (a 1) (a 2)) = false →
      let q := if area.eraseAgain = true then eraseSector (113 + a 0) { p with nvm := { p.nvm with raw := modAt (fun x => { lines := [], erases := x.erases + 1 }) (a 0) s.nvm.raw } } else p
      let k := (getRaw q (a 0)).lines.length
      (k + a 2 / 16 ≤ 256 → Returns .syscNdAppend s stOk [16 * k]
        (nvmOp (a 2 / 16 * 20) (.append (a 0) k) { q with nvm := { q.nvm with raw := modAt (fun x => { x with lines := x.lines ++ (linesOf (loadBytes p (a 1) (a 2))).map some }) (a 0) q.nvm.raw } })) ∧
      (256 < k + a 2 / 16 → Returns .syscNdAppend s stState [] q)) ∧
    (a 0 ≤ 12 → areaAtomic s (a 0) = false →
      (area.erases < s.ao.life / 7200 + 64 → let q := eraseSector (113 + a 0) (bump 0x51 4 1 p)
        Returns .syscNdErase s stOk [] (nvmOp 40000 (.erase (a 0) area.lines) { q with nvm := { q.nvm with raw := modAt (fun x => { lines := [], erases := x.erases + 1 }) (a 0) q.nvm.raw } })) ∧
      (s.ao.life / 7200 + 64 ≤ area.erases → Returns .syscNdErase s stEndurance [] p)) ∧
    (a 1 ≤ 4096 → bufRead (a 0) (a 1) = true → bufWrite (a 2) 32 = true → Returns .syscSha256 s stOk [] (storeMem (a 2) (padTo 32 0 (sha256 (loadBytes p (a 0) (a 1)))) p)) ∧
    (1 ≤ a 1 → a 1 ≤ 256 → bufWrite (a 0) (a 1) = true → ∃ d q, d.length = a 1 ∧ q = { p with freeCtr := s.freeCtr + a 1, enc := { p.enc with drbg := (s.enc.drbg + 1) % 65536 } } ∧ Returns .syscRandom s stOk [] (storeMem (a 0) d q)) ∧
    (∀ k, extKey p (a 0) = some k →
      (a 2 ≤ 4096 → bufRead (a 1) (a 2) = true → bufWrite (a 3) 16 = true → Returns .syscCmac s stOk [] (storeMem (a 3) (padTo 16 0 (cmac k (loadBytes p (a 1) (a 2)))) p)) ∧
      (let d := gcmDesc p (a 1)
       let aad := loadBytes p d.aad d.aadLen
       let inp := loadBytes p d.inp d.inpLen
       (gcmOk p (a 1) false = true →
        let x := Config.gcmSeal k d.iv aad inp
        Returns .syscGcmSeal s stOk [] (storeMem d.tag (padTo 16 0 x.2) (storeMem d.out (padTo d.inpLen 0 x.1) p))) ∧
       (gcmOk p (a 1) true = true →
        (∀ x, Config.gcmOpen k d.iv aad inp (loadBytes p d.tag 16) = some x → Returns .syscGcmOpen s stOk [] (storeMem d.out (padTo d.inpLen 0 x) p)) ∧
        (Config.gcmOpen k d.iv aad inp (loadBytes p d.tag 16) = none → Returns .syscGcmOpen s stVerify [] p)))) ∧
    (4 ≤ a 0 → a 0 ≤ 7 → Returns .syscCtrGet s stOk [s.enc.counters.getD (a 0) 0] p) ∧
    (4 ≤ a 0 → a 0 ≤ 7 → ¬ (a 1 = 0xFFFFFFFF ∧ s.enc.counters.getD (a 0) 0 = 0xFFFFFFFF) →
      Returns .syscCtrRaise s stOk [max (a 1) (s.enc.counters.getD (a 0) 0)] { p with enc := { p.enc with counters := modAt (fun x => max (a 1) x) (a 0) s.enc.counters } })

/-- R68, R79 to R84, R402 to R410, R440 and the SYS, MODE and PWR tables of 03_commands.md: what each command answers in its layout, and what it changes, when it is served and allowed. What is the model's own reading or choice in it: logs 59, 112, 113. -/
def Obligations.SystemModeAndPowerCommands : Prop :=
  ∀ (s : State) (r : Req),
    let P := fun code => serving code r s
    let b := fun i => byte r.payload i
    (Served 0x0101 0 0 r s → let p := P 0x0101
      Answers (.sysInfo r) 0x0101 r s stOk (be 2 (if s.otp.part = .bz7460 then 0x7460 else 0x7464) ++ be 2 silicon ++ be 4 (activeHeader p 0).imageVer ++ [3] ++
        be 4 (activeHeader p 1).imageVer ++ [b8 (byte (activeHeader p 1).gen 0)] ++ be 8 s.otp.serial) p) ∧
    (Served 0x0102 0 0 r s → let p := P 0x0102
      Answers (.sysStatus r) 0x0102 r s stOk ([b8 (modeCode s.mode.mode), b8 (bit s.mode.crank)] ++ be 2 s.env.vbat ++
        beInt 1 (s.env.temps.getD 0 0) ++ beInt 1 (s.env.temps.getD 1 0) ++ beInt 1 (s.env.temps.getD 2 0) ++ [b8 (bit s.nvm.active.isNone), b8 (bit s.ao.rtcSet)]) p) ∧
    (Served 0x0103 2 2 r s → let p := P 0x0103
      Allowed 0x0103 r p →
      ∃ n, recordOf p r.transport r.session r.seq = some n ∧
      (b 0 = 0 → Answers (.sysReset r) 0x0103 r s stOk [] { p with mbx := { p.mbx with resetAfter := p.mbx.resetAfter ++ [(n, .cmd)] } }) ∧
      (∀ d, b 0 = 1 → domOf (b 1) = some d →
        Answers (.sysReset r) 0x0103 r s stOk [] { p with mbx := { p.mbx with resetAfter := p.mbx.resetAfter ++ [(n, .dom d)] } })) ∧
    (Served 0x0104 0 0 r s → let p := P 0x0104
      Answers (.sysGettime r) 0x0104 r s stOk (be 4 (if s.ao.rtcSet then s.ao.rtc else 0) ++ [b8 (bit s.ao.rtcSet), b8 s.ao.rtcSource] ++ beInt 2 s.ao.trim) p) ∧
    (Served 0x0105 6 6 r s → let p := P 0x0105
      let trim := sext 16 (field r.payload 4 2)
      (-2000 : Int) ≤ trim → trim ≤ 2000 → Allowed 0x0105 r p → ¬ (s.nvm.tw.uplink.gptp = true ∧ s.bus.up.gptp.valid = true) → s.nvm.trim = trim →
      Answers (.sysSettime r) 0x0105 r s stOk [] { p with ao := { p.ao with rtc := field r.payload 0 4, rtcSet := true, rtcSource := 1, trim := trim, trimAcc := 0 } }) ∧
    (Served 0x0106 0 0 r s →
      Answers (.sysResetlog r) 0x0106 r s stOk ((List.range 8).flatMap (fun i => b8 (s.ao.history.getD i (0, 0)).1 :: be 4 (s.ao.history.getD i (0, 0)).2)) (P 0x0106)) ∧
    (Served 0x0107 0 0 r s → Answers (.sysWake r) 0x0107 r s stOk ([b8 s.ao.wakeSource] ++ be 4 s.ao.wakeRtc ++ be 4 s.ao.wakeLife) (P 0x0107)) ∧
    (Served 0x0201 0 0 r s → Answers (.modeGet r) 0x0201 r s stOk
      [b8 (modeCode s.mode.mode), b8 (bit s.mode.crank), b8 (ignCode s.mode.ign), b8 (lockCode s.mode.lock), b8 (bit s.boot.sel.transport)] (P 0x0201)) ∧
    (Served 0x0202 1 1 r s → let p := P 0x0202
      inService p r = true →
      (b 0 = 5 → s.mode.mode ∈ [.parked, .approach, .accessory] → modeOpen p = true → ∃ q,
        q = takeMode .service { p with mode := { p.mode with serviceSess := some (r.transport, r.session), serviceAt := p.now } } ∧
        Answers (.modeSet r) 0x0202 r s stOk [b8 (modeCode q.mode.mode)] q) ∧
      (b 0 = 5 → s.mode.mode = .run → Answers (.modeSet r) 0x0202 r s stState [] p) ∧
      (1 ≤ b 0 → b 0 ≤ 5 → s.mode.mode = .service → modeOpen p = true → ∃ q, q = takeMode (ignMode p) p ∧ Answers (.modeSet r) 0x0202 r s stOk [b8 (modeCode q.mode.mode)] q) ∧
      (b 0 = 0 → s.mode.mode = .service → parkRefuser p 2 = none → AnswersThen (.modeSet r) 0x0202 r s stOk [0] p (parkEntry 2 1))) ∧
    (Served 0x0203 2 2 r s → let p := P 0x0203
      let n := field r.payload 0 2
      n ≤ 3600 → Allowed 0x0203 r p → Answers (.modeHold r) 0x0203 r s stOk []
        { p with mode := { p.mode with hold := if n = 0 then none else some (p.now + 1000000 * n, r.transport, r.session) } }) ∧
    (Served 0x0301 0 0 r s → Answers (.pwrGet r) 0x0301 r s stOk
      (s.pwr.dom.map (fun d => match d with | .off => 0#8 | .ret => 1#8 | .on => 2#8) ++ be 2 (mask (s.pwr.override.map (fun o => o.isSome)))) (P 0x0301)) ∧
    (Served 0x0302 2 2 r s → let p := P 0x0302
      ∀ d, domOf (b 0) = some d → overrideOk d (b 1) = true → noRfd p d = false → Allowed 0x0302 r p →
        let to_ := if b 1 = 0xFF then modeDefault p d else stOf (b 1)
        let q := setOverride d (if b 1 = 0xFF then none else some (stOf (b 1))) p
        (stRank (domSt s d) ≤ stRank to_ → Answers (.pwrSet r) 0x0302 r s stOk [0] (raiseDomain d (if to_ = .ret then .ret else domSt s d) q)) ∧
        (stRank to_ < stRank (domSt s d) → refuserOf p d = none → AnswersThen (.pwrSet r) 0x0302 r s stOk [0] q (lowerDomain d to_)) ∧
        (∀ c, stRank to_ < stRank (domSt s d) → refuserOf p d = some c → Answers (.pwrSet r) 0x0302 r s stBusy [b8 c] (countRefusal c p))) ∧
    (Served 0x0303 0 0 r s → Answers (.pwrRefusals r) 0x0303 r s stOk (s.ao.refusals.flatMap (fun n => be 2 n) ++ [b8 s.ao.lastRefuser]) (P 0x0303))

/-- R72 to R78, R85 to R88, R137, R134, R136, R596, R597: what each OUT, LAMP and WIPE command answers and changes when it is served; only the owner of an object acts on it, and a requester without it is answered ST_NOT_OWNER with nothing changed. What is the model's own reading or choice in it: logs 39, 40. -/
def Obligations.OutputLampAndWiperCommands : Prop :=
  ∀ (s : State) (r : Req),
    let P := fun code => serving code r s
    let b := fun i => byte r.payload i
    let f := fun i => field r.payload i 2
    let me := fun p => requester p r
    (Served 0x1001 2 2 r s → let p := P 0x1001
      objectAssigned p (f 0) = true → Answers (.outGet r) 0x1001 r s stOk ([b8 (ownerCode (getOwn p (f 0)).owner), b8 (getOwn p (f 0)).prio] ++
        (if f 0 < 56 then [b8 (getChan p (f 0)).req.mode] ++ be 2 (reqDuty (getChan p (f 0)).req) ++ be 2 (getChan p (f 0)).drive.duty ++
          be 2 (if hasSense (f 0) then (getChan p (f 0)).current else 0xFFFF) ++ be 2 (faultFlags p (f 0))
         else [0xFF] ++ be 2 0xFFFF ++ be 2 0xFFFF ++ be 2 0xFFFF ++ be 2 0)) p) ∧
    (Served 0x1002 7 7 r s → let p := P 0x1002
      isChannel (f 0) = true → modeAllowed (f 0) (b 2) = true → f 3 ≤ 10000 → (f 5 = 0 ∨ 100 ≤ f 5 ∧ f 5 ≤ 2000) → Allowed 0x1002 r p →
      (owns p (me p) (f 0) = true → Answers (.outSet r) 0x1002 r s stOk [] (applyDrives (modChan (f 0) (fun c =>
        { c with req := { mode := b 2, duty := if b 2 = 2 then f 3 else if b 2 = 1 then 10000 else 0, freq := if f 5 = 0 then c.req.freq else f 5 } }) p))) ∧
      (owns p (me p) (f 0) = false → Answers (.outSet r) 0x1002 r s stNotOwner [] p)) ∧
    (Served 0x1003 3 3 r s → let p := P 0x1003
      objectAssigned p (f 0) = true → 1 ≤ b 2 → b 2 ≤ 15 → Allowed 0x1003 r p →
      Pends (.outClaim r) s { p with outs := { p.outs with claims := p.outs.claims ++ [{ owner := me p, object := f 0, prio := b 2, sess := some (r.transport, r.session), req := some r }] } }) ∧
    (Served 0x1004 2 2 r s → let p := P 0x1004
      (f 0 = 0xFFFF → Answers (.outRelease r) 0x1004 r s stOk [b8 (min 255 (heldBy p (me p)).length)] (releaseList (heldBy p (me p)) p)) ∧
      (objectAssigned p (f 0) = true → f 0 ≠ 0xFFFF →
        (me p ≠ .dflt → owns p (me p) (f 0) = true → Answers (.outRelease r) 0x1004 r s stOk [1] (releaseObject (f 0) p)) ∧
        (owns p (me p) (f 0) = false → Answers (.outRelease r) 0x1004 r s stOk [0] p))) ∧
    (Served 0x1005 0 0 r s → let p := P 0x1005
      Answers (.outKeep r) 0x1005 r s stOk [b8 (min 255 (heldBy p (me p)).length)] p) ∧
    (Served 0x1006 2 2 r s → let p := P 0x1006
      isChannel (f 0) = true → Allowed 0x1006 r p →
      ((getChan p (f 0)).latched = false → Answers (.outClear r) 0x1006 r s stState [] p) ∧
      ((getChan p (f 0)).latched = true → owns p (me p) (f 0) = false → Answers (.outClear r) 0x1006 r s stNotOwner [] p) ∧
      ((getChan p (f 0)).latched = true → owns p (me p) (f 0) = true → Answers (.outClear r) 0x1006 r s stOk []
        (applyDrives (modChan (f 0) (fun c => { c with latched := false, restarts := (chanCfg p (f 0)).restart }) p)))) ∧
    (Served 0x1007 0 0 r s → let p := P 0x1007
      Answers (.outOwners r) 0x1007 r s stOk ((List.range 56).flatMap (fun o => [b8 (ownerCode (getOwn p o).owner), b8 (getOwn p o).prio])) p) ∧
    (Served 0x1008 0 0 r s → let p := P 0x1008
      Answers (.outStnowners r) 0x1008 r s stOk ((List.range' 0x101 255).flatMap (fun o =>
        if objectAssigned p o then [b8 (ownerCode (getOwn p o).owner), b8 (getOwn p o).prio] else [0, 0])) p) ∧
    (∀ c, Served 0x1101 1 1 r s → let p := P 0x1101
      lampCfg p (b 0) = some c → Answers (.lampGet r) 0x1101 r s stOk
        ([b8 (getLamp p (b 0)).req, b8 (lampReport (getLamp p (b 0))), b8 (chanCfg p (c.ch.headD 0)).k] ++ be 2 (getChan p (c.ch.headD 0)).drive.duty) p) ∧
    (∀ c, Served 0x1102 5 5 r s → let p := P 0x1102
      lampCfg p (b 0) = some c → b 1 ≤ 2 → f 3 ≤ 10000 → Allowed 0x1102 r p →
      (serviceOwns p c.ch = true → Answers (.lampSet r) 0x1102 r s stOk [] (lampRequest (b 0) (b 1) (b 2) (f 3) p)) ∧
      (serviceOwns p c.ch = false → Answers (.lampSet r) 0x1102 r s stNotOwner [] p)) ∧
    (∀ c, Served 0x1103 1 1 r s → let p := P 0x1103
      (tw p).scenes.find? (fun x => x.scene == b 0) = some c → Allowed 0x1103 r p →
      let chs := c.entries.flatMap (fun e => ((lampCfg p e.1).map (fun l => l.ch)).getD [])
      (serviceOwns p chs = true → Answers (.lampScene r) 0x1103 r s stOk [] (c.entries.foldl (fun acc e => lampRequest e.1 2 e.2 c.fadeMs acc) p)) ∧
      (serviceOwns p chs = false → Answers (.lampScene r) 0x1103 r s stNotOwner [] p)) ∧
    (Served 0x1201 0 0 r s → let p := P 0x1201
      Answers (.wipeGet r) 0x1201 r s stOk [b8 p.outs.wiper.mode, b8 p.rls.intensity, b8 (min 255 (bladeWear p)), b8 (bit p.outs.wiper.parkSw)] p) ∧
    (∀ c, Served 0x1202 3 3 r s → let p := P 0x1202
      (tw p).wiper = some c → b 0 ≤ 6 → b 1 ≤ 3 → 2 ≤ b 2 → b 2 ≤ 30 → Allowed 0x1202 r p →
      let chs := [(pairChannels c.pair).1, (pairChannels c.pair).2]
      (serviceOwns p chs = true → Answers (.wipeSet r) 0x1202 r s stOk [] (wiperSet (b 0) (b 1) (b 2) p)) ∧
      (serviceOwns p chs = false → Answers (.wipeSet r) 0x1202 r s stNotOwner [] p)) ∧
    (∀ c, Served 0x1203 2 2 r s → let p := P 0x1203
      (tw p).wiper = some c → 200 ≤ f 0 → f 0 ≤ 5000 → Allowed 0x1203 r p →
      let chs := [(pairChannels c.pair).1, (pairChannels c.pair).2] ++ (if c.washer = 0xFF then [] else [c.washer])
      (serviceOwns p chs = true → Answers (.wipeWash r) 0x1203 r s stOk [] (washBegin (1000 * f 0) p)) ∧
      (serviceOwns p chs = false → Answers (.wipeWash r) 0x1203 r s stNotOwner [] p))

/-- R89, R90, R140, R149, R153, R161, R173, R184, R187, R191, R196: what each MOTN, HAP, IN, KEY and RLS command answers and changes when it is served. What is the model's own reading or choice in it: logs 17, 46, 115, 126. -/
def Obligations.MotionHapticAndInputCommands : Prop :=
  ∀ (s : State) (r : Req),
    let P := fun code => serving code r s
    let b := fun i => byte r.payload i
    let f := fun i => field r.payload i 2
    (∀ c, Served 0x1301 1 1 r s → let p := P 0x1301
      b 0 ≤ 3 → motionCfg p (b 0) = some c →
      Answers (.motnGet r) 0x1301 r s stOk (be 2 (getAct p (b 0)).pos ++ [b8 (getAct p (b 0)).state] ++ be 2 (getAct p (b 0)).pinches) p) ∧
    (∀ c, Served 0x1302 4 4 r s → let p := P 0x1302
      b 0 ≤ 3 → motionCfg p (b 0) = some c → f 1 ≤ 1000 → b 3 ≤ 2 →
      let chs := [(pairChannels c.pair).1, (pairChannels c.pair).2]
      (b 3 = 2 → serviceReq p r = false → Answers (.motnMove r) 0x1302 r s stPriv [] p) ∧
      ((b 3 = 2 → serviceReq p r = true) → Allowed 0x1302 r p →
        (b 3 ≠ 2 → (getAct p (b 0)).travel = 0 → Answers (.motnMove r) 0x1302 r s stState [] p) ∧
        ((b 3 = 2 ∨ (getAct p (b 0)).travel ≠ 0) → (getAct p (b 0)).learn = 0 →
          (serviceOwns p chs = true → Answers (.motnMove r) 0x1302 r s stOk [] (actMove (b 0) (f 1) (b 3) p)) ∧
          (serviceOwns p chs = false → Answers (.motnMove r) 0x1302 r s stNotOwner [] p)))) ∧
    (∀ c, Served 0x1303 1 1 r s → let p := P 0x1303
      (b 0 = 0xFF → Answers (.motnStop r) 0x1303 r s stOk [] (stopAllActs p)) ∧
      (b 0 ≤ 3 → motionCfg p (b 0) = some c → Answers (.motnStop r) 0x1303 r s stOk [] (actStop (b 0) p))) ∧
    (∀ c, Served 0x1304 1 1 r s → let p := P 0x1304
      b 0 ≤ 3 → motionCfg p (b 0) = some c → Allowed 0x1304 r p →
      let chs := [(pairChannels c.pair).1, (pairChannels c.pair).2]
      ((getAct p (b 0)).learn ≠ 0 → Answers (.motnLearn r) 0x1304 r s stBusy [] p) ∧
      ((getAct p (b 0)).learn = 0 → serviceOwns p chs = false → Answers (.motnLearn r) 0x1304 r s stNotOwner [] p) ∧
      ((getAct p (b 0)).learn = 0 → serviceOwns p chs = true → snapOk p (4 + b 0) = false → Answers (.motnLearn r) 0x1304 r s stEndurance [] p) ∧
      ((getAct p (b 0)).learn = 0 → serviceOwns p chs = true → snapOk p (4 + b 0) = true → Pends (.motnLearn r) s (actRun (b 0) true 5000 1 (modAct (b 0) (fun a =>
        { a with learn := 1, learnStart := p.now, learnReq := some r, travel := 0, ripple := 0, profile := [], manner := 0, renorm := false, htrAt := none, pinchHeld := false }) p)))) ∧
    (Served 0x1B01 2 2 r s → let p := P 0x1B01
      b 0 ≤ 63 → 1 ≤ b 1 → b 1 ≤ 100 → Allowed 0x1B01 r p →
      ((tw p).haptic.isNone = true → Answers (.hapPlay r) 0x1B01 r s stState [] p) ∧
      ((tw p).haptic.isSome = true → Answers (.hapPlay r) 0x1B01 r s (if p.hap.missing || p.hap.shorted then stState else stOk) [] (hapTrigger 2 (b 0) (b 1) p))) ∧
    (Served 0x1B02 1 1 r s → let p := P 0x1B02
      b 0 ≤ 63 → Answers (.hapArm r) 0x1B02 r s stOk [] { p with hap := { p.hap with armed := b 0 } }) ∧
    (Served 0x1B03 0 0 r s → let p := P 0x1B03
      Answers (.hapGet r) 0x1B03 r s stOk ([b8 p.hap.armed, b8 (coilState p.hap)] ++ be 2 p.hap.res ++ be 2 p.hap.ignored) p) ∧
    (Served 0x1801 0 0 r s → let p := P 0x1801
      Answers (.inGet r) 0x1801 r s stOk (be 3 (mask (p.scan.sw.map (fun w => w.closed))) ++ [b8 (mask (p.scan.pins.map (fun q => q.active)))] ++ p.scan.an.flatMap (fun a => be 2 a.mv)) p) ∧
    (Served 0x1802 4 4 r s → let p := P 0x1802
      let m := field r.payload 0 4
      m < 2 ^ 28 → Answers (.inWatch r) 0x1802 r s stOk [] { p with scan := { p.scan with watch := m } }) ∧
    (Served 0x1901 0 0 r s → let p := P 0x1901
      Answers (.keyGet r) 0x1901 r s stOk (be 8 (keyMask p) ++ be 8 (frozenMask p)) p) ∧
    (Served 0x1A01 0 0 r s → let p := P 0x1A01
      Answers (.rlsGet r) 0x1A01 r s stOk ([b8 p.rls.intensity] ++ be 4 (alsLux p.rls.als0) ++ be 4 (alsLux p.rls.als1) ++ [b8 p.rls.light, b8 (bit p.rls.removed)]) p) ∧
    (∀ c m x0 x1 y0 y1, let s' := { s with env := { s.env with cal := m } }
      Served 0x1A02 1 1 r s' → let p := serving 0x1A02 r s'
      let good := m.a0 = some x0 ∧ m.a1 = some x1 ∧ m.b0 = some y0 ∧ m.b1 = some y1 ∧ c.sref0 ≤ 2 * x0 ∧ c.sref1 ≤ 2 * x1 ∧ c.sref0 ≤ 2 * y0 ∧ c.sref1 ≤ 2 * y1
      (tw p).screens.find? (fun z => z.record == b 0) = some c → Allowed 0x1A02 r p →
      (isOn p .ana = false → Answers (.rlsCal r m) 0x1A02 r s stState [] p) ∧
      ((m.a0 = none ∨ m.a1 = none ∨ m.b0 = none ∨ m.b1 = none) → Answers (.rlsCal r m) 0x1A02 r s stState [] p) ∧
      (m.a0 = some x0 → m.a1 = some x1 → m.b0 = some y0 → m.b1 = some y1 → ¬ good → Answers (.rlsCal r m) 0x1A02 r s stState [] p) ∧
      (isOn p .ana = true → good → snapOk p 0 = false → Answers (.rlsCal r m) 0x1A02 r s stEndurance [] p) ∧
      (isOn p .ana = true → good → snapOk p 0 = true → let q := snapCount 0 p
        Answers (.rlsCal r m) 0x1A02 r s stOk [] (modMon 5 (fun z => if z.armed then z else { z with armAt := some (p.now + 100) })
          { q with rls := { q.rls with dry0 := some y0, dry1 := some y1, mountRef := some m.msns, ref0 := y0, ref1 := y1,
                                       sig0 := some y0, sig1 := some y1, msns := some m.msns, fail0 := false, fail1 := false } })))

/-- R91, R92, R218, R219, R224, R243, R248, R254, R263, R264, R286 and the STN, BUS, TAG and INS tables of 03_commands.md: what each command answers and changes when it is served. What is the model's own reading or choice in it: logs 14, 22. -/
def Obligations.StationBusAndTagCommands : Prop :=
  ∀ (s : State) (r : Req),
    let P := fun code => serving code r s
    let b := fun i => byte r.payload i
    (Served 0x2001 0 0 r s → let p := P 0x2001
      let l := byAddr (tw p).stations
      Answers (.stnList r) 0x2001 r s stOk (b8 l.length :: l.flatMap (fun c => [b8 c.addr, b8 c.port, b8 (stnCode (getStn p c.addr).st)])) p) ∧
    (∀ c, Served 0x2002 1 1 r s → let p := P 0x2002
      stationCfg p (b 0) = some c → let x := getStn p c.addr
      Answers (.stnGet r) 0x2002 r s stOk ([b8 (stnCode x.st)] ++ be 4 x.profile ++ be 2 (x.applied.getD 0) ++ be 2 x.missed ++ [b8 c.ilen] ++ padTo c.ilen 0 x.data) p) ∧
    (∀ c, Served 0x2003 3 66 r s → let p := P 0x2003
      let d := r.payload.drop 2
      stationCfg p (b 0) = some c → b 1 + d.length ≤ c.olen → Allowed 0x2003 r p →
      (inSnapshot (getStn p c.addr) = false → Answers (.stnWrite r) 0x2003 r s stState [] p) ∧
      (inSnapshot (getStn p c.addr) = true → owns p (requester p r) (0x100 + c.addr) = false → Answers (.stnWrite r) 0x2003 r s stNotOwner [] p) ∧
      (inSnapshot (getStn p c.addr) = true → owns p (requester p r) (0x100 + c.addr) = true → Answers (.stnWrite r) 0x2003 r s stOk
        (be 2 (if (getEngine p c.port).closed || pastPart p c.port 10 then (cycleNo p c.port + 1) % 65536 else cycleNo p c.port))
        (modStn c.addr (fun x => { x with image := writeAt (padTo c.olen 0 x.image) (b 1) d }) p))) ∧
    (∀ c, Served 0x2004 2 2 r s → let p := P 0x2004
      portCfg p (b 0) = some c → b 1 ≤ 6 → budgetOk (tw p) c (b 1) = true → Allowed 0x2004 r p →
      Answers (.stnCycle r) 0x2004 r s stOk [] (modEngine c.port (fun e => { e with nextCode := some (b 1) }) p)) ∧
    (Served 0x2101 1 1 r s → let p := P 0x2101
      (b 0 < 2 → Answers (.busGet r) 0x2101 r s stOk ([b8 (getCan p (b 0)).state, b8 (getCan p (b 0)).tec, b8 (getCan p (b 0)).rec_] ++ be 2 (getCan p (b 0)).busOff) p) ∧
      (2 ≤ b 0 → b 0 ≤ 5 → Answers (.busGet r) 0x2101 r s stOk ([b8 (getLin p (b 0 - 2)).state, 0, 0] ++ be 2 (getLin p (b 0 - 2)).errors) p)) ∧
    (Served 0x2102 13 13 r s → let p := P 0x2102
      let e := r.payload.drop 1
      b 0 ≤ 63 → routeOk e = true → routeReserved (tw p).transports (readRoute e) = false →
      Answers (.busRoute r) 0x2102 r s stOk [] (modUp (fun u => { u with routes := setAt (b 0) (readRoute e) (padRoutes u.routes) }) p)) ∧
    (Served 0x2103 6 70 r s → let p := P 0x2103
      let v := field r.payload 1 4
      let d := r.payload.drop 6
      sendOk p (b 0) v (b 5) d = true → Allowed 0x2103 r p →
      (canActive p (b 0) = false → Answers (.busSend r) 0x2103 r s stState [] p) ∧
      (canActive p (b 0) = true → Pends (.busSend r) s (canQueue (b 0)
        { frame := { id := v % 536870912, ext := v.testBit 31, fd := tbit (b 5) 0, brs := tbit (b 5) 1, data := d }, origin := .busSend r.transport r.session r.seq, dueAt := p.now + 20000 } p))) ∧
    (Served 0x2104 2 2 r s → let p := P 0x2104
      let n := b 0 - 2
      2 ≤ b 0 → b 0 ≤ 5 → b 1 ≤ 15 → schedFilled p n (b 1) = true → Allowed 0x2104 r p →
      (((getLin p n).state = 1 ∨ (getLin p n).startAt.isSome = true) → Answers (.busLinsched r) 0x2104 r s stOk [] (modLin n (fun x => { x with next := some (b 1) }) p)) ∧
      ((getLin p n).state ≠ 1 → (getLin p n).startAt = none → Answers (.busLinsched r) 0x2104 r s stState [] p)) ∧
    (Served 0x3001 0 0 r s → let p := P 0x3001
      Answers (.tagGet r) 0x3001 r s stOk (b8 p.tag.state :: be 4 p.tag.lastTxn) p) ∧
    (Served 0x3002 1 1 r s → let p := P 0x3002
      b 0 ≤ 1 → Allowed 0x3002 r p → encStatus p = none →
      ∃ q, q = tagEval { p with tag := { p.tag with enableFlag := b 0 == 1 } } ∧ Answers (.tagEnable r) 0x3002 r s stOk [b8 q.tag.state] q) ∧
    (Served 0x3003 5 5 r s → let p := P 0x3003
      let n := field r.payload 0 4
      let c := b 4
      1 ≤ c → c ≤ 40 → p.tag.log ≠ [] → (p.tag.log.getLast?.getD {}).txn ≤ n → n + c ≤ p.tag.lastTxn + 1 → encStatus p = none →
      Answers (.tagTxnlog r) 0x3003 r s stOk ((p.tag.log.reverse.filter (fun x => decide (n ≤ x.txn) && decide (x.txn < n + c))).flatMap txnBytes) p) ∧
    (Served 0x3101 0 0 r s → let p := P 0x3101
      let hd := [b8 (bit p.env.insDet), b8 p.tag.ins]
      (∀ x, p.tag.sess = some x → x.contract.txnCeiling ≠ 0 → let c := getRec p x.serial
        Answers (.insGet r) 0x3101 r s stOk (hd ++ be 4 x.contract.notAfter ++ be 4 (x.contract.txnCeiling - (c.committed - bit c.reserved)) ++ be 2 c.insertions) p) ∧
      (∀ x, p.tag.sess = some x → x.contract.txnCeiling = 0 → ∃ left : Bytes, left.length = 4 ∧
        Answers (.insGet r) 0x3101 r s stOk (hd ++ be 4 x.contract.notAfter ++ left ++ be 2 (getRec p x.serial).insertions) { p with freeCtr := p.freeCtr + 4 }) ∧
      (p.tag.sess = none → ∃ rest : Bytes, rest.length = 10 ∧ Answers (.insGet r) 0x3101 r s stOk (hd ++ rest) { p with freeCtr := p.freeCtr + 10 })) ∧
    (Served 0x3102 5 261 r s → let p := P 0x3102
      Allowed 0x3102 r p → encStatus p = none →
      ((p.env.insDet = false ∨ p.tag.accept.isSome = true) → Answers (.insApdu r) 0x3102 r s stState [] p) ∧
      (p.env.insDet = true → p.tag.accept = none → p.tag.apdu.isSome = true → Answers (.insApdu r) 0x3102 r s stBusy [] p) ∧
      (p.env.insDet = true → p.tag.accept = none → p.tag.apdu = none → Pends (.insApdu r) s (sendApdu
        { p with tag := { p.tag with apdu := some (r.transport, r.session, r.seq, r.payload), apduAt := p.now + 2000000, apduRuns := false } })))

/-- R93, R94, R298 to R315, R336, R342, R344, R345 and the ENC and TMP tables of 03_commands.md: what each command answers and changes while the enclave serves it. TMP.TEST finds what the monitor's operand says it found, at most the stimuli (log 27); a key update ends as the operand of its row says: done, with a read-back that does not match, or still running (R307, R309); session identifiers, nonces and private values are free. What is the model's own reading or choice in it: logs 27, 109, 110, 111. -/
def Obligations.EnclaveAndTamperCommands : Prop :=
  ∀ (s : State) (r : Req),
    let P := fun code => serving code r s
    let b := fun i => byte r.payload i
    let idOk := fun (p : State) => p.enc.certFault = false ∧ dikLost p = false
    (Served 0x3201 2 2 r s → let p := P 0x3201
      let o := field r.payload 0 2
      p.enc.avail = true → idOk p → o < p.enc.cert.length →
      Answers (.encCert r) 0x3201 r s stOk (be 2 p.enc.cert.length ++ slice p.enc.cert o 960) p) ∧
    (Served 0x3202 82 82 r s → let p := P 0x3202
      let qH := slice r.payload 1 65
      let nH := slice r.payload 66 16
      1 ≤ b 0 → b 0 ≤ 4 → Config.pointOk qH = true → r.session = 0 → encStatus p = none → idOk p →
      ((2 ≤ (p.mbx.sessions.filter (fun x => x.id != 0 && x.transport == r.transport)).length ∨ 6 ≤ (p.mbx.sessions.filter (fun x => x.id != 0)).length) →
        Answers (.encOpen r) 0x3202 r s stBusy [] p) ∧
      ((p.mbx.sessions.filter (fun x => x.id != 0 && x.transport == r.transport)).length < 2 → (p.mbx.sessions.filter (fun x => x.id != 0)).length < 6 →
        ∃ (id d : Nat) (nD : Bytes), nD.length = 16 ∧
          let qD := Config.ecPublic d
          let k := Config.hkdf (nH ++ nD) (Config.ecdh d qH) ([0x44, 0x4D, 0x53, 0x4B, 0x2D, 0x4D, 0x42, 0x58] ++ be 4 id) 48
          let t1 := [0x01, b8 (b 0)] ++ qH ++ nH ++ be 4 id ++ qD ++ nD ++ be 8 p.otp.serial
          let x : Session := { id := id, transport := r.transport, sought := b 0, proven := false, kHd := slice k 0 16, kDh := slice k 16 16, kW := slice k 32 16, qH := qH, nH := nH, qD := qD, nD := nD, proveAt := p.now + 10000000, idleAt := p.now + 1000000 * (tw p).transports.idleS }
          Answers (.encOpen r) 0x3202 r s stOk (be 4 id ++ padTo 65 0 qD ++ nD ++ padTo 64 0 (Config.dikSign t1))
            { p with freeCtr := p.freeCtr + 18, enc := { p.enc with drbg := (p.enc.drbg + 3) % 65536 }, mbx := { p.mbx with sessions := p.mbx.sessions ++ [x] } })) ∧
    (∀ x, Served 0x3203 70 970 r s → let p := P 0x3203
      let id := field r.payload 0 4
      let n := field r.payload 4 2
      let t2 := [0x02] ++ be 4 x.id ++ x.nD ++ x.nH ++ x.qH ++ x.qD
      r.payload.length = 70 + n → n ≤ 900 → r.session = 0 → encStatus p = none → findSession p r.transport id = some x → x.id ≠ 0 → x.proven = false →
      (∀ c a, Config.parseCert (slice r.payload 6 n) = some c → anchorOf p c = some a → c.p256 = true → c.digitalSignature = true → certValid p c = true →
        Config.ecdsaOk c.key t2 (slice r.payload (6 + n) 64) = true → let g := min x.sought (if a = 1 then 3 else if a = 2 then 2 else 4)
        Answers (.encProve r) 0x3203 r s stOk [b8 g] (modSession r.transport id (fun y => { y with proven := true, priv := g, anchor := some a, idleAt := p.now + 1000000 * (tw p).transports.idleS }) p)) ∧
      ((∀ c, Config.parseCert (slice r.payload 6 n) = some c → anchorOf p c = none ∨ c.p256 = false ∨ c.digitalSignature = false ∨ certValid p c = false ∨
        Config.ecdsaOk c.key t2 (slice r.payload (6 + n) 64) = false) → Answers (.encProve r) 0x3203 r s stVerify [] (closeSession r.transport id p))) ∧
    (Served 0x3204 0 0 r s → let p := P 0x3204
      (r.session = 0 → Answers (.encClose r) 0x3204 r s stState [] p) ∧
      (r.session ≠ 0 → AnswersThen (.encClose r) 0x3204 r s stOk [] p (closeSession r.transport r.session))) ∧
    (Served 0x3205 16 16 r s → let p := P 0x3205
      p.enc.avail = true → idOk p → Answers (.encAttest r) 0x3205 r s stOk (statement p r.payload ++ padTo 64 0 (Config.dikSign (statement p r.payload))) p) ∧
    (∀ x run, let s' := { s with env := { s.env with keyRun := run } }
      Served 0x3206 1 1000 r s' → let p := serving 0x3206 r s'
      let Ans := Answers (.encKeyupd r run) 0x3206 r s
      let k := getSlot p (b 0)
      let n := algLen (b 1)
      let q := modSlot (b 0) (fun k => { k with updates := k.updates + 1 }) { p with enc := { p.enc with dayUpdates := updatesToday p + 1, dayNo := p.ao.life / 86400 } }
      encStatus p = none → findSession p r.transport r.session = some x → b 0 ≤ 31 →
      ((x.anchor ≠ some 3 ∨ b 0 = 0 ∨ slotReserved (b 0) = true) → Ans stDenied [] p) ∧
      (x.anchor = some 3 → b 0 ≠ 0 → slotReserved (b 0) = false → wrapOk (b 0) r.payload = true → Allowed 0x3206 r p →
        ((∃ u ∈ p.enc.updating, u.slot = b 0) → Ans stBusy [] p) ∧
        ((∀ u ∈ p.enc.updating, u.slot ≠ b 0) → (64 ≤ updatesToday p ∨ 4096 ≤ k.updates ∨ k.g = 0xFFFFFFFF) → Ans stEndurance [] p) ∧
        ((∀ u ∈ p.enc.updating, u.slot ≠ b 0) → updatesToday p < 64 → k.updates < 4096 → k.g ≠ 0xFFFFFFFF →
          let opened := Config.gcmOpen x.kW (slice r.payload 5 12) ([b8 (b 0)] ++ be 4 x.id ++ be 4 k.g) (slice r.payload 17 n) (r.payload.drop (17 + n))
          (opened = none → Ans stVerify [] q) ∧
          (∀ key, opened = some key → let c : Cell := { alg := b 1, usage := b 2, key := key }
            (run = .done → Ans stOk (be 4 (k.g + 1)) (modSlot (b 0) (commitKey c) q)) ∧
            (run = .mismatch → Ans stInternal [] q) ∧
            (run = .runs → Pends (.encKeyupd r run) s
              { q with enc := { q.enc with updating := q.enc.updating ++ [{ slot := b 0, cell := c, g := k.g, req := r, startAt := p.now }] } }))))) ∧
    (Served 0x3207 1 1 r s → let p := P 0x3207
      b 0 ≤ 31 → p.enc.avail = true → Answers (.encKeyinfo r) 0x3207 r s stOk (be 4 (getSlot p (b 0)).g ++ [b8 (slotAlg (getSlot p (b 0)))]) p) ∧
    (Served 0x3208 1 1 r s → let p := P 0x3208
      b 0 ≤ 7 → p.enc.avail = true → Answers (.encCounter r) 0x3208 r s stOk (be 4 (if b 0 = 3 then 0 else p.enc.counters.getD (b 0) 0)) p) ∧
    (Served 0x3301 0 0 r s → Answers (.tmpFlags r) 0x3301 r s stOk (be 2 s.ao.sticky) (P 0x3301)) ∧
    (Served 0x3302 3 3 r s → let p := P 0x3302
      let n := field r.payload 0 2
      n ≤ 1023 → 1 ≤ b 2 → b 2 ≤ 60 → n + b 2 ≤ 1024 → encStatus p = none →
      Answers (.tmpLog r) 0x3302 r s stOk ((List.range' n (b 2)).flatMap (fun i => match p.enc.log[i]? with | some e => entryBytes e | none => List.replicate 16 0xFF)) p) ∧
    (Served 0x3303 4 4 r s → let p := P 0x3303
      let o := field r.payload 0 4
      encStatus p = none → idOk p →
      (o = 0 → Answers (.tmpExport r) 0x3303 r s stOk (be 4 (buildExport p).length ++ (buildExport p).take 960) { p with enc := { p.enc with export_ := some (r.transport, r.session, buildExport p) } }) ∧
      (∀ e, o ≠ 0 → p.enc.export_ = some (r.transport, r.session, e) → o < e.length → Answers (.tmpExport r) 0x3303 r s stOk (be 4 e.length ++ slice e o 960) p) ∧
      (o ≠ 0 → (∀ e, p.enc.export_ ≠ some (r.transport, r.session, e)) → Answers (.tmpExport r) 0x3303 r s stState [] p)) ∧
    (∀ found, let s' := { s with env := { s.env with found := found } }
      Served 0x3304 2 2 r s' → let p := serving 0x3304 r s'
      1 ≤ b 0 → b 0 ≤ 5 → 1 ≤ b 1 → b 1 ≤ 15 → Allowed 0x3304 r p → encStatus p = none →
      let hits := if (getMon p (b 0)).armed && monitorRuns p (b 0) && (tamperRule p (b 0)).response != 0 then min (b 1) found else 0
      Answers (.tmpTest r found) 0x3304 r s stOk [b8 hits] (if hits < b 1 then issue 0x33 0x04 0 (addPending (b 0) 3 hits p) else addPending (b 0) 3 hits p))

/-- R95, R358, R362, R364, R388, R455, R474, R477, R479, R490, R491 and the FLT, TDX, CFG and LIFE tables of 03_commands.md: what each command answers and changes when it is served; a Twill commit whose operand says that it runs has done its step C1 and answers at its end (R474). What is the model's own reading or choice in it: logs 44, 79, 114, 140. -/
def Obligations.FaultConfigurationAndLifeCommands : Prop :=
  ∀ (s : State) (r : Req),
    let P := fun code => serving code r s
    let b := fun i => byte r.payload i
    (Served 0x4001 1 1 r s → let p := P 0x4001
      1 ≤ b 0 → b 0 ≤ 80 → Answers (.fltRead r) 0x4001 r s stOk ((p.fab.history.take (b 0)).flatMap (fun e => rillBytes e.msg ++ be 4 e.stamp) ++ be 2 p.fab.dropped) p) ∧
    (Served 0x4002 2 2 r s → let p := P 0x4002
      1 ≤ b 1 → b 1 ≤ 200 → b 0 + b 1 ≤ 256 → Answers (.fltCounters r) 0x4002 r s stOk ((List.range' (b 0) (b 1)).map (fun i => b8 (lookupN i s.ao.recovery))) p) ∧
    (Served 0x4003 1 1 r s → let p := P 0x4003
      Allowed 0x4003 r p →
      (b 0 = 0xFF → Answers (.fltClear r) 0x4003 r s stOk [] { p with ao := { p.ao with recovery := [], severeStarts := [] }, fab := { p.fab with dropped := 0 } }) ∧
      (b 0 ≠ 0xFF → Answers (.fltClear r) 0x4003 r s stOk [] { p with ao := { p.ao with recovery := p.ao.recovery.filter (fun e => e.1 != b 0) } })) ∧
    (Served 0x4101 0 0 r s → let p := P 0x4101
      Answers (.tdxStatus r) 0x4101 r s stOk (be 2 s.ao.tdxReplays ++ be 2 s.ao.tdxSecond ++ [b8 (tdxLen p)]) p) ∧
    (Served 0x5001 0 0 r s → let p := P 0x5001
      let tail := [b8 (min 255 (commitsToday p))] ++ be 2 (min 0xFFFF (lifeCtr p 0x50 13))
      (∀ n q l c, p.nvm.active = some n → (copyOf p n).stamp = some (q, l, c) →
        Answers (.cfgInfo r) 0x5001 r s stOk ([b8 n] ++ be 4 q ++ be 4 c ++ [b8 (bit (twillSigned (copyOf p n).image))] ++ tail) p) ∧
      (p.nvm.active = none → ∃ mid : Bytes, mid.length = 9 ∧ Answers (.cfgInfo r) 0x5001 r s stOk ([0xFF] ++ mid ++ tail) { p with freeCtr := p.freeCtr + 9 })) ∧
    (Served 0x5002 4 4 r s → let p := P 0x5002
      let n := field r.payload 0 4
      64 ≤ n → n ≤ 61440 → Allowed 0x5002 r p →
      (∀ g, p.nvm.staging = some g → g.owner ≠ requester p r → Answers (.cfgBegin r) 0x5002 r s stBusy [] p) ∧
      ((∀ g, p.nvm.staging = some g → g.owner = requester p r) → Answers (.cfgBegin r) 0x5002 r s stOk []
        { p with nvm := { p.nvm with staging := some { owner := requester p r, t := r.transport, sess := r.session, length := n, idleAt := p.now + 30000000 } } })) ∧
    (Served 0x5003 5 996 r s → let p := P 0x5003
      let o := field r.payload 0 4
      let d := r.payload.drop 4
      Allowed 0x5003 r p →
      (myStaging p r = none → Answers (.cfgData r) 0x5003 r s stState [] p) ∧
      (∀ g, myStaging p r = some g → o + d.length ≤ g.length →
        Answers (.cfgData r) 0x5003 r s stOk [] { p with nvm := { p.nvm with staging := some { g with data := (o, d) :: g.data, idleAt := p.now + 30000000 } } })) ∧
    (∀ runs, let s' := { s with env := { s.env with commitRuns := runs } }
      Served 0x5004 4 4 r s' → let p := serving 0x5004 r s'
      let crc := field r.payload 0 4
      let Ans := Answers (.cfgCommit r runs) 0x5004 r s
      Allowed 0x5004 r p →
      (myStaging p r = none → Ans stState [] p) ∧
      (∀ g, myStaging p r = some g → stagedBytes g = none → Ans stState [] p) ∧
      (∀ g img, myStaging p r = some g → stagedBytes g = some img →
        (crc32 img ≠ crc → Ans stVerify [] p) ∧
        (crc32 img = crc → signatureNeeded p img = true → p.enc.segregated = true → Ans stCompat [] p) ∧
        (crc32 img = crc → signatureNeeded p img = true → p.enc.segregated = false → (p.enc.avail = false ∨ signatureGood p img = false) → Ans stVerify [] p) ∧
        (crc32 img = crc → (signatureNeeded p img = true → p.enc.segregated = false ∧ p.enc.avail = true ∧ signatureGood p img = true) →
          (commitOk p = false → Ans stEndurance [] p) ∧
          (commitOk p = true → runs = false → Ans stOk (be 4 (commitSeq p)) (commitImage img crc p)) ∧
          (commitOk p = true → runs = true → let q := flushLife false (countCommit p)
            Pends (.cfgCommit r runs) s { q with nvm := { q.nvm with commit := some { target := commitTarget p, img := img, crc := crc, seq := commitSeq p, req := r, startAt := p.now } } })))) ∧
    (∀ c, Served 0x5005 6 6 r s → let p := P 0x5005
      let o := field r.payload 0 4
      let n := field r.payload 4 2
      1 ≤ n → n ≤ 992 → activeCopy p = some c → o + n ≤ c.image.length → Answers (.cfgRead r) 0x5005 r s stOk (slice c.image o n) p) ∧
    (Served 0x5006 0 0 r s → let p := P 0x5006
      (myStaging p r = none → Answers (.cfgAbort r) 0x5006 r s stState [] p) ∧
      ((myStaging p r).isSome = true → Answers (.cfgAbort r) 0x5006 r s stOk [] { p with nvm := { p.nvm with staging := none } })) ∧
    (Served 0x5101 0 0 r s → Answers (.lifeClock r) 0x5101 r s stOk (be 4 s.ao.life ++ be 4 (if s.ao.rtcSet then s.ao.rtc else 0) ++ [b8 (bit s.ao.rtcSet)]) (P 0x5101)) ∧
    (∀ lo hi, Served 0x5102 4 4 r s → let p := P 0x5102
      let i := field r.payload 1 2
      let n := b 3
      classRange (b 0) = some (lo, hi) → 1 ≤ n → n ≤ 120 → lo ≤ i → i + n ≤ hi + 1 → (b 0 = 0x31 → encStatus p = none) →
      Answers (.lifeCounter r) 0x5102 r s stOk ((List.range' i n).flatMap (fun j => be 8 (if b 0 = 0x31 then txnsUsed p j else lifeCtr p (b 0) j))) p) ∧
    (Served 0x5103 0 0 r s → Answers (.lifeNotices r) 0x5103 r s stOk
      ([b8 s.nvm.notices.length] ++ s.nvm.notices.flatMap (fun n => be 2 n.code ++ be 2 n.object ++ be 4 n.life)) (P 0x5103)) ∧
    (Served 0x5104 4 4 r s → let p := P 0x5104
      let code := field r.payload 0 2
      let obj := field r.payload 2 2
      let page := 1 + min 89 (p.nvm.notices.findIdx (fun n => n.code == code && n.object == obj)) / 30
      p.nvm.notices.any (fun n => n.code == code && n.object == obj) = true → Allowed 0x5104 r p →
      (snapOk p page = true → ((ackCounter code obj).isSome = true → snapOk p 8 = true) → Answers (.lifeAck r) 0x5104 r s stOk [] (ackNotice code obj page p)) ∧
      ((snapOk p page = false ∨ ((ackCounter code obj).isSome = true ∧ snapOk p 8 = false)) → Answers (.lifeAck r) 0x5104 r s stEndurance [] p))

/-- R96, R97, R102, R501 to R503, R509, R513, R545, R548 and the UPD, EXT and DIAG tables of 03_commands.md: what each command answers and changes when it is served. What DIAG.REQ leaves to ISO 14229-1 is the model's (log 33). An output adjustment that claims its object is answered at the end of the arbitration step (R74). R102: the diagnostic bytes of the services of DIAG.REQ: an unlisted service is 0x11 in a negative response; TesterPresent; the serial and the part by identifier; clearing the codes outside the extended session is refused; a reset in RUN is refused; the suppress bit leaves the body empty. What is the model's own reading or choice in it: logs 31, 33, 141. -/
def Obligations.UpdateExtensionAndDiagnosticCommands : Prop :=
  (∀ (s : State) (r : Req),
      let P := fun code => serving code r s
      let U := fun code => { serving code r s with boot := { s.boot with sfdp := true } }
      let b := fun i => byte r.payload i
      (Served 0x6001 0 0 r s → let p := U 0x6001
        Answers (.updInfo r) 0x6001 r s stOk (bankInfo p 0 ++ bankInfo p 1 ++ [b8 s.boot.sel.active, b8 (bit s.boot.sel.pending + 2 * mask s.boot.sel.staged + 16 * s.boot.sel.result)] ++
          be 4 (floorOf p 0) ++ be 4 (floorOf p 1) ++ be 4 (floorOf p 2)) p) ∧
      (Served 0x6002 5 996 r s → let p := U 0x6002
        let a := field r.payload 0 4
        let d := r.payload.drop 4
        a + d.length ≤ min 16777216 s.otp.extFlashSize → Allowed 0x6002 r p →
        (s.otp.extFlashOk = false → Answers (.updWrite r) 0x6002 r s stState [] p) ∧
        (s.otp.extFlashOk = true → let m := if a % 4096 = 0 then memClear p.boot.flash a 4096 else p.boot.flash
          Answers (.updWrite r) 0x6002 r s stOk [] { p with boot := { p.boot with flash := memStore 0xFF m a (norProgram (memLoad 0xFF m a d.length) d) } })) ∧
      (Served 0x6003 9 9 r s → let p := U 0x6003
        let k := b 0
        let a := field r.payload 1 4
        let n := field r.payload 5 4
        let hd := flashRead p a 512
        let h := readHeader hd
        k ≤ 2 → a % 4096 = 0 → a + n ≤ min 16777216 s.otp.extFlashSize → 512 ≤ n → n ≤ regionSize k → Allowed 0x6003 r p → s.otp.extFlashOk = true → n = 512 + h.length →
        (contentOk s.otp k hd (flashRead p (a + 512) (n - 512)) = false → Answers (.updStage r) 0x6003 r s stVerify [] p) ∧
        (contentOk s.otp k hd (flashRead p (a + 512) (n - 512)) = true → revsOk hd = true →
          (h.secVer < floorOf p k → Answers (.updStage r) 0x6003 r s stDenied [] p) ∧
          (floorOf p k ≤ h.secVer → stageCompat p k h = false → Answers (.updStage r) 0x6003 r s stCompat [] p) ∧
          (floorOf p k ≤ h.secVer → stageCompat p k h = true → bootWriteOk p = false → Answers (.updStage r) 0x6003 r s stEndurance [] p) ∧
          (floorOf p k ≤ h.secVer → stageCompat p k h = true → bootWriteOk p = true → Answers (.updStage r) 0x6003 r s stOk []
            (bootWrite (fun x => { x with staged := setAt k true x.staged, stage := setAt k (a, n) x.stage }) p)))) ∧
      (Served 0x6004 0 0 r s → let p := U 0x6004
        ∃ n, recordOf p r.transport r.session r.seq = some n ∧
        let later := fun (q : State) => { q with mbx := { q.mbx with resetAfter := q.mbx.resetAfter ++ [(n, .cmd)] } }
        (Allowed 0x6004 r p →
          (s.boot.sel.staged.any (fun x => x) = false → Answers (.updActivate r) 0x6004 r s stState [] p) ∧
          (s.boot.sel.staged.any (fun x => x) = true → s.boot.sel.pending = false → bootWriteOk p = true →
            Answers (.updActivate r) 0x6004 r s stOk [] (later (bootWrite (fun x => { x with pending := true }) p))) ∧
          (s.boot.sel.staged.any (fun x => x) = true → s.boot.sel.pending = true → Answers (.updActivate r) 0x6004 r s stOk [] (later p)))) ∧
      (∀ runs, let s' := { s with env := { s.env with raiseRuns := runs } }
        Served 0x6005 1 1 r s' → let p0 := serving 0x6005 r s'
        let p := { p0 with boot := { p0.boot with sfdp := true } }
        b 0 ≤ 2 → Allowed 0x6005 r p → (confirmed s.boot.sel s.boot.sel.active = true ∨ bootWriteOk p = true) →
        let Ans := Answers (.updConfirm r runs) 0x6005 r s
        let q := confirmActive p
        let hd := regionHeader (b 0) (regionOf (activeBank p) (b 0))
        (hd = none → Ans stOk (be 4 (floorOf p (b 0))) q) ∧
        (∀ h, hd = some h → h.secVer = 0xFFFFFFFF → floorOf p (b 0) = 0xFFFFFFFF → Ans stRange [] p) ∧
        (∀ h, hd = some h → ¬ (h.secVer = 0xFFFFFFFF ∧ floorOf p (b 0) = 0xFFFFFFFF) →
          (runs = false → Ans stOk (be 4 (floorOf (raiseFloor (b 0) q) (b 0))) (raiseFloor (b 0) q)) ∧
          (runs = true → Pends (.updConfirm r runs) s { q with enc := { q.enc with raising := q.enc.raising ++ [{ kind := b 0, value := h.secVer, req := r, startAt := q.now }] } }))) ∧
      (Served 0x6101 0 0 r s → let p := P 0x6101
        (∀ h, regionHeader 2 (activeBank p).ext = some h → Answers (.extInfo r) 0x6101 r s stOk (b8 (extCode s.ext.st) :: be 2 (apiLevel p) ++ be 4 h.imageVer) p) ∧
        (regionHeader 2 (activeBank p).ext = none → ∃ v : Bytes, v.length = 4 ∧
          Answers (.extInfo r) 0x6101 r s stOk (b8 (extCode s.ext.st) :: be 2 (apiLevel p) ++ v) { p with freeCtr := p.freeCtr + 4 })) ∧
      (Served 0x6102 1 1 r s → let p := P 0x6102
        Allowed 0x6102 r p →
        (b 0 = 0 → ∃ q, q = (let q := if s.ext.st = .running then stopExtension p else p
            { q with ext := { q.ext with startAt := none, restartAt := none } }) ∧ Answers (.extCtrl r) 0x6102 r s stOk [b8 (extCode q.ext.st)] q) ∧
        (b 0 = 1 → s.ext.st = .running → Answers (.extCtrl r) 0x6102 r s stOk [2] { p with ext := { p.ext with restarts := 0 } }) ∧
        (b 0 = 1 → s.ext.st = .stopped → Answers (.extCtrl r) 0x6102 r s stOk [2] (extStart false { p with ext := { p.ext with restarts := 0 } })) ∧
        (b 0 = 1 → s.ext.st ≠ .running → s.ext.st ≠ .stopped → Answers (.extCtrl r) 0x6102 r s stState [] p)) ∧
      (Served 0x6103 0 992 r s → let p := P 0x6103
        let waiting := (s.ext.msgs.filter (fun m => !m.taken)).length
        (s.ext.st ≠ .running → Answers (.extMsg r) 0x6103 r s stState [] p) ∧
        (s.ext.st = .running → 4 ≤ waiting → Answers (.extMsg r) 0x6103 r s stBusy [] p) ∧
        (s.ext.st = .running → waiting < 4 → let m : ExtMsg := { id := s.ext.nextMsg, t := r.transport, sess := r.session, seq := r.seq, data := r.payload, dueAt := p.now + 1000000 }
          Pends (.extMsg r) s (raiseExt 0 { p with ext := { p.ext with msgs := s.ext.msgs ++ [m], nextMsg := (s.ext.nextMsg + 1) % 4294967296 }, work := true }))) ∧
      (Served 0x7001 1 999 r s → let p := P 0x7001
        let p1 := { p with nvm := { p.nvm with diag := { p.nvm.diag with s3At := p.now + 5000000 } } }
        (diagClaims r.payload p = false → ∃ q, q = diagServe r r.payload p1 ∧ Answers (.diagReq r) 0x7001 r s stOk q.1 q.2) ∧
        (diagClaims r.payload p = true → Pends (.diagReq r) s { p1 with outs := { p1.outs with claims := p1.outs.claims ++
          [{ owner := .service, object := field r.payload 1 2 - 0xFD00, prio := 15, sess := some (r.transport, r.session), req := some r, diag := some (b 4) }] } }))) ∧
  (∀ (p : State) (r : Req),
      (∀ b, byte b 0 ∉ [0x10, 0x11, 0x14, 0x19, 0x22, 0x2E, 0x2F, 0x31, 0x3E, 0x85] → diagServe r b p = ([0x7F, b8 (byte b 0), 0x11], p)) ∧
      diagServe r [0x3E, 0x00] p = ([0x7E, 0x00], p) ∧
      diagServe r [0x3E, 0x80] p = ([], p) ∧
      diagServe r [0x22, 0xF1, 0x8C] p = ([0x62, 0xF1, 0x8C] ++ serialAscii p.otp.serial, p) ∧
      diagServe r [0x22, 0xF1, 0x91] p = ([0x62, 0xF1, 0x91] ++ partAscii p.otp.part, p) ∧
      (∀ b, byte b 0 = 0x14 → p.nvm.diag.extended = false → diagServe r b p = ([0x7F, 0x14, 0x22], p)) ∧
      (p.mode.mode = .run → diagServe r [0x11, 0x01] p = ([0x7F, 0x11, 0x22], p)) ∧
      (∀ n, p.mode.mode ≠ .run → recordOf p r.transport r.session r.seq = some n →
        diagServe r [0x11, 0x01] p = ([0x51, 0x01], { p with mbx := { p.mbx with resetAfter := p.mbx.resetAfter ++ [(n, .cmd)] } })) ∧
      (p.mode.mode ≠ .service → diagServe r [0x10, 0x03] p = ([0x7F, 0x10, 0x22], p)) ∧
      (∀ did v, (reqPriv p r < 3) → diagServe r ([0x2E] ++ be 2 did ++ v) p = ([0x7F, 0x2E, 0x33], p)))


/-- R51 to R53, R55 to R57, R70: each mailbox row is the request of its code; the checks in their order: payload length, a free slot, the session, the MAC, the sequence number; what fails is answered with its status and no MAC, and changes nothing else, but that a wrong MAC is counted and the eighth in a row closes the session with a Notice, that a correct one ends the row, and that a counter at its end closes the session; a request on a transport that is not served is lost, on SPI with error 0x06. What is the model's own reading or choice in it: logs 34, 103. -/
def Obligations.RequestsAreCheckedInOrder : Prop :=
  ∀ e ∈ mailboxRows, ∀ (s : State) (r : Req),
    let q := advance r.time (offered e.1 s)
    let port := getPort q r.transport
    let ok := modSession r.transport r.session (fun y => { y with macFails := 0 }) q
    let R := fun st => Does (e.2 r) s (respondPlain e.1 st [] r q)
    let good := port.served = true ∧ r.payload.length ≤ 1000 ∧ port.slots.length < 8
    Does (e.2 r) s (requestAt e.1 r (offered e.1 s)) ∧ (cmdRow e.1).isSome = true ∧
    (port.served = false → r.transport ≠ .spi → Does (e.2 r) s q) ∧
    (port.served = false → r.transport = .spi → Does (e.2 r) s (if isOn q .svc = true then winErr 0x06 q else wakeEvent 0x38 (winErr 0x06 q))) ∧
    (port.served = true → 1000 < r.payload.length → R stLength) ∧
    (port.served = true → r.payload.length ≤ 1000 → 8 ≤ port.slots.length → R stBusy) ∧
    (good → r.auth = true → encServes q = false → R stAuth) ∧
    (good → (r.auth = false ∨ encServes q = true) →
      (r.auth ≠ (r.session != 0) → R stSession) ∧
      (r.auth = (r.session != 0) → findSession q r.transport r.session = none → R stSession) ∧
      (∀ x, r.auth = (r.session != 0) → findSession q r.transport r.session = some x →
        (x.id ≠ 0 → x.proven = false → R stSession) ∧
        ((x.id = 0 ∨ x.proven = true) →
          (r.auth = true → macOk e.1 r x = false → x.macFails < 7 →
            Does (e.2 r) s (respondPlain e.1 stAuth [] r (modSession x.transport x.id (fun y => { y with macFails := y.macFails + 1 }) q))) ∧
          (r.auth = true → macOk e.1 r x = false → 7 ≤ x.macFails →
            Does (e.2 r) s (respondPlain e.1 stAuth [] r (issue 0x38 0x01 0 (closeSession x.transport x.id q)))) ∧
          ((r.auth = true → macOk e.1 r x = true) →
            (∀ k, seqClass x r.seq = .known k → k.code ≠ e.1 → Does (e.2 r) s (respondPlain e.1 stSequence [] r ok)) ∧
            (∀ k, seqClass x r.seq = .known k → k.code = e.1 → k.resp = none → Does (e.2 r) s ok) ∧
            (∀ k f, seqClass x r.seq = .known k → k.code = e.1 → k.resp = some f → Does (e.2 r) s (resend r f ok)) ∧
            (seqClass x r.seq = .stale → r.session ≠ 0 → Does (e.2 r) s (respondPlain e.1 stSequence [] r ok)) ∧
            (seqClass x r.seq = .fresh → 0xFFFFFFFF < ctrAfter x r.seq → Does (e.2 r) s (respondPlain e.1 stSession [] r (closeSession r.transport r.session q)))))))

/-- R55, R56, R57: how a sequence number stands in its session and what becomes of its request: the first is new, 1 to 32767 ahead of the highest is new, and a new one becomes the highest; 0 to 63 behind is a duplicate, answered from its response or left to its running request, or it fills a gap and the highest stays; any other is stale, refused in an authenticated session and the start of a new window in session 0. -/
def Obligations.SequenceNumbers : Prop :=
  ∀ (x : Session) (seq : Nat), seq < 65536 →
    (x.h = none → seqClass x seq = .fresh) ∧
    (∀ h, x.h = some h → h < 65536 →
      (1 ≤ (seq + 65536 - h) % 65536 → (seq + 65536 - h) % 65536 ≤ 32767 → seqClass x seq = .fresh) ∧
      ((h + 65536 - seq) % 65536 ≤ 63 → ∀ e, x.cache.find? (fun e => e.seq == seq) = some e → seqClass x seq = .known e) ∧
      ((h + 65536 - seq) % 65536 ≤ 63 → x.cache.find? (fun e => e.seq == seq) = none → seqClass x seq = .gap) ∧
      (64 ≤ (h + 65536 - seq) % 65536 → 32768 ≤ (seq + 65536 - h) % 65536 → seqClass x seq = .stale) ∧
      (seqClass x seq = .fresh → seq < h → ctrAfter x seq = x.ctr + 1) ∧
      (h ≤ seq → ctrAfter x seq = x.ctr)) ∧
    (∀ (code : Nat) (r : Req) (s : State), r.seq = seq → let ok := modSession r.transport r.session (fun y => { y with macFails := 0 }) s
      (seqClass x seq = .fresh → ctrAfter x seq ≤ 0xFFFFFFFF → classify code r x s = accept code r x true s) ∧
      (seqClass x seq = .gap → classify code r x s = accept code r x false s) ∧
      (∀ e f, seqClass x seq = .known e → e.code = code → e.resp = some f → classify code r x s = resend r f ok) ∧
      (∀ e, seqClass x seq = .known e → e.code = code → e.resp = none → classify code r x s = ok) ∧
      (seqClass x seq = .stale → r.session ≠ 0 → classify code r x s = respondPlain code stSequence [] r ok) ∧
      (seqClass x seq = .stale → r.session = 0 → classify code r x s = accept code r x true s) ∧
      (∀ y isNew, findSession s r.transport r.session = some y →
        ∃ z, findSession (noteAccepted code r x isNew s) r.transport r.session = some z ∧ z.h = if isNew then some seq else y.h))

/-- R51 (steps 11 to 13), R54, R71, R76: a request whose privilege, code or lane is refused is accepted, answered with that status alone, and renews no lease; a payload length that does not fit is refused at step 14. -/
def Obligations.PrivilegeAndLaneRefusals : Prop :=
  ∀ e ∈ mailboxRows, ∀ (s : State) (r : Req),
    let q := advance r.time (offered e.1 s)
    let port := getPort q r.transport
    (∀ x st, port.served = true → r.payload.length ≤ 1000 → port.slots.length < 8 → (∀ y ∈ port.slots, y.req.async = true ∧ y.started = true) →
      sessionCheck r q = .ok x → seqClass x r.seq = .fresh → ctrAfter x r.seq ≤ 0xFFFFFFFF → (r.auth = true → encServes q = true ∧ macOk e.1 r x = true) → laneCheck e.1 r q = some st →
      st ∈ [stPriv, stUnsupported, stLane] ∧
      Does (e.2 r) s (finish e.1 st [] r (modPort r.transport (fun p => { p with slots := p.slots ++ [{ code := e.1, req := r, started := true, refuse := some st }] }) (noteAccepted e.1 r x true q)))) ∧
    (∀ row least, cmdRow e.1 = some row → least = (if q.boot.runs = 3 ∧ rescueServes e.1 = true then 0 else row.priv) → privOk e.1 least r q = true → partLacks q e.1 = false →
      (row.async = false → r.async = true → laneCheck e.1 r q = some stLane) ∧ ((row.async = true ∨ r.async = false) → laneCheck e.1 r q = none)) ∧
    (∀ row, cmdRow e.1 = some row → Ready e.1 r q → (r.payload.length < row.lo ∨ row.hi < r.payload.length) →
      Answers (e.2 r) e.1 r s stPayload [] (serving e.1 r (offered e.1 s)))

/-- R99, R100, R419: a command that the present mode or a shutdown refuses never acts: it is answered ST_STATE, or with the status of an earlier check, and changes nothing; the driving commands are so refused in PARKED, TRANSPORT and while the Grave latch or the soft safe pattern holds. What is the model's own reading or choice in it: log 94. -/
def Obligations.ModesRefuseCommands : Prop :=
  ∀ e ∈ mailboxRows, ∀ (s : State) (r : Req) (row : CmdRow),
    let p := serving e.1 r (offered e.1 s)
    let p1 := if 0x6001 ≤ e.1 ∧ e.1 ≤ 0x6005 then { p with boot := { p.boot with sfdp := true } } else p
    (cmdRow e.1 = some row → Served e.1 row.lo row.hi r (offered e.1 s) → (modeRefused e.1 r.payload p = true ∨ shutdownRefused e.1 p = true) →
      ∃ st ∈ [stState, stRange, stPriv, stPayload, stAuth, stCompat, stDenied], Answers (e.2 r) e.1 r s st [] p1) ∧
    (e.1 ∈ [0x1003, 0x1002, 0x1102, 0x1103, 0x1202, 0x1203, 0x1302, 0x1B01, 0x2003] →
      (p.mode.mode = .parked ∨ p.mode.mode = .transport ∨ p.ao.grave.isSome = true ∨ p.ao.severeAt.isSome = true) → modeRefused e.1 r.payload p = true)

/-- R41, R50, R54, R57, R61, R64: the end of a request: its response, with the request's code, sequence, session, lane and privilege, the status first, a MAC of the session's present counter under K_dh, is queued on its transport; the session keeps it; its slot is free, but on SPI the slot of a response that waits behind a full RX queue is held until it has entered. What is the model's own reading or choice in it: logs 15, 96. -/
def Obligations.ResponsesAnswerTheirRequest : Prop :=
  ∀ (code st : Nat) (body : Bytes) (r : Req) (p : State),
    let n := recordOf p r.transport r.session r.seq
    let f0 : Frame := { code := code, seq := r.seq, session := r.session, async := r.async, priv := r.priv, payload := b8 st :: body, dest := r.src }
    let f := { f0 with accId := n }
    let q := finish code st body r p
    let tagged := fun (g : Frame) => { g with vlan := p.nvm.tw.uplink.vlan, pcp := p.nvm.tw.uplink.pcp }
    (∀ x, findSession p r.transport r.session = some x → r.session ≠ 0 →
      let g := { f with auth := true, mac := (cmac x.kDh (be 4 x.ctr ++ header16 { f with auth := true } ++ f.payload)).take 8 }
      (r.transport = .spi → q.mbx.spi.out = p.mbx.spi.out ++ [g]) ∧
      (r.transport = .can → q.mbx.can.out = p.mbx.can.out ++ [g]) ∧
      (r.transport = .eth → reachable p r.src.ip = true → q.mbx.eth.out.getLast? = some (tagged g))) ∧
    ((r.session = 0 ∨ findSession p r.transport r.session = none) →
      (r.transport = .spi → q.mbx.spi.out = p.mbx.spi.out ++ [f]) ∧
      (r.transport = .can → q.mbx.can.out = p.mbx.can.out ++ [f]) ∧
      (r.transport = .eth → reachable p r.src.ip = true → q.mbx.eth.out.getLast? = some (tagged f))) ∧
    (∀ x ∈ p.mbx.sessions, x.transport = r.transport → x.id = r.session →
      ∃ y ∈ q.mbx.sessions, y = { x with cache := x.cache.map (fun e => if e.seq == r.seq && e.resp.isNone then { e with resp := some f0 } else e) }) ∧
    ((r.transport ≠ .spi ∨ n = none ∨ p.mbx.spi.out.length < 40) → (getPort q r.transport).slots = dropSlot r.session r.seq (getPort p r.transport).slots) ∧
    (∀ k, r.transport = .spi → n = some k → 40 ≤ p.mbx.spi.out.length →
      q.mbx.spi.slots = p.mbx.spi.slots.map (fun x => if x.req.session == r.session && x.req.seq == r.seq then { x with done := some k } else x)) ∧
    (r.transport ≠ .eth → q.ao = p.ao) ∧
    q.outs = p.outs ∧ q.mode = p.mode ∧ q.pwr = p.pwr ∧ q.nvm = p.nvm ∧ q.enc = p.enc ∧ q.core = p.core ∧ q.mill = p.mill ∧ q.bus = p.bus ∧ q.boot = p.boot

/-- R37 to R43, R49, R51, R52: the SPI host window: each register write, the reads of a frame, a frame written and a wrong opcode, while the device is powered and not in reset; a read shows as many bytes as are clocked, of which two before the value are free, and a frame that enters the 40 of the RX queue raises its interrupt flag; every assertion shifts the status byte out first and, while SVC is not ON, is a wake by HSPI_CSN. What is the model's own reading or choice in it: logs 36, 37, 105. -/
def Obligations.HostWindowAccesses : Prop :=
  ∀ (s : State) (t : Nat),
    let p := advance t s
    let q := { p with win := { p.win with miso := [statByte p] } }
    let edge := fun (x : State) => if isOn x .svc then x else wakeEvent 0x38 x
    (winLive p = false →
      (∀ off b, Does (.registerWrite t off b) s p) ∧ (∀ v, Does (.winIrqWrite t v) s p ∧ Does (.winIrqenWrite t v) s p) ∧ Does (.evflush t) s p ∧ Does (.rxdrop t) s p ∧
      Does (.winErrWrite t) s p ∧ (∀ o f n, Does (.unknownOpcode t o f n) s p) ∧ (∀ b, Does (.frameWrite t b) s p) ∧ (∀ n, Does (.frameRead t n) s p) ∧ Does (.hspiWake t) s p) ∧
    (winLive p = true →
      (∀ b, 4 ≤ b.length → Does (.registerWrite t 0x1C b) s (edge { q with win := { q.win with scratch := BitVec.ofNat 32 (field b 0 4) } })) ∧
      (∀ off b, off ∈ [0x00, 0x04, 0x10] → Does (.registerWrite t off b) s (edge q)) ∧
      (∀ off b, off ∉ [0x00, 0x04, 0x08, 0x0C, 0x10, 0x14, 0x18, 0x1C] → Does (.registerWrite t off b) s (edge (winErr 0x05 q))) ∧
      (∀ v, Does (.winIrqWrite t v) s (edge { q with win := { q.win with irq := q.win.irq &&& ~~~ (v.truncate 6) } })) ∧
      (∀ v, Does (.winIrqenWrite t v) s (edge { q with win := { q.win with irqEn := v.truncate 6 } })) ∧
      Does (.evflush t) s (edge (rxLeave (fun l => l.filter (fun f => !f.event)) q)) ∧
      Does (.rxdrop t) s (edge (rxLeave List.tail q)) ∧
      Does (.winErrWrite t) s (edge { q with win := { q.win with errCount := 0 } }) ∧
      (∀ o f n, o ∉ [0x02, 0x03, 0x20, 0x21] → Does (.unknownOpcode t o f n) s (edge (winErr 0x03 q))) ∧
      (∀ f n v, winRead p f = some v → ∃ d, d.length = 2 ∧
        Does (.unknownOpcode t 0x03 f n) s (edge { q with freeCtr := p.freeCtr + 2, win := { q.win with miso := statByte p :: (d ++ be 4 v).take n } })) ∧
      (∀ f n, winRead p f = none → 1 ≤ n → ∃ d, d.length = 2 ∧
        Does (.unknownOpcode t 0x03 f n) s (edge (winErr 0x05 { q with freeCtr := p.freeCtr + 2, win := { q.win with miso := statByte p :: (d ++ be 4 0).take n } }))) ∧
      (∀ n, p.mbx.spi.out = [] → Does (.frameRead t n) s (edge (winErr 0x07 { q with win := { q.win with miso := statByte p :: List.replicate n 0 } }))) ∧
      (∀ n f l, p.mbx.spi.out = f :: l →
        (n < (frameBytes f).length → Does (.frameRead t n) s (edge { q with win := { q.win with miso := statByte p :: (frameBytes f).take n } })) ∧
        (n = (frameBytes f).length → Does (.frameRead t n) s (edge (delivered f (rxLeave List.tail { q with win := { q.win with miso := statByte p :: frameBytes f } })))) ∧
        ((frameBytes f).length < n →
          Does (.frameRead t n) s (edge (delivered f (winErr 0x04 (rxLeave List.tail { q with win := { q.win with miso := statByte p :: padTo n 0 (frameBytes f) } })))))) ∧
      (∀ b, p.mbx.spi.served = false → Does (.frameWrite t b) s (edge (winErr 0x06 q))) ∧
      (∀ b, p.mbx.spi.served = true →
        let r := headerReq .spi {} b q
        let n := field b 6 2
        (b.length < 16 → Does (.frameWrite t b) s (edge (winErr 0x01 q))) ∧
        (16 ≤ b.length → crc16 (b.take 14) ≠ field b 14 2 → Does (.frameWrite t b) s (edge (winErr 0x02 q))) ∧
        (16 ≤ b.length → crc16 (b.take 14) = field b 14 2 →
          (byte b 0 ≠ 3 → Does (.frameWrite t b) s (edge (respondPlain (field b 2 2) stGeneration [3] r q))) ∧
          (byte b 0 = 3 → (4 ≤ byte b 1 ∨ byte b 13 ≠ 0) → Does (.frameWrite t b) s (edge (respondPlain (field b 2 2) stFraming [] r q))) ∧
          (byte b 0 = 3 → byte b 1 < 4 → byte b 13 = 0 →
            (1000 < n → Does (.frameWrite t b) s (edge (respondPlain (field b 2 2) stLength [] r q))) ∧
            (n ≤ 1000 → 8 ≤ p.mbx.spi.slots.length → Does (.frameWrite t b) s (edge (respondPlain (field b 2 2) stBusy [] r q))) ∧
            (n ≤ 1000 → p.mbx.spi.slots.length < 8 →
              (b.length < frameLen b → Does (.frameWrite t b) s (edge (respondPlain (field b 2 2) stTruncated [] r q))) ∧
              (frameLen b < b.length → Does (.frameWrite t b) s (edge (respondPlain (field b 2 2) stFraming [] r q))) ∧
              (b.length = frameLen b → Does (.frameWrite t b) s (edge (request (field b 2 2) { r with payload := slice b 16 n, mac := b.drop (16 + n) } q))))))) ∧
      (isOn p .svc = true → Does (.hspiWake t) s p) ∧
      (isOn p .svc = false → Does (.hspiWake t) s (wakeEvent 0x38 p))) ∧
    (∀ (f : List Frame → List Frame), let o := p.mbx.spi.out
      (rxLeave f p).mbx.spi.out = f o ∧
      ((f (o.take 40)).length < min 40 (f o).length → (rxLeave f p).win.irq.getLsbD 0 = true))

/-- R44 to R46, R92, R238 to R241, R245, R255: CAN frames received and sent, segmented messages and their time-outs, datagrams, bus-off and selective wake. What is the model's own reading or choice in it: logs 55, 56, 68, 100, 107. -/
def Obligations.CanAndSegmentedMessages : Prop :=
  ∀ (s : State) (t : Nat),
    let p := advance t s
    let pass := fun (ch : Nat) (f : CanFrame) (x : State) => if smisaRuns x then extReceive ch f (routeCan ch f (feedCan ch f x)) else x
    let heard := fun (ch : Nat) (f : CanFrame) => pass ch f p
    let fa := nAsCheck p
    (∀ ch f errs, ch ≤ 1 → canActive p ch = true →
      let e := modCan ch (canRxErrors errs) p
      (canActive e ch = true →
        (f.remote = true → Does (.canFrameReceived t ch f errs) s (modCan ch (fun c => { c with remotes := (c.remotes + 1) % 65536 }) e)) ∧
        (f.remote = false → isMbxFrame (pass ch f e) ch f = false → Does (.canFrameReceived t ch f errs) s (pass ch f e)) ∧
        (f.remote = false → isMbxFrame (pass ch f e) ch f = true → Does (.canFrameReceived t ch f errs) s (isoReceive f.data (pass ch f e))))) ∧
    (∀ ch f errs, (1 < ch ∨ canActive p ch = false) → Does (.canFrameReceived t ch f errs) s p) ∧
    (let ch := (tw p).transports.canCh
     ∀ f, ch ≤ 1 → canActive p ch = true → f.remote = false → isMbxFrame (heard ch f) ch f = true →
      let h := heard ch f
      let d := f.data
      let n := (byte d 0 % 16) * 256 + byte d 1
      let g := { h with mbx := { h.mbx with canRx := none } }
      (byte d 0 / 16 = 1 → (n = 0 ∨ 1024 < n) → Does (.firstFrame t f) s (sendFlow 2 g)) ∧
      (byte d 0 / 16 = 1 → 16 ≤ n → n ≤ 1024 → d.length ≤ n + 1 → 18 ≤ d.length →
        (headerCheck .can (d.drop 2) g = none → Does (.firstFrame t f) s (sendFlow 0 { g with mbx := { g.mbx with canRx := some { ffDl := n, bytes := (d.drop 2).take n, crAt := g.now + 1000 * (tw g).transports.nCrMs } } })) ∧
        (headerCheck .can (d.drop 2) g = some none → Does (.firstFrame t f) s (sendFlow 2 g)) ∧
        (∀ st body, headerCheck .can (d.drop 2) g = some (some (st, body)) →
          Does (.firstFrame t f) s (respondPlain (field (d.drop 2) 2 2) st body (headerReq .can {} (d.drop 2) g) (sendFlow 2 g)))) ∧
      (∀ x, byte d 0 / 16 = 2 → h.mbx.canRx = some x →
        let b := (x.bytes ++ d.drop 1).take x.ffDl
        (byte d 0 % 16 ≠ x.nextSn → Does (.consecutiveFrame t f) s g) ∧
        (byte d 0 % 16 = x.nextSn → x.ffDl ≤ b.length → Does (.consecutiveFrame t f) s (frameIn .can {} b g)) ∧
        (byte d 0 % 16 = x.nextSn → b.length < x.ffDl → Does (.consecutiveFrame t f) s
          { h with mbx := { h.mbx with canRx := some { x with bytes := b, nextSn := (x.nextSn + 1) % 16, crAt := h.now + 1000 * (tw h).transports.nCrMs } } })) ∧
      (∀ x, byte d 0 / 16 = 3 → h.mbx.canTx = some x → x.waitFc = true →
        (byte d 0 % 16 = 0 → Does (.flowControl t f) s (isoContinue { x with left := if byte d 1 = 0 then none else some (byte d 1) } h)) ∧
        (byte d 0 % 16 = 1 → Does (.flowControl t f) s { h with mbx := { h.mbx with canTx := some { x with fcAt := h.now + 1000000 } } }) ∧
        (2 ≤ byte d 0 % 16 → Does (.flowControl t f) s (isoAbandon h)))) ∧
    (∀ x, p.mbx.canRx = some x → x.crAt ≤ p.now → Does (.nCrTimeout t) s (frameIn .can {} x.bytes { p with mbx := { p.mbx with canRx := none } })) ∧
    (∀ x, fa.mbx.canTx = some x → x.waitFc = true → x.fcAt ≤ p.now → Does (.nBsTimeout t) s (isoAbandon fa)) ∧
    (∀ x, p.mbx.canTx = some x → x.queued = true → x.asAt ≤ p.now → fa = isoAbandon p) ∧
    (∀ x, p.mbx.canTx = some x → (x.queued = false ∨ p.now < x.asAt) → fa = p) ∧
    (∀ d : Datagram, let b := d.data
      let ok := uplinkRuns p = true ∧ p.bus.up.link = true ∧ p.mbx.eth.served = true ∧ d.v6 = false ∧ d.fragmented = false ∧ b.length ≤ 1472 ∧
        d.vlan = (tw p).uplink.vlan ∧ d.dst.ip = (tw p).uplink.ipv4 ∧ d.dst.port = (tw p).transports.ethPort ∧ (b.length < 16 ∨ b.length < frameLen b + 16)
      (ok → Does (.mbxEthDatagram t d) s (frameIn .eth d.src b p)) ∧ (¬ ok → Does (.mbxEthDatagram t d) s p)) ∧
    (∀ ch errs e l, canActive fa ch = true → (getCan fa ch).restricted = false → (getCan fa ch).queue = e :: l →
      let q := canRefill ch (modCan ch (fun c => noteSent e.frame (canTxErrors errs { c with queue := l })) fa)
      (∀ tr i n, e.origin = .busSend tr i n → Does (.canFrameTransmitted t ch errs) s (complete tr i n stOk [] q)) ∧
      (∀ n, e.origin = .routed n → Does (.canFrameTransmitted t ch errs) s q) ∧
      (e.origin = .mailbox → byte e.frame.data 0 / 16 = 3 → Does (.canFrameTransmitted t ch errs) s q) ∧
      (e.origin = .mailbox → byte e.frame.data 0 / 16 ≠ 3 → Does (.canFrameTransmitted t ch errs) s (isoAdvance (byte e.frame.data 0 / 16 < 2) q))) ∧
    (∀ ch, let c := getCan p ch
      let late := fun (e : CanTxEntry) => isSend e && decide (e.dueAt ≤ p.now)
      Does (.busSendAckTimeout t ch) s (canRefill ch ((c.queue.filter late ++ c.waiting.filter late).foldl (answerSend stTimeout)
        (modCan ch (fun c => { c with queue := c.queue.filter (fun e => !late e), waiting := c.waiting.filter (fun e => !late e) }) p)))) ∧
    (∀ ch, canActive p ch = true → let c := getCan p ch
      let ms_ := (((tw p).can.find? (fun x => x.ch == ch)).map (fun x => x.recoveryMs)).getD 100
      Does (.canBusOffEntry t ch) s (issue 0x21 0x01 0 ((c.queue.filter isSend ++ c.waiting.filter isSend).foldl (answerSend stState)
        (canRefill ch (modCan ch (fun c => { c with state := 3, tec := 255, busOff := satInc 0xFFFF c.busOff, recoverAt := some (p.now + 1000 * ms_), queue := c.queue.filter (fun e => !isRouted e && !isSend e), waiting := c.waiting.filter (fun e => !isSend e) }) p))))) ∧
    (∀ ch, (getCan p ch).state = 3 → due (getCan p ch).recoverAt p = true → Does (.busOffRecovery t ch) s (modCan ch (fun c => { c with state := 1, tec := 0, rec_ := 0, recoverAt := none }) p)) ∧
    (∀ f c, (tw p).can.find? (fun x => x.ch == 0) = some c → ((getCan p 0).state = 4 ∨ wufSense p c = true) → isWuf c f = true → Does (.wuf t f) s (wakeEvent 0x40 (modCan 0 (fun x => { x with wuf := some f }) p))) ∧
    (∀ n, (getCan p 0).state = 4 → 32 < n → Does (.wakeErrorCount t n) s (wakeEvent 0x40 (modCan 0 (fun x => { x with wakeErr := n }) p))) ∧
    (∀ n, (getCan p 0).state = 4 → n ≤ 32 → Does (.wakeErrorCount t n) s (modCan 0 (fun x => { x with wakeErr := n }) p))

/-- R243, R247 to R252, R256, R257: LIN slots and faults, the uplink's link, vehicle time, and the frames of the gateway. The epochs and the amount of an RTC trim by gPTP are the model's (logs 7 and 20). R256: a batch closes: its messages leave in one frame of the stream's next sequence number while the link is up, and are dropped and counted while it is down. What is the model's own reading or choice in it: logs 7, 20, 69, 106, 108. -/
def Obligations.LinAndUplinkEvents : Prop :=
  (∀ (s : State) (t : Nat),
      let p := advance t s
      (∀ ch c k a col, (getLin p ch).state = 1 → linCfg p ch = some c → linSched p ch (getLin p ch).sched = some k →
        let slot := k.slots.getD (getLin p ch).slot {}
        let whole := ∃ b, a = some b ∧ linRespOk c slot b = true
        ∃ err : Bool, (whole → err = (slotError c slot a.isSome true && !col)) ∧ (¬ whole → err = (slotError c slot a.isSome col && !col)) ∧
          Does (.linSlotEnd t ch a col) s (linBegin ch (modLin ch (fun x => linNext k (col && slot.kind == 1) { x with errors := if err then satInc 0xFFFF x.errors else x.errors }) p))) ∧
      (∀ ch n, (getLin p ch).state ≠ 0 → 100 < n → Does (.linBusFault t ch n) s (modLin ch (fun x => { x with state := 3 }) p)) ∧
      (∀ ch, due (getLin p ch).startAt p = true →
        Does (.linScheduleStart t ch) s (linBegin ch (modLin ch (fun x => { x with state := 1, sched := 0, slot := 0, startAt := none, woken := false, slept := false, resume := none }) p))) ∧
      (∀ sp, uplinkRuns p = true → (sp = 100 ∨ sp = 1000) → Does (.linkPoll t true sp true) s (pdelaySend (modUp (fun u => { u with link := true, speed := sp }) p))) ∧
      (∀ up sp full, uplinkRuns p = true → (up = false ∨ full = false ∨ (sp ≠ 100 ∧ sp ≠ 1000)) → Does (.linkPoll t up sp full) s (modUp (fun u => { u with link := false }) p)) ∧
      (uplinkRuns p = true →
        (∀ n ns iv, Does (.gptpSync t 0 n true ns iv) s (gptpJudge (modGptp (fun g => { g with syncAt := some p.now, interval := iv, twoStep := some (n, p.now) }) p))) ∧
        (∀ n ns iv, Does (.gptpSync t 0 n false ns iv) s (rtcFollow (gptpJudge (modGptp (fun g => { g with syncAt := some p.now, interval := iv, twoStep := none, time := some (ns + g.delay, p.now) }) p)))) ∧
        (∀ d n b ns iv, d ≠ 0 → Does (.gptpSync t d n b ns iv) s p ∧ Does (.gptpFollowUp t d n ns) s p ∧ Does (.announce t d b iv) s p) ∧
        (∀ n ns at_, p.bus.up.gptp.twoStep = some (n, at_) → Does (.gptpFollowUp t 0 n ns) s (rtcFollow (gptpJudge (modGptp (fun g => { g with twoStep := none, time := some (ns + g.delay, at_) }) p)))) ∧
        (∀ t1 t2 t3 t4, ∃ ratio, (∀ a b, p.bus.up.gptp.lastPd = some (a, b) → b < t4 → ratio = some ((t3 - a) * 1000000000 / (t4 - b))) ∧
          (p.bus.up.gptp.lastPd = none → ratio = p.bus.up.gptp.ratio) ∧
          let got := modGptp (fun g => { g with ratio := ratio, lastPd := some (t3, t4), delay := ((t4 - t1) * ratio.getD 1000000000 / 1000000000 - (t3 - t2)) / 2 })
          Does (.pdelayResponse t none t1 t2 t3 t4) s (gptpJudge (got p)) ∧
          (∀ k, Does (.pdelayResponse t (some k) t1 t2 t3 t4) s (gptpJudge (got (upSend (gptpFrame (.pdelayResp k)) p))))) ∧
        (∀ o, Does (.announce t 0 true o) s (modGptp (fun g => { g with utc := some o }) p) ∧ Does (.announce t 0 false o) s p) ∧
        (∀ a, Does (.arpRequest t (tw p).uplink.vlan (tw p).uplink.ipv4 a) s (upSend { etherType := 0x0806, tag := some ((tw p).uplink.vlan, (tw p).uplink.pcp), body := .arp a } p)) ∧
        (∀ a i n d, reachable p a = true → d.length ≤ 1472 →
          Does (.icmpEcho t (tw p).uplink.vlan (tw p).uplink.ipv4 a i n d) s (upSend { etherType := 0x0800, tag := some ((tw p).uplink.vlan, (tw p).uplink.pcp), body := .icmp a i n d } p)) ∧
        (∀ pdu c, 12 ≤ pdu.length → pdu.length ≤ 1500 → byte pdu 0 = 0x82 → byte pdu 1 / 16 % 8 = 0 → (tw p).streams.find? (fun x => x.id == field pdu 4 8) = some c →
          let n := byte pdu 3
          let gap := match (getStream p c.stream).rxSeq with | some k => (k + 1) % 256 != n | none => false
          Does (.ntscfReceived t (tw p).uplink.vlan 0x22F0 pdu) s ((acfList 375 ((pdu.drop 12).take (field pdu 1 2 % 2048))).foldl (routeEth c.stream)
            (modStream c.stream (fun x => { x with rxSeq := some n, gaps := if gap then satInc 0xFFFF x.gaps else x.gaps }) p))) ∧
        (∀ v e pdu, (v ≠ (tw p).uplink.vlan ∨ e ≠ 0x22F0 ∨ byte pdu 0 ≠ 0x82) → Does (.ntscfReceived t v e pdu) s p)) ∧
      Does (.gptpInvalid t) s (modGptp (fun g => { g with valid := g.ratio.isSome && (match g.syncAt with | some k => decide (p.now ≤ k + 3 * g.interval) | none => false) }) p) ∧
      (∀ n, due (getStream p n).closeAt p = true → Does (.batchClose t n) s (closeBatch n p)) ∧
      (∀ n, due (getStream p n).closeAt p = false → Does (.batchClose t n) s p)) ∧
  (∀ (p : State) (n : Nat), n < p.bus.up.streams.length →
      let b := getStream p n
      let q := closeBatch n p
      (getStream q n).batch = [] ∧ (getStream q n).closeAt = none ∧
      (b.batch ≠ [] → p.bus.up.link = true → uplinkRuns p = true → q.bus.up.sent.getLast? = some (ntscfFrame p n b.seq b.batch.flatten) ∧ (getStream q n).seq = (b.seq + 1) % 256) ∧
      (b.batch ≠ [] → (p.bus.up.link = false ∨ uplinkRuns p = false) → (getStream q n).dropped = satAdd 0xFFFF b.dropped b.batch.length ∧ q.bus.up.sent = p.bus.up.sent) ∧
      (b.batch = [] → q.bus.up.sent = p.bus.up.sent) ∧ q.outs = p.outs ∧ q.core = p.core ∧ q.mill = p.mill)


/-- R17 to R22, R27, R60, R74, R83, R93, R154: sessions and claims that run out, the arbiter's step, the levels that mode policy follows, and its transitions. The wake code a source would have had is the model's reading (R409). What is the model's own reading or choice in it: logs 61, 97, 98. -/
def Obligations.SessionsClaimsAndModes : Prop :=
  ∀ (s : State) (t : Nat),
    let p := advance t s
    let evals := [Instr.modeEvaluation t, .approachLingerElapsed t, .approachTimeout t]
    (∀ tr id x, findSession p tr id = some x → x.id ≠ 0 →
      (x.idleAt ≤ p.now → Does (.sessionIdleTimeout t tr id) s (closeSession tr id p)) ∧
      (p.now < x.idleAt → Does (.sessionIdleTimeout t tr id) s p) ∧
      (x.proven = false → x.proveAt ≤ p.now → Does (.unprovenSessionTimeout t tr id) s (closeSession tr id p)) ∧
      ((x.proven = true ∨ p.now < x.proveAt) → Does (.unprovenSessionTimeout t tr id) s p)) ∧
    (∀ c, p.outs.claims = [c] → Does (.arbitrationStep t) s (decideObject c.object [c] { p with outs := { p.outs with claims := [] } })) ∧
    (p.outs.claims = [] → Does (.arbitrationStep t) s p) ∧
    (∀ o, (getOwn p o).owner ≠ .dflt → due (getOwn p o).leaseAt p = true → Does (.claimLeaseExpiry t o) s (releaseObject o p)) ∧
    (∀ o, ((getOwn p o).owner = .dflt ∨ due (getOwn p o).leaseAt p = false) → Does (.claimLeaseExpiry t o) s p) ∧
    (∀ k x, p.mode.hold = some (k, x) → k ≤ p.now → Does (.modeHoldExpiry t) s { p with mode := { p.mode with hold := none }, work := true }) ∧
    (∀ k x, p.mode.hold = some (k, x) → p.now < k → Does (.modeHoldExpiry t) s p) ∧
    (smisaRuns p = true →
      ((tw p).mode.ign.kind ≠ 0xFF → ∀ v, p.mode.ign ≠ v →
        let q := { p with mode := { p.mode with ign := v, ignValid := true, ignTimeoutAt := sourceTimeout p, ignOffAt := none, crankSpent := p.mode.crankSpent && v == .crank } }
        Does (.triggerLevelChange t (.ign (some v))) s (levelChanged (sourceCode (tw p).mode.ign) (if v = .off then wiperRest q else q))) ∧
      ((tw p).mode.ign.kind ≠ 0xFF → p.mode.ignOffAt = none → Does (.triggerLevelChange t (.ign none)) s
        (issue 0x28 0x01 0 { p with mode := { p.mode with ignValid := false, ignTimeoutAt := none, ignOffAt := some (p.now + 600000000) } })) ∧
      ((tw p).mode.lock.kind ≠ 0xFF → ∀ v, p.mode.lock ≠ v → Does (.triggerLevelChange t (.lock v)) s (levelChanged (sourceCode (tw p).mode.lock)
        { p with mode := { p.mode with lock := v, lockAt := if v = .locked then p.now else p.mode.lockAt } })) ∧
      (due p.mode.ignTimeoutAt p = true → p.mode.ignOffAt = none → Does (.ignitionTimeout t) s
        (issue 0x28 0x01 0 { p with mode := { p.mode with ignValid := false, ignTimeoutAt := none, ignOffAt := some (p.now + 600000000) } })) ∧
      (due p.mode.ignTimeoutAt p = false → Does (.ignitionTimeout t) s p) ∧
      (due p.mode.ignOffAt p = true → p.mode.ign ≠ .off → Does (.ignitionInvalidLimit t) s (levelChanged (sourceCode (tw p).mode.ign) (wiperRest { p with mode := { p.mode with ign := .off, crankSpent := false } }))) ∧
      (due p.mode.ignOffAt p = false → Does (.ignitionInvalidLimit t) s p)) ∧
    (∀ c ∈ evals, policyRuns p = true → c = .modeEvaluation t ∨ p.mode.mode = .approach →
      let after := fun (m : Mode) => Does c s (crankFollow (enterMode m 0 p))
      let acc := policyIgn p = .acc
      let off := policyIgn p = .off
      let linger := p.mode.lock = .locked ∧ p.mode.door = false ∧ lingerOver p = true
      let idle := (p.mode.lock = .unlocked ∨ p.mode.lock = .none) ∧ approachOver p = true
      (c = .approachLingerElapsed t → lingerOver p = true) → (c = .approachTimeout t → approachOver p = true) →
      (p.mode.mode ∈ [.parked, .approach, .accessory] → policyIgn p = .run → after .run) ∧
      (p.mode.mode ∈ [.parked, .approach] → acc → after .accessory) ∧
      (p.mode.mode = .parked → off → (p.mode.lock = .unlocked ∨ p.mode.door = true ∨ p.mode.approachWake = true) → after .approach) ∧
      (p.mode.mode = .parked → off → p.mode.lock ≠ .unlocked → p.mode.door = false → p.mode.approachWake = false → Does c s (crankFollow p)) ∧
      (p.mode.mode = .approach → off → (linger ∨ idle) → Does c s (crankFollow (parkEntry 1 0 p))) ∧
      (p.mode.mode = .approach → off → ¬ linger → ¬ idle → Does c s (crankFollow p)) ∧
      (p.mode.mode = .accessory → off → after .approach) ∧
      (p.mode.mode = .run → acc → after .accessory) ∧
      (p.mode.mode = .run → off → after .approach) ∧
      (p.mode.mode = .service → serviceOpen p = true → Does c s (crankFollow p)) ∧
      (p.mode.mode = .service → serviceOpen p = false → after (ignMode p))) ∧
    (policyRuns p = false → Does (.modeEvaluation t) s p) ∧
    (policyRuns p = true → p.mode.mode = .service → p.mode.serviceAt + 1800000000 ≤ p.now → Does (.serviceInactivity t) s (enterMode (ignMode p) 0 p)) ∧
    (p.now < p.mode.serviceAt + 1800000000 → Does (.serviceInactivity t) s p) ∧
    (p.mode.crank = true → due p.mode.crankEnd p = true → Does (.crankLimit t) s
      (issue 0x28 0x02 0 (applyDrives { p with mode := { p.mode with crank := false, crankEnd := none, crankSpent := true } }))) ∧
    ((p.mode.crank = false ∨ due p.mode.crankEnd p = false) → Does (.crankLimit t) s p) ∧
    (p.mode.mode = .transport → (getPin p 0).armed = true → p.env.wakeLevel.getD 0 false = true → due (getPin p 0).qualAt p = true → p.pwr.inReset = false → p.pwr.supplyOff = false →
      let q := modPin 0 (fun x => { x with qualAt := none }) p
      let still := p.pwr.shutdown = none ∨ heldTransport p = true
      (still → 5500 ≤ p.env.vbat → Does (.wake0Qualified t) s (callReset .transportExit q)) ∧
      (still → p.env.vbat < 5500 → Does (.wake0Qualified t) s { q with ao := { q.ao with wakeHeld := some 0x01 } }) ∧
      (¬ still → Does (.wake0Qualified t) s (wakeEvent 0x01 q))) ∧
    (p.mode.mode ≠ .transport → Does (.wake0Qualified t) s p)

/-- R26, R27, R74, R76: claims on a device channel at the end of a step. One claim takes an object from an owner of lower priority, with the lease from Twill and no lease for extension code; at equal or lower priority the object keeps its owner; every other object keeps its owner. Of two claims of other requesters, in either order, the higher priority takes the object, and at equal priority the first of service session, ETH, CAN, SPI and extension code. -/
def Obligations.ClaimsAreDecidedByPriority : Prop :=
  (∀ (p : State) (c : Claim), c.object < p.outs.chans.length → c.object < 56 → c.owner ≠ .dflt → c.req = none →
    let own := getOwn p c.object
    let q := decideObject c.object [c] p
    (own.owner ≠ c.owner → own.prio < c.prio →
      getOwn q c.object = { owner := c.owner, prio := c.prio, leaseAt := if c.owner = .ext then none else some (p.now + 10000 * (tw p).transports.lease10ms), sess := if c.owner = .ext then none else c.sess }) ∧
    (own.owner ≠ c.owner → c.prio ≤ own.prio → getOwn q c.object = own) ∧
    (own.owner = c.owner → (getOwn q c.object).owner = c.owner ∧ (getOwn q c.object).prio = c.prio ∧ (getOwn q c.object).leaseAt = own.leaseAt) ∧
    (∀ o, o < 56 → o ≠ c.object → getOwn q o = getOwn p o) ∧
    (getChan q c.object).req = (getChan p c.object).req ∧ q.nvm = p.nvm ∧ q.ao = p.ao ∧ q.pwr = p.pwr ∧ q.mbx = p.mbx) ∧
  (∀ (p : State) (o : Nat) (x y : Claim), o < p.outs.chans.length → o < 56 → x.req = none → y.req = none →
    let order := [Owner.service, .eth, .can, .spi, .ext]
    let own := getOwn p o
    x.owner ∈ order → y.owner ∈ order → x.owner ≠ own.owner → y.owner ≠ own.owner → x.owner ≠ y.owner → own.prio < x.prio →
    (y.prio < x.prio ∨ (y.prio = x.prio ∧ order.idxOf x.owner < order.idxOf y.owner)) →
    ∀ cs ∈ [[x, y], [y, x]], (getOwn (decideObject o cs p) o).owner = x.owner ∧ (getOwn (decideObject o cs p) o).prio = x.prio)

/-- R391 to R424, R431, R432, R435 to R438, R445: supply, shutdown, wake, clock and reset events; a reset that an event calls for runs before the command ends; of two called for before it runs, the first in the order POR, BOR, LPBO, PIN, WDT, CFR, CMD, DOM, ENCR stays and the other is absorbed (R439). What is the model's own reading or choice in it: logs 28, 76, 80, 98, 99, 138, 139. -/
def Obligations.PowerWakeAndResetEvents : Prop :=
  (∀ (s : State) (t : Nat),
      let p := advance t s
      let at_ := fun (mv : Nat) => setVbat mv p
      (∀ mv, mv < 5500 → p.mode.mode ≠ .transport → p.pwr.supplyOff = false → p.pwr.inReset = false → (p.boot.runs = 1 ∨ p.boot.runs = 2) →
        (p.pwr.shutdown = none → Does (.supplyTrigger t mv) s (beginShutdown 0 2 (at_ mv))) ∧
        (∀ d, p.pwr.shutdown = some d → d.target = 0 → Does (.supplyTrigger t mv) s (at_ mv)) ∧
        (∀ d, p.pwr.shutdown = some d → d.target ≠ 0 → d.step ≠ 1 → Does (.supplyTrigger t mv) s
          { at_ mv with pwr := { p.pwr with shutdown := some { d with target := 0, wake := none, abort := false, supplyBack := false } } })) ∧
      (∀ mv, 5500 ≤ mv → Does (.supplyTrigger t mv) s (at_ mv)) ∧
      (∀ mv d, p.pwr.shutdown = some d → d.target = 0 → 6000 ≤ mv →
        (d.step < 3 → Does (.supplyReturn t mv) s (abortShutdown (at_ mv))) ∧
        (3 ≤ d.step → Does (.supplyReturn t mv) s { at_ mv with pwr := { p.pwr with shutdown := some { d with supplyBack := true } } })) ∧
      (∀ mv, (p.pwr.shutdown = none ∨ mv < 6000) → Does (.supplyReturn t mv) s (at_ mv)) ∧
      (∀ mv, p.pwr.supplyOff = true → 6000 ≤ mv → p.pwr.inReset = false → Does (.supplyRestart t mv) s (callReset .shutdownSupply (at_ mv))) ∧
      (∀ mv, (p.pwr.supplyOff = false ∨ mv < 6000) → Does (.supplyRestart t mv) s (at_ mv)) ∧
      (∀ d, p.pwr.shutdown = some d →
        let next := fun (x : State) => { x with pwr := { x.pwr with shutdown := some { d with step := d.step + 1 } } }
        (d.step = 1 → (d.target = 0 ∨ (p.mill.parking = false ∧ p.outs.wiper.phase ≠ .parking)) → Does (.shutdownStepComplete t) s (next p)) ∧
        (d.step = 1 → d.target ≠ 0 → (p.mill.parking = true ∨ p.outs.wiper.phase = .parking) → Does (.shutdownStepComplete t) s p) ∧
        (d.step = 2 → Does (.shutdownStepComplete t) s (next (commitEnd (raisesShutdown
          (let q := if d.target = 0 then keysShutdown (flushLife true p) else flushLife true p; { q with nvm := { q.nvm with ops := [] } }))))) ∧
        (d.step = 3 → p.mode.mode = .transport → Does (.shutdownStepComplete t) s (next (bootWrite (fun b => { b with transport := true }) p))) ∧
        (d.step = 3 → p.mode.mode ≠ .transport → Does (.shutdownStepComplete t) s (next p)) ∧
        (d.step = 4 → Does (.shutdownStepComplete t) s (next (commitTamper p))) ∧
        (5 ≤ d.step → Does (.shutdownStepComplete t) s (finishShutdown d p))) ∧
      (p.pwr.shutdown = none → Does (.shutdownStepComplete t) s p) ∧
      (awakeOver p = true → let q := modeEval 0 p
        (awakeOver q = true → Does (.awakeTimerExpiry t) s (parkEntry 1 0 q) ∧ Does (.shutdownByModePolicy t 1) s (parkEntry 1 0 q)) ∧
        (awakeOver q = false → Does (.awakeTimerExpiry t) s q ∧ Does (.shutdownByModePolicy t 1) s q)) ∧
      (awakeOver p = false → Does (.awakeTimerExpiry t) s p) ∧
      (p.mode.mode = .approach → Does (.shutdownByModePolicy t 1) s (modeEval 0 p)) ∧
      (let tried := match p.pwr.shutdown with
          | some d => if d.target = 2 ∧ 5 ≤ d.step then transportEnd d p else p
          | none => if p.pwr.inReset || p.pwr.supplyOff then p else retryEntries p
        (tried.pwr.parkRefused = false → Does (.entryRetry t) s tried) ∧
        (tried.pwr.parkRefused = true → tried.mode.mode = .approach → Does (.entryRetry t) s (modeEval 0 tried)) ∧
        (tried.pwr.parkRefused = true → tried.mode.mode ≠ .approach → awakeOver tried = true → Does (.entryRetry t) s (parkEntry 1 0 tried))) ∧
      (∀ d, d ∉ [Domain.svc, .mema, .memb, .nvm, .enc] → domTarget p d = .on → p.pwr.inReset = false → p.pwr.supplyOff = false → p.ao.grave = none → (p.pwr.full = true ∨ p.pwr.lowPower = true) →
        ((cranking p = false ∨ (p.pwr.override.getD (domCode d) none).isSome = true) → Does (.domainOn t d) s (raiseDomain d .on p)) ∧
        (cranking p = true → p.pwr.override.getD (domCode d) none = none → Does (.domainOn t d) s p)) ∧
      (∀ d, (d ∈ [Domain.svc, .mema, .memb, .nvm] ∨ domTarget p d ≠ .on) → Does (.domainOn t d) s p) ∧
      (∀ src, p.mode.mode = .parked → armedSource p src = true → Does (.wake t src) s (wakeEvent src p)) ∧
      (∀ src, (p.mode.mode ≠ .parked ∨ armedSource p src = false) → Does (.wake t src) s p) ∧
      (∀ k, p.mode.mode = .parked → (tw p).power.wakeIntS ≠ 0 → p.pwr.asleepAt = some k → k + 1000000 * (tw p).power.wakeIntS ≤ p.now → Does (.wakeTimer t) s (wakeEvent 0x60 p)) ∧
      ((tw p).power.wakeIntS = 0 → Does (.wakeTimer t) s p) ∧
      (∀ mv src, p.ao.wakeHeld = some src → 6000 ≤ mv → p.pwr.shutdown = none → p.pwr.asleep = true → Does (.wakeHeldRelease t mv) s (wakeEvent src { at_ mv with ao := { p.ao with wakeHeld := none } })) ∧
      (∀ mv src, p.ao.wakeHeld = some src → 6000 ≤ mv → p.mode.mode = .transport → p.pwr.shutdown = none → p.pwr.asleep = false →
        Does (.wakeHeldRelease t mv) s (callReset .transportExit { at_ mv with ao := { p.ao with wakeHeld := none } })) ∧
      (∀ mv, (p.ao.wakeHeld = none ∨ mv < 6000) → Does (.wakeHeldRelease t mv) s (at_ mv)) ∧
      (∀ u v b c ok,
        ((10000 ≤ u ∨ 1000 ≤ v) → Does (.por t u v b c ok) s (startDevice .por false (deviceReset .por
          { p with env := { p.env with testPin := b, isModePin := c, comparator := ok, vbat := max 6000 p.env.vbat }, ao := if 1000 ≤ v then lostAo p else p.ao }))) ∧
        (u < 10000 → v < 1000 → Does (.por t u v b c ok) s p)) ∧
      (powered p = true → (∀ us, 0 < us → us < 10000 → Does (.bor t (.vbat us)) s (callReset .bor p)) ∧ Does (.regFault t) s (issue 0x0A 0x01 0 p)) ∧
      (powered p = false → (∀ us, Does (.bor t (.vbat us)) s p) ∧ Does (.regFault t) s p) ∧
      (∀ mv us, (p.pwr.full = true → 1 ≤ us → (mv < 2950 → Does (.bor t (.v33 mv us)) s (callReset .bor p)) ∧ (mv < 810 → Does (.bor t (.vcore mv us)) s (callReset .bor p))) ∧
        ((p.pwr.full = false ∨ us = 0 ∨ 2950 ≤ mv) → Does (.bor t (.v33 mv us)) s p) ∧ ((p.pwr.full = false ∨ us = 0 ∨ 810 ≤ mv) → Does (.bor t (.vcore mv us)) s p)) ∧
      (∀ ua us, (p.pwr.lowPower = true → 2000 ≤ ua → 20 ≤ us → let l := s.ao.life :: s.ao.lpbos.filter (fun k => decide (s.ao.life < k + 3600))
          Does (.lpbo t ua us) s (callReset .lpbo { p with ao := { p.ao with lpbos := l.take 8, lpBlocked := s.ao.lpBlocked || decide (3 ≤ l.length) } })) ∧
        ((p.pwr.lowPower = false ∨ ua < 2000 ∨ us < 20) → Does (.lpbo t ua us) s p)) ∧
      (∀ n csn h, p.pwr.inReset = false →
        (1000 ≤ n → Does (.pinReset t false n csn h) s (deviceReset .pin { p with env := { p.env with rstn := false } })) ∧
        (n < 100 → Does (.pinReset t false n csn h) s p)) ∧
      (∀ n csn h, p.pwr.inReset = true → let r := pinLevel p 0 && csn && decide (100 ≤ h)
        Does (.pinReset t true n csn h) s (startDevice p.boot.cause r { p with env := { p.env with rstn := true }, pwr := { p.pwr with inReset := false, wdtAt := p.now } })) ∧
      (isOn p .svc = true → (p.boot.runs = 1 ∨ p.boot.runs = 2) → ∀ gap, p.pwr.wdtAt + gap ≤ p.now → let period := 1000 * (tw p).power.wdtMs
        ((4 * gap < period ∨ period < gap) → Does (.wdt t gap) s (callReset .wdt p)) ∧
        (period ≤ 4 * gap → gap ≤ period → Does (.wdt t gap) s { p with pwr := { p.pwr with wdtAt := p.now } })) ∧
      (isOn p .svc = false → ∀ gap, Does (.wdt t gap) s p) ∧
      (∀ d, powered p = true → p.pwr.inReset = false → Does (.domReset t d) s (callReset (.dom d) p)) ∧
      (let q := { p with pwr := { p.pwr with xtalOk := false } };
        (∀ khz us, 10 ≤ us → (khz < 23500 ∨ 26500 < khz) → Does (.xtal25Fail t (.freq khz us)) s (if p.pwr.full && !p.pwr.fallback then enterFallback q else q)) ∧
        (∀ khz us, (us < 10 ∨ (23500 ≤ khz ∧ khz ≤ 26500)) → Does (.xtal25Fail t (.freq khz us)) s p) ∧
        (∀ ns, 1000 ≤ ns → Does (.xtal25Fail t (.noEdge ns)) s (if p.pwr.full && !p.pwr.fallback then enterFallback q else q)) ∧
        (∀ ns, ns < 1000 → Does (.xtal25Fail t (.noEdge ns)) s p)) ∧
      (∀ us, 250 ≤ us → p.ao.onAorc = false →
        (isOn p .svc = true → Does (.aokFail t us) s (issueAt 0x09 0x02 0x01 0 { p with ao := { p.ao with onAorc := true, aokFailHeld := false } })) ∧
        (isOn p .svc = false → Does (.aokFail t us) s { p with ao := { p.ao with onAorc := true, aokFailHeld := true } })) ∧
      (∀ us, (us < 250 ∨ p.ao.onAorc = true) → Does (.aokFail t us) s p) ∧
      Does (.aokRetry t true) s { p with ao := { p.ao with onAorc := false } } ∧ Does (.aokRetry t false) s p ∧
      (isOn p .svc = true → Does (.aorcCalibration t) s { p with ao := { p.ao with aorcCal := true } }) ∧
      (isOn p .svc = false → Does (.aorcCalibration t) s p)) ∧
  (∀ (c : Cause) (p : State),
      (∀ d, [Cause.por, .bor, .lpbo, .pin, .wdt, .cfr, .cmd, .dom d, .encr].Pairwise (fun a b => resetRank a < resetRank b)) ∧
      (p.resetDue = none → callReset c p = { p with resetDue := some c }) ∧
      (∀ x, p.resetDue = some x → resetRank c < resetRank x → callReset c p = { p with resetDue := some c }) ∧
      (∀ x, p.resetDue = some x → resetRank x ≤ resetRank c → callReset c p = p))


/-- R95, R97, R102, R452, R481, R487, R510, R513, R545, R546, R549, R552: timed work of extension code, of the diagnostic session, of configuration staging, of the data NVM and of the banks: when due it is done, and otherwise only time moves. A thread's priority and the place of its save area are free. R487, R488, R81: each second the life clock rises by one up to its end; a set RTC counts on, with a second more or less as the trim gathers a whole one; nothing else changes. What is the model's own reading or choice in it: logs 32, 64, 79. -/
def Obligations.TimersAndClocks : Prop :=
  (∀ (s : State) (t : Nat),
      let p := advance t s
      (∀ id m, p.ext.msgs.find? (fun m => m.id == id) = some m →
        (m.dueAt ≤ p.now → Does (.extMsgTimeout t id) s (complete m.t m.sess m.seq stTimeout [] { p with ext := { p.ext with msgs := p.ext.msgs.filter (fun x => x.id != id) } })) ∧
        (p.now < m.dueAt → Does (.extMsgTimeout t id) s p)) ∧
      (p.nvm.diag.extended = true → p.nvm.diag.s3At ≤ p.now → Does (.diagS3Timeout t) s { p with nvm := { p.nvm with diag := { p.nvm.diag with extended := false } } }) ∧
      ((p.nvm.diag.extended = false ∨ p.now < p.nvm.diag.s3At) → Does (.diagS3Timeout t) s p) ∧
      (∀ g, p.nvm.staging = some g → (g.idleAt ≤ p.now → Does (.cfgStagingIdle t) s { p with nvm := { p.nvm with staging := none } }) ∧ (p.now < g.idleAt → Does (.cfgStagingIdle t) s p)) ∧
      (smisaRuns p = true → p.ext.st = .stopped → p.mode.mode ≠ .transport →
        (p.ext.startAt.isSome = true → Does (.extensionStart t) s (extStart false p)) ∧
        (due p.ext.restartAt p = true → Does (.extensionRestart t) s (extStart true { p with ext := { p.ext with restarts := p.ext.restarts + 1 } })) ∧
        (due p.ext.restartAt p = false → Does (.extensionRestart t) s p)) ∧
      (p.ext.st ≠ .stopped → Does (.extensionStart t) s p ∧ Does (.extensionRestart t) s p) ∧
      (smisaRuns p = true → p.ext.st = .running → p.core.r.psr.u = true → p.ext.frozen = false →
        (∀ n, pickThread p p.ext.cur = some n → (getThread p n).prio = (getThread p p.ext.cur).prio → Does (.timeSlice t) s (switchTo n p)) ∧
        (pickThread p p.ext.cur = none → Does (.timeSlice t) s p)) ∧
      (p.ext.st ≠ .running → Does (.timeSlice t) s p) ∧
      Does (.sharePeriod t) s { p with ext := { p.ext with share := 1000000 } } ∧
      (∀ n, p.ext.st = .running → p.ext.frozen = false → (getThread p n).live = true → due (getThread p n).dueAt p = true →
        ((getThread p n).wait = some .sleep → Does (.syscallTimeout t n) s (threadReturn n stOk [] p)) ∧
        (∀ w, (getThread p n).wait = some w → w ≠ .sleep → Does (.syscallTimeout t n) s (threadReturn n stTimeout [] p))) ∧
      (∀ n, due (getThread p n).dueAt p = false → Does (.syscallTimeout t n) s p) ∧
      (smisaRuns p = true → p.nvm.lastFlush + 600 ≤ p.ao.life → Does (.journalFlush t) s (flushLife false p)) ∧
      ((smisaRuns p = false ∨ p.ao.life < p.nvm.lastFlush + 600) → Does (.journalFlush t) s p) ∧
      (isOn p .nvm = true → let late := fun (x : APage) => match x.eraseAt with | some k => if k ≤ p.now then { x with eraseAt := none } else x | none => x
        Does (.formerPageErase t) s { p with nvm := { p.nvm with didPages := p.nvm.didPages.map late, atomic := p.nvm.atomic.map (fun l => l.map late) } }) ∧
      (isOn p .nvm = false → Does (.formerPageErase t) s p) ∧
      (smisaRuns (clockSecond p) = false → Does (.lifeClockSecond t) s (clockSecond p)) ∧
      (smisaRuns (clockSecond p) = true → Does (.lifeClockSecond t) s (countSecond (clockSecond p))) ∧
      (smisaRuns p = true → 1200 ≤ p.boot.runSecs → p.enc.segregated = false → p.boot.autoDone = false → p.boot.floorRetryAt = none → Does (.autoConfirm t) s (autoConfirm p)) ∧
      ((p.boot.runSecs < 1200 ∨ p.enc.segregated = true ∨ p.boot.autoDone = true) → Does (.autoConfirm t) s p) ∧
      (smisaRuns p = true → due p.boot.floorRetryAt p = true → Does (.floorRaiseRetry t) s (autoConfirm p)) ∧
      (due p.boot.floorRetryAt p = false → Does (.floorRaiseRetry t) s p) ∧
      (smisaRuns p = true → let n := otherBank p
        Does (.inactiveBankCheck t) s (setBank n { bankOf p n with checked := true, verifies := bankVerifies p (bankOf p n) } p)) ∧
      (smisaRuns p = false → Does (.inactiveBankCheck t) s p)) ∧
  (∀ (p : State),
      let q := clockSecond p
      let acc := p.ao.trimAcc + p.ao.trim
      q.ao.life = min 0xFFFFFFFF (p.ao.life + 1) ∧
      (p.ao.rtcSet = false → q.ao.rtc = p.ao.rtc) ∧
      (p.ao.rtcSet = true → -10000000 < acc → acc < 10000000 → q.ao.rtc = (p.ao.rtc + 1) % 4294967296 ∧ q.ao.trimAcc = acc) ∧
      (p.ao.rtcSet = true → 10000000 ≤ acc → q.ao.rtc = (p.ao.rtc + 2) % 4294967296 ∧ q.ao.trimAcc = acc - 10000000) ∧
      (p.ao.rtcSet = true → acc ≤ -10000000 → q.ao.rtc = p.ao.rtc ∧ q.ao.trimAcc = acc + 10000000) ∧
      { q with ao := p.ao } = p)

/-- R507, R509, R510, R512, R312: a floor takes the SEC_VER of the active bank's image of its kind when that is higher, and is never lowered; a confirmation of the active bank is recorded once. -/
def Obligations.FloorsNeverFall : Prop :=
  ∀ (k : Nat) (p : State), k ≤ 2 → p.enc.counters.length = 8 →
    (∀ h, regionHeader k (regionOf (activeBank p) k) = some h → floorOf (raiseFloor k p) k = max (floorOf p k) h.secVer) ∧
    (regionHeader k (regionOf (activeBank p) k) = none → raiseFloor k p = p) ∧
    (∀ j, j ≠ k → floorOf (raiseFloor k p) j = floorOf p j) ∧
    (∀ j, floorOf p j ≤ floorOf (autoConfirm p) j) ∧
    (confirmed p.boot.sel p.boot.sel.active = true → confirmActive p = p) ∧
    (p.boot.sel.active ≤ 1 → confirmed (confirmActive p).boot.sel p.boot.sel.active = true ∧ (confirmActive p).boot.sel.active = p.boot.sel.active)

/-- R145 to R168: switch polls and confirm bursts, stuck inputs, wake pins, analog samples, the key matrix and the any-key sense, each in the modes in which it runs. R159 to R168: one scan of a diode matrix with no fault: a key that differs from its state for the debounce count of scans takes the new state and its count starts anew; a key that agrees drops its count; a frozen key keeps its state. What is the model's own reading or choice in it: logs 67, 91, 125. -/
def Obligations.SwitchPinAndKeyEvents : Prop :=
  (∀ (s : State) (t : Nat),
      let p := advance t s
      (∀ n mv,
        let e := { p with env := { p.env with swMv := setAt n mv p.env.swMv } }
        let q := { e with scan := { p.scan with suspended := false } }
        let x := pollSample n mv q
        let w := getSw x.1 n
        let pass := fun (y : State) => if n = 23 then inChange y else y
        let parked := p.mode.mode = .parked
        (polls p = true →
          (x.2 = w.closed → ¬ parked → Does (.switchPoll t n mv) s (pass (modSw n (fun w => { w with count := 0 }) x.1))) ∧
          (x.2 ≠ w.closed → w.count + 1 < (tw p).inputs.debounce → ¬ parked → Does (.switchPoll t n mv) s (pass (modSw n (fun w => { w with count := w.count + 1 }) x.1))) ∧
          (x.2 ≠ w.closed → (tw p).inputs.debounce ≤ w.count + 1 → ¬ parked → Does (.switchPoll t n mv) s (pass (swChange n x.2 x.1))) ∧
          (x.2 = w.closed → parked → Does (.switchPoll t n mv) s (pass (modSw n (fun w => { w with count := 0, burst := false }) x.1))) ∧
          (x.2 ≠ w.closed → w.count + 1 < (tw p).inputs.debounce → parked → Does (.switchPoll t n mv) s (pass (modSw n (fun w => { w with count := w.count + 1, burst := true }) x.1))) ∧
          (x.2 ≠ w.closed → (tw p).inputs.debounce ≤ w.count + 1 → parked → Does (.switchPoll t n mv) s (pass (swConfirmed n x.2 x.1)))) ∧
        (polls p = false → p.env.vbat < 4500 → Does (.switchPoll t n mv) s (suspendPolls e)) ∧
        (polls p = false → 4500 ≤ p.env.vbat → Does (.switchPoll t n mv) s e) ∧
        (let y := pollSample n mv e;
          polls p = true → parked → (getSw p n).burst = true → Does (.confirmBurstPoll t n mv) s (inChange (pollParked n y.2 y.1))) ∧
        ((polls p = false ∨ ¬ parked ∨ (getSw p n).burst = false) →
          (4500 ≤ p.env.vbat → Does (.confirmBurstPoll t n mv) s p) ∧ (p.env.vbat < 4500 → Does (.confirmBurstPoll t n mv) s (suspendPolls p)))) ∧
      (∀ n, let w := getSw p n
        let us := stuckAdd w p.now (w.closed && w.reading)
        let stuckNow := (swCfg p n).stuckS ≠ 0 ∧ polls p = true ∧ w.stuckRaised = false ∧ 1000000 * (swCfg p n).stuckS < us
        (stuckNow → Does (.switchStuckTime t n) s (issue 0x18 0x01 0 (modSw n (fun w => { w with stuckRaised := true }) p))) ∧
        (¬ stuckNow → Does (.switchStuckTime t n) s p)) ∧
      (∀ pin high, Does (.wakePinEdge t pin high) s (modPin pin
        (fun x => { x with dueAt := some (p.now + 1000 * (tw p).inputs.pinFiltMs), qualAt := if p.mode.mode = .transport ∧ pin = 0 then some (p.now + (if high then 50000 else 1000)) else none })
        { p with env := { p.env with wakeLevel := setAt pin high p.env.wakeLevel } })) ∧
      (∀ pin, due (getPin p pin).dueAt p = false → (pin ≠ 0 ∨ p.mode.mode ≠ .transport) → Does (.wakePinFiltered t pin) s p) ∧
      (due (getPin p 0).dueAt p = false → p.mode.mode = .transport →
        (p.env.wakeLevel.getD 0 false = false → due (getPin p 0).qualAt p = true → due (getPin (modPin 0 (fun x => { x with armed := true, qualAt := none }) p) 0).dueAt p = false →
          Does (.wakePinFiltered t 0) s (modPin 0 (fun x => { x with armed := true, qualAt := none }) p)) ∧
        ((p.env.wakeLevel.getD 0 false = true ∨ due (getPin p 0).qualAt p = false) → Does (.wakePinFiltered t 0) s p)) ∧
      (∀ pin, due (getPin p pin).dueAt p = true → p.mode.mode ≠ .transport →
        let x := getPin p pin
        let a := pinLevel p pin
        let q := modPin pin (fun x => { x with active := a, dueAt := none, armed := x.armed || !a }) p
        (a = x.active → Does (.wakePinFiltered t pin) s (inChange q)) ∧
        (a ≠ x.active →
          let c := inChange (noteChange (24 + pin) q)
          ((a = false ∨ x.armed = false ∨ tbit (tw p).inputs.pinEn pin = false) → Does (.wakePinFiltered t pin) s c) ∧
          (a = true → x.armed = true → tbit (tw p).inputs.pinEn pin = true → Does (.wakePinFiltered t pin) s (wakeEvent (pin + 1) c)))) ∧
      (∀ pin, due (getPin p pin).dueAt p = true → p.mode.mode = .transport → pin ≠ 0 →
        let a := pinLevel p pin
        let q := modPin pin (fun x => { x with active := a, dueAt := none }) p
        Does (.wakePinFiltered t pin) s (inChange (if a ≠ (getPin p pin).active then noteChange (24 + pin) q else q))) ∧
      (∀ l, isOn p .ana = true → Does (.analogSample t l) s (anSamples 0 (l.take 8) p)) ∧
      (∀ l, isOn p .ana = false → Does (.analogSample t l) s p) ∧
      (∀ rows idle, matrixScans p = true → Does (.keyScan t rows idle) s (scanMatrix rows idle p)) ∧
      (∀ rows idle, matrixScans p = false → Does (.keyScan t rows idle) s p) ∧
      (∀ n, let k := getKey p n
        let us := k.heldUs + (match p.scan.keyAt with | some x => p.now - x | none => 0)
        let stuckNow := (tw p).keys.stuckS ≠ 0 ∧ matrixScans p = true ∧ k.pressed = true ∧ k.stuck = false ∧ 1000000 * (tw p).keys.stuckS < us
        (stuckNow → Does (.keyStuckTime t n) s (issue 0x19 0x02 0 { p with scan := { p.scan with keys := modAt (fun k => { k with stuck := true }) n p.scan.keys } })) ∧
        (¬ stuckNow → Does (.keyStuckTime t n) s p)) ∧
      (∀ rows, (tw p).keys.scanned = true → p.mode.mode = .parked → domSt p .scan ≠ .off →
        let q := { p with scan := { p.scan with keys := mapIdx (fun n k => { k with stuck := k.stuck && tbit rows (n / 8) }) 0 p.scan.keys } }
        let low := (List.range 8).map (fun r => tbit rows r && !rowStuck q r)
        let twice := (List.range 8).any (fun r => low.getD r false && p.scan.senseLow.getD r false)
        (twice = false → Does (.anyKeySense t rows) s { q with scan := { q.scan with senseLow := low } }) ∧
        (twice = true → Does (.anyKeySense t rows) s (wakeEvent 0x30 { q with scan := { q.scan with senseLow := low } }))) ∧
      (∀ rows, ((tw p).keys.scanned = false ∨ p.mode.mode ≠ .parked ∨ domSt p .scan = .off) → Does (.anyKeySense t rows) s p)) ∧
  (∀ (deb dt : Nat) (raw was : Bool) (k : KeySt),
      (scanKey was true raw deb dt k).pressed = k.pressed ∧
      (scanKey true false raw deb dt k).pressed = raw ∧
      (raw = k.pressed → (scanKey false false raw deb dt k).pressed = k.pressed ∧ (scanKey false false raw deb dt k).count = 0) ∧
      (raw ≠ k.pressed → k.count + 1 < deb → (scanKey false false raw deb dt k).pressed = k.pressed ∧ (scanKey false false raw deb dt k).count = k.count + 1) ∧
      (raw ≠ k.pressed → deb ≤ k.count + 1 → (scanKey false false raw deb dt k).pressed = raw ∧ (scanKey false false raw deb dt k).count = 0) ∧
      (scanKey was false raw deb dt k).raw = raw)

/-- R171 to R184, R188 to R204: rain, light and mount measurements while ANA is ON, their timers, and the haptic sequencer's effects and limits. By how much a working reference falls, and lux of a sample, are free. What is the model's own reading or choice in it: logs 60, 95, 127, 128. -/
def Obligations.RainLightAndHapticEvents : Prop :=
  ∀ (s : State) (t : Nat),
    let p := advance t s
    let ana := isOn p .ana = true
    (∀ a ok b ok', ana → Does (.rainMeasurement t a ok b ok') s (rainBurst (if ok then some (min 65535 a) else none) (if ok' then some (min 65535 b) else none) p)) ∧
    (∀ a ok b ok', ana → Does (.alsSample t a ok b ok') s (alsTake a ok b ok' p)) ∧
    (∀ v, ana → p.rls.mountRef = none → Does (.mountMeasurement t v) s { p with rls := { p.rls with msns := some v } }) ∧
    (∀ v ref, ana → p.rls.mountRef = some ref →
      let low := if v * 100 < ref * 60 then p.rls.low + 1 else 0
      let high := if ref * 80 < v * 100 then p.rls.high + 1 else 0
      let q := { p with rls := { p.rls with msns := some v, low := min 3 low, high := min 3 high } }
      (p.rls.removed = false → low < 3 → Does (.mountMeasurement t v) s q) ∧
      (p.rls.removed = false → 3 ≤ low → Does (.mountMeasurement t v) s (mountChange true q)) ∧
      (p.rls.removed = true → high < 3 → Does (.mountMeasurement t v) s q) ∧
      (p.rls.removed = true → 3 ≤ high → Does (.mountMeasurement t v) s (mountChange false q))) ∧
    (isOn p .ana = false → (∀ a ok b ok', Does (.rainMeasurement t a ok b ok') s p ∧ Does (.alsSample t a ok b ok') s p) ∧ (∀ v, Does (.mountMeasurement t v) s p ∧ Does (.i2tUpdate t v) s p)) ∧
    (∀ k c, p.rls.fallAt = some k → screenCfg p = some c → k + 2000000 ≤ p.now → p.rls.intensity ≠ 0 → p.rls.failed = false →
      ∃ f, Does (.intensityFall t) s (setIntensity (p.rls.intensity - 1) { p with rls := { p.rls with fallAt := f } })) ∧
    (p.rls.fallAt = none → Does (.intensityFall t) s p) ∧
    (∀ k, p.rls.failAt = some k → k + 10000000 ≤ p.now → p.rls.failed = false → let q := issue 0x1A 0x01 0 { p with rls := { p.rls with failed := true, fallAt := none } }
      (q.rls.removed = false → Does (.rainSensingFailed t) s (setIntensity ((screenCfg q).getD {}).fallback q)) ∧
      (q.rls.removed = true → Does (.rainSensingFailed t) s q)) ∧
    (p.rls.failAt = none → Does (.rainSensingFailed t) s p) ∧
    Does (.lightStateDelayExpiry t) s (lightEval p) ∧
    (∀ k, p.rls.alsBad0 = some k → k + 1000000 ≤ p.now → Does (.alsFailed t 0) s (lightEval { p with rls := { p.rls with alsFail0 := true } })) ∧
    (∀ k, p.rls.alsBad1 = some k → k + 1000000 ≤ p.now → Does (.alsFailed t 1) s (lightEval { p with rls := { p.rls with alsFail1 := true } })) ∧
    (p.rls.alsBad0 = none → Does (.alsFailed t 0) s p) ∧ (p.rls.alsBad1 = none → Does (.alsFailed t 1) s p) ∧
    (∀ k, p.rls.rlUp = some k → k + 10000000 ≤ p.now → p.rls.rainLight = false → Does (.rainLight t) s (refreshLamps { p with rls := { p.rls with rainLight := true } })) ∧
    (∀ k, p.rls.rlUp = none → p.rls.rlDown = some k → k + 1000000 * ((tw p).light.getD {}).lightS ≤ p.now → p.rls.rainLight = true →
      Does (.rainLight t) s (refreshLamps { p with rls := { p.rls with rainLight := false } })) ∧
    (p.rls.rlUp = none → p.rls.rlDown = none → Does (.rainLight t) s p) ∧
    (∀ c up, (tw p).haptic = some c →
      let on := c.htrig = 3 ∨ (c.htrig = 1 ∧ up = true) ∨ (c.htrig = 2 ∧ up = false)
      (on → p.hap.armed ≠ 0xFF → Does (.htrigEdge t up) s (hapTrigger 0 p.hap.armed c.htrigAmp p)) ∧
      (on → p.hap.armed = 0xFF → ana → p.ao.grave = none → Does (.htrigEdge t up) s (hapIgnored p)) ∧
      (¬ on → Does (.htrigEdge t up) s p)) ∧
    (∀ c x v, (tw p).haptic = some c → p.hap.playing = some x →
      let e := x.t0 + driveUs x.effect c.fRes
      (x.phase = .drive → e ≤ p.now →
        Does (.effectEnd t v) s (hapTick { p with hap := { p.hap with bridge := false, playing := some { x with phase := .bemf, windowAt := e + 1000, bemf := v } } })) ∧
      ((p.now < e ∨ x.phase ≠ .drive) → Does (.effectEnd t v) s p)) ∧
    (∀ c x, (tw p).haptic = some c → p.hap.playing = some x → 5000 ≤ p.env.vbat → p.hap.testing = none →
      (x.phase = .bemf → x.windowAt ≤ p.now → hapTick p = hapBrake c x.windowAt (bemfCheck c x p)) ∧
      ((x.phase ≠ .bemf ∨ p.now < x.windowAt) → hapTick p = p)) ∧
    (p.hap.playing.isSome = true → p.env.vbat < 5000 → (tw p).haptic.isSome = true → p.hap.testing = none → hapTick p = hapEnd p) ∧
    (let q := hapTick p;
      (∀ x, q.hap.playing = some x →
        (x.phase = .brake → x.brakeAt ≤ q.now → Does (.effectBrakeEnd t) s (hapEnd q)) ∧
        ((x.phase ≠ .brake ∨ q.now < x.brakeAt) → Does (.effectBrakeEnd t) s q)) ∧
      (q.hap.playing = none → Does (.effectBrakeEnd t) s q)) ∧
    (∀ x, p.hap.playing = some x →
      (x.t0 + 60000 ≤ p.now → Does (.effectTimeLimit t) s { p with hap := { p.hap with playing := none, bridge := false } }) ∧
      (p.now < x.t0 + 60000 → Does (.effectTimeLimit t) s p)) ∧
    (p.hap.playing = none → Does (.effectTimeLimit t) s p ∧ ∀ v, Does (.effectEnd t v) s p) ∧
    (∀ c ma, ana → (tw p).haptic = some c →
      let q := p.hap.q * (c.tau * 1000 - 1) / (c.tau * 1000) + ma * ma * 65536 / 1000000
      let h := hapTick p
      (q < c.qMax * 65536 → h.hap.blocked = false → Does (.i2tUpdate t ma) s { h with hap := { h.hap with q := q } }) ∧
      (c.qMax * 65536 ≤ q → h.hap.playing = none → Does (.i2tUpdate t ma) s { h with hap := { h.hap with q := q, blocked := true } }) ∧
      (∀ x, c.qMax * 65536 ≤ q → h.hap.playing = some x → x.phase = .drive →
        Does (.i2tUpdate t ma) s (i2tNotice (hapBrake c h.now { h with hap := { h.hap with q := q, blocked := true } }))) ∧
      (q * 10 < c.qMax * 65536 * 8 → h.hap.blocked = true → Does (.i2tUpdate t ma) s { h with hap := { h.hap with q := q, blocked := false, noticed := false } })) ∧
    (let h := hapTick p;
      let free := ∀ k, h.hap.testAt = some k → k + 1000000 ≤ h.now;
      (∀ mv ua, (tw h).haptic.isSome = true → isOn h .ana = true → h.hap.playing = none → h.hap.testing = none → h.ao.grave = none → free →
        Does (.resistanceCheck t mv ua) s { h with hap := { h.hap with bridge := true, testing := some (h.now + 500, if ua = 0 then 0xFFFF else min 0xFFFF (mv * 100000 / ua)), testAt := some h.now } }) ∧
      (∀ mv ua, ((tw h).haptic = none ∨ h.hap.playing.isSome = true ∨ ¬ free) → Does (.resistanceCheck t mv ua) s h)) ∧
    (∀ c e r, (tw p).haptic = some c → p.hap.playing = none → p.hap.testing = some (e, r) → e ≤ p.now →
      hapTick p = coilResult r { p with hap := { p.hap with testing := none, bridge := false } }) ∧
    (∀ mv, mv < 5000 → p.hap.playing.isSome = true → Does (.hapticUndervoltage t mv) s (hapEnd (setVbat mv p))) ∧
    (∀ mv, (5000 ≤ mv ∨ p.hap.playing = none) → Does (.hapticUndervoltage t mv) s (setVbat mv p))

/-- R103 to R111, R479: trips of a driving channel, the restart interval, cooling, the restart count's restore and the end of an inrush window. A trip switches the channel off, starts the restart interval or latches off, reports OUT.FAULT and is counted; a learn that it breaks is answered before the events (R62). What is the model's own reading or choice in it: logs 45, 119. -/
def Obligations.TripsAndRestarts : Prop :=
  ∀ (s : State) (t o : Nat),
    let p := advance t s
    let trips := fun (hot : Bool) (q : State) =>
      outFault o (applyDrives (bump 0x03 o 1 (modChan o (fun c =>
        { c with oc := c.oc || !hot, thermal := c.thermal || hot, hot := c.hot || hot, cleanAt := none, latched := c.latched || c.restarts == 0,
                 retryAt := if c.restarts == 0 then none else some (q.now + (chanCfg q o).retryMs * 1000) }) q)))
    let again := fun (q : State) => applyDrives (modChan o (fun c => { c with hot := false, retryAt := none, restarts := c.restarts - 1 }) q)
    let measured := fun (temp : Int) => modChan o (fun c => { c with temp := temp }) p
    (∀ us, drives p o = true → o < 28 → (getChan p o).inrushAt = none → (chanCfg p o).holdUs ≤ us → Does (.limitHoldExpiry t o us) s (trips false p)) ∧
    (∀ us, (drives p o = false ∨ 28 ≤ o ∨ (getChan p o).inrushAt.isSome = true ∨ us < (chanCfg p o).holdUs) → Does (.limitHoldExpiry t o us) s p) ∧
    (drives p o = true → 28 ≤ o → Does (.overcurrentTrip t o) s (eventsAfter (fun x => breakLearns (motorTrip o (trips false x))) p)) ∧
    ((drives p o = false ∨ o < 28) → Does (.overcurrentTrip t o) s p) ∧
    (drives p o = true → groupOf o = .gd → Does (.bootstrapUndervoltage t o) s (eventsAfter (fun x => breakLearns (trips false x)) p)) ∧
    ((drives p o = false ∨ groupOf o ≠ .gd) → Does (.bootstrapUndervoltage t o) s p) ∧
    (∀ temp, let q := measured temp
      (drives q o = true → 175 ≤ temp → Does (.thermalShutdown t o temp) s (eventsAfter (fun x => breakLearns (trips true x)) q)) ∧
      ((drives q o = false ∨ temp < 175) → Does (.thermalShutdown t o temp) s q) ∧
      (isChannel o = true → due (getChan q o).retryAt q = true → (getChan q o).hot = true → 155 ≤ temp → Does (.restartIntervalExpiry t o temp) s q) ∧
      (isChannel o = true → due (getChan q o).retryAt q = true → ((getChan q o).hot = false ∨ temp < 155) →
        Does (.restartIntervalExpiry t o temp) s (restart o (modChan o (fun c => { c with hot := false }) q))) ∧
      ((isChannel o = false ∨ due (getChan q o).retryAt q = false) → Does (.restartIntervalExpiry t o temp) s q) ∧
      (isChannel o = true → (getChan q o).hot = true → temp < 155 →
        let c := modChan o (fun c => { c with hot := false }) q
        (due (getChan c o).retryAt c = true → Does (.sensorCooled t o temp) s (restart o c)) ∧
        (due (getChan c o).retryAt c = false → Does (.sensorCooled t o temp) s (applyDrives c))) ∧
      ((isChannel o = false ∨ (getChan q o).hot = false ∨ 155 ≤ temp) → Does (.sensorCooled t o temp) s q)) ∧
    restart o (modChan o (fun c => { c with hot := false }) p) = again p ∧
    (∀ k, (getChan p o).cleanAt = some k → k + 5000000 ≤ p.now → Does (.restartCountRestore t o) s (modChan o (fun c => { c with restarts := (chanCfg p o).restart }) p)) ∧
    (∀ k, (getChan p o).cleanAt = some k → p.now < k + 5000000 → Does (.restartCountRestore t o) s p) ∧
    ((getChan p o).cleanAt = none → Does (.restartCountRestore t o) s p) ∧
    (due (getChan p o).inrushAt p = true → Does (.inrushWindowEnd t o) s (applyDrives (modChan o (fun c => { c with inrushAt := none }) p))) ∧
    (due (getChan p o).inrushAt p = false → Does (.inrushWindowEnd t o) s p)

/-- R11, R112 to R128, R137, R351, R392, R433: PWM periods, sense slots, the diagnostic checks, the supply thresholds, the thermal governor, the link to a power die, and the faults a power die reports. What is the model's own reading or choice in it: logs 66, 117, 118, 120, 122, 123. -/
def Obligations.PowerDieEvents : Prop :=
  ∀ (s : State) (t : Nat),
    let p := advance t s
    let low := fun (mv : Nat) => decide (mv < 6000)
    (∀ o mv k, o < 56 → isOn p (dieDom (dieOf o)) = true →
      let q := applyOne o (stepMotion o k (stepFade o (modDie (dieOf o) (sampleSupply p.now mv) p)))
      Does (.pwmPeriodStart t o mv k) s { q with outs := { q.outs with chans := stagger q q.outs.chans } }) ∧
    (∀ o mv k, (56 ≤ o ∨ isOn p (dieDom (dieOf o)) = false) → Does (.pwmPeriodStart t o mv k) s p) ∧
    (∀ sel x,
      let q := { p with env := { p.env with isel := sel % 32 } }
      (p.outs.isMode = true → isOn p .outA = true → Does (.senseSlot t sel x) s (isnsSample (sel % 32) x q)) ∧
      (p.outs.isMode = false → isOn p .outA = true → Does (.senseSlot t sel x) s (isnsSample (isnsNext p) x p)) ∧
      (p.outs.isMode = true → isOn p .outA = false → Does (.senseSlot t sel x) s { q with outs := { p.outs with isel := 0 } }) ∧
      (p.outs.isMode = false → isOn p .outA = false → Does (.senseSlot t sel x) s { p with outs := { p.outs with isel := 0 } })) ∧
    (∀ o mv pulled, o < 56 → isOn p (dieDom (dieOf o)) = true → (getChan p o).drive.mode = 0 → (chanCfg p o).diag = true →
      (groupOf o = .gd → Does (.offStateCheck t o mv pulled) s p) ∧
      (groupOf o = .ls → Does (.offStateCheck t o mv pulled) s (reportFlags o (getChan p o) (openCheck o (decide (pulled < 2000)) p))) ∧
      (groupOf o ≠ .gd → groupOf o ≠ .ls → 3000 < mv → Does (.offStateCheck t o mv pulled) s (reportFlags o (getChan p o) (shortCheck o true p))) ∧
      (groupOf o ≠ .gd → groupOf o ≠ .ls → mv ≤ 3000 →
        Does (.offStateCheck t o mv pulled) s (reportFlags o (getChan p o) (openCheck o (decide (2000 < pulled)) (shortCheck o false p))))) ∧
    (∀ o mv pulled, (56 ≤ o ∨ isOn p (dieDom (dieOf o)) = false ∨ (getChan p o).drive.mode ≠ 0 ∨ (chanCfg p o).diag = false) → Does (.offStateCheck t o mv pulled) s p) ∧
    (∀ o ma, o < 28 → drives p o = true → (getChan p o).drive.mode ≠ 3 →
      let i := min ma (limitMa p o)
      let q := modChan o (fun c => { c with current := i }) p
      ((chanCfg p o).onstate = 0 → Does (.onStateOpenLoad t o ma) s q) ∧
      ((chanCfg p o).onstate ≠ 0 → Does (.onStateOpenLoad t o ma) s (reportFlags o (getChan p o) (modChan o (fun c => { c with openLoad := decide (i < (chanCfg p o).onstate) }) q)))) ∧
    (∀ o ma, (28 ≤ o ∨ drives p o = false ∨ (getChan p o).drive.mode = 3) → Does (.onStateOpenLoad t o ma) s p) ∧
    (∀ d mv,
      (isOn p (dieDom d) = true → Does (.crankThresholdCrossing t d mv) s
        (eventsAfter (fun x => breakLearns (applyDrives x)) (modDie d (fun x => { x with window := [(p.now, mv)], vbat := mv, lowV := low mv }) p))) ∧
      (isOn p (dieDom d) = true → 28000 < mv → Does (.overvoltageOff t d mv) s (applyDrives (modDie d (fun x => { x with vbat := mv, lowV := false, overV := true }) p))) ∧
      ((isOn p (dieDom d) = false ∨ mv ≤ 28000) → Does (.overvoltageOff t d mv) s p) ∧
      (isOn p (dieDom d) = true → (getDie p d).overV = true → mv < 27000 →
        Does (.overvoltageRelease t d mv) s (applyDrives (modDie d (fun x => { x with vbat := mv, lowV := low mv, overV := false }) p))) ∧
      ((isOn p (dieDom d) = false ∨ (getDie p d).overV = false ∨ 27000 ≤ mv) → Does (.overvoltageRelease t d mv) s p)) ∧
    (∀ d temp l, isOn p (dieDom d) = true →
      let thr : Int := if d = .a then (tw p).power.govA else (tw p).power.govB
      let hyst : Int := if d = .a then (tw p).power.hystA else (tw p).power.hystB
      let g := noteSpan d l p
      let q := { g with env := { p.env with temps := setAt (if d = .a then 1 else 2) temp p.env.temps } }
      (thr ≤ temp → Does (.governorEvaluation t d temp l) s (eventsAfter (fun x => breakLearns (shedOne d x)) (modDie d (fun x => { x with coolAt := none }) q))) ∧
      (temp < thr → thr - hyst ≤ temp → Does (.governorEvaluation t d temp l) s (modDie d (fun x => { x with coolAt := none }) q)) ∧
      (temp < thr → temp < thr - hyst → (getDie p d).coolAt = none → Does (.governorEvaluation t d temp l) s (modDie d (fun x => { x with coolAt := some p.now }) q)) ∧
      (∀ k, temp < thr → temp < thr - hyst → (getDie p d).coolAt = some k → p.now < k + 2000000 → Does (.governorEvaluation t d temp l) s q) ∧
      (∀ k, temp < thr → temp < thr - hyst → (getDie p d).coolAt = some k → k + 2000000 ≤ p.now → Does (.governorEvaluation t d temp l) s (unshedOne d q))) ∧
    (∀ d, isOn p (dieDom d) = true → (getDie p d).linkLost = false →
      Does (.linkLoss t d) s (issue (if d = .a then 0x10 else 0x11) 0x01 0 (applyDrives (modDie d (fun x => { x with linkLost := true }) (takeHold p (fun o => dieOf o == d)))))) ∧
    (∀ d, (isOn p (dieDom d) = false ∨ (getDie p d).linkLost = true) → Does (.linkLoss t d) s p) ∧
    (∀ d, (getDie p d).linkLost = true → (getDie p d).clockFail = false → Does (.linkReturn t d) s (applyDrives (modDie d (fun x => { x with linkLost := false }) p))) ∧
    (∀ d, ((getDie p d).linkLost = false ∨ (getDie p d).clockFail = true) → Does (.linkReturn t d) s p) ∧
    (∀ d khz, isOn p (dieDom d) = true → (getDie p d).clockFail = false → (khz < 36000 ∨ 44000 < khz) →
      Does (.powerDieClockFail t d khz) s (linkLossStep d (applyDrives (modDie d (fun x => { x with clockFail := true }) p)))) ∧
    (∀ d khz, (isOn p (dieDom d) = false ∨ (getDie p d).clockFail = true ∨ (36000 ≤ khz ∧ khz ≤ 44000)) → Does (.powerDieClockFail t d khz) s p) ∧
    (∀ d, isOn p (dieDom d) = true →
      Does (.sensorFail t d) s (issueAt (if d = .a then 0x10 else 0x11) 0x02 (if d = .a then 0x0B else 0x0C) 0 p) ∧
      Does (.seqParity t d) s (issueAt (if d = .a then 0x10 else 0x11) 0x03 (if d = .a then 0x0B else 0x0C) 0 p)) ∧
    (∀ d, isOn p (dieDom d) = false → Does (.sensorFail t d) s p ∧ Does (.seqParity t d) s p ∧ ∀ x, Does (.crankThresholdCrossing t d x) s p ∧ ∀ temp l, Does (.governorEvaluation t d temp l) s p)

/-- R89, R134 to R143, R465: the wiper's park switch, stalls, intervals and wash, and the motion service's pinches, end stops, targets and hold-to-run limit. What is the model's own reading or choice in it: logs 17, 116, 121. -/
def Obligations.WiperAndMotionEvents : Prop :=
  ∀ (s : State) (t : Nat),
    let p := advance t s
    ((tw p).wiper = none → Does (.wiperParked t) s p ∧ Does (.parkTimeout t) s p ∧ Does (.washEnd t) s p ∧ ∀ ma, Does (.wiperStall t ma) s p) ∧
    (∀ c, (tw p).wiper = some c →
      Does (.wiperParked t) s (wiperParked p) ∧
      (p.outs.wiper.phase = .parking → due p.outs.wiper.parkAt p = true → Does (.parkTimeout t) s (reportMotorFault (pairChannels c.pair).1 (wiperHalt .stopped p))) ∧
      ((p.outs.wiper.phase ≠ .parking ∨ due p.outs.wiper.parkAt p = false) → Does (.parkTimeout t) s p) ∧
      (∀ ma, groupOf (pairChannels c.pair).1 = .gd → c.stall < ma → Does (.wiperStall t ma) s (wiperStall p)) ∧
      (∀ ma, (groupOf (pairChannels c.pair).1 ≠ .gd ∨ ma ≤ c.stall) → Does (.wiperStall t ma) s p) ∧
      (due p.outs.wiper.washAt p = false → Does (.washEnd t) s p) ∧
      (due p.outs.wiper.washAt p = true →
        let q := modWiper (fun w => { w with washAt := none, postWipes := c.postwipe })
          (if c.washer = 0xFF then p else applyDrives (putDefault c.washer { freq := (chanCfg p c.washer).pwm } p))
        ((q.outs.wiper.phase = .wiping ∨ q.outs.wiper.dead = true ∨ c.postwipe = 0) → Does (.washEnd t) s q) ∧
        (q.outs.wiper.phase ≠ .wiping → q.outs.wiper.dead = false → c.postwipe ≠ 0 →
          Does (.washEnd t) s (wipeLow (modWiper (fun w => { w with postWipes := w.postWipes - 1 }) q))))) ∧
    (p.outs.wiper.phase = .stallWait → due p.outs.wiper.waitAt p = true → Does (.stallRetry t) s (wiperRetry p)) ∧
    (p.outs.wiper.phase = .waiting → due p.outs.wiper.waitAt p = true →
      ((p.outs.wiper.mode ≠ 0 ∨ p.mode.mode = .run) → Does (.wipeIntervalExpiry t) s (wipeLow p)) ∧
      (p.outs.wiper.mode = 0 → p.mode.mode ≠ .run → Does (.wipeIntervalExpiry t) s (wiperHalt .parked p))) ∧
    (p.outs.wiper.phase = .toService → due p.outs.wiper.waitAt p = true → Does (.wiperServicePosition t) s (wiperHalt .atService p)) ∧
    ((p.outs.wiper.phase ≠ .stallWait ∨ due p.outs.wiper.waitAt p = false) → Does (.stallRetry t) s p) ∧
    ((p.outs.wiper.phase ≠ .waiting ∨ due p.outs.wiper.waitAt p = false) → Does (.wipeIntervalExpiry t) s p) ∧
    ((p.outs.wiper.phase ≠ .toService ∨ due p.outs.wiper.waitAt p = false) → Does (.wiperServicePosition t) s p) ∧
    (∀ n r, let q := addRipples n r p
      let a := getAct q n
      let pos := actPos q n
      (motionCfg q n = none → (∀ ma, Does (.pinchDetected t n ma r) s q) ∧ Does (.motionTargetReached t n r) s q) ∧
      (∀ c ma, motionCfg q n = some c →
        let zone := a.state = 1 ∧ a.learn = 0 ∧ a.opening = false ∧ a.renorm = false ∧ a.manner ≠ 2 ∧ actMeasured q n = true ∧ 4 ≤ pos ∧ pos ≤ c.zone
        (zone → a.profile.getD (pos / 20) 0 + c.margin < ma → Does (.pinchDetected t n ma r) s (actPinch n q)) ∧
        (zone → ma ≤ a.profile.getD (pos / 20) 0 + c.margin → Does (.pinchDetected t n ma r) s q) ∧
        (¬ zone → Does (.pinchDetected t n ma r) s q) ∧
        (a.opening = true → a.target ≤ pos → Does (.motionTargetReached t n r) s (actReached n q)) ∧
        (a.opening = true → pos < a.target → Does (.motionTargetReached t n r) s q) ∧
        (a.opening = false → pos ≤ a.target → Does (.motionTargetReached t n r) s (actReached n q)) ∧
        (a.opening = false → a.target < pos → Does (.motionTargetReached t n r) s q))) ∧
    (∀ n, motionCfg p n = none → ∀ ma k l, Does (.endStopStall t n ma k l) s p) ∧
    (∀ n c ma k l, motionCfg p n = some c →
      (actMeasured p n = true → c.stall ≤ ma → Does (.endStopStall t n ma k l) s (actEndStop n k l p)) ∧
      ((actMeasured p n = false ∨ ma < c.stall) → Does (.endStopStall t n ma k l) s p)) ∧
    (∀ n, due (getAct p n).htrAt p = true → Does (.holdToRunTimeout t n) s (actStop n p)) ∧
    (∀ n, due (getAct p n).htrAt p = false → Does (.holdToRunTimeout t n) s p)

/-- R207, R211 to R217, R231 to R235: the Millrace engine's cycle on a port: instants T_c apart, frames accepted of the running cycle before half of it, the input deadline, the outputs by 0.7 × T_c, the residual window, engine start, the keys of the segments and of the relays' downstream segments and the wake energy detector. What is the model's own reading or choice in it: logs 72, 129, 130, 131, 132. -/
def Obligations.MillraceCycleEvents : Prop :=
  ∀ (s : State) (t p : Nat),
    let q := advance t s
    let e := getEngine q p
    let runs := q.mill.on = true ∧ e.running = true
    ((¬ runs ∨ (e.cycle.isSome = true ∧ q.now < e.t0 + cycleUs q p)) → Does (.cycleInstant t p) s q) ∧
    (∀ n t0, runs → ((e.cycle = none ∧ n = 0 ∧ t0 = q.now) ∨ ∃ k, e.cycle = some k ∧ n = (k + 1) % 65536 ∧ t0 = e.t0 + cycleUs q p ∧ t0 ≤ q.now) →
      let f := modEngine p (fun x => { x with cycle := some n, t0 := t0, code := x.nextCode.getD x.code, nextCode := none, closed := false, outSent := false, computing := none, held := q.ao.severeAt.isSome }) (dropRecords p q)
      let g := modEngine p (fun x => { x with start := some (cycleStart f p n e.stopNext) }) f
      (smisaRuns f = true → e.stopNext = false → Does (.cycleInstant t p) s (raiseExt 4 g)) ∧
      (smisaRuns f = true → e.stopNext = true → Does (.cycleInstant t p) s (millIdle (modEngine p (fun x => { x with running := false, stopNext := false }) g))) ∧
      (smisaRuns f = false → Does (.cycleInstant t p) s f)) ∧
    (∀ f : InputFrame, ((portRuns q f.port = false ∨ smisaRuns q = false) → Does (.inputFrame t f) s q) ∧
      (portRuns q f.port = true → smisaRuns q = true →
        (frameRefused q f = none → Does (.inputFrame t f) s (takeFrame f q)) ∧
        (frameRefused q f = some false → Does (.inputFrame t f) s (countDiscard f.port q)) ∧
        (frameRefused q f = some true → Does (.inputFrame t f) s (tagFailed f.port (countDiscard f.port q))))) ∧
    (∀ f : InputFrame, frameRefused q f = none → let g := getEngine q f.port
      let auth := ((portCfg q f.port).getD {}).auth
      f.vlan = false ∧ byte f.pdu 0 = 2 ∧ byte f.pdu 1 = 2 ∧ field f.pdu 4 2 = f.port ∧ byte f.pdu 3 = q.mill.epoch ∧ g.cycle = some (field f.pdu 6 2) ∧
        g.closed = false ∧ q.now * 2 < g.t0 * 2 + cycleUs q f.port ∧ tbit (byte f.pdu 2) 0 = auth ∧ (auth = true → tagHolds q f.port f.pdu = true)) ∧
    (runs → smisaRuns q = true → e.cycle.isSome = true → e.closed = false → pastPart q p 10 = true →
      let f := actDeps (evalPort p (modEngine p (fun e => { e with closed := true }) q))
      Does (.inputDeadline t p) s (parkCheck p (modEngine p (fun e => { e with computing := some (cycleNo f p, snapshotImages f p) }) f))) ∧
    ((¬ runs ∨ smisaRuns q = false ∨ e.cycle = none ∨ e.closed = true ∨ pastPart q p 10 = false) → Does (.inputDeadline t p) s q) ∧
    (∀ c, e.computing = some c → runs → smisaRuns q = true →
      let f := modEngine p (fun e => { e with computed := some c, computing := none }) q
      (e.outSent = true ∨ e.closed = false → Does (.computeComplete t p) s f) ∧
      (e.outSent = false → e.closed = true → Does (.computeComplete t p) s (sendOutputs p f))) ∧
    ((e.computing = none ∨ ¬ runs ∨ smisaRuns q = false) → Does (.computeComplete t p) s q) ∧
    (runs → smisaRuns q = true → e.closed = true → e.outSent = false → pastPart q p 14 = true →
      let late := e.computing.isSome = true ∧ ∀ k, e.lateAt = some k → k + 1000000 ≤ q.now
      (¬ late → Does (.outputsReadyDeadline t p) s (sendOutputs p q)) ∧
      (late → Does (.outputsReadyDeadline t p) s (issue 0x20 0x04 (p * 256) (modEngine p (fun e => { e with lateAt := some q.now }) (sendOutputs p q))))) ∧
    ((¬ runs ∨ smisaRuns q = false ∨ e.closed = false ∨ e.outSent = true ∨ pastPart q p 14 = false) → Does (.outputsReadyDeadline t p) s q) ∧
    (∀ src frame, windowOpen q p = true →
      let f := modEngine p (fun e => { e with learnt := if src ∈ e.learnt then e.learnt else e.learnt ++ [src] }) q
      Does (.residualFrame t p src true frame) s q ∧
      (uplinkRuns f = true → f.bus.up.link = true → let v := ((portCfg q p).getD {}).vlan
        Does (.residualFrame t p src false frame) s (upSend { tag := some (v, 0), body := .bridged p v frame } f)) ∧
      ((uplinkRuns f = false ∨ f.bus.up.link = false) → Does (.residualFrame t p src false frame) s f)) ∧
    (∀ src m frame, windowOpen q p = false → Does (.residualFrame t p src m frame) s q) ∧
    (∀ dst vlan frame, (uplinkRuns q = false → Does (.residualUplinkFrame t dst vlan frame) s q) ∧
      (uplinkRuns q = true → Does (.residualUplinkFrame t dst vlan frame) s { q with mill := { q.mill with ports := mapIdx (queueResidual q dst vlan frame) 0 q.mill.ports } })) ∧
    (windowOpen q p = true → let d := fitFrames ((e.t0 + cycleUs q p - 200 - q.now) * 10) e.resQueue
      Does (.residualWindowOpen t p) s (modEngine p (fun e => { e with resQueue := d.2, resSent := d.1 }) q)) ∧
    (windowOpen q p = false → Does (.residualWindowOpen t p) s q) ∧
    (q.mill.startDue = true → isOn q .net = true → smisaRuns q = true → q.ao.grave = none → q.pwr.fallback = false →
      let b := absentAll q
      ∃ ep, (b.ao.epoch = none → ep = 0x80) ∧ (∀ k, b.ao.epoch = some k → k < 256 → ep < 256 ∧ ep ≠ k) ∧
        let z := [0, 1, 2, 3].foldl tryPort
          { b with freeCtr := b.freeCtr + 1, ao := { b.ao with epoch := some ep },
                   mill := { b.mill with on := true, startDue := false, clearing := b.ao.epoch.isNone, parking := false, epoch := ep, startAt := b.now, keys := [], segWait := [], depsDue := true,
                                         ports := b.mill.ports.map (fun e => { e with running := false, keyWait := false }),
                                         stn := b.mill.stn.map (fun x => { x with fresh := 0, missRow := 0, silent := 0, serial := none, parked := false, got := none, join := none, answer := none }) } }
        Does (.engineStart t) s (armKeyRetry ((keyedRelays z).foldl tryRelay z))) ∧
    ((q.mill.startDue = false ∨ isOn q .net = false ∨ smisaRuns q = false ∨ q.ao.grave.isSome = true ∨ q.pwr.fallback = true) → Does (.engineStart t) s q) ∧
    (due q.mill.keyRetryAt q = true → q.mill.on = true → smisaRuns q = true →
      let z := [0, 1, 2, 3].foldl (fun acc n => if (getEngine acc n).keyWait then tryPort acc n else acc) q
      Does (.keyLoadRetry t) s (armKeyRetry (((keyedRelays z).filter (fun c => z.mill.segWait.contains c.addr)).foldl tryRelay z))) ∧
    ((due q.mill.keyRetryAt q = false ∨ q.mill.on = false ∨ smisaRuns q = false) → Does (.keyLoadRetry t) s q) ∧
    (∀ us, (portCfg q p).isSome = true → domSt q .net = .ret → (tw q).power.wakePort = p → 100 ≤ us → Does (.t1sEnergyDetect t p us) s (wakeEvent 0x48 q)) ∧
    (∀ us, (portCfg q p = none ∨ domSt q .net ≠ .ret ∨ (tw q).power.wakePort ≠ p ∨ us < 100) → Does (.t1sEnergyDetect t p us) s q)

/-- R208, R221 to R223: a station's state at the input deadline of its own port: a JOIN record that passes admits it, one refused leaves it JOINING and refused, one of another serial than the admitted station's is refused with reason 5 and leaves that station its state, and without one the INPUT records of successive cycles decide. A JOIN record heard on another port leaves an ACTIVE or STALE station its state and its records. What is the model's own reading or choice in it: logs 22, 92, 130. -/
def Obligations.StationsFollowTheTable : Prop :=
  (∀ (p : Nat) (s : State) (e : Nat × JoinRec), inSnapshot (getStn s e.1) = true → getStn (evalStray p s e) e.1 = getStn s e.1) ∧
  ∀ (p a : Nat) (s : State), a < s.mill.stn.length → onPort s p a = true →
    let x := getStn s a
    let q := getStn (evalStation p s a) a
    let after := q.st
    let other := fun (j : JoinRec) => (x.st = .active ∨ x.st = .stale ∨ x.st = .joining) ∧ ∃ n, x.serial = some n ∧ n ≠ j.serial
    (∀ j, x.join = some j → ¬ other j → joinReason s a j = 0 → after = .joining ∧ q.answer = some 0 ∧ q.serial = some j.serial) ∧
    (∀ j, x.join = some j → other j → q.answer = some 5 ∧ q.serial = x.serial) ∧
    (∀ j, x.join = some j → ¬ other j → joinReason s a j ≠ 0 → q.answer = some (joinReason s a j) ∧ (x.st ≠ .active → x.st ≠ .stale → after = .refused)) ∧
    ((x.join = none ∨ ∃ j, x.join = some j ∧ (other j ∨ (joinReason s a j ≠ 0 ∧ (x.st = .active ∨ x.st = .stale)))) →
      (∀ d, x.got = some d →
        (x.st = .lost → after = .joining) ∧ (x.st = .joining → x.fresh = 0 → after = .joining) ∧ (x.st = .joining → 1 ≤ x.fresh → after = .active) ∧
        (x.st = .active → after = .active) ∧ (x.st = .stale → after = .active) ∧ (x.st = .absent → after = .absent) ∧ (x.st = .refused → after = .refused)) ∧
      (x.got = none →
        (x.st = .active → after = .stale) ∧ (x.st = .stale → 2 ≤ x.missRow → after = .lost) ∧ (x.st = .stale → x.missRow < 2 → after = .stale) ∧
        (x.st = .joining → 2 ≤ x.missRow → after = .lost) ∧ (x.st = .joining → x.missRow < 2 → after = .joining) ∧
        (x.st = .refused → 191 ≤ x.silent → after = .lost) ∧ (x.st = .refused → x.silent < 191 → after = .refused) ∧
        (x.st = .absent → after = .absent) ∧ (x.st = .lost → after = .lost)))

/-- R260, R265 to R270, R281, R286, R287: DSRC on air. A BST begins a transaction with a VST, records a refused attempt or meets silence; a running write-back gives way to it. A frame of the transaction is answered where DSRC serves, a repeated one with the last response; an APDU that shares a frame (`link` 1) adds its answer, a chained one (`link` 2) only where the one before it succeeded. Release and 200 ms without a frame end it. What is the model's own reading or choice in it: logs 24, 73, 133, 134. -/
def Obligations.DsrcTransactions : Prop :=
  ∀ (s : State) (t : Nat),
    let p := advance t s
    let q := silent p
    (∀ beacon channel profile efc ctx,
      let may := radioOn p = true ∧ (tw p).tag.dsrc = true ∧ channel ≤ 3 ∧ profile ≤ 1 ∧ p.tag.txn = none ∧ p.tag.state ≠ 0 ∧ p.tag.state ≠ 4 ∧ p.tag.buffer.length < 32 ∧ p.tag.apduRuns = false
      (¬ may → Does (.bst t beacon channel profile efc ctx) s q) ∧
      (may → (p.tag.ins = 3 ∨ p.tag.ins = 4) → Does (.bst t beacon channel profile efc ctx) s (refusedAttempt beacon q)) ∧
      (may → p.tag.ins ≠ 3 → p.tag.ins ≠ 4 → ∀ x, p.tag.sess = some x →
        let recent := ∃ e, e ∈ p.tag.vstSent ∧ e.1 = beacon ∧ p.now < e.2 + 10000000
        ((p.tag.state ≠ 3 ∨ efc = false ∨ listsContext x.contract ctx = false ∨ recent) → Does (.bst t beacon channel profile efc ctx) s q) ∧
        (p.tag.state = 3 → efc = true → listsContext x.contract ctx = true → ¬ recent →
          ∃ id rnd, id < 4294967296 ∧ rnd < 4294967296 ∧
            Does (.bst t beacon channel profile efc ctx) s
              (answer (.vst id channel profile ((x.contract.attrs.filter (fun e => e.1 == 0)).map (fun e => e.2)) p.otp.serial rnd)
                (modTag (fun y => { y with txn := some { beacon := beacon, profile := profile, channel := channel, phase := 1, utc := utcStamp p, life := p.ao.life, rtcSet := p.ao.rtcSet, rnd := rnd, lastAt := p.now }, vstSent := setN beacon p.now y.vstSent })
                  (cutWrite (drbgRequest (drbgRequest { q with freeCtr := p.freeCtr + 2 })))))))) ∧
    (∀ c : Instr, ∀ bit link, ((∃ a x, c = .get t bit link a x) ∨ (∃ a v, c = .set t bit link a v) ∨ (∃ a r k x, c = .actionGetStamped t bit link a r k x) ∨
        (∃ v, c = .actionSetMmi t bit link v) ∨ (∃ v, c = .actionEcho t bit link v) ∨ c = .eventReport t bit link) →
      ((p.tag.txn = none ∨ dsrcOn p = false) → Does c s q) ∧
      (∀ d, p.tag.txn = some d → dsrcOn p = true →
        (link = 0 → d.lastBit = some bit → Does c s (modTxn (fun x => { x with lastAt := p.now, repeated := true }) (modTag (fun y => { y with air := d.lastResp }) p))) ∧
        (link ≠ 0 → (d.lastBit ≠ some bit ∨ d.repeated = true ∨ (link = 2 ∧ d.lastOk = false)) → Does c s p))) ∧
    (∀ d bit link, p.tag.txn = some d → dsrcOn p = true → (link = 0 → d.lastBit ≠ some bit) →
      (link ≠ 0 → d.lastBit = some bit ∧ d.repeated = false ∧ (link = 2 → d.lastOk = true)) →
      let fresh := if link = 0 then modTxn (fun x => { x with lastAt := p.now, lastBit := some bit, repeated := false }) p else modTxn (fun x => { x with lastAt := p.now }) p
      let replies := fun (c : Instr) (a : AirOut) (w : State) =>
        (link = 0 → Does c s (answer a (modTxn (fun x => { x with lastResp := some a, lastOk := answerOk (some a) }) w))) ∧
        (link ≠ 0 → Does c s (answer (joinAnswer d.lastResp a) (modTxn (fun x => { x with lastResp := some (joinAnswer d.lastResp a) }) (modTxn (fun x => { x with lastOk := answerOk (some a) }) w))))
      let nothing := fun (c : Instr) (w : State) =>
        (link = 0 → Does c s (silent (modTxn (fun x => { x with lastResp := none, lastOk := true }) w))) ∧ (link ≠ 0 → Does c s (modTxn (fun x => { x with lastOk := true }) w))
      (∀ attrs cred, credentialOk fresh cred = true → replies (.get t bit link attrs cred) (.attrs (attrs.map (fun a => (a, attrValue fresh a)))) (reach 2 fresh)) ∧
      (∀ attrs cred, credentialOk fresh cred = false → nothing (.get t bit link attrs cred) (endTxn 4 fresh)) ∧
      (∀ v, replies (.set t bit link 33 v) (.setAnswer true) (reach 4 (modTxn (fun d => { d with receipt := true }) (modRec (sessRec fresh).serial (fun r => { r with receipt1 := v.take 32 }) fresh)))) ∧
      (∀ v, replies (.set t bit link 34 v) (.setAnswer true) (reach 4 (modTxn (fun d => { d with receipt := true }) (modRec (sessRec fresh).serial (fun r => { r with receipt2 := v.take 32 }) fresh)))) ∧
      (∀ a v, a ≠ 33 → a ≠ 34 → replies (.set t bit link a v) (.setAnswer false) fresh) ∧
      (∀ attrs rnd key cred x, p.tag.sess = some x → credentialOk fresh cred = true →
        let l := attrs.map (fun a => (a, attrValue fresh a))
        replies (.actionGetStamped t bit link attrs rnd key cred) (.stamped l (Config.tdesMac x.dsrcKeys x.contract.keygen (b8 key :: stampData l rnd)))
          (spend (reach 3 (modTxn (fun d => { d with counted := true }) fresh)))) ∧
      (∀ attrs rnd key cred, credentialOk fresh cred = false → nothing (.actionGetStamped t bit link attrs rnd key cred) (endTxn 4 fresh)) ∧
      (∀ v, replies (.actionSetMmi t bit link v) (.mmi v) (modTxn (fun d => { d with mmi := v % 16 }) fresh)) ∧
      (∀ v, replies (.actionEcho t bit link v) (.echo v) fresh) ∧
      nothing (.eventReport t bit link) (endTxn 0 (reach 5 fresh))) ∧
    (p.tag.txn = none → Does (.transactionIdle t) s p) ∧
    (∀ d, p.tag.txn = some d → ((d.lastAt + 200000 ≤ p.now → d.phase < 5 → Does (.transactionIdle t) s (endTxn 2 p)) ∧
      ((p.now < d.lastAt + 200000 ∨ 5 ≤ d.phase) → Does (.transactionIdle t) s p)))

/-- R266, R271 to R274: the UHF tag on air: Select and the inventory commands, the handle and its states, Read, Access and Authenticate; every writing command is answered with memory locked; nothing is sent where the tag does not serve. What is the model's own reading or choice in it: log 24. -/
def Obligations.UhfCommands : Prop :=
  ∀ (s : State) (t : Nat),
    let p := advance t s
    let q := silent p
    let back := if due p.tag.uhf.fieldLossAt p = true then modUhf (fun u => { u with s2 := false, s3 := false, sl := false, fieldLossAt := none }) p else modUhf (fun u => { u with fieldLossAt := none }) p
    (∀ target action bank ptr len mask,
      (uhfOn back = true → target ≤ 4 → Does (.select t target action bank ptr len mask) s
        (modUhf (fun u => { selAction target action (selMatch back bank ptr len mask) p.now u with phase := 0 }) (silent back))) ∧
      ((uhfOn back = false ∨ 4 < target) → Does (.select t target action bank ptr len mask) s (silent back))) ∧
    (∀ sel session target n,
      (uhfOn p = false → Does (.query t sel session target n) s (silent back)) ∧
      (uhfOn p = true → let w := leaveRound session (silent back)
        ((sel < 2 ∨ w.tag.uhf.sl = (sel == 3)) → invFlag w.tag.uhf session = target →
          Does (.query t sel session target n) s (drawSlot (n % 16) (modUhf (fun u => { u with session := session, accessHalf := false, accessed := false }) w))) ∧
        ((¬ (sel < 2 ∨ w.tag.uhf.sl = (sel == 3)) ∨ invFlag w.tag.uhf session ≠ target) →
          Does (.query t sel session target n) s (modUhf (fun u => { u with phase := 0 }) w)))) ∧
    (∀ session, let u := p.tag.uhf
      ((uhfOn p = false ∨ u.phase = 0 ∨ u.session ≠ session) → (∀ d, Does (.queryAdjust t session d) s q) ∧ Does (.queryRep t session) s q) ∧
      (uhfOn p = true → 3 ≤ u.phase → u.session = session → (∀ d, Does (.queryAdjust t session d) s (leaveRound session q)) ∧ Does (.queryRep t session) s (leaveRound session q)) ∧
      (uhfOn p = true → 1 ≤ u.phase → u.phase < 3 → u.session = session →
        (∀ d : Int, Does (.queryAdjust t session d) s (drawSlot (min 15 ((u.q : Int) + d).toNat) q)) ∧
        (let n := (u.slot + 32767) % 32768
         ((u.phase = 2 ∨ n ≠ 0) → Does (.queryRep t session) s (modUhf (fun u => { u with phase := 1, slot := n }) q)) ∧
         (u.phase = 1 → n = 0 → ∃ rn, rn < 65536 ∧ Does (.queryRep t session) s (answer (.rn16 rn) (modUhf (fun u => { u with phase := 2, slot := 0, rn := rn }) (drbgRequest { q with freeCtr := p.freeCtr + 1 }))))))) ∧
    (∀ rn, ((uhfOn p = false ∨ p.tag.uhf.phase < 2) → Does (.ack t rn) s q) ∧
      (uhfOn p = true → 2 ≤ p.tag.uhf.phase → p.tag.uhf.rn = rn → Does (.ack t rn) s (answer (.epc (pcEpc p).1 (pcEpc p).2 (epcCrc p)) (modUhf (fun u => { u with phase := max 3 u.phase }) p))) ∧
      (uhfOn p = true → 2 ≤ p.tag.uhf.phase → p.tag.uhf.rn ≠ rn → Does (.ack t rn) s (silent (modUhf (fun u => { u with phase := 1 }) p))) ∧
      ((uhfOn p = false ∨ p.tag.uhf.phase < 3 ∨ p.tag.uhf.rn ≠ rn) → Does (.reqRn t rn) s q) ∧
      (uhfOn p = true → p.tag.uhf.rn = rn → ∃ v, v < 65536 ∧
        (p.tag.uhf.phase = 3 → Does (.reqRn t rn) s (answer (.handle v) (modUhf (fun u => { u with phase := if accessPw p = 0 then 5 else 4, rn := v }) (drbgRequest { p with freeCtr := p.freeCtr + 1 })))) ∧
        (3 < p.tag.uhf.phase → Does (.reqRn t rn) s (answer (.rn16 v) (drbgRequest { p with freeCtr := p.freeCtr + 1 }))))) ∧
    (uhfOn p = true → 1 ≤ p.tag.uhf.phase → Does (.nak t) s (silent (modUhf (fun u => { u with phase := 1 }) p))) ∧
    ((uhfOn p = false ∨ p.tag.uhf.phase = 0) → Does (.nak t) s q) ∧
    (∀ handle, ¬ (uhfOn p = true ∧ 4 ≤ p.tag.uhf.phase ∧ p.tag.uhf.rn = handle) →
      Does (.write t handle) s q ∧ Does (.blockwrite t handle) s q ∧ Does (.blockerase t handle) s q ∧ Does (.lock t handle) s q ∧ Does (.kill t handle) s q ∧
      (∀ a b c, Does (.read t a b c handle) s q) ∧ (∀ a, Does (.access t a handle) s q) ∧ ∀ a b c d, Does (.authenticate t a b c d handle) s q) ∧
    (∀ handle, uhfOn p = true → 4 ≤ p.tag.uhf.phase → p.tag.uhf.rn = handle →
      let locked := answer (.error .memLocked handle) p
      Does (.write t handle) s locked ∧ Does (.blockwrite t handle) s locked ∧ Does (.blockerase t handle) s locked ∧ Does (.lock t handle) s locked ∧ Does (.kill t handle) s locked ∧
      (∀ bank ptr count, uhfBank p bank = none → Does (.read t bank ptr count handle) s (answer (.error .memOverrun handle) p)) ∧
      (∀ bank ptr count b, uhfBank p bank = some b →
        let n := if count = 0 then b.length / 2 - ptr else count
        let shut := bank = 0 ∨ (bank = 3 ∧ p.tag.uhf.accessed = false)
        let inside := 2 * (ptr + n) ≤ b.length ∧ 2 * ptr < b.length
        (shut → Does (.read t bank ptr count handle) s locked) ∧
        (¬ shut → ¬ inside → Does (.read t bank ptr count handle) s (answer (.error .memOverrun handle) p)) ∧
        (¬ shut → inside → Does (.read t bank ptr count handle) s (answer (.words (slice b (2 * ptr) (2 * n)) handle) p))) ∧
      (∀ pw, let want := if p.tag.uhf.accessHalf then accessPw p % 65536 else accessPw p / 65536
        (pw ≠ want → Does (.access t pw handle) s (silent (modUhf (fun u => { u with phase := 1, accessHalf := false }) p))) ∧
        (pw = want → p.tag.uhf.accessHalf = true → Does (.access t pw handle) s (answer (.handle handle) (modUhf (fun u => { u with phase := 5, accessHalf := false, accessed := true }) p))) ∧
        (pw = want → p.tag.uhf.accessHalf = false → Does (.access t pw handle) s (answer (.handle handle) (modUhf (fun u => { u with accessHalf := true }) p)))) ∧
      (∀ csi method key ch, ((p.tag.state ≠ 3 ∨ p.tag.txn.isSome = true) → Does (.authenticate t csi method key ch handle) s q) ∧
        (p.tag.state = 3 → p.tag.txn = none → (csi ≠ 0 ∨ method ≠ 0 ∨ key ≠ 0) → Does (.authenticate t csi method key ch handle) s (answer (.error .unsupported handle) p)) ∧
        (∀ x, p.tag.state = 3 → p.tag.txn = none → p.tag.sess = some x →
          Does (.authenticate t 0 0 0 ch handle) s
            (afterTxn false (logTxn { utc := utcStamp p, life := p.ao.life, kind := 1, phase := 3, rtcSet := p.ao.rtcSet, counted := true } (answer (.tam1 (Config.tam1 x.uhfKey ch) handle) (spend (cutWrite p)))))))) ∧
    Does (.uhfFieldLoss t) s (modUhf (fun u => { u with phase := 0, s0 := false, accessHalf := false, accessed := false, fieldLossAt := some (p.now + 2000000) }) q) ∧
    (let w := if due p.tag.uhf.s1At p = true then modUhf (fun u => { u with s1 := false, s1At := none }) p else p
     (due p.tag.uhf.fieldLossAt p = true → Does (.uhfFlagPersistence t) s (modUhf (fun u => { u with s2 := false, s3 := false, sl := false, fieldLossAt := none }) w)) ∧
     (due p.tag.uhf.fieldLossAt p = false → Does (.uhfFlagPersistence t) s w)) ∧
    (∀ us, p.otp.part = .bz7460 → domSt p .rfd = .ret → (tw p).tag.fieldDetect = true → 100 ≤ us → Does (.rfFieldDetect t us) s (wakeEvent 0x50 p)) ∧
    (∀ us, (p.otp.part ≠ .bz7460 ∨ domSt p .rfd ≠ .ret ∨ (tw p).tag.fieldDetect = false ∨ us < 100) → Does (.rfFieldDetect t us) s p)

/-- R14, R276 to R284: the credential insert: insertion, its answers and their time limit, removal with a running transaction abandoned, the state taken again each tick, write-backs and their one retry, and the events the service core takes. What is the model's own reading or choice in it: logs 25, 71, 74, 133, 135. -/
def Obligations.InsertEvents : Prop :=
  ∀ (s : State) (t : Nat),
    let p := advance t s
    ((p.otp.part ≠ .bz7460 ∨ p.env.insDet = true) → Does (.insertion t) s p) ∧
    (p.otp.part = .bz7460 → p.env.insDet = false →
      Does (.insertion t) s (acceptPresent (setIns 1 (bump 0x30 0 1 (wakeEvent 0x58 (modTag (fun x => { x with detAt := some p.now }) { p with env := { p.env with insDet := true } })))))) ∧
    (let again := fun (atr : Bool) => modLink (fun l => { l with retries := l.retries + 1, bwtAt := p.now + (if atr = true then 1500000 else l.bwt) }) p
     (∀ x d sw, p.tag.accept = some x →
      (p.enc.avail = false → ∀ ok, Does (.insertApduResponse t d sw ok) s p) ∧
      (p.enc.avail = true → 3 ≤ p.tag.link.retries → Does (.insertApduResponse t d sw false) s (reject p)) ∧
      (p.enc.avail = true → p.tag.link.retries < 3 → Does (.insertApduResponse t d sw false) s (again (x.step == 0))) ∧
      (p.enc.avail = true → x.step ≠ 0 → x.step ≠ 7 → sw ≠ 0x9000 → Does (.insertApduResponse t d sw true) s (reject p)) ∧
      (p.enc.avail = true → (x.step = 0 ∨ x.step = 7 ∨ sw = 0x9000) → Does (.insertApduResponse t d sw true) s (acceptData x d p)) ∧
      (p.tag.link.bwtAt ≤ p.now → Does (.bwtTimeout t) s (reject p)) ∧
      (p.now < p.tag.link.bwtAt → Does (.bwtTimeout t) s p)) ∧
     (∀ n d sw, p.tag.accept = none → p.tag.wb = some n →
      (p.enc.avail = false → ∀ ok, Does (.insertApduResponse t d sw ok) s p) ∧
      (p.enc.avail = true → 3 ≤ p.tag.link.retries → Does (.insertApduResponse t d sw false) s (writeDone false p)) ∧
      (p.enc.avail = true → p.tag.link.retries < 3 → Does (.insertApduResponse t d sw false) s (again (n == 0))) ∧
      (p.enc.avail = true → n = 0 → Does (.insertApduResponse t d sw true) s (writeCard (cardAtr d) p)) ∧
      (p.enc.avail = true → n = 1 → Does (.insertApduResponse t d sw true) s (writeCard (cardPps p.tag.link d) p)) ∧
      (p.enc.avail = true → 2 ≤ n → Does (.insertApduResponse t d sw true) s (writeDone (sw == 0x9000) p)) ∧
      (p.tag.link.bwtAt ≤ p.now → Does (.bwtTimeout t) s (writeDone false p)) ∧
      (p.now < p.tag.link.bwtAt → Does (.bwtTimeout t) s p))) ∧
    (p.tag.accept = none → p.tag.wb = none → ∀ d sw,
      (p.tag.apduRuns = true → Does (.insertApduResponse t d sw true) s (apduDone 0x00 (d ++ be 2 sw) p)) ∧
      (p.tag.apduRuns = false → Does (.insertApduResponse t d sw true) s p) ∧
      Does (.insertApduResponse t d sw false) s p ∧
      (p.tag.apdu.isSome = true → p.tag.apduAt ≤ p.now → Does (.bwtTimeout t) s (apduDone 0x15 [] p)) ∧
      ((p.tag.apdu = none ∨ p.now < p.tag.apduAt) → Does (.bwtTimeout t) s p)) ∧
    ((p.otp.part ≠ .bz7460 ∨ p.env.insDet = false) → Does (.removal t) s p) ∧
    (p.otp.part = .bz7460 → p.env.insDet = true →
      let gone := fun (forced : Bool) (w : State) => sendApdu (setIns 0 (modTag (fun x => { x with sess := none, accept := none, wb := none, vcc := false, detAt := none, wbAt := none, wbRetry := false, stickyMount := false, forced := forced })
        { w with env := { w.env with insDet := false } }))
      (p.tag.txn = none → p.tag.vcc = false → Does (.removal t) s (gone false p)) ∧
      (p.tag.txn = none → p.tag.vcc = true → Does (.removal t) s (tamperEvent 6 (gone true p))) ∧
      (∀ d, p.tag.txn = some d → Does (.removal t) s (tamperEvent 6 (gone true
        (logTxn { utc := d.utc, life := d.life, kind := 0, outcome := 1, phase := d.phase, rtcSet := d.rtcSet, counted := d.counted, receipt := d.receipt, mmi := d.mmi, beacon := d.beacon, hash := if d.receipt then receiptHash (sessRec p) else 0 }
          (modTag (fun x => { x with txn := none }) p)))))) ∧
    (p.tag.sess.isSome = true → p.tag.txn = none → p.enc.avail = true → Does (.insertStateTick t) s (setIns (decideIns p) (reserveNext p))) ∧
    ((p.tag.sess = none ∨ p.tag.txn.isSome = true ∨ p.enc.avail = false) → Does (.insertStateTick t) s p) ∧
    (let held := p.tag.wb.isSome = true ∨ p.tag.apduRuns = true ∨ p.tag.txn.isSome = true ∨ p.tag.sess = none ∨ p.enc.avail = false
     let begun := modTag (fun x => { x with wb := some 0, vcc := true, insSent := none, link := { bwtAt := p.now + 1500000 } }) p
     (∀ c : Instr, ((c = .writeBack t ∧ p.tag.wbAt.isSome = true ∧ p.tag.wbRetry = false) ∨ (c = .writeBackRetry t ∧ due p.tag.wbAt p = true ∧ p.tag.wbRetry = true)) →
       (held → Does c s p) ∧
       (¬ held → p.pwr.fallback = true → Does c s (writeDone false p)) ∧
       (¬ held → p.pwr.fallback = false → Does c s begun)) ∧
     ((p.tag.wbAt = none ∨ p.tag.wbRetry = true) → Does (.writeBack t) s p) ∧
     ((due p.tag.wbAt p = false ∨ p.tag.wbRetry = false) → Does (.writeBackRetry t) s p)) ∧
    (smisaRuns p = true → p.enc.avail = true →
      Does (.enclaveEventTake t) s (tagEval (p.tag.buffer.foldl (fun acc r => event 0x30E0 1 (txnBytes r) acc) (modTag (fun x => { x with buffer := [] }) p)))) ∧
    ((smisaRuns p = false ∨ p.enc.avail = false) → Does (.enclaveEventTake t) s (tagEval p))

/-- R292 to R297, R308, R319, R322 to R333, R337, R340, R341: the enclave's start and restart, the tamper monitors' arming, what each finds outside its limits and what an event does, slow checks and re-arming, and the write of a pending tamper record to a line, left blank or poisoned by a power failure. What is the model's own reading or choice in it: logs 26, 137. -/
def Obligations.EnclaveAndTamperEvents : Prop :=
  ∀ (s : State) (t : Nat),
    let p := advance t s
    let resets := issue 0x32 0x01 0 (tagEval
      (let q := clearWindows (encLost { p with ao := addHistory .encr p.ao, nvm := { p.nvm with staging := none } });
       { q with enc := { q.enc with restartAt := some (q.now + 50000) } }))
    ((isOn p .enc = false ∨ p.enc.avail = true ∨ p.pwr.inReset = true) → ∀ ok, Does (.encStart t ok) s p) ∧
    (isOn p .enc = true → p.enc.avail = false → p.pwr.inReset = false →
      Does (.encStart t false) s resets ∧
      Does (.encStart t true) s (acceptPresent (tagEval (armMonitors (keysReturn (checkAo (takePolicy (checkGens (checkIdentity (sweepSlots
        { p with enc := { p.enc with avail := true, restartAt := none, ksk := true, drbg := 0, wdtAt := p.now + 100000 } })))))))))) ∧
    (isOn p .enc = true → p.enc.avail = true → Does (.encr t) s resets ∧ (p.enc.wdtAt ≤ p.now → Does (.enclaveWatchdogExpiry t) s resets)) ∧
    ((isOn p .enc = false ∨ p.enc.avail = false) → Does (.encr t) s p) ∧
    ((isOn p .enc = false ∨ p.enc.avail = false ∨ p.now < p.enc.wdtAt) → Does (.enclaveWatchdogExpiry t) s p) ∧
    (∀ src, (src = 0 ∨ 6 < src) → Does (.monitorArmed t src) s p) ∧
    (∀ driven far : Nat,
      let fails := (List.range 24).filter (fun i => driven.testBit i != far.testBit i)
      (activeCheck p = false → Does (.tamperEvent t (.mesh driven far)) s p) ∧
      (activeCheck p = true → Does (.tamperEvent t (.mesh driven far)) s (fails.foldl (fun acc _ => tamperEvent 1 acc) p))) ∧
    (let sees := fun (seen : TamperSeen) (outside : Prop) (src : Nat) => (outside → Does (.tamperEvent t seen) s (tamperEvent src p)) ∧ (¬ outside → Does (.tamperEvent t seen) s p)
     (∀ mv ns, sees (.core mv ns) ((mv < 780 ∨ 1020 < mv) ∧ 10 ≤ ns) 2 ∧ sees (.v33 mv ns) ((mv < 2800 ∨ 3800 < mv) ∧ 20 ≤ ns) 2) ∧
     (∀ khz, sees (.clock khz) (khz < 80000 ∨ 120000 < khz) 3) ∧
     (∀ ns, sees (.noEdge ns) (100 ≤ ns) 3) ∧
     (∀ c : Int, sees (.temp c) (c < -50 ∨ 160 < c) 4)) ∧
    (∀ src, 1 ≤ src → src ≤ 6 →
      let r := tamperRule p src
      let live := r.response ≠ 0 ∧ (getMon p src).armed = true ∧ monitorRuns p src = true
      let events := p.now :: (getMon p src).events.filter (fun x => decide (p.now ≤ x + 1000 * r.w))
      (¬ live → tamperEvent src p = p) ∧
      (live → src ∈ p.ao.alarmed → tamperEvent src p = (modMon src (fun m => { m with lastAt := p.now, passes := 0 }) p)) ∧
      (live → src ∉ p.ao.alarmed → events.length < r.n → tamperEvent src p = (modMon src (fun m => { m with events := events, lastAt := p.now }) p)) ∧
      (live → src ∉ p.ao.alarmed → r.n ≤ events.length →
        let noted := addPending src (if r.response = 2 then 2 else 1) 1 (modMon src (fun m => { m with events := [], lastAt := p.now, passes := 0 })
          { p with ao := { p.ao with sticky := p.ao.sticky ||| 2 ^ (src - 1), alarmed := p.ao.alarmed ++ [src] } })
        let told := if r.response = 2 then issue 0x33 0x02 0 (eraseKeys noted) else issue 0x33 0x01 0 noted
        (told.mode.mode ≠ .parked → tamperEvent src p = told) ∧ (told.mode.mode = .parked → tamperEvent src p = (callWake 0x68 told)))) ∧
    (∀ src, 1 ≤ src → src ≤ 6 →
      let m := getMon p src
      let ready := monitorRuns p src = true ∧ m.armed = false ∧ ∀ a, m.armAt = some a → a ≤ p.now
      (ready → Does (.monitorArmed t src) s (modMon src (fun m => { m with armed := true, armAt := none, lastAt := max m.lastAt p.now }) p)) ∧
      (¬ ready → Does (.monitorArmed t src) s p)) ∧
    (∀ src, let quiet := (src ≠ 1 ∨ activeCheck p = true) ∧ src ∈ p.ao.alarmed ∧ (getMon p src).armed = true ∧ monitorRuns p src = true ∧ (getMon p src).lastAt + 10000000 ≤ p.now
      (quiet → Does (.tamperRearm t src) s { p with ao := { p.ao with alarmed := p.ao.alarmed.filter (fun x => x != src) } }) ∧
      (¬ quiet → Does (.tamperRearm t src) s p)) ∧
    (∀ pass, (activeCheck p = true ∨ p.now < p.enc.slowAt) → Does (.slowCheck t pass) s p) ∧
    (activeCheck p = false → p.enc.slowAt ≤ p.now →
      let q := { p with enc := { p.enc with slowAt := p.now + 4000000 } }
      Does (.slowCheck t true) s (slowPass q) ∧
      Does (.slowCheck t false) s (let e := tamperEvent 1 q; { e with enc := { e.enc with confirm := if (tamperRule q 1).n ≤ 1 then none else some 1, confirmAt := p.now + 50 } })) ∧
    (p.enc.confirm = none → ∀ pass, Does (.slowCheckConfirm t pass) s p) ∧
    (∀ k, p.enc.confirm = some k →
      let q := { p with enc := { p.enc with confirm := none } }
      (activeCheck p = true → ∀ pass, Does (.slowCheckConfirm t pass) s q) ∧
      (activeCheck p = false → p.now < p.enc.confirmAt → ∀ pass, Does (.slowCheckConfirm t pass) s p) ∧
      (activeCheck p = false → p.enc.confirmAt ≤ p.now → Does (.slowCheckConfirm t true) s (slowPass q)) ∧
      (activeCheck p = false → p.enc.confirmAt ≤ p.now → Does (.slowCheckConfirm t false) s
        (let e := tamperEvent 1 p; { e with enc := { e.enc with confirm := if (tamperRule p 1).n ≤ k + 1 then none else some (k + 1), confirmAt := p.now + 50 } }))) ∧
    (∀ line, activeCheck p = false → Does (.tamperLogWrite t line) s p) ∧
    (activeCheck p = true → Does (.tamperLogWrite t 0) s (writePending p) ∧ Does (.tamperLogWrite t 1) s p ∧ Does (.tamperLogWrite t 2) s (poisonLine p)) ∧
    (p.ao.tamperPending = [] → writePending p = p) ∧
    (∀ r l, p.ao.tamperPending = r :: l →
      let q := { p with ao := { p.ao with tamperPending := l } }
      (1023 ≤ p.enc.log.length → writePending p = { q with enc := { q.enc with overflow := modAt (fun x => satAdd 0xFFFF x r.count) (r.source - 1) q.enc.overflow } }) ∧
      (p.enc.log.length < 1023 → writePending p = fillLog (appendEntry { life := r.life, utc := r.utc, source := r.source, kind := r.kind, rtcSet := r.rtcSet, count := r.count } q)))

/-- R348 to R369, R428, R429, R594: a message arrives as a catalogued kind of the class in force, with the island its source reports and a detail only where its kind has one, at once or held while that island is stopped; the quiet period ends; the head of the queue is taken into the fault history; a Recoverable one is acknowledged or times out; a missed handshake is Grave; a crossing that takes more than four times its bound is reported with both its islands. What is the model's own reading or choice in it: logs 54, 70, 78. -/
def Obligations.ConfluenceEvents : Prop :=
  ∀ (s : State) (t : Nat),
    let p := advance t s
    let sent := fun (src kind island detail : Nat) =>
      if islandRuns p island = true then issueAt src kind island detail p
      else { p with fab := { p.fab with held := p.fab.held ++ [{ source := src, kind := kind, island := island, detail := detail }] } }
    let told := fun (src kind island detail : Nat) =>
      sent src kind (if src = 0x08 then island else if src = 0x12 then (if island = 0x0C then 0x0C else 0x0B) else islandOf p src kind)
        (if src = 0x04 ∨ src = 0x05 ∨ (src = 0x7F ∧ kind = 0x03) then detail else if src = 0x20 then detail % 1024 else if src = 0x08 then detail % 65536 else 0)
    (∀ src kind island detail, (catalogue src kind).isSome = true →
      (classOf p src kind = .notice → Does (.noticeArrival t src kind island detail) s (told src kind island detail)) ∧
      (classOf p src kind = .recoverable → Does (.recoverableArrival t src kind island detail) s (told src kind island detail)) ∧
      (classOf p src kind = .severe → Does (.severeArrival t src kind island detail) s (told src kind island detail)) ∧
      (classOf p src kind = .grave → Does (.graveArrival t src kind island detail) s (told src kind island detail))) ∧
    (∀ src kind island detail,
      ((catalogue src kind = none ∨ classOf p src kind ≠ .notice) → Does (.noticeArrival t src kind island detail) s p) ∧
      ((catalogue src kind = none ∨ classOf p src kind ≠ .recoverable) → Does (.recoverableArrival t src kind island detail) s p) ∧
      ((catalogue src kind = none ∨ classOf p src kind ≠ .severe) → Does (.severeArrival t src kind island detail) s p) ∧
      ((catalogue src kind = none ∨ classOf p src kind ≠ .grave) → Does (.graveArrival t src kind island detail) s p)) ∧
    (∀ k, p.ao.severeAt = some k →
      (k + (tw p).confluence.quiet * 10000 ≤ p.now → Does (.quietPeriodEnd t) s (applyDrives { p with ao := { p.ao with severeAt := none } })) ∧
      (p.now < k + (tw p).confluence.quiet * 10000 → Does (.quietPeriodEnd t) s p)) ∧
    (p.ao.severeAt = none → Does (.quietPeriodEnd t) s p) ∧
    ((isOn p .svc = false ∨ p.core.halted = true ∨ (p.boot.runs ≠ 1 ∧ p.boot.runs ≠ 2)) → Does (.faultHistoryTake t) s p) ∧
    (isOn p .svc = true → p.core.halted = false → (p.boot.runs = 1 ∨ p.boot.runs = 2) →
      (p.fab.queue = [] → Does (.faultHistoryTake t) s p) ∧
      (∀ e, p.fab.queue = [e] →
        let q := { p with fab := { p.fab with queue := [], history := ({ msg := e.msg, stamp := e.stamp } :: p.fab.history).take 80,
                                              taken := if e.unacked = true ∧ p.boot.runs ≠ 2 then p.fab.taken ++ [e] else p.fab.taken } }
        (e.msg.cls = .notice → Does (.faultHistoryTake t) s (logNotice e.msg q)) ∧
        (e.msg.cls = .recoverable → Does (.faultHistoryTake t) s (logWrite e.msg 0 q)) ∧
        ((e.msg.cls = .severe ∨ e.msg.cls = .grave) → Does (.faultHistoryTake t) s (raiseRill e.msg e.stamp (logWrite e.msg 0 q)))) ∧
      Does (.faultHistoryTake t) s ((List.range p.fab.queue.length).foldl (fun acc _ => takeMessage acc) p)) ∧
    (smisaRuns p = true → Does (.recoverableAck t) s { p with fab := { p.fab with taken := p.fab.taken.drop 1 } }) ∧
    (smisaRuns p = false → Does (.recoverableAck t) s p) ∧
    (let late := fun (e : QEntry) => e.unacked && decide (e.ackAt ≤ p.now)
     let some' := isOn p .svc = true ∧ (p.fab.queue.any late = true ∨ p.fab.taken.any late = true)
     (some' → Does (.ackTimeout t) s (issue 0x7F 0x02 0 { p with fab := { p.fab with queue := p.fab.queue.map (fun e => if late e then { e with unacked := false } else e), taken := p.fab.taken.filter (fun e => !late e) } })) ∧
     (¬ some' → Does (.ackTimeout t) s p)) ∧
    (let m : Rill := { source := 0x7F, kind := 0x01, cls := .grave, island := if p.ao.onAorc then 1 else 0 }
     let k := keepCopy m 0xFFFFFFFF p
     (p.ao.grave.isSome = true → Does (.collectorHandshakeMiss t) s k) ∧
     (p.ao.grave = none →
       let h := takeHold k (fun _ => true);
       Does (.collectorHandshakeMiss t) s (callReset (.dom .svc) (applyDrives (hapticOff (failsafeStop
         { h with ao := { h.ao with grave := some { msg := m, stamp := 0xFFFFFFFF, life := h.ao.life, rtc := utcStamp h, rtcSet := h.ao.rtcSet } }, core := { h.core with halted := true } })))))) ∧
    (∀ near far ns, near < 256 → far < 256 →
      let late := near ≠ far ∧ 4 * crossingBound near far < ns
      (late → Does (.bridgeTimeout t near far ns) s (sent 0x08 0x01 near (far * 256 + near))) ∧
      (¬ late → Does (.bridgeTimeout t near far ns) s p))

/-- R356, R357, R369: the queue of 64: below 56 general entries a message goes to its end, before those of the same microsecond from higher sources. A full one drops the oldest Notice for any message; with none queued a Notice is dropped itself, and a Recoverable message takes the place of the newest Recoverable one, or is dropped where there is none. A Severe or Grave message has eight entries of its own; past them it takes the entry of the oldest Notice or Recoverable message, and no Severe or Grave message gives way to another. -/
def Obligations.QueueKeepsTheHigherClasses : Prop :=
  ∀ (e : QEntry) (q : List QEntry),
    let n := enqueue e q
    let has := fun (c : Cls) => ∃ x, x ∈ q ∧ x.msg.cls = c
    let inPlaceOf := fun (c : Cls) (a b : List QEntry) (x : QEntry) => q = a ++ x :: b ∧ x.msg.cls = c
    let oldest := fun (c : Cls) (own : Bool) => ∃ a x b, inPlaceOf c a b x ∧ (∀ y ∈ a, y.msg.cls ≠ c) ∧ n.1 = place (if own then { e with reserved := x.reserved } else e) (a ++ b)
    let newest := fun (c : Cls) => ∃ a x b, inPlaceOf c a b x ∧ (∀ y ∈ b, y.msg.cls ≠ c) ∧ n.1 = place e (a ++ b)
    let before := fun (x : QEntry) => x.at_ = e.at_ ∧ e.msg.source < x.msg.source
    ((∀ x ∈ q, ¬ before x) → place e q = q ++ [e]) ∧
    (∀ a x b, q = a ++ x :: b → (∀ y ∈ a, ¬ before y) → before x → place e q = a ++ e :: x :: b) ∧
    (generalUsed q < 56 → n = (place e q, false, false)) ∧
    (56 ≤ generalUsed q → e.msg.cls = .notice → n.2 = (true, false) ∧ (¬ has .notice → n.1 = q) ∧ (has .notice → oldest .notice false)) ∧
    (56 ≤ generalUsed q → e.msg.cls = .recoverable →
      (has .notice → n.2 = (true, false) ∧ oldest .notice false) ∧
      (¬ has .notice → n.2 = (false, true)) ∧ (¬ has .notice → has .recoverable → newest .recoverable) ∧ (¬ has .notice → ¬ has .recoverable → n.1 = q)) ∧
    (56 ≤ generalUsed q → (e.msg.cls = .severe ∨ e.msg.cls = .grave) →
      (q.length < 64 → n = (place { e with reserved := true } q, false, false)) ∧
      (64 ≤ q.length → has .notice → n.2 = (true, false) ∧ oldest .notice true) ∧
      (64 ≤ q.length → ¬ has .notice → has .recoverable → n.2 = (false, false) ∧ oldest .recoverable true) ∧
      (64 ≤ q.length → ¬ has .notice → ¬ has .recoverable → n = (q, false, true))) ∧
    (∀ c, c ≠ Cls.notice → c ≠ Cls.recoverable → q.countP (fun x => x.msg.cls == c) ≤ n.1.countP (fun x => x.msg.cls == c)) ∧
    (56 ≤ generalUsed q → q.length ≤ 64 → n.1.length ≤ 64)

/-- R30, R371, R376, R379 to R382, R388, R534, R535: an outside interrupt becomes pending while SVC is ON and is accepted above IPL at a window boundary, once the windows before it have been compared, saving the next instruction's pc and the PSR and going to its vector. The comparison of the oldest closed window releases its stores, replays it once, or stops the core; the window of a task of Smisa that runs in lockstep is replayed once, or stops the core, as well. What is the model's own reading or choice in it: logs 53, 54, 136, 143. -/
def Obligations.InterruptsAndComparisons : Prop :=
  ∀ (s : State) (t : Nat),
    let p := advance t s
    let counted := fun (again : Bool) (tdx : Tdx) (r : Regs) =>
      if again = true then issue 0x02 0x01 0 { p with core := { p.core with tdx := tdx, r := r }, ao := { p.ao with tdxReplays := satInc 0xFFFF p.ao.tdxReplays } }
      else issue 0x02 0x02 0 { p with core := { p.core with tdx := tdx, r := r }, ao := { p.ao with tdxSecond := satInc 0xFFFF p.ao.tdxSecond } }
    (∀ n level, (isOn p .svc = false ∨ 128 ≤ n) → Does (.interrupt t n level) s p) ∧
    (∀ n level, n < 128 → isOn p .svc = true →
      let q := { p with core := { p.core with levels := setAt n (level % 16) p.core.levels, pend := if n ∈ p.core.pend then p.core.pend else p.core.pend ++ [n] } }
      (bestPending q = none → Does (.interrupt t n level) s q) ∧
      (∀ m l, bestPending q = some (m, l) →
        let free := p.core.r.psr.ie = true ∧ p.core.r.psr.tw = false ∧ p.core.r.psr.ipl < l ∧ p.core.halted = false ∧ p.core.tdx.stopped = false ∧ p.core.tdx.replay = false
        (¬ free → Does (.interrupt t n level) s { q with core := { q.core with wfi := false } }) ∧
        (free →
          let c := closeWindow { q with core := { q.core with wfi := false } };
          let w := (slideIn c.core.r.pc c).getD c;
          (mustWait c = true → Does (.interrupt t n level) s c) ∧
          (mustWait c = false → Does (.interrupt t n level) s (modRegs (fun r => { r with psr := { r.psr with u := false, ie := false, ipl := l }, pc := q.core.vbr + BitVec.ofNat 32 (4 * (64 + m)) })
            { w with core := { w.core with pend := q.core.pend.filter (· != m), epc := c.core.r.pc, epsr := c.core.r.psr } }))))) ∧
    (∀ upset addr, p.core.tdx.closed = [] → Does (.tdxWindowCompare t none upset addr) s p) ∧
    (∀ w rest upset addr, p.core.tdx.closed = w :: rest →
      let agree := w.misr = w.shadow ^^^ upset ∧ w.bad = false ∧ addr = false
      let released := releaseStores w.held { p with core := { p.core with tdx := { p.core.tdx with closed := rest, replay := false, passed := if w.access then some w.check.pc else p.core.tdx.passed } } }
      let emptied : Tdx := { p.core.tdx with buffer := [], closed := [], open_ := false, count := 0, misr := 0, shadow := 0, bad := false, check := none, passed := none }
      (agree → released.core.pend = [] → Does (.tdxWindowCompare t none upset addr) s (reschedule released)) ∧
      (agree → released.core.pend ≠ [] → Does (.tdxWindowCompare t none upset addr) s (acceptInterrupt released)) ∧
      (¬ agree → p.core.tdx.replay = false → Does (.tdxWindowCompare t none upset addr) s (counted true { emptied with replay := true, replayLen := w.count } w.check)) ∧
      (¬ agree → p.core.tdx.replay = true → Does (.tdxWindowCompare t none upset addr) s (counted false { emptied with replay := false, stopped := true } p.core.r))) ∧
    (∀ (task : SmisaTask) upset addr,
      let agree := upset = (0 : Word) ∧ addr = false
      ((smisaRuns p = false ∨ task = .other) → Does (.tdxWindowCompare t (some task) upset addr) s p) ∧
      (smisaRuns p = true → task ≠ .other →
        (agree → p.core.tdx.smisa = some task → Does (.tdxWindowCompare t (some task) upset addr) s { p with core := { p.core with tdx := { p.core.tdx with smisa := none } } }) ∧
        (agree → p.core.tdx.smisa ≠ some task → Does (.tdxWindowCompare t (some task) upset addr) s p) ∧
        (¬ agree → p.core.tdx.smisa ≠ some task → Does (.tdxWindowCompare t (some task) upset addr) s (counted true { p.core.tdx with smisa := some task } p.core.r)) ∧
        (¬ agree → p.core.tdx.smisa = some task → Does (.tdxWindowCompare t (some task) upset addr) s (counted false { p.core.tdx with smisa := none, stopped := true } p.core.r))))

/-- A step takes the command at the front of the queue and carries it out on the rest; every command answers a next state in every state; no word of the table spells a command. On an empty queue the block idles: the model's own choice (log 1). -/
def Obligations.StepTakesFront : Prop :=
  (∀ (c : Instr) (l : List Instr) (s : State), step { s with pending := c :: l } = exec c { s with pending := l }) ∧
  (∀ (c : Instr) (s : State), ∃ t, exec c s = .next t) ∧
  (∀ s : State, s.pending = [] → step s = .next s) ∧
  (∀ s : State, GoesOn s) ∧
  (∀ (s : State) (n w : Nat), s.withFetchWord n w = s)

/-- R528, R530, R538: a few HX32 words written out field by field, and the instruction each one is. A word whose unused field is not zero is no instruction of the decoder: the model's own choice for fields the rules call unused (log 42). -/
def Obligations.Hx32Words : Prop :=
  hx32Decode 0b000001_00001_00010_1111111111111111#32 = some (.addi 1 2 0xFFFF) ∧
  hx32Decode 0b000101_00011_11000_0001001000110100#32 = some (.lui 3 0x1234) ∧
  hx32Decode 0b000000_00101_00110_00111_00000_000001#32 = some (.sub 5 6 7) ∧
  hx32Decode 0b001000_01000_01001_01010_00000_000100#32 = some (.divu 8 9 10) ∧
  hx32Decode 0b010000_11000_00001_0000000000001000#32 = some (.lw 24 1 8) ∧
  hx32Decode 0b011010_00100_11001_1000000000000000#32 = some (.sb 4 25 0x8000) ∧
  hx32Decode 0b100000_00001_00010_0000000000000011#32 = some (.beq 1 2 3) ∧
  hx32Decode 0b101010_00001_00000_100001_1000000001#32 = some (.blti 1 0x21 0x201) ∧
  hx32Decode 0b110010_00000000000000000000000101#32 = some (.callw 5) ∧
  hx32Decode 0b110011_00000_00000_00000_00000_000100#32 = some .retw ∧
  hx32Decode 0b111000_00000_00000_0000000000110011#32 = some (.sysc 0x33) ∧
  hx32Decode 0b111001_00000_00000_00000_00000_000000#32 = some .tret ∧
  hx32Decode 0b111010_00111_00000_0000000000110000#32 = some (.csrr 7 0x30) ∧
  hx32Decode 0b111100_00001_00010_00011_00000_011001#32 = some (.vmovv 1 2 3) ∧
  hx32Decode 0b111111_00000_00110_00000_00000_000000#32 = some (.cxvDma 6) ∧
  hx32Decode 0#32 = some (.add 0 0 0) ∧
  hx32Decode 0b000110_00000_00000_0000000000000000#32 = none ∧
  hx32Decode 0b000000_00000_00000_00000_00001_000000#32 = none

/-- R528, R530, R538: decode and encode agree for every HX32 instruction, with every field at every value its width admits: the word of an instruction decodes to it, and a word that decodes is the word of what it decodes to, so no two instructions share a word. -/
def Obligations.Hx32DecodeAndEncodeAgree : Prop :=
  (∀ i : Hx32, hx32Decode (hx32Encode i) = some i) ∧
  (∀ (w : Word) (i : Hx32), hx32Decode w = some i → hx32Encode i = w) ∧
  (∀ i j : Hx32, hx32Encode i = hx32Encode j → i = j)

/-- The invariant of both byte memories, kept by every step: the cells of the core's memory and of the external flash stay in canonical form, whatever command is executed and whatever follows it. -/
def Obligations.EveryStepKeepsTheMemoriesCanonical : Prop :=
  ∀ s t : State, MemoryWf s → step s = .next t → MemoryWf t

/-- R23, R41, R144, R398, R442, R444: the machine as it stands while POR is asserted: both memories list nothing, no command waits, the host window at its reset values, every domain OFF, every channel OFF under its default owner, the mode PARKED, and nothing of AO in force. What is the model's own reading or choice in it: log 3. -/
def Obligations.ResetState : Prop :=
  let s := State.reset
  MemoryWf s ∧ s.core.mem = [] ∧ s.boot.flash = [] ∧ s.pending = [] ∧
  s.win.ready = false ∧ s.win.rescue = false ∧ s.win.irq = 0x20 ∧ s.win.irqEn = 0x27 ∧ s.win.errCode = 0 ∧ s.win.errCount = 0 ∧ s.win.scratch = 0 ∧
  (∀ d, domSt s d = .off) ∧ s.outs.chans.length = 56 ∧ (∀ c ∈ s.outs.chans, c.drive.mode = 0 ∧ c.req.mode = 0 ∧ c.own.owner = .dflt ∧ c.retryAt = none ∧ c.latched = false) ∧
  s.outs.control = false ∧ s.mode.mode = .parked ∧ s.ao.grave = none ∧ s.ao.severeAt = none ∧ s.ao.sticky = 0 ∧ s.ao.alarmed = [] ∧ s.ao.tamperPending = [] ∧
  s.ao.rtcSet = false ∧ s.ao.epoch = none ∧ s.ao.history = [] ∧ s.fab.queue = [] ∧ s.mbx.sessions = [] ∧ s.tag.sess = none ∧ s.tag.txn = none ∧ s.boot.runs = 0

/-- R307, R312, R434, R440, R442, R450, R506: what a device reset keeps and what it clears, item by item: AO by the column of its cause, the enclave's NVM, the tag's records, the banks and the journal kept, but for a key update, a floor raise, an NVM operation or a copy that the reset cuts; the fabric, the sessions, the host window, the output drives, latch-offs and claims, the station states, the CXV state and the insert session gone. What is the model's own reading or choice in it: logs 47, 109, 140, 141. -/
def Obligations.DeviceResetKeepsAndClears : Prop :=
  ∀ (c : Cause) (s : State),
    let q := deviceReset c s
    let strong := c = .por
    let weak := c = .por ∨ c = .bor ∨ c = .lpbo
    q.ao.rtc = s.ao.rtc ∧ q.ao.rtcSet = s.ao.rtcSet ∧ q.ao.life = s.ao.life ∧ q.ao.sticky = s.ao.sticky ∧ q.ao.alarmed = s.ao.alarmed ∧ q.ao.tamperPending = s.ao.tamperPending ∧
    q.ao.epoch = s.ao.epoch ∧
    (strong → q.ao.refusals = List.replicate 9 0 ∧ q.ao.grave = none ∧ q.ao.recovery = [] ∧ q.ao.severeStarts = [] ∧ q.ao.aborts = [] ∧ q.ao.rillCopies = []) ∧
    (¬ strong → q.ao.refusals = s.ao.refusals ∧ q.ao.grave = s.ao.grave ∧ q.ao.recovery = s.ao.recovery ∧ q.ao.severeStarts = s.ao.severeStarts ∧ q.ao.aborts = s.ao.aborts ∧ q.ao.rillCopies = s.ao.rillCopies) ∧
    (weak → q.ao.severeAt = none ∧ q.ao.tdxReplays = 0 ∧ q.ao.tdxSecond = 0) ∧
    (¬ weak → q.ao.severeAt = s.ao.severeAt ∧ q.ao.tdxReplays = s.ao.tdxReplays ∧ q.ao.tdxSecond = s.ao.tdxSecond) ∧
    q.ao.history = ((causeCode c, s.ao.life) :: s.ao.history).take 8 ∧
    q.fab.queue = [] ∧ q.fab.dropped = 0 ∧ q.mbx.sessions = [] ∧ q.win = {} ∧ q.core.mem = [] ∧ q.core.r.cxv = {} ∧ q.tag.sess = none ∧
    (∀ x ∈ q.outs.chans, x.drive.mode = 0 ∧ x.own.owner = .dflt ∧ x.latched = false ∧ x.oc = false ∧ x.thermal = false) ∧ q.outs.claims = [] ∧
    (∀ x ∈ q.mill.stn, x.st = .absent) ∧ (∀ x ∈ q.scan.sw, x.closed = false) ∧
    q.enc.log = s.enc.log ∧ q.enc.overflow = s.enc.overflow ∧ q.tag.log = s.tag.log ∧
    (let r := copyCut (nvmCut (c = .por ∨ c = .bor ∨ c = .lpbo) (keysCut s));
     q.enc.slots = r.enc.slots ∧ q.enc.counters = r.enc.counters ∧ q.nvm.journal = r.nvm.journal ∧ q.boot.sel = r.boot.sel ∧ q.boot.bankA = r.boot.bankA ∧ q.boot.bankB = r.boot.bankB) ∧
    (s.enc.updating = [] → q.enc.slots = s.enc.slots) ∧ (s.enc.raising = [] → q.enc.counters = s.enc.counters) ∧ (s.nvm.ops = [] → q.nvm.journal = s.nvm.journal) ∧
    (s.boot.copy = none → q.boot.sel = s.boot.sel ∧ q.boot.bankA = s.boot.bankA ∧ q.boot.bankB = s.boot.bankB) ∧
    q.enc.updating = [] ∧ q.enc.raising = [] ∧ q.nvm.ops = [] ∧ q.nvm.commit = none ∧ q.nvm.staging = none ∧ q.boot.copy = none ∧
    q.boot.flash = s.boot.flash ∧ q.otp = s.otp ∧ q.pending = s.pending
end

