-- ==== Sys2Proof/Laws/Shadow.lean ====
section
/-! SUPPORT. The transform table of R373, said once: without a fault the shadow finds what the primary found (13_tdx.md). -/

namespace Sys2Proof.Laws
open Sys2Proof Sys2Proof.Machine

@[simp] theorem shData_eq {w : Nat} (a : BitVec w) : shData a = a := by simp [shData]

@[simp] theorem shAdd_eq {w : Nat} (a b : BitVec w) : shAdd a b = a + b := by
  unfold shAdd
  have h (x : BitVec w) : ~~~x = -x - 1 := by simpa using BitVec.not_eq_neg_add x
  rw [h, h a, h b]; ring

@[simp] theorem shSub_eq {w : Nat} (a b : BitVec w) : shSub a b = a - b := by
  unfold shSub; rw [BitVec.not_eq_neg_add, BitVec.not_eq_neg_add]; ring

@[simp] theorem shAnd_eq {w : Nat} (a b : BitVec w) : shAnd a b = a &&& b := by ext i; simp [shAnd]

@[simp] theorem shOr_eq {w : Nat} (a b : BitVec w) : shOr a b = a ||| b := by ext i; simp [shOr]

@[simp] theorem shXor_eq {w : Nat} (a b : BitVec w) : shXor a b = a ^^^ b := by ext i; simp [shXor]

@[simp] theorem shSll_eq {w : Nat} (a : BitVec w) (n : Nat) : shSll a n = a <<< n := by
  ext i h; simp [shSll]; by_cases q : i < n <;> simp [q]

@[simp] theorem shSrl_eq {w : Nat} (a : BitVec w) (n : Nat) : shSrl a n = a >>> n := by
  ext i h; simp [shSrl]; by_cases q : n + i < w
  · simp [q]
  · simp [q, BitVec.getLsbD_of_ge a (n + i) (by omega)]

@[simp] theorem shSra_eq {w : Nat} (a : BitVec w) (n : Nat) : shSra a n = a.sshiftRight n := by
  ext i h; simp [shSra, BitVec.getElem_sshiftRight]

@[simp] theorem shRor_eq {w : Nat} (a : BitVec w) (n : Nat) : shRor a n = a.rotateRight n := by
  ext i h; simp [shRor, BitVec.getElem_rotateRight]; split <;> simp

@[simp] theorem shMul_eq {w : Nat} (a b : BitVec w) : shMul a b = a * b := by unfold shMul; ring

@[simp] theorem shEq_eq {w : Nat} (a b : BitVec w) : shEq a b = (a == b) := by
  unfold shEq; rw [Bool.eq_iff_iff]; simp

@[simp] theorem shUlt_eq {w : Nat} (a b : BitVec w) : shUlt a b = a.ult b := by
  unfold shUlt BitVec.ult; rw [BitVec.toNat_not, BitVec.toNat_not]
  have := a.isLt; have := b.isLt; rw [decide_eq_decide]; omega

@[simp] theorem shSlt_eq {w : Nat} (a b : BitVec w) : shSlt a b = a.slt b := by
  unfold shSlt; rw [BitVec.slt_eq_ult, BitVec.slt_eq_ult, show (~~~b).ult (~~~a) = a.ult b from shUlt_eq a b]
  by_cases h : 0 < w
  · simp [BitVec.msb_not, h]; cases a.msb <;> cases b.msb <;> cases a.ult b <;> rfl
  · have : w = 0 := by omega
    subst this; simp [BitVec.msb_not, Subsingleton.elim a b]

end Sys2Proof.Laws
end

