-- ==== Sys2Proof/Laws/Core.lean ====
section
/-! SUPPORT. The HX32 core's shared operations, said once: what an instruction that executes does, from what its operation answers (18_core.md). -/

namespace Sys2Proof.Laws
open Sys2Proof Sys2Proof.Machine Sys2Proof.Safety

/-- A window opened changes the TDX unit alone. -/
theorem openWindow_frame (s : State) : openWindow s = { s with core := { s.core with tdx := (openWindow s).core.tdx } } := by
  unfold openWindow; split <;> rfl

/-- A window closed changes the TDX unit alone. -/
theorem closeWindow_frame (s : State) : closeWindow s = { s with core := { s.core with tdx := (closeWindow s).core.tdx } } := by
  unfold closeWindow; dsimp only; split
  · rfl
  · split <;> rfl

@[simp] theorem openWindow_r (s : State) : (openWindow s).core.r = s.core.r := by rw [openWindow_frame]
@[simp] theorem openWindow_mpu (s : State) : (openWindow s).core.mpu = s.core.mpu := by rw [openWindow_frame]
@[simp] theorem closeWindow_r (s : State) : (closeWindow s).core.r = s.core.r := by rw [closeWindow_frame]
@[simp] theorem closeWindow_epc (s : State) : (closeWindow s).core.epc = s.core.epc := by rw [closeWindow_frame]
@[simp] theorem closeWindow_epsr (s : State) : (closeWindow s).core.epsr = s.core.epsr := by rw [closeWindow_frame]
@[simp] theorem closeWindow_pend (s : State) : (closeWindow s).core.pend = s.core.pend := by rw [closeWindow_frame]
@[simp] theorem closeWindow_cycle (s : State) : (closeWindow s).core.cycle = s.core.cycle := by rw [closeWindow_frame]
@[simp] theorem closeWindow_mem (s : State) : (closeWindow s).core.mem = s.core.mem := by rw [closeWindow_frame]
@[simp] theorem closeWindow_dma (s : State) : (closeWindow s).core.dma = s.core.dma := by rw [closeWindow_frame]
@[simp] theorem atInstr_r (s : State) : (atInstr s).core.r = s.core.r := by simp [atInstr, counted]
@[simp] theorem atInstr_epc (s : State) : (atInstr s).core.epc = s.core.epc := by unfold atInstr; rw [openWindow_frame]; rfl
@[simp] theorem atInstr_epsr (s : State) : (atInstr s).core.epsr = s.core.epsr := by unfold atInstr; rw [openWindow_frame]; rfl
@[simp] theorem atInstr_pend (s : State) : (atInstr s).core.pend = s.core.pend := by unfold atInstr; rw [openWindow_frame]; rfl
@[simp] theorem atInstr_dma (s : State) : (atInstr s).core.dma = s.core.dma := by unfold atInstr; rw [openWindow_frame]; rfl
@[simp] theorem counted_r (s : State) : (counted s).core.r = s.core.r := rfl

/-- With no window open, closing one changes nothing. -/
theorem closeWindow_shut {s : State} (h : s.core.tdx.open_ = false) : closeWindow s = s := by
  unfold closeWindow; simp [h]

/-- After a window is closed none is open, so the instruction is not folded (R376, R377). -/
theorem closeWindow_open (s : State) : (closeWindow s).core.tdx.open_ = false := by
  unfold closeWindow; dsimp only; split
  · rfl
  · split
    · rfl
    · simpa using ‹¬ s.core.tdx.open_ = true›

/-- An open window stays as it is. -/
@[simp] theorem openWindow_again (s : State) : openWindow (openWindow s) = openWindow s := by
  unfold openWindow; split
  · simp
  · rfl

/-- With no window open, an instruction folds nothing (R376). -/
theorem foldPair_shut {s : State} (h : s.core.tdx.open_ = false) (res ea v w : Word) : foldPair res ea v w s = s := by
  unfold foldPair; simp [h]

/-- With no window open, an instruction folds nothing (R376). -/
theorem foldWindow_shut {s : State} (h : s.core.tdx.open_ = false) (v ea : Word) : foldWindow v ea s = s := foldPair_shut h ..

/-- What an instruction that executes does, from its operation's answer: its effect, folded with what its shadow finds into an open window (R373, R376, R533). -/
theorem coreWith_ok {s : State} (h : Fetches s) {g : State → Word → Word → Word × Word} {f : State → CoreRes} {s1 : State} {res ea : Word}
    (e : f (atInstr s) = .ok (s1, res, ea)) : coreWith g f s = foldPair res ea (g (atInstr s) res ea).1 (g (atInstr s) res ea).2 s1 := by
  obtain ⟨h1, h2⟩ := h
  unfold coreWith
  rw [if_pos h1]
  have h3 : mpuOk (counted s).core (counted s).core.r.psr.u 0 (counted s).core.r.pc.toNat = true := h2
  change (if mpuOk (counted s).core (counted s).core.r.psr.u 0 (counted s).core.r.pc.toNat = true then
    (match f (openWindow (counted s)) with | .ok (s1, res, ea) => foldPair res ea (g (atInstr s) res ea).1 (g (atInstr s) res ea).2 s1 | .error (c, a) => trapStep c a (counted s)) else _) = _
  rw [if_pos h3, show f (openWindow (counted s)) = _ from e]

/-- The trap of an instruction whose operation answers an error (R379, R533). -/
theorem coreWith_trap {s : State} (h : Fetches s) {g : State → Word → Word → Word × Word} {f : State → CoreRes} {c : Nat} {a : Word}
    (e : f (atInstr s) = .error (c, a)) : coreWith g f s = trapStep c a (counted s) := by
  obtain ⟨h1, h2⟩ := h
  unfold coreWith
  rw [if_pos h1]
  have h3 : mpuOk (counted s).core (counted s).core.r.psr.u 0 (counted s).core.r.pc.toNat = true := h2
  change (if mpuOk (counted s).core (counted s).core.r.psr.u 0 (counted s).core.r.pc.toNat = true then
    (match f (openWindow (counted s)) with | .ok (s1, res, ea) => foldPair res ea (g (atInstr s) res ea).1 (g (atInstr s) res ea).2 s1 | .error (c, a) => trapStep c a (counted s)) else _) = _
  rw [if_pos h3, show f (openWindow (counted s)) = _ from e]

/-- An instruction whose shadow repeats it, from its operation's answer. -/
theorem coreStep_ok {s : State} (h : Fetches s) {f : State → CoreRes} {s1 : State} {res ea : Word}
    (e : f (atInstr s) = .ok (s1, res, ea)) : coreStep f s = foldWindow res ea s1 := coreWith_ok h e

/-- The trap of such an instruction. -/
theorem coreStep_trap {s : State} (h : Fetches s) {f : State → CoreRes} {c : Nat} {a : Word}
    (e : f (atInstr s) = .error (c, a)) : coreStep f s = trapStep c a (counted s) := coreWith_trap h e

/-- With every window before it matched, an instruction that waits for that goes on with the running window closed (R377, R379). -/
theorem serial_compared {s : State} (h : Compared s) (k : State → CoreRes) : serial k (atInstr s) = k (closeWindow (atInstr s)) := by
  unfold serial mustWait
  by_cases q : s.core.r.psr.tdx = true
  · simp [h q]
  · simp [q]

/-- With every window before it matched, a trap is taken at once (R379). -/
theorem trapStep_compared {s : State} (h : s.core.r.psr.tdx = true → (closeWindow s).core.tdx.closed = []) (c : Nat) (a : Word) : trapStep c a s = trap c a s := by
  unfold trapStep mustWait
  by_cases q : s.core.r.psr.tdx = true
  · simp [h q]
  · simp [q]

/-- A core that does not run, or fetches nothing, is left as it is by every instruction. -/
theorem coreWith_idle {s : State} (h : canRun s = false) (g : State → Word → Word → Word × Word) (f : State → CoreRes) : coreWith g f s = s := by
  unfold coreWith; simp [h]

/-- A register write keeps the pc and the processor state: only the named register changes (R519). -/
theorem writeReg_frame (r : Regs) (f : BitVec 5) (v : Word) :
    writeReg r f v = { r with k := (writeReg r f v).k, ring := (writeReg r f v).ring, lk := (writeReg r f v).lk } := by
  unfold writeReg; dsimp only; split
  · rfl
  · split
    · rfl
    · split <;> rfl

@[simp] theorem writeReg_pc (r : Regs) (f : BitVec 5) (v : Word) : (writeReg r f v).pc = r.pc := by rw [writeReg_frame]

/-- A register write and the next pc, as one change of the registers. -/
theorem nextPc_writeReg (s : State) (rd : BitVec 5) (v : Word) :
    nextPc (modRegs (fun r => writeReg r rd v) s) = { s with core := { s.core with r := rdAndNext s.core.r rd v } } := by
  simp [nextPc, modRegs, rdAndNext]

/-- A register result with every field legal (R519, R530). -/
theorem alu_ok {rd : BitVec 5} {srcs : List (BitVec 5)} (f : Regs → Word) (s : State) (h1 : regOk rd = true) (h2 : srcs.all regOk = true) :
    alu rd srcs f s = .ok ({ s with core := { s.core with r := rdAndNext s.core.r rd (f s.core.r) } }, f s.core.r, 0) := by
  simp only [alu, h1, h2, Bool.and_self, if_true, nextPc_writeReg]

/-- A register result with an illegal field (R519). -/
theorem alu_illegal {rd : BitVec 5} {srcs : List (BitVec 5)} (f : Regs → Word) (s : State) (h : (regOk rd && srcs.all regOk) = false) :
    alu rd srcs f s = .error (0x01, 0) := by
  simp [alu, h]

/-- The whole effect of a register result on the core. -/
theorem core_alu {s : State} (h : Fetches s) {rd : BitVec 5} {srcs : List (BitVec 5)} (f : Regs → Word) (h1 : regOk rd = true) (h2 : srcs.all regOk = true) :
    coreStep (alu rd srcs f) s = retired (rdAndNext s.core.r rd (f s.core.r)) (f s.core.r) 0 (atInstr s) := by
  rw [coreStep_ok h (alu_ok f _ h1 h2), atInstr_r]; rfl

/-- A register result whose shadow finds the same by its transform (R373). -/
theorem coreAlu_same {rd : BitVec 5} {srcs : List (BitVec 5)} {f g : Regs → Word} (s : State) (h1 : regOk rd = true) (h2 : srcs.all regOk = true)
    (h : ∀ r, g r = f r) : coreAlu rd srcs f g s = coreStep (alu rd srcs f) s := by
  unfold coreAlu coreStep coreWith
  simp only [alu_ok f _ h1 h2, h]

/-- The whole effect of a register result with a transform on the core. -/
theorem core_alu_transformed {s : State} (hf : Fetches s) {rd : BitVec 5} {srcs : List (BitVec 5)} (f g : Regs → Word) (h1 : regOk rd = true) (h2 : srcs.all regOk = true)
    (h : ∀ r, g r = f r) : coreAlu rd srcs f g s = retired (rdAndNext s.core.r rd (f s.core.r)) (f s.core.r) 0 (atInstr s) := by
  rw [coreAlu_same s h1 h2 h, core_alu hf f h1 h2]

/-- A load that is aligned and permitted (R530, R531, R537). -/
theorem loadWith_ok {n : Nat} {rd ra : BitVec 5} {imm : BitVec 16} (f : Bytes → Word) (s : State) (h1 : regOk rd = true) (h2 : regOk ra = true)
    (h3 : (effAddr s.core.r ra imm).toNat % n = 0) (h4 : mpuSpan s.core s.core.r.psr.u 1 (effAddr s.core.r ra imm).toNat n = true) (h5 : Plain s (effAddr s.core.r ra imm)) :
    loadWith n rd ra imm f s = .ok ({ s with core := { s.core with r := rdAndNext s.core.r rd (f (loadBytes s (effAddr s.core.r ra imm).toNat n)) } },
      f (loadBytes s (effAddr s.core.r ra imm).toNat n), effAddr s.core.r ra imm) := by
  simp [loadWith, accessWindow, h1, h2, h3, h4, nextPc_writeReg]
  intro a b; simp [h5 a] at b

/-- The shadow of an access finds the primary's data and address (R373, R374). -/
@[simp] theorem shAccess_eq (ra : BitVec 5) (imm : BitVec 16) (u : State) (res : Word) :
    shAccess ra imm u res (effAddr u.core.r ra imm) = (res, effAddr u.core.r ra imm) := by
  simp [shAccess, shAddr, effAddr]

/-- The whole effect of a load on the core. -/
theorem core_load {s : State} (h : Fetches s) {n : Nat} {rd ra : BitVec 5} {imm : BitVec 16} (f : Bytes → Word) (h1 : regOk rd = true) (h2 : regOk ra = true)
    (h3 : (effAddr s.core.r ra imm).toNat % n = 0) (h4 : mpuSpan (atInstr s).core s.core.r.psr.u 1 (effAddr s.core.r ra imm).toNat n = true)
    (h5 : Plain (atInstr s) (effAddr s.core.r ra imm)) :
    coreLoad n rd ra imm f s = retired (rdAndNext s.core.r rd (f (loadBytes (atInstr s) (effAddr s.core.r ra imm).toNat n)))
      (f (loadBytes (atInstr s) (effAddr s.core.r ra imm).toNat n)) (effAddr s.core.r ra imm) (atInstr s) := by
  unfold coreLoad
  rw [coreWith_ok h (loadWith_ok f (atInstr s) h1 h2 (by simpa using h3) (by simpa using h4) (by simpa using h5)), shAccess_eq]
  simp only [atInstr_r]; rfl

@[simp] theorem atInstr_ext_cur (s : State) : (atInstr s).ext.cur = s.ext.cur := by unfold atInstr; rw [openWindow_frame]; rfl
@[simp] theorem closeWindow_ext (s : State) : (closeWindow s).ext = s.ext := by rw [closeWindow_frame]
@[simp] theorem inSyscall_cur (s : State) : (inSyscall s).ext.cur = s.ext.cur := by simp [inSyscall]

/-- A syscall argument is a window register of the calling window (R522, R551). -/
theorem sysArg_inSyscall {s : State} (h : s.core.r.cwp < 8) (i : Nat) : sysArg (inSyscall s) i = argOf s i := by
  simp only [sysArg, argOf, inSyscall]; congr 2; unfold wIndex; split <;> split <;> omega

/-- The whole effect of a syscall that is served (R551): what its answer makes of the state after the trap entry and return. -/
theorem core_syscall {s : State} (h : SyscallServed s) (f : Sys) :
    coreStep (syscall f) s = foldWindow 0 0 (sysEnd (f (argOf s 0) (argOf s 1) (argOf s 2) (argOf s 3) (inSyscall s))) := by
  obtain ⟨h0, hu, ht, hr, hc, hx⟩ := h
  refine coreStep_ok h0 ?_
  have e3 : nextPc (modRegs (fun r => { r with cwp := (r.cwp + 7) % 8, res := r.res - 1 }) (saveTrap 0x08 (s.core.r.pc + 4) 0
      (modRegs (fun r => { r with cwp := (r.cwp + 1) % 8, res := r.res + 1 }) (closeWindow (atInstr s))))) = inSyscall s := by
    have : ((s.core.r.cwp + 1) % 8 + 7) % 8 = s.core.r.cwp := by omega
    simp [nextPc, modRegs, saveTrap, inSyscall, this]
  unfold syscall
  dsimp only
  rw [serial_compared hx, show slideIn (atInstr s).core.r.pc (closeWindow (atInstr s)) = some (modRegs (fun r => { r with cwp := (r.cwp + 1) % 8, res := r.res + 1 }) (closeWindow (atInstr s))) by simp [slideIn, roomIn, slide, hr]]
  dsimp only
  rw [if_neg (by simp [ht]), if_neg (by simp [hu])]
  simp only [atInstr_r, e3, sysArg_inSyscall hc]

end Sys2Proof.Laws
end

