-- ==== Sys2Proof/Laws/Hx32.lean ====
section
/-! SUPPORT. The fields of an HX32 word by its format: each field reads back what the format put there, and a word is the word of its fields (R528). -/

namespace Sys2Proof.Laws
open Sys2Proof

@[simp] theorem opOf_wordR (op rd ra rb func) : opOf (wordR op rd ra rb func) = op := by
  apply BitVec.eq_of_getLsbD_eq; intro i hi
  simp [opOf, wordR, hi]
  try grind

@[simp] theorem f25_wordR (op rd ra rb func) : f25 (wordR op rd ra rb func) = rd := by
  apply BitVec.eq_of_getLsbD_eq; intro i hi
  simp [f25, wordR, hi]
  try grind

@[simp] theorem f20_wordR (op rd ra rb func) : f20 (wordR op rd ra rb func) = ra := by
  apply BitVec.eq_of_getLsbD_eq; intro i hi
  simp [f20, wordR, hi]
  try grind

@[simp] theorem f15_wordR (op rd ra rb func) : f15 (wordR op rd ra rb func) = rb := by
  apply BitVec.eq_of_getLsbD_eq; intro i hi
  simp [f15, wordR, hi]
  try grind

@[simp] theorem z10_wordR (op rd ra rb func) : z10 (wordR op rd ra rb func) = 0#5 := by
  apply BitVec.eq_of_getLsbD_eq; intro i hi
  simp [z10, wordR, hi]
  try grind

@[simp] theorem funcOf_wordR (op rd ra rb func) : funcOf (wordR op rd ra rb func) = func := by
  apply BitVec.eq_of_getLsbD_eq; intro i hi
  simp [funcOf, wordR, hi]
  try grind

@[simp] theorem opOf_wordI (op rd ra imm) : opOf (wordI op rd ra imm) = op := by
  apply BitVec.eq_of_getLsbD_eq; intro i hi
  simp [opOf, wordI, hi]
  try grind

@[simp] theorem f25_wordI (op rd ra imm) : f25 (wordI op rd ra imm) = rd := by
  apply BitVec.eq_of_getLsbD_eq; intro i hi
  simp [f25, wordI, hi]
  try grind

@[simp] theorem f20_wordI (op rd ra imm) : f20 (wordI op rd ra imm) = ra := by
  apply BitVec.eq_of_getLsbD_eq; intro i hi
  simp [f20, wordI, hi]
  try grind

@[simp] theorem imm16_wordI (op rd ra imm) : imm16 (wordI op rd ra imm) = imm := by
  apply BitVec.eq_of_getLsbD_eq; intro i hi
  simp [imm16, wordI, hi]
  try grind

@[simp] theorem opOf_wordBI (op ra imm off) : opOf (wordBI op ra imm off) = op := by
  apply BitVec.eq_of_getLsbD_eq; intro i hi
  simp [opOf, wordBI, hi]
  try grind

@[simp] theorem f25_wordBI (op ra imm off) : f25 (wordBI op ra imm off) = ra := by
  apply BitVec.eq_of_getLsbD_eq; intro i hi
  simp [f25, wordBI, hi]
  try grind

@[simp] theorem f20_wordBI (op ra imm off) : f20 (wordBI op ra imm off) = 0#5 := by
  apply BitVec.eq_of_getLsbD_eq; intro i hi
  simp [f20, wordBI, hi]
  try grind

@[simp] theorem imm6_wordBI (op ra imm off) : imm6 (wordBI op ra imm off) = imm := by
  apply BitVec.eq_of_getLsbD_eq; intro i hi
  simp [imm6, wordBI, hi]
  try grind

@[simp] theorem off10_wordBI (op ra imm off) : off10 (wordBI op ra imm off) = off := by
  apply BitVec.eq_of_getLsbD_eq; intro i hi
  simp [off10, wordBI, hi]
  try grind

@[simp] theorem opOf_wordJ (op off) : opOf (wordJ op off) = op := by
  apply BitVec.eq_of_getLsbD_eq; intro i hi
  simp [opOf, wordJ, hi]
  try grind

@[simp] theorem off26_wordJ (op off) : off26 (wordJ op off) = off := by
  apply BitVec.eq_of_getLsbD_eq; intro i hi
  simp [off26, wordJ, hi]
  try grind

/-- A word is the format I word of its fields. -/
theorem wordI_fields (w : Word) : wordI (opOf w) (f25 w) (f20 w) (imm16 w) = w := by
  apply BitVec.eq_of_getLsbD_eq; intro i hi
  simp [wordI, opOf, f25, f20, imm16, hi]
  grind

/-- A word whose bits 10 to 6 are zero is the format R word of its fields. -/
theorem wordR_fields (w : Word) (h : z10 w = 0) : wordR (opOf w) (f25 w) (f20 w) (f15 w) (funcOf w) = w := by
  have hz : ∀ i, (z10 w).getLsbD i = false := by simp [h]
  apply BitVec.eq_of_getLsbD_eq; intro i hi
  simp [z10] at hz
  simp [wordR, opOf, f25, f20, f15, funcOf, hi]
  grind

/-- A word whose bits 20 to 16 are zero is the format BI word of its fields. -/
theorem wordBI_fields (w : Word) (h : f20 w = 0) : wordBI (opOf w) (f25 w) (imm6 w) (off10 w) = w := by
  have hz : ∀ i, (f20 w).getLsbD i = false := by simp [h]
  apply BitVec.eq_of_getLsbD_eq; intro i hi
  simp [f20] at hz
  simp [wordBI, opOf, f25, imm6, off10, hi]
  grind

/-- A word is the format J word of its fields. -/
theorem wordJ_fields (w : Word) : wordJ (opOf w) (off26 w) = w := by
  apply BitVec.eq_of_getLsbD_eq; intro i hi
  simp [wordJ, opOf, off26, hi]
  grind

end Sys2Proof.Laws
end

