-- ==== Sys2Proof/Laws/Mem.lean ====
section
/-! SUPPORT. The laws of byte memory: a read after a write, and that every memory operation keeps the canonical form. -/

namespace Sys2Proof.Laws
open Sys2Proof Sys2Proof.Machine

/-- Addresses strictly rise, as a list of ordered pairs. -/
theorem memSorted_iff (m : List Host.Cell) : memSorted m = true ↔ m.Pairwise (fun x y => x.1 < y.1) := by
  induction m with
  | nil => simp [memSorted]
  | cons c r ih => obtain ⟨a, b⟩ := c; simp [memSorted, ih]

/-- The canonical form in two parts. -/
theorem memWf_iff (d : Byte) (m : List Host.Cell) :
    memWf d m = true ↔ m.Pairwise (fun x y => x.1 < y.1) ∧ ∀ c ∈ m, c.2 ≠ d := by
  simp [memWf, memSorted_iff]

/-- Erasing is filtering. -/
theorem memErase_eq (m : List Host.Cell) (a : Nat) : memErase m a = m.filter (fun c => !(c.1 == a)) := by
  induction m with
  | nil => rfl
  | cons c r ih => obtain ⟨k, v⟩ := c; by_cases h : k = a <;> simp [memErase, h, ih]

/-- A cell inserted is in the list, beside what was there. -/
theorem mem_memInsert (m : List Host.Cell) (a : Nat) (b : Byte) (c : Host.Cell) :
    c ∈ memInsert m a b ↔ c = (a, b) ∨ c ∈ m := by
  induction m with
  | nil => simp [memInsert]
  | cons x r ih => obtain ⟨k, v⟩ := x; simp only [memInsert]; split <;> simp [ih]; tauto

/-- Inserting where the address is not listed keeps the order. -/
theorem memInsert_sorted (m : List Host.Cell) (a : Nat) (b : Byte) (h : m.Pairwise (fun x y => x.1 < y.1)) (hn : ∀ c ∈ m, c.1 ≠ a) :
    (memInsert m a b).Pairwise (fun x y => x.1 < y.1) := by
  induction m with
  | nil => simp [memInsert]
  | cons x r ih =>
    obtain ⟨k, v⟩ := x
    obtain ⟨h1, h2⟩ := List.pairwise_cons.1 h
    simp only [memInsert]
    split
    · rename_i hk
      refine List.pairwise_cons.2 ⟨?_, h⟩
      intro c hc
      rcases List.mem_cons.1 hc with rfl | hc
      · exact hk
      · exact lt_trans hk (h1 c hc)
    · rename_i hk
      have hka : k ≠ a := hn (k, v) (by simp)
      refine List.pairwise_cons.2 ⟨?_, ih h2 fun c hc => hn c (by simp [hc])⟩
      intro c hc
      rcases (mem_memInsert r a b c).1 hc with rfl | hc
      · show k < a
        omega
      · exact h1 c hc

/-- A byte written keeps the canonical form. -/
theorem memWrite_wf (d : Byte) (m : List Host.Cell) (a : Nat) (b : Byte) (h : memWf d m = true) : memWf d (memWrite d m a b) = true := by
  rw [memWf_iff] at h ⊢
  obtain ⟨h1, h2⟩ := h
  unfold memWrite
  rw [memErase_eq]
  split
  · exact ⟨h1.filter _, fun c hc => h2 c (List.mem_filter.1 hc).1⟩
  · rename_i hb
    refine ⟨memInsert_sorted _ _ _ (h1.filter _) (fun c hc => by simpa using (List.mem_filter.1 hc).2), ?_⟩
    intro c hc
    rcases (mem_memInsert _ _ _ _).1 hc with rfl | hc
    · simpa using hb
    · exact h2 c (List.mem_filter.1 hc).1

/-- Bytes written keep the canonical form. -/
theorem memStore_wf (d : Byte) (m : List Host.Cell) (a : Nat) (b : Bytes) (h : memWf d m = true) : memWf d (memStore d m a b) = true := by
  induction b generalizing m a with
  | nil => exact h
  | cons x r ih => exact ih _ _ (memWrite_wf d m a x h)

/-- A range cleared keeps the canonical form. -/
theorem memClear_wf (d : Byte) (m : List Host.Cell) (lo n : Nat) (h : memWf d m = true) : memWf d (memClear m lo n) = true := by
  rw [memWf_iff] at h ⊢
  exact ⟨h.1.filter _, fun c hc => h.2 c (List.mem_filter.1 hc).1⟩

/-- An empty memory is canonical. -/
@[simp] theorem memWf_nil (d : Byte) : memWf d [] = true := rfl

/-- Reading past an erased cell. -/
theorem memRead_memErase (d : Byte) (m : List Host.Cell) (a x : Nat) :
    memRead d (memErase m a) x = if x = a then d else memRead d m x := by
  induction m with
  | nil => simp [memErase, memRead]
  | cons c r ih =>
    obtain ⟨k, v⟩ := c
    by_cases h : k = a
    · subst h; simp only [memErase, beq_self_eq_true, if_true, ih, memRead]; split
      · rfl
      · rename_i hx; simp [Ne.symm hx]
    · simp only [memErase, beq_iff_eq, h, if_false, memRead, ih]
      by_cases hx : x = a
      · subst hx; simp [h]
      · simp [hx]

/-- Reading past an inserted cell. -/
theorem memRead_memInsert (d : Byte) (m : List Host.Cell) (a : Nat) (b : Byte) (x : Nat) (hn : ∀ c ∈ m, c.1 ≠ a) :
    memRead d (memInsert m a b) x = if x = a then b else memRead d m x := by
  induction m with
  | nil => by_cases h : a = x
           · simp [memInsert, memRead, h]
           · simp [memInsert, memRead, h, Ne.symm h]
  | cons c r ih =>
    obtain ⟨k, v⟩ := c
    have hk : k ≠ a := hn (k, v) (by simp)
    have hr := ih fun c hc => hn c (by simp [hc])
    simp only [memInsert]
    split
    · by_cases h : a = x
      · simp [memRead, h]
      · simp [memRead, h, Ne.symm h]
    · simp only [memRead, beq_iff_eq, hr]
      by_cases hx : x = a
      · subst hx; simp [hk]
      · simp [hx]

/-- A read after a write: the byte written at its address, every other byte as before. -/
theorem memRead_memWrite (d : Byte) (m : List Host.Cell) (a : Nat) (b : Byte) (x : Nat) :
    memRead d (memWrite d m a b) x = if x = a then b else memRead d m x := by
  unfold memWrite
  split
  · rename_i hb; rw [memRead_memErase]; simp only [beq_iff_eq] at hb; rw [hb]
  · rw [memRead_memInsert, memRead_memErase]
    · split <;> rfl
    · intro c hc; rw [memErase_eq] at hc; simpa using (List.mem_filter.1 hc).2

/-- Bytes stored leave every address outside them as it was. -/
theorem memRead_memStore_out (d : Byte) (m : List Host.Cell) (a : Nat) (b : Bytes) (x : Nat) (h : x < a ∨ a + b.length ≤ x) :
    memRead d (memStore d m a b) x = memRead d m x := by
  induction b generalizing m a with
  | nil => rfl
  | cons c r ih =>
    simp only [List.length_cons] at h
    rw [memStore, ih _ _ (by omega), memRead_memWrite, if_neg (by omega)]

/-- Bytes stored are read back. -/
theorem memRead_memStore_in (d : Byte) (m : List Host.Cell) (a : Nat) (b : Bytes) (i : Nat) (h : i < b.length) :
    memRead d (memStore d m a b) (a + i) = b[i] := by
  induction b generalizing m a i with
  | nil => simp at h
  | cons c r ih =>
    cases i with
    | zero => rw [memStore, memRead_memStore_out _ _ _ _ _ (by omega), memRead_memWrite]; simp
    | succ j => rw [memStore, show a + (j + 1) = a + 1 + j by omega, ih _ _ j (by simpa using h)]; rfl

/-- Bytes loaded after they are stored are those bytes. -/
theorem memLoad_memStore (d : Byte) (m : List Host.Cell) (a : Nat) (b : Bytes) :
    memLoad d (memStore d m a b) a b.length = b := by
  induction b generalizing m a with
  | nil => rfl
  | cons c r ih =>
    rw [memStore, List.length_cons, memLoad, ih, memRead_memStore_out _ _ _ _ _ (by omega), memRead_memWrite, if_pos rfl]

/-- A cleared range reads as the default, and every other address as before. -/
theorem memRead_memClear (d : Byte) (m : List Host.Cell) (lo n x : Nat) :
    memRead d (memClear m lo n) x = if lo ≤ x ∧ x < lo + n then d else memRead d m x := by
  induction m with
  | nil => simp [memClear, memRead]
  | cons c r ih =>
    obtain ⟨k, v⟩ := c
    have ih' : memRead d (List.filter (fun c => !(decide (lo ≤ c.1) && decide (c.1 < lo + n))) r) x = _ := ih
    unfold memClear
    rw [List.filter_cons]
    by_cases hk : lo ≤ k ∧ k < lo + n
    · simp only [hk, decide_true, Bool.and_self, Bool.not_true, Bool.false_eq_true, if_false, ih', memRead, beq_iff_eq]
      by_cases hx : lo ≤ x ∧ x < lo + n
      · simp [hx]
      · simp only [hx, if_false]; rw [if_neg]; rintro rfl; exact hx hk
    · have : (!(decide (lo ≤ k) && decide (k < lo + n))) = true := by
        rw [Bool.not_eq_true', ← Bool.not_eq_true, Bool.and_eq_true, decide_eq_true_eq, decide_eq_true_eq]; exact hk
      simp only [this, if_true, memRead, beq_iff_eq, ih']
      by_cases hx : k = x
      · subst hx; simp [hk]
      · simp [hx]

/-- The memories of the state after reset are canonical. -/
theorem reset_memories : memWf 0 State.reset.core.mem = true ∧ memWf 0xFF State.reset.boot.flash = true := by decide

end Sys2Proof.Laws
end

