-- ==== Sys2Proof/Laws/Request.lean ====
section
/-! SUPPORT. The mailbox service, said once: what a request that is served at once leaves, from what its handler answers (R51 to R62). -/

namespace Sys2Proof.Laws
open Sys2Proof Sys2Proof.Machine Sys2Proof.Safety

/-- A session that a map leaves with its key and privilege is found where it was. -/
theorem findSession_map (s : State) (t : Transport) (id : Nat) (f : Session → Session) (hf : ∀ x, (f x).transport = x.transport ∧ (f x).id = x.id) (t' : Transport) (id' : Nat) :
    findSession (modSession t id f s) t' id' = (findSession s t' id').map (fun x => if x.transport == t && x.id == id then f x else x) := by
  unfold findSession modSession
  dsimp only
  induction s.mbx.sessions with
  | nil => rfl
  | cons x l ih =>
    have e : ((if (x.transport == t && x.id == id) = true then f x else x).transport == t' && (if (x.transport == t && x.id == id) = true then f x else x).id == id') = (x.transport == t' && x.id == id') := by
      split
      · rw [(hf x).1, (hf x).2]
      · rfl
    rw [List.map_cons, List.find?_cons, List.find?_cons, e]
    split
    · simp
    · exact ih

/-- Privilege is a matter of the session alone (R51 step 11). -/
theorem privOk_congr {code least : Nat} {r : Req} {s t : State} {f : Session → Session} (hf : ∀ x, sessPriv (f x) = sessPriv x ∧ isOperator (f x) = isOperator x)
    (h : findSession t r.transport r.session = (findSession s r.transport r.session).map f) : privOk code least r t = privOk code least r s := by
  unfold privOk
  rw [h]
  cases findSession s r.transport r.session with
  | none => rfl
  | some x => simp [(hf x).1, (hf x).2]

/-- What a request leaves when accepted does not bear on steps 11 to 13 (R51). -/
theorem laneCheck_noteAccepted (code : Nat) (r : Req) (x : Session) (s : State) : laneCheck code r (noteAccepted code r x true s) = laneCheck code r s := by
  have hb : (noteAccepted code r x true s).boot = s.boot ∧ (noteAccepted code r x true s).otp = s.otp := by
    unfold noteAccepted modSession modPort; dsimp only; split <;> exact ⟨rfl, rfl⟩
  have hp : ∀ least, privOk code least r (noteAccepted code r x true s) = privOk code least r s := by
    intro least
    let g : Session → Session := fun y => { y with
      h := some r.seq, ctr := ctrAfter x r.seq, macFails := 0, cache := (({ seq := r.seq, code := code } : CacheEntry) :: y.cache.filter (fun e => e.seq != r.seq)).take 64,
      idleAt := s.now + sec (tw s).transports.idleS, src := some r.src }
    have hs : findSession (noteAccepted code r x true s) r.transport r.session = findSession (modSession r.transport r.session g s) r.transport r.session := by
      unfold noteAccepted findSession modPort; dsimp only; split <;> rfl
    rw [findSession_map s _ _ g (fun x => ⟨rfl, rfl⟩)] at hs
    exact privOk_congr (f := fun y => if y.transport == r.transport && y.id == r.session then g y else y) (fun y => by split <;> exact ⟨rfl, rfl⟩) hs
  unfold laneCheck partLacks
  simp only [hp, hb.1, hb.2]

/-- A lease renewed changes outputs and stations alone. -/
theorem renewLease_frame (o : Owner) (obj : Nat) (s : State) :
    renewLease o obj s = { s with outs := (renewLease o obj s).outs, mill := (renewLease o obj s).mill } := by
  unfold renewLease; split
  · unfold modOwn; split
    · unfold modChan; rfl
    · split
      · unfold modStn; rfl
      · rfl
  · rfl

/-- The leases that a request renews: outputs and stations alone (R76). -/
theorem renewLeases_frame (code : Nat) (r : Req) (s : State) :
    renewLeases code r s = { s with outs := (renewLeases code r s).outs, mill := (renewLeases code r s).mill } := by
  unfold renewLeases; dsimp only; split
  · split
    · exact renewLease_frame _ _ _
    · rfl
  · split
    · exact renewLease_frame _ _ _
    · rfl
  · split
    · exact renewLease_frame _ _ _
    · rfl
  · generalize heldBy s (requester s r) = l
    generalize requester s r = me
    induction l generalizing s with
    | nil => rfl
    | cons o l ih =>
      rw [List.foldl_cons]
      rw [ih, renewLease_frame]
  · rfl

/-- What an accepted request leaves keeps every slot. -/
theorem noteAccepted_slots (code : Nat) (r : Req) (x : Session) (s : State) (t : Transport) :
    (getPort (noteAccepted code r x true s) t).slots = (getPort s t).slots := by
  unfold noteAccepted modSession modPort getPort; cases t <;> dsimp only <;> split <;> rfl

/-- The slots of a port whose slots a change `f` rewrites. -/
theorem getPort_modPort (t : Transport) (f : Port → Port) (s : State) : getPort (modPort t f s) t = f (getPort s t) := by
  cases t <;> rfl

/-- Two changes of one port are one. -/
theorem modPort_modPort (t : Transport) (f g : Port → Port) (s : State) : modPort t f (modPort t g s) = modPort t (fun p => f (g p)) s := by
  cases t <;> rfl

/-- Slots that are all running stay as they are when one is marked as started. -/
theorem markStarted_running (sess seq : Nat) (l : List Slot) (h : ∀ y ∈ l, y.started = true) :
    l.map (fun x => if x.req.session == sess && x.req.seq == seq then { x with started := true } else x) = l := by
  induction l with
  | nil => rfl
  | cons y l ih =>
    rw [List.map_cons, ih (fun z hz => h z (List.mem_cons_of_mem _ hz))]
    have hy := h y List.mem_cons_self
    congr 1
    split
    · cases y; simp_all
    · rfl

/-- A request that is served at once runs its command on the state it leaves when taken (R51 to R57). -/
theorem request_ready {code : Nat} {r : Req} {s : State} (h : Ready code r s) : request code r s = runRequest code r (taken code r s) := by
  obtain ⟨hs, hl, hr, ht, ⟨x, hx, hq, hc, hm⟩, hp, _⟩ := h
  have hf : findSession s r.transport r.session = some x := by
    unfold sessionCheck at hx; dsimp only at hx
    split at hx
    · cases hx
    · split at hx
      · cases hx
      · split at hx
        · cases hx
        · rename_i y hy hz
          cases hx; exact hy
  have ha : (r.auth && !encServes s) = false := by
    by_cases q : r.auth = true
    · simp [(hm q).1]
    · simp [q]
  have hb : (r.auth && !macOk code r x) = false := by
    by_cases q : r.auth = true
    · simp [(hm q).2]
    · simp [q]
  have e1 : request code r s = accept code r x true s := by
    unfold request
    rw [if_neg (by simp [hs]), if_neg (by omega), if_neg (by omega)]
    unfold checkSession
    rw [hx]; dsimp only
    rw [ha, hb]
    simp only [Bool.false_eq_true, if_false]
    unfold classify
    rw [hq]; dsimp only
    rw [if_neg (by omega)]
  rw [e1]
  unfold accept taken
  dsimp only
  rw [laneCheck_noteAccepted, hp, hf]
  dsimp only [Option.isNone_none, Option.getD_some]
  simp only [if_true]
  have hslots : (getPort (renewLeases code r (noteAccepted code r x true s)) r.transport).slots = (getPort s r.transport).slots := by
    rw [renewLeases_frame, ← noteAccepted_slots code r x s]; cases r.transport <;> rfl
  generalize hg : renewLeases code r (noteAccepted code r x true s) = g at hslots ⊢
  by_cases qa : r.async = true
  · rw [if_pos qa]; unfold startSlot; dsimp only; simp [qa]
  · have qa' : r.async = false := by simpa using qa
    rw [if_neg qa]
    unfold pumpOne
    have hfind : ((getPort g r.transport).slots ++ [({ code := code, req := r, started := r.async, refuse := none } : Slot)]).find? (fun x => !x.req.async && x.done.isNone)
        = some { code := code, req := r, started := r.async, refuse := none } := by
      rw [List.find?_append]
      have : (getPort g r.transport).slots.find? (fun x => !x.req.async && x.done.isNone) = none := by
        rw [List.find?_eq_none, hslots]; intro y hy; simp [(ht y hy).1]
      rw [this]; simp [qa']
    rw [getPort_modPort]; dsimp only
    rw [hfind]; dsimp only
    rw [if_neg (by simp [qa'])]
    unfold startSlot; dsimp only
    unfold markStarted
    rw [modPort_modPort]
    congr 1
    have hrun : ∀ y ∈ (getPort g r.transport).slots, y.started = true := by rw [hslots]; exact fun y hy => (ht y hy).2
    have := markStarted_running r.session r.seq _ hrun
    cases hT : r.transport <;> rw [hT] at this <;> simp only [getPort, Bool.and_eq_true, beq_iff_eq] at this <;> simp [modPort, List.map_append, this]

/-- The boot state does not change when a request is taken. -/
@[simp] theorem serving_boot (code : Nat) (r : Req) (s : State) : (serving code r s).boot = s.boot := by
  unfold serving taken; dsimp only
  generalize ((findSession (advance r.time s) r.transport r.session).getD {}) = x
  have : (renewLeases code r (noteAccepted code r x true (advance r.time s))).boot = s.boot := by
    rw [renewLeases_frame]; unfold noteAccepted modSession modPort advance; dsimp only; split <;> rfl
  rw [← this]; cases r.transport <;> rfl

/-- What an accepted request leaves: its session and its source, its abort record, and three timers (R46, R55 to R57, R60, R64). -/
theorem noteAccepted_frame (code : Nat) (r : Req) (x : Session) (s : State) : ∃ ac ab mbx sv aw pr,
    noteAccepted code r x true s = { s with ao := { s.ao with accepted := ac, aborts := ab }, mbx := mbx, mode := { s.mode with serviceAt := sv }, pwr := { s.pwr with awakeAt := aw, parkRefused := pr } } := by
  unfold noteAccepted modSession; dsimp only
  split
  · exact ⟨_, _, _, _, _, _, rfl⟩
  · exact ⟨_, _, _, _, _, _, rfl⟩

/-- What a request being served has changed so far: the time, its session and slot, its abort record, three timers, the leases it renews. -/
theorem serving_frame (code : Nat) (r : Req) (s : State) : ∃ ac ab mbx sv aw pr outs mill,
    serving code r s = { s with now := max s.now r.time, ao := { s.ao with accepted := ac, aborts := ab }, mbx := mbx, mode := { s.mode with serviceAt := sv }, pwr := { s.pwr with awakeAt := aw, parkRefused := pr }, outs := outs, mill := mill } := by
  unfold serving taken; dsimp only
  generalize ((findSession (advance r.time s) r.transport r.session).getD {}) = x
  rw [renewLeases_frame]
  obtain ⟨ac, ab, mbx, sv, aw, pr, e⟩ := noteAccepted_frame code r x (advance r.time s)
  generalize renewLeases code r (noteAccepted code r x true (advance r.time s)) = g
  rw [e]
  have hm : ∀ (t : Transport) (f : Port → Port) (q : State), ∃ m, modPort t f q = { q with mbx := m } := by
    intro t f q; cases t <;> exact ⟨_, rfl⟩
  obtain ⟨m, em⟩ := hm r.transport (fun p => { p with slots := p.slots ++ [{ code := code, req := r, started := true, refuse := none }] })
    { s with now := max s.now r.time, ao := { s.ao with accepted := ac, aborts := ab }, mbx := mbx, mode := { s.mode with serviceAt := sv }, pwr := { s.pwr with awakeAt := aw, parkRefused := pr }, outs := g.outs, mill := g.mill }
  refine ⟨ac, ab, { m with hold := some [] }, sv, aw, pr, g.outs, g.mill, ?_⟩
  exact congrArg (fun q : State => { q with mbx := { q.mbx with hold := some [] } }) em

@[simp] theorem serving_now (code : Nat) (r : Req) (s : State) : (serving code r s).now = max s.now r.time := by obtain ⟨_, _, _, _, _, _, _, _, e⟩ := serving_frame code r s; rw [e]
@[simp] theorem serving_env (code : Nat) (r : Req) (s : State) : (serving code r s).env = s.env := by obtain ⟨_, _, _, _, _, _, _, _, e⟩ := serving_frame code r s; rw [e]
@[simp] theorem serving_otp (code : Nat) (r : Req) (s : State) : (serving code r s).otp = s.otp := by obtain ⟨_, _, _, _, _, _, _, _, e⟩ := serving_frame code r s; rw [e]
@[simp] theorem serving_win (code : Nat) (r : Req) (s : State) : (serving code r s).win = s.win := by obtain ⟨_, _, _, _, _, _, _, _, e⟩ := serving_frame code r s; rw [e]
@[simp] theorem serving_scan (code : Nat) (r : Req) (s : State) : (serving code r s).scan = s.scan := by obtain ⟨_, _, _, _, _, _, _, _, e⟩ := serving_frame code r s; rw [e]
@[simp] theorem serving_rls (code : Nat) (r : Req) (s : State) : (serving code r s).rls = s.rls := by obtain ⟨_, _, _, _, _, _, _, _, e⟩ := serving_frame code r s; rw [e]
@[simp] theorem serving_hap (code : Nat) (r : Req) (s : State) : (serving code r s).hap = s.hap := by obtain ⟨_, _, _, _, _, _, _, _, e⟩ := serving_frame code r s; rw [e]
@[simp] theorem serving_bus (code : Nat) (r : Req) (s : State) : (serving code r s).bus = s.bus := by obtain ⟨_, _, _, _, _, _, _, _, e⟩ := serving_frame code r s; rw [e]
@[simp] theorem serving_tag (code : Nat) (r : Req) (s : State) : (serving code r s).tag = s.tag := by obtain ⟨_, _, _, _, _, _, _, _, e⟩ := serving_frame code r s; rw [e]
@[simp] theorem serving_enc (code : Nat) (r : Req) (s : State) : (serving code r s).enc = s.enc := by obtain ⟨_, _, _, _, _, _, _, _, e⟩ := serving_frame code r s; rw [e]
@[simp] theorem serving_fab (code : Nat) (r : Req) (s : State) : (serving code r s).fab = s.fab := by obtain ⟨_, _, _, _, _, _, _, _, e⟩ := serving_frame code r s; rw [e]
@[simp] theorem serving_core (code : Nat) (r : Req) (s : State) : (serving code r s).core = s.core := by obtain ⟨_, _, _, _, _, _, _, _, e⟩ := serving_frame code r s; rw [e]
@[simp] theorem serving_ext (code : Nat) (r : Req) (s : State) : (serving code r s).ext = s.ext := by obtain ⟨_, _, _, _, _, _, _, _, e⟩ := serving_frame code r s; rw [e]
@[simp] theorem serving_nvm (code : Nat) (r : Req) (s : State) : (serving code r s).nvm = s.nvm := by obtain ⟨_, _, _, _, _, _, _, _, e⟩ := serving_frame code r s; rw [e]
@[simp] theorem serving_freeCtr (code : Nat) (r : Req) (s : State) : (serving code r s).freeCtr = s.freeCtr := by obtain ⟨_, _, _, _, _, _, _, _, e⟩ := serving_frame code r s; rw [e]
@[simp] theorem serving_resetDue (code : Nat) (r : Req) (s : State) : (serving code r s).resetDue = s.resetDue := by obtain ⟨_, _, _, _, _, _, _, _, e⟩ := serving_frame code r s; rw [e]
@[simp] theorem serving_wakeDue (code : Nat) (r : Req) (s : State) : (serving code r s).wakeDue = s.wakeDue := by obtain ⟨_, _, _, _, _, _, _, _, e⟩ := serving_frame code r s; rw [e]
@[simp] theorem serving_work (code : Nat) (r : Req) (s : State) : (serving code r s).work = s.work := by obtain ⟨_, _, _, _, _, _, _, _, e⟩ := serving_frame code r s; rw [e]
@[simp] theorem serving_pending (code : Nat) (r : Req) (s : State) : (serving code r s).pending = s.pending := by obtain ⟨_, _, _, _, _, _, _, _, e⟩ := serving_frame code r s; rw [e]
@[simp] theorem serving_ao_rtc (code : Nat) (r : Req) (s : State) : (serving code r s).ao.rtc = s.ao.rtc := by obtain ⟨_, _, _, _, _, _, _, _, e⟩ := serving_frame code r s; rw [e]
@[simp] theorem serving_ao_rtcSet (code : Nat) (r : Req) (s : State) : (serving code r s).ao.rtcSet = s.ao.rtcSet := by obtain ⟨_, _, _, _, _, _, _, _, e⟩ := serving_frame code r s; rw [e]
@[simp] theorem serving_ao_rtcSource (code : Nat) (r : Req) (s : State) : (serving code r s).ao.rtcSource = s.ao.rtcSource := by obtain ⟨_, _, _, _, _, _, _, _, e⟩ := serving_frame code r s; rw [e]
@[simp] theorem serving_ao_trim (code : Nat) (r : Req) (s : State) : (serving code r s).ao.trim = s.ao.trim := by obtain ⟨_, _, _, _, _, _, _, _, e⟩ := serving_frame code r s; rw [e]
@[simp] theorem serving_ao_trimAcc (code : Nat) (r : Req) (s : State) : (serving code r s).ao.trimAcc = s.ao.trimAcc := by obtain ⟨_, _, _, _, _, _, _, _, e⟩ := serving_frame code r s; rw [e]
@[simp] theorem serving_ao_life (code : Nat) (r : Req) (s : State) : (serving code r s).ao.life = s.ao.life := by obtain ⟨_, _, _, _, _, _, _, _, e⟩ := serving_frame code r s; rw [e]
@[simp] theorem serving_ao_history (code : Nat) (r : Req) (s : State) : (serving code r s).ao.history = s.ao.history := by obtain ⟨_, _, _, _, _, _, _, _, e⟩ := serving_frame code r s; rw [e]
@[simp] theorem serving_ao_wakeSource (code : Nat) (r : Req) (s : State) : (serving code r s).ao.wakeSource = s.ao.wakeSource := by obtain ⟨_, _, _, _, _, _, _, _, e⟩ := serving_frame code r s; rw [e]
@[simp] theorem serving_ao_wakeRtc (code : Nat) (r : Req) (s : State) : (serving code r s).ao.wakeRtc = s.ao.wakeRtc := by obtain ⟨_, _, _, _, _, _, _, _, e⟩ := serving_frame code r s; rw [e]
@[simp] theorem serving_ao_wakeLife (code : Nat) (r : Req) (s : State) : (serving code r s).ao.wakeLife = s.ao.wakeLife := by obtain ⟨_, _, _, _, _, _, _, _, e⟩ := serving_frame code r s; rw [e]
@[simp] theorem serving_ao_refusals (code : Nat) (r : Req) (s : State) : (serving code r s).ao.refusals = s.ao.refusals := by obtain ⟨_, _, _, _, _, _, _, _, e⟩ := serving_frame code r s; rw [e]
@[simp] theorem serving_ao_lastRefuser (code : Nat) (r : Req) (s : State) : (serving code r s).ao.lastRefuser = s.ao.lastRefuser := by obtain ⟨_, _, _, _, _, _, _, _, e⟩ := serving_frame code r s; rw [e]
@[simp] theorem serving_ao_recovery (code : Nat) (r : Req) (s : State) : (serving code r s).ao.recovery = s.ao.recovery := by obtain ⟨_, _, _, _, _, _, _, _, e⟩ := serving_frame code r s; rw [e]
@[simp] theorem serving_ao_tdxReplays (code : Nat) (r : Req) (s : State) : (serving code r s).ao.tdxReplays = s.ao.tdxReplays := by obtain ⟨_, _, _, _, _, _, _, _, e⟩ := serving_frame code r s; rw [e]
@[simp] theorem serving_ao_tdxSecond (code : Nat) (r : Req) (s : State) : (serving code r s).ao.tdxSecond = s.ao.tdxSecond := by obtain ⟨_, _, _, _, _, _, _, _, e⟩ := serving_frame code r s; rw [e]
@[simp] theorem serving_ao_grave (code : Nat) (r : Req) (s : State) : (serving code r s).ao.grave = s.ao.grave := by obtain ⟨_, _, _, _, _, _, _, _, e⟩ := serving_frame code r s; rw [e]
@[simp] theorem serving_ao_severeAt (code : Nat) (r : Req) (s : State) : (serving code r s).ao.severeAt = s.ao.severeAt := by obtain ⟨_, _, _, _, _, _, _, _, e⟩ := serving_frame code r s; rw [e]
@[simp] theorem serving_ao_alarmed (code : Nat) (r : Req) (s : State) : (serving code r s).ao.alarmed = s.ao.alarmed := by obtain ⟨_, _, _, _, _, _, _, _, e⟩ := serving_frame code r s; rw [e]
@[simp] theorem serving_mode_mode (code : Nat) (r : Req) (s : State) : (serving code r s).mode.mode = s.mode.mode := by obtain ⟨_, _, _, _, _, _, _, _, e⟩ := serving_frame code r s; rw [e]
@[simp] theorem serving_mode_crank (code : Nat) (r : Req) (s : State) : (serving code r s).mode.crank = s.mode.crank := by obtain ⟨_, _, _, _, _, _, _, _, e⟩ := serving_frame code r s; rw [e]
@[simp] theorem serving_mode_ign (code : Nat) (r : Req) (s : State) : (serving code r s).mode.ign = s.mode.ign := by obtain ⟨_, _, _, _, _, _, _, _, e⟩ := serving_frame code r s; rw [e]
@[simp] theorem serving_mode_lock (code : Nat) (r : Req) (s : State) : (serving code r s).mode.lock = s.mode.lock := by obtain ⟨_, _, _, _, _, _, _, _, e⟩ := serving_frame code r s; rw [e]
@[simp] theorem serving_mode_hold (code : Nat) (r : Req) (s : State) : (serving code r s).mode.hold = s.mode.hold := by obtain ⟨_, _, _, _, _, _, _, _, e⟩ := serving_frame code r s; rw [e]
@[simp] theorem serving_mode_serviceSess (code : Nat) (r : Req) (s : State) : (serving code r s).mode.serviceSess = s.mode.serviceSess := by obtain ⟨_, _, _, _, _, _, _, _, e⟩ := serving_frame code r s; rw [e]
@[simp] theorem serving_pwr_dom (code : Nat) (r : Req) (s : State) : (serving code r s).pwr.dom = s.pwr.dom := by obtain ⟨_, _, _, _, _, _, _, _, e⟩ := serving_frame code r s; rw [e]
@[simp] theorem serving_pwr_override (code : Nat) (r : Req) (s : State) : (serving code r s).pwr.override = s.pwr.override := by obtain ⟨_, _, _, _, _, _, _, _, e⟩ := serving_frame code r s; rw [e]
@[simp] theorem serving_pwr_shutdown (code : Nat) (r : Req) (s : State) : (serving code r s).pwr.shutdown = s.pwr.shutdown := by obtain ⟨_, _, _, _, _, _, _, _, e⟩ := serving_frame code r s; rw [e]
@[simp] theorem serving_pwr_asleep (code : Nat) (r : Req) (s : State) : (serving code r s).pwr.asleep = s.pwr.asleep := by obtain ⟨_, _, _, _, _, _, _, _, e⟩ := serving_frame code r s; rw [e]

/-- Step 14 of a request that is served at once, with a payload length its command takes (R51, R69). -/
theorem serveCode_serving {code : Nat} {r : Req} {s : State} {row : CmdRow} (h : Ready code r (advance r.time s)) (hrow : cmdRow code = some row)
    (hlo : row.lo ≤ r.payload.length) (hhi : r.payload.length ≤ row.hi) : serveCode code r (serving code r s) = handle code r (serving code r s) := by
  have hb : (serving code r s).boot.runs = 1 := by rw [serving_boot]; exact h.2.2.2.2.2.2
  unfold serveCode
  rw [hb]; simp [hrow, Nat.not_lt.mpr hlo, Nat.not_lt.mpr hhi]

/-- A request at its time that is served at once, from what its command answers. -/
theorem requestAt_ready {code : Nat} {r : Req} {s : State} {row : CmdRow} {q : Reply} (h : Ready code r (advance r.time s)) (hrow : cmdRow code = some row)
    (hlo : row.lo ≤ r.payload.length) (hhi : r.payload.length ≤ row.hi) (hh : handle code r (serving code r s) = q) :
    requestAt code r s = (match q with
      | .done st b s1 => releaseEvents (finish code st b r s1)
      | .later s1 => releaseEvents s1
      | .thenDo st b s1 k => k (releaseEvents (finish code st b r s1))) := by
  have e := serveCode_serving h hrow hlo hhi
  rw [hh] at e
  unfold requestAt
  rw [request_ready h]
  unfold runRequest
  rw [show serveCode code r { taken code r (advance r.time s) with mbx := { (taken code r (advance r.time s)).mbx with hold := some [] } } = q from e]
  cases q <;> rfl

/-- What a command answers, when it answers at once: its response, then the events held (R61, R62). -/
theorem answers {c : Instr} {code : Nat} {r : Req} {s : State} {row : CmdRow} {st : Nat} {b : Bytes} {p : State}
    (e : exec c s = .next (settle (requestAt code r s))) (h : Ready code r (advance r.time s)) (hrow : cmdRow code = some row)
    (hlo : row.lo ≤ r.payload.length) (hhi : r.payload.length ≤ row.hi)
    (hh : handle code r (serving code r s) = .done st b p) : Answers c code r s st b p := by
  unfold Answers Does; rw [e, requestAt_ready h hrow hlo hhi hh]

/-- A command whose response comes later. -/
theorem pends {c : Instr} {code : Nat} {r : Req} {s : State} {row : CmdRow} {p : State}
    (e : exec c s = .next (settle (requestAt code r s))) (h : Ready code r (advance r.time s)) (hrow : cmdRow code = some row)
    (hlo : row.lo ≤ r.payload.length) (hhi : r.payload.length ≤ row.hi)
    (hh : handle code r (serving code r s) = .later p) : Pends c s p := by
  unfold Pends Does; rw [e, requestAt_ready h hrow hlo hhi hh]

/-- A command with an effect after its response. -/
theorem answersThen {c : Instr} {code : Nat} {r : Req} {s : State} {row : CmdRow} {st : Nat} {b : Bytes} {p : State} {k : State → State}
    (e : exec c s = .next (settle (requestAt code r s))) (h : Ready code r (advance r.time s)) (hrow : cmdRow code = some row)
    (hlo : row.lo ≤ r.payload.length) (hhi : r.payload.length ≤ row.hi)
    (hh : handle code r (serving code r s) = .thenDo st b p k) : AnswersThen c code r s st b p k := by
  unfold AnswersThen Does; rw [e, requestAt_ready h hrow hlo hhi hh]

end Sys2Proof.Laws
end

