-- ==== Sys2Proof/Laws/State.lean ====
section
/-! SUPPORT. What each named update of State changes and what it leaves alone, said once, so that no later proof unfolds a record update. -/

namespace Sys2Proof.Laws
open Sys2Proof Sys2Proof.Machine

/-- Time carried forward changes the clock alone (log 6). -/
@[simp] theorem advance_keeps (t : Nat) (s : State) :
    (advance t s).freeCtr = s.freeCtr ∧ (advance t s).env = s.env ∧ (advance t s).otp = s.otp ∧ (advance t s).ao = s.ao ∧ (advance t s).mbx = s.mbx ∧
    (advance t s).win = s.win ∧ (advance t s).mode = s.mode ∧ (advance t s).pwr = s.pwr ∧ (advance t s).outs = s.outs ∧ (advance t s).scan = s.scan ∧
    (advance t s).rls = s.rls ∧ (advance t s).hap = s.hap ∧ (advance t s).mill = s.mill ∧ (advance t s).bus = s.bus ∧ (advance t s).tag = s.tag ∧
    (advance t s).enc = s.enc ∧ (advance t s).fab = s.fab ∧ (advance t s).core = s.core ∧ (advance t s).ext = s.ext ∧ (advance t s).nvm = s.nvm ∧
    (advance t s).boot = s.boot ∧ (advance t s).resetDue = s.resetDue ∧ (advance t s).wakeDue = s.wakeDue ∧ (advance t s).work = s.work ∧
    (advance t s).pending = s.pending ∧ (advance t s).now = max s.now t := by
  simp [advance]

/-- A change of one port is a change of the mailbox alone. -/
@[simp] theorem modPort_keeps (t : Transport) (f : Port → Port) (s : State) :
    (modPort t f s).now = s.now ∧ (modPort t f s).freeCtr = s.freeCtr ∧ (modPort t f s).env = s.env ∧ (modPort t f s).otp = s.otp ∧
    (modPort t f s).ao = s.ao ∧ (modPort t f s).win = s.win ∧ (modPort t f s).mode = s.mode ∧ (modPort t f s).pwr = s.pwr ∧
    (modPort t f s).outs = s.outs ∧ (modPort t f s).scan = s.scan ∧ (modPort t f s).rls = s.rls ∧ (modPort t f s).hap = s.hap ∧
    (modPort t f s).mill = s.mill ∧ (modPort t f s).bus = s.bus ∧ (modPort t f s).tag = s.tag ∧ (modPort t f s).enc = s.enc ∧
    (modPort t f s).fab = s.fab ∧ (modPort t f s).core = s.core ∧ (modPort t f s).ext = s.ext ∧ (modPort t f s).nvm = s.nvm ∧
    (modPort t f s).boot = s.boot ∧ (modPort t f s).resetDue = s.resetDue ∧ (modPort t f s).wakeDue = s.wakeDue ∧ (modPort t f s).work = s.work ∧
    (modPort t f s).pending = s.pending := by
  cases t <;> simp [modPort]

/-- A change of a session is a change of the mailbox alone. -/
@[simp] theorem modSession_keeps (t : Transport) (id : Nat) (f : Session → Session) (s : State) :
    (modSession t id f s).now = s.now ∧ (modSession t id f s).freeCtr = s.freeCtr ∧ (modSession t id f s).env = s.env ∧
    (modSession t id f s).otp = s.otp ∧ (modSession t id f s).ao = s.ao ∧ (modSession t id f s).win = s.win ∧ (modSession t id f s).mode = s.mode ∧
    (modSession t id f s).pwr = s.pwr ∧ (modSession t id f s).outs = s.outs ∧ (modSession t id f s).scan = s.scan ∧
    (modSession t id f s).rls = s.rls ∧ (modSession t id f s).hap = s.hap ∧ (modSession t id f s).mill = s.mill ∧ (modSession t id f s).bus = s.bus ∧
    (modSession t id f s).tag = s.tag ∧ (modSession t id f s).enc = s.enc ∧ (modSession t id f s).fab = s.fab ∧ (modSession t id f s).core = s.core ∧
    (modSession t id f s).ext = s.ext ∧ (modSession t id f s).nvm = s.nvm ∧ (modSession t id f s).boot = s.boot ∧
    (modSession t id f s).resetDue = s.resetDue ∧ (modSession t id f s).wakeDue = s.wakeDue ∧ (modSession t id f s).work = s.work ∧
    (modSession t id f s).pending = s.pending := by
  simp [modSession]

/-- A WIN_IRQ bit set changes the host window alone (R41). -/
@[simp] theorem winIrq_keeps (n : Nat) (s : State) :
    (winIrq n s).now = s.now ∧ (winIrq n s).freeCtr = s.freeCtr ∧ (winIrq n s).env = s.env ∧ (winIrq n s).otp = s.otp ∧ (winIrq n s).ao = s.ao ∧
    (winIrq n s).mbx = s.mbx ∧ (winIrq n s).mode = s.mode ∧ (winIrq n s).pwr = s.pwr ∧ (winIrq n s).outs = s.outs ∧ (winIrq n s).scan = s.scan ∧
    (winIrq n s).rls = s.rls ∧ (winIrq n s).hap = s.hap ∧ (winIrq n s).mill = s.mill ∧ (winIrq n s).bus = s.bus ∧ (winIrq n s).tag = s.tag ∧
    (winIrq n s).enc = s.enc ∧ (winIrq n s).fab = s.fab ∧ (winIrq n s).core = s.core ∧ (winIrq n s).ext = s.ext ∧ (winIrq n s).nvm = s.nvm ∧
    (winIrq n s).boot = s.boot ∧ (winIrq n s).resetDue = s.resetDue ∧ (winIrq n s).wakeDue = s.wakeDue ∧ (winIrq n s).work = s.work ∧
    (winIrq n s).pending = s.pending := by
  simp [winIrq]

/-- A WIN_ERR record changes the host window alone (R38). -/
@[simp] theorem winErr_keeps (c : Nat) (s : State) :
    (winErr c s).now = s.now ∧ (winErr c s).freeCtr = s.freeCtr ∧ (winErr c s).env = s.env ∧ (winErr c s).otp = s.otp ∧ (winErr c s).ao = s.ao ∧
    (winErr c s).mbx = s.mbx ∧ (winErr c s).mode = s.mode ∧ (winErr c s).pwr = s.pwr ∧ (winErr c s).outs = s.outs ∧ (winErr c s).scan = s.scan ∧
    (winErr c s).rls = s.rls ∧ (winErr c s).hap = s.hap ∧ (winErr c s).mill = s.mill ∧ (winErr c s).bus = s.bus ∧ (winErr c s).tag = s.tag ∧
    (winErr c s).enc = s.enc ∧ (winErr c s).fab = s.fab ∧ (winErr c s).core = s.core ∧ (winErr c s).ext = s.ext ∧ (winErr c s).nvm = s.nvm ∧
    (winErr c s).boot = s.boot ∧ (winErr c s).resetDue = s.resetDue ∧ (winErr c s).wakeDue = s.wakeDue ∧ (winErr c s).work = s.work ∧
    (winErr c s).pending = s.pending := by
  simp [winErr]

/-- Frames that leave the SPI queue change the mailbox and WIN_IRQ alone (R41, R54). -/
@[simp] theorem rxLeave_keeps (f : List Frame → List Frame) (s : State) :
    (rxLeave f s).now = s.now ∧ (rxLeave f s).freeCtr = s.freeCtr ∧ (rxLeave f s).env = s.env ∧ (rxLeave f s).otp = s.otp ∧ (rxLeave f s).ao = s.ao ∧
    (rxLeave f s).mode = s.mode ∧ (rxLeave f s).pwr = s.pwr ∧ (rxLeave f s).outs = s.outs ∧ (rxLeave f s).scan = s.scan ∧ (rxLeave f s).rls = s.rls ∧
    (rxLeave f s).hap = s.hap ∧ (rxLeave f s).mill = s.mill ∧ (rxLeave f s).bus = s.bus ∧ (rxLeave f s).tag = s.tag ∧ (rxLeave f s).enc = s.enc ∧
    (rxLeave f s).fab = s.fab ∧ (rxLeave f s).core = s.core ∧ (rxLeave f s).ext = s.ext ∧ (rxLeave f s).nvm = s.nvm ∧ (rxLeave f s).boot = s.boot ∧
    (rxLeave f s).resetDue = s.resetDue ∧ (rxLeave f s).wakeDue = s.wakeDue ∧ (rxLeave f s).work = s.work ∧ (rxLeave f s).pending = s.pending := by
  unfold rxLeave; dsimp only; (repeat' split) <;> simp

/-- A life counter raised changes the NVM alone (R479). -/
@[simp] theorem bump_keeps (c i n : Nat) (s : State) :
    (bump c i n s).now = s.now ∧ (bump c i n s).freeCtr = s.freeCtr ∧ (bump c i n s).env = s.env ∧ (bump c i n s).otp = s.otp ∧
    (bump c i n s).ao = s.ao ∧ (bump c i n s).mbx = s.mbx ∧ (bump c i n s).win = s.win ∧ (bump c i n s).mode = s.mode ∧ (bump c i n s).pwr = s.pwr ∧
    (bump c i n s).outs = s.outs ∧ (bump c i n s).scan = s.scan ∧ (bump c i n s).rls = s.rls ∧ (bump c i n s).hap = s.hap ∧
    (bump c i n s).mill = s.mill ∧ (bump c i n s).bus = s.bus ∧ (bump c i n s).tag = s.tag ∧ (bump c i n s).enc = s.enc ∧
    (bump c i n s).fab = s.fab ∧ (bump c i n s).core = s.core ∧ (bump c i n s).ext = s.ext ∧ (bump c i n s).boot = s.boot ∧
    (bump c i n s).resetDue = s.resetDue ∧ (bump c i n s).wakeDue = s.wakeDue ∧ (bump c i n s).work = s.work ∧ (bump c i n s).pending = s.pending ∧
    (bump c i n s).nvm.diag = s.nvm.diag ∧ (bump c i n s).nvm.tw = s.nvm.tw := by
  unfold bump; split <;> simp

/-- A life counter set changes the NVM alone (R491). -/
@[simp] theorem setLife_keeps (c i v : Nat) (s : State) :
    (setLife c i v s).now = s.now ∧ (setLife c i v s).freeCtr = s.freeCtr ∧ (setLife c i v s).env = s.env ∧ (setLife c i v s).otp = s.otp ∧
    (setLife c i v s).ao = s.ao ∧ (setLife c i v s).mbx = s.mbx ∧ (setLife c i v s).win = s.win ∧ (setLife c i v s).mode = s.mode ∧
    (setLife c i v s).pwr = s.pwr ∧ (setLife c i v s).outs = s.outs ∧ (setLife c i v s).scan = s.scan ∧ (setLife c i v s).rls = s.rls ∧
    (setLife c i v s).hap = s.hap ∧ (setLife c i v s).mill = s.mill ∧ (setLife c i v s).bus = s.bus ∧ (setLife c i v s).tag = s.tag ∧
    (setLife c i v s).enc = s.enc ∧ (setLife c i v s).fab = s.fab ∧ (setLife c i v s).core = s.core ∧ (setLife c i v s).ext = s.ext ∧
    (setLife c i v s).boot = s.boot ∧ (setLife c i v s).resetDue = s.resetDue ∧ (setLife c i v s).wakeDue = s.wakeDue ∧
    (setLife c i v s).work = s.work ∧ (setLife c i v s).pending = s.pending ∧ (setLife c i v s).nvm.diag = s.nvm.diag ∧
    (setLife c i v s).nvm.tw = s.nvm.tw := by
  simp [setLife]

/-- A frame handed to a transport changes the mailbox, WIN_IRQ and the mark for follow-up work alone. -/
@[simp] theorem pushFrame_keeps (t : Transport) (f : Frame) (s : State) :
    (pushFrame t f s).now = s.now ∧ (pushFrame t f s).freeCtr = s.freeCtr ∧ (pushFrame t f s).env = s.env ∧ (pushFrame t f s).otp = s.otp ∧
    (pushFrame t f s).ao = s.ao ∧ (pushFrame t f s).mode = s.mode ∧ (pushFrame t f s).pwr = s.pwr ∧ (pushFrame t f s).outs = s.outs ∧
    (pushFrame t f s).scan = s.scan ∧ (pushFrame t f s).rls = s.rls ∧ (pushFrame t f s).hap = s.hap ∧ (pushFrame t f s).mill = s.mill ∧
    (pushFrame t f s).bus = s.bus ∧ (pushFrame t f s).tag = s.tag ∧ (pushFrame t f s).enc = s.enc ∧ (pushFrame t f s).fab = s.fab ∧
    (pushFrame t f s).core = s.core ∧ (pushFrame t f s).ext = s.ext ∧ (pushFrame t f s).nvm = s.nvm ∧ (pushFrame t f s).boot = s.boot ∧
    (pushFrame t f s).resetDue = s.resetDue ∧ (pushFrame t f s).wakeDue = s.wakeDue ∧ (pushFrame t f s).pending = s.pending := by
  cases t <;> simp only [pushFrame] <;> (repeat' split) <;> simp

/-- Room made for an event changes the mailbox and WIN_IRQ alone (R63). -/
@[simp] theorem makeRoom_keeps (t : Transport) (s : State) :
    (makeRoom t s).now = s.now ∧ (makeRoom t s).freeCtr = s.freeCtr ∧ (makeRoom t s).env = s.env ∧ (makeRoom t s).otp = s.otp ∧
    (makeRoom t s).ao = s.ao ∧ (makeRoom t s).mode = s.mode ∧ (makeRoom t s).pwr = s.pwr ∧ (makeRoom t s).outs = s.outs ∧
    (makeRoom t s).scan = s.scan ∧ (makeRoom t s).rls = s.rls ∧ (makeRoom t s).hap = s.hap ∧ (makeRoom t s).mill = s.mill ∧
    (makeRoom t s).bus = s.bus ∧ (makeRoom t s).tag = s.tag ∧ (makeRoom t s).enc = s.enc ∧ (makeRoom t s).fab = s.fab ∧
    (makeRoom t s).core = s.core ∧ (makeRoom t s).ext = s.ext ∧ (makeRoom t s).nvm = s.nvm ∧ (makeRoom t s).boot = s.boot ∧
    (makeRoom t s).resetDue = s.resetDue ∧ (makeRoom t s).wakeDue = s.wakeDue ∧ (makeRoom t s).work = s.work ∧ (makeRoom t s).pending = s.pending := by
  unfold makeRoom; dsimp only; (repeat' split) <;> simp

/-- A WAIT event raised changes the extension and the mark for follow-up work alone (R552). -/
@[simp] theorem raiseExt_keeps (k : Nat) (s : State) :
    (raiseExt k s).now = s.now ∧ (raiseExt k s).freeCtr = s.freeCtr ∧ (raiseExt k s).env = s.env ∧ (raiseExt k s).otp = s.otp ∧
    (raiseExt k s).ao = s.ao ∧ (raiseExt k s).mbx = s.mbx ∧ (raiseExt k s).win = s.win ∧ (raiseExt k s).mode = s.mode ∧ (raiseExt k s).pwr = s.pwr ∧
    (raiseExt k s).outs = s.outs ∧ (raiseExt k s).scan = s.scan ∧ (raiseExt k s).rls = s.rls ∧ (raiseExt k s).hap = s.hap ∧
    (raiseExt k s).mill = s.mill ∧ (raiseExt k s).bus = s.bus ∧ (raiseExt k s).tag = s.tag ∧ (raiseExt k s).enc = s.enc ∧
    (raiseExt k s).fab = s.fab ∧ (raiseExt k s).core = s.core ∧ (raiseExt k s).nvm = s.nvm ∧ (raiseExt k s).boot = s.boot ∧
    (raiseExt k s).resetDue = s.resetDue ∧ (raiseExt k s).wakeDue = s.wakeDue ∧ (raiseExt k s).pending = s.pending := by
  simp [raiseExt]

/-- A change within the buses leaves every other unit alone. -/
@[simp] theorem modCan_keeps (c : Nat) (f : CanChan → CanChan) (s : State) :
    (modCan c f s).now = s.now ∧ (modCan c f s).freeCtr = s.freeCtr ∧ (modCan c f s).env = s.env ∧ (modCan c f s).otp = s.otp ∧
    (modCan c f s).ao = s.ao ∧ (modCan c f s).mbx = s.mbx ∧ (modCan c f s).win = s.win ∧ (modCan c f s).mode = s.mode ∧ (modCan c f s).pwr = s.pwr ∧
    (modCan c f s).outs = s.outs ∧ (modCan c f s).scan = s.scan ∧ (modCan c f s).rls = s.rls ∧ (modCan c f s).hap = s.hap ∧
    (modCan c f s).mill = s.mill ∧ (modCan c f s).tag = s.tag ∧ (modCan c f s).enc = s.enc ∧ (modCan c f s).fab = s.fab ∧
    (modCan c f s).core = s.core ∧ (modCan c f s).ext = s.ext ∧ (modCan c f s).nvm = s.nvm ∧ (modCan c f s).boot = s.boot ∧
    (modCan c f s).resetDue = s.resetDue ∧ (modCan c f s).wakeDue = s.wakeDue ∧ (modCan c f s).work = s.work ∧ (modCan c f s).pending = s.pending ∧
    (modCan c f s).bus.up = s.bus.up ∧ (modCan c f s).bus.lin = s.bus.lin := by
  simp [modCan]

/-- A change within Millrace leaves every other unit alone. -/
@[simp] theorem modStn_keeps (a : Nat) (f : Station → Station) (s : State) :
    (modStn a f s).now = s.now ∧ (modStn a f s).freeCtr = s.freeCtr ∧ (modStn a f s).env = s.env ∧ (modStn a f s).otp = s.otp ∧
    (modStn a f s).ao = s.ao ∧ (modStn a f s).mbx = s.mbx ∧ (modStn a f s).win = s.win ∧ (modStn a f s).mode = s.mode ∧ (modStn a f s).pwr = s.pwr ∧
    (modStn a f s).outs = s.outs ∧ (modStn a f s).scan = s.scan ∧ (modStn a f s).rls = s.rls ∧ (modStn a f s).hap = s.hap ∧
    (modStn a f s).bus = s.bus ∧ (modStn a f s).tag = s.tag ∧ (modStn a f s).enc = s.enc ∧ (modStn a f s).fab = s.fab ∧
    (modStn a f s).core = s.core ∧ (modStn a f s).ext = s.ext ∧ (modStn a f s).nvm = s.nvm ∧ (modStn a f s).boot = s.boot ∧
    (modStn a f s).resetDue = s.resetDue ∧ (modStn a f s).wakeDue = s.wakeDue ∧ (modStn a f s).work = s.work ∧ (modStn a f s).pending = s.pending ∧
    (modStn a f s).mill.ports = s.mill.ports ∧ (modStn a f s).mill.stn = modAt f a s.mill.stn := by
  simp [modStn]

/-- A change within the outputs leaves every other unit alone. -/
@[simp] theorem modDie_keeps (d : Die) (f : DieSt → DieSt) (s : State) :
    (modDie d f s).now = s.now ∧ (modDie d f s).freeCtr = s.freeCtr ∧ (modDie d f s).env = s.env ∧ (modDie d f s).otp = s.otp ∧
    (modDie d f s).ao = s.ao ∧ (modDie d f s).mbx = s.mbx ∧ (modDie d f s).win = s.win ∧ (modDie d f s).mode = s.mode ∧ (modDie d f s).pwr = s.pwr ∧
    (modDie d f s).scan = s.scan ∧ (modDie d f s).rls = s.rls ∧ (modDie d f s).hap = s.hap ∧ (modDie d f s).mill = s.mill ∧
    (modDie d f s).bus = s.bus ∧ (modDie d f s).tag = s.tag ∧ (modDie d f s).enc = s.enc ∧ (modDie d f s).fab = s.fab ∧
    (modDie d f s).core = s.core ∧ (modDie d f s).ext = s.ext ∧ (modDie d f s).nvm = s.nvm ∧ (modDie d f s).boot = s.boot ∧
    (modDie d f s).resetDue = s.resetDue ∧ (modDie d f s).wakeDue = s.wakeDue ∧ (modDie d f s).work = s.work ∧ (modDie d f s).pending = s.pending := by
  cases d <;> simp [modDie]

/-- A change within the outputs leaves every other unit alone. -/
@[simp] theorem modChan_keeps (o : Nat) (f : Chan → Chan) (s : State) :
    (modChan o f s).now = s.now ∧ (modChan o f s).freeCtr = s.freeCtr ∧ (modChan o f s).env = s.env ∧ (modChan o f s).otp = s.otp ∧
    (modChan o f s).ao = s.ao ∧ (modChan o f s).mbx = s.mbx ∧ (modChan o f s).win = s.win ∧ (modChan o f s).mode = s.mode ∧
    (modChan o f s).pwr = s.pwr ∧ (modChan o f s).scan = s.scan ∧ (modChan o f s).rls = s.rls ∧ (modChan o f s).hap = s.hap ∧
    (modChan o f s).mill = s.mill ∧ (modChan o f s).bus = s.bus ∧ (modChan o f s).tag = s.tag ∧ (modChan o f s).enc = s.enc ∧
    (modChan o f s).fab = s.fab ∧ (modChan o f s).core = s.core ∧ (modChan o f s).ext = s.ext ∧ (modChan o f s).nvm = s.nvm ∧
    (modChan o f s).boot = s.boot ∧ (modChan o f s).resetDue = s.resetDue ∧ (modChan o f s).wakeDue = s.wakeDue ∧ (modChan o f s).work = s.work ∧
    (modChan o f s).pending = s.pending ∧ (modChan o f s).outs.wiper = s.outs.wiper ∧ (modChan o f s).outs.acts = s.outs.acts ∧
    (modChan o f s).outs.chans = modAt f o s.outs.chans := by
  simp [modChan]

/-- A change of an owner changes the channels or the stations alone (R72, R73). -/
@[simp] theorem modOwn_keeps (o : Nat) (f : Own → Own) (s : State) :
    (modOwn o f s).now = s.now ∧ (modOwn o f s).freeCtr = s.freeCtr ∧ (modOwn o f s).env = s.env ∧ (modOwn o f s).otp = s.otp ∧
    (modOwn o f s).ao = s.ao ∧ (modOwn o f s).mbx = s.mbx ∧ (modOwn o f s).win = s.win ∧ (modOwn o f s).mode = s.mode ∧ (modOwn o f s).pwr = s.pwr ∧
    (modOwn o f s).scan = s.scan ∧ (modOwn o f s).rls = s.rls ∧ (modOwn o f s).hap = s.hap ∧ (modOwn o f s).bus = s.bus ∧
    (modOwn o f s).tag = s.tag ∧ (modOwn o f s).enc = s.enc ∧ (modOwn o f s).fab = s.fab ∧ (modOwn o f s).core = s.core ∧
    (modOwn o f s).ext = s.ext ∧ (modOwn o f s).nvm = s.nvm ∧ (modOwn o f s).boot = s.boot ∧ (modOwn o f s).resetDue = s.resetDue ∧
    (modOwn o f s).wakeDue = s.wakeDue ∧ (modOwn o f s).work = s.work ∧ (modOwn o f s).pending = s.pending := by
  unfold modOwn; (repeat' split) <;> simp

/-- A change of the core registers leaves every other unit alone. -/
@[simp] theorem modRegs_keeps (f : Regs → Regs) (s : State) :
    (modRegs f s).now = s.now ∧ (modRegs f s).freeCtr = s.freeCtr ∧ (modRegs f s).env = s.env ∧ (modRegs f s).otp = s.otp ∧ (modRegs f s).ao = s.ao ∧
    (modRegs f s).mbx = s.mbx ∧ (modRegs f s).win = s.win ∧ (modRegs f s).mode = s.mode ∧ (modRegs f s).pwr = s.pwr ∧ (modRegs f s).outs = s.outs ∧
    (modRegs f s).scan = s.scan ∧ (modRegs f s).rls = s.rls ∧ (modRegs f s).hap = s.hap ∧ (modRegs f s).mill = s.mill ∧ (modRegs f s).bus = s.bus ∧
    (modRegs f s).tag = s.tag ∧ (modRegs f s).enc = s.enc ∧ (modRegs f s).fab = s.fab ∧ (modRegs f s).ext = s.ext ∧ (modRegs f s).nvm = s.nvm ∧
    (modRegs f s).boot = s.boot ∧ (modRegs f s).resetDue = s.resetDue ∧ (modRegs f s).wakeDue = s.wakeDue ∧ (modRegs f s).work = s.work ∧
    (modRegs f s).pending = s.pending ∧ (modRegs f s).core.r = f s.core.r ∧ (modRegs f s).core.mem = s.core.mem ∧
    (modRegs f s).core.mpu = s.core.mpu ∧ (modRegs f s).core.tdx = s.core.tdx ∧ (modRegs f s).core.epc = s.core.epc ∧
    (modRegs f s).core.epsr = s.core.epsr := by
  simp [modRegs]

/-- A change of a thread leaves every other unit alone. -/
@[simp] theorem modThread_keeps (n : Nat) (f : Thread → Thread) (s : State) :
    (modThread n f s).now = s.now ∧ (modThread n f s).freeCtr = s.freeCtr ∧ (modThread n f s).env = s.env ∧ (modThread n f s).otp = s.otp ∧
    (modThread n f s).ao = s.ao ∧ (modThread n f s).mbx = s.mbx ∧ (modThread n f s).win = s.win ∧ (modThread n f s).mode = s.mode ∧
    (modThread n f s).pwr = s.pwr ∧ (modThread n f s).outs = s.outs ∧ (modThread n f s).scan = s.scan ∧ (modThread n f s).rls = s.rls ∧
    (modThread n f s).hap = s.hap ∧ (modThread n f s).mill = s.mill ∧ (modThread n f s).bus = s.bus ∧ (modThread n f s).tag = s.tag ∧
    (modThread n f s).enc = s.enc ∧ (modThread n f s).fab = s.fab ∧ (modThread n f s).core = s.core ∧ (modThread n f s).nvm = s.nvm ∧
    (modThread n f s).boot = s.boot ∧ (modThread n f s).resetDue = s.resetDue ∧ (modThread n f s).wakeDue = s.wakeDue ∧
    (modThread n f s).work = s.work ∧ (modThread n f s).pending = s.pending := by
  simp [modThread]

/-- A change of a thread's registers changes the core or the extension alone (R551). -/
@[simp] theorem modThreadRegs_keeps (n : Nat) (f : Regs → Regs) (s : State) :
    (modThreadRegs n f s).now = s.now ∧ (modThreadRegs n f s).freeCtr = s.freeCtr ∧ (modThreadRegs n f s).env = s.env ∧
    (modThreadRegs n f s).otp = s.otp ∧ (modThreadRegs n f s).ao = s.ao ∧ (modThreadRegs n f s).mbx = s.mbx ∧ (modThreadRegs n f s).win = s.win ∧
    (modThreadRegs n f s).mode = s.mode ∧ (modThreadRegs n f s).pwr = s.pwr ∧ (modThreadRegs n f s).outs = s.outs ∧
    (modThreadRegs n f s).scan = s.scan ∧ (modThreadRegs n f s).rls = s.rls ∧ (modThreadRegs n f s).hap = s.hap ∧
    (modThreadRegs n f s).mill = s.mill ∧ (modThreadRegs n f s).bus = s.bus ∧ (modThreadRegs n f s).tag = s.tag ∧ (modThreadRegs n f s).enc = s.enc ∧
    (modThreadRegs n f s).fab = s.fab ∧ (modThreadRegs n f s).nvm = s.nvm ∧ (modThreadRegs n f s).boot = s.boot ∧
    (modThreadRegs n f s).resetDue = s.resetDue ∧ (modThreadRegs n f s).wakeDue = s.wakeDue ∧ (modThreadRegs n f s).work = s.work ∧
    (modThreadRegs n f s).pending = s.pending := by
  unfold modThreadRegs; (repeat' split) <;> simp

/-- A change within the enclave leaves every other unit alone. -/
@[simp] theorem modSlot_keeps (n : Nat) (f : KeySlot → KeySlot) (s : State) :
    (modSlot n f s).now = s.now ∧ (modSlot n f s).freeCtr = s.freeCtr ∧ (modSlot n f s).env = s.env ∧ (modSlot n f s).otp = s.otp ∧
    (modSlot n f s).ao = s.ao ∧ (modSlot n f s).mbx = s.mbx ∧ (modSlot n f s).win = s.win ∧ (modSlot n f s).mode = s.mode ∧
    (modSlot n f s).pwr = s.pwr ∧ (modSlot n f s).outs = s.outs ∧ (modSlot n f s).scan = s.scan ∧ (modSlot n f s).rls = s.rls ∧
    (modSlot n f s).hap = s.hap ∧ (modSlot n f s).mill = s.mill ∧ (modSlot n f s).bus = s.bus ∧ (modSlot n f s).tag = s.tag ∧
    (modSlot n f s).fab = s.fab ∧ (modSlot n f s).core = s.core ∧ (modSlot n f s).ext = s.ext ∧ (modSlot n f s).nvm = s.nvm ∧
    (modSlot n f s).boot = s.boot ∧ (modSlot n f s).resetDue = s.resetDue ∧ (modSlot n f s).wakeDue = s.wakeDue ∧ (modSlot n f s).work = s.work ∧
    (modSlot n f s).pending = s.pending := by
  simp [modSlot]

/-- A change within the outputs leaves every other unit alone. -/
@[simp] theorem modWiper_keeps (f : Wiper → Wiper) (s : State) :
    (modWiper f s).now = s.now ∧ (modWiper f s).freeCtr = s.freeCtr ∧ (modWiper f s).env = s.env ∧ (modWiper f s).otp = s.otp ∧
    (modWiper f s).ao = s.ao ∧ (modWiper f s).mbx = s.mbx ∧ (modWiper f s).win = s.win ∧ (modWiper f s).mode = s.mode ∧ (modWiper f s).pwr = s.pwr ∧
    (modWiper f s).scan = s.scan ∧ (modWiper f s).rls = s.rls ∧ (modWiper f s).hap = s.hap ∧ (modWiper f s).mill = s.mill ∧
    (modWiper f s).bus = s.bus ∧ (modWiper f s).tag = s.tag ∧ (modWiper f s).enc = s.enc ∧ (modWiper f s).fab = s.fab ∧
    (modWiper f s).core = s.core ∧ (modWiper f s).ext = s.ext ∧ (modWiper f s).nvm = s.nvm ∧ (modWiper f s).boot = s.boot ∧
    (modWiper f s).resetDue = s.resetDue ∧ (modWiper f s).wakeDue = s.wakeDue ∧ (modWiper f s).work = s.work ∧ (modWiper f s).pending = s.pending ∧
    (modWiper f s).outs.wiper = f s.outs.wiper ∧ (modWiper f s).outs.acts = s.outs.acts ∧ (modWiper f s).outs.chans = s.outs.chans := by
  simp [modWiper]

/-- A change within the outputs leaves every other unit alone. -/
@[simp] theorem modAct_keeps (n : Nat) (f : Actuator → Actuator) (s : State) :
    (modAct n f s).now = s.now ∧ (modAct n f s).freeCtr = s.freeCtr ∧ (modAct n f s).env = s.env ∧ (modAct n f s).otp = s.otp ∧
    (modAct n f s).ao = s.ao ∧ (modAct n f s).mbx = s.mbx ∧ (modAct n f s).win = s.win ∧ (modAct n f s).mode = s.mode ∧ (modAct n f s).pwr = s.pwr ∧
    (modAct n f s).scan = s.scan ∧ (modAct n f s).rls = s.rls ∧ (modAct n f s).hap = s.hap ∧ (modAct n f s).mill = s.mill ∧
    (modAct n f s).bus = s.bus ∧ (modAct n f s).tag = s.tag ∧ (modAct n f s).enc = s.enc ∧ (modAct n f s).fab = s.fab ∧
    (modAct n f s).core = s.core ∧ (modAct n f s).ext = s.ext ∧ (modAct n f s).nvm = s.nvm ∧ (modAct n f s).boot = s.boot ∧
    (modAct n f s).resetDue = s.resetDue ∧ (modAct n f s).wakeDue = s.wakeDue ∧ (modAct n f s).work = s.work ∧ (modAct n f s).pending = s.pending ∧
    (modAct n f s).outs.wiper = s.outs.wiper ∧ (modAct n f s).outs.acts = modAt f n s.outs.acts ∧ (modAct n f s).outs.chans = s.outs.chans := by
  simp [modAct]

/-- A change within the tag unit leaves every other unit alone. -/
@[simp] theorem modTag_keeps (f : Tag → Tag) (s : State) :
    (modTag f s).now = s.now ∧ (modTag f s).freeCtr = s.freeCtr ∧ (modTag f s).env = s.env ∧ (modTag f s).otp = s.otp ∧ (modTag f s).ao = s.ao ∧
    (modTag f s).mbx = s.mbx ∧ (modTag f s).win = s.win ∧ (modTag f s).mode = s.mode ∧ (modTag f s).pwr = s.pwr ∧ (modTag f s).outs = s.outs ∧
    (modTag f s).scan = s.scan ∧ (modTag f s).rls = s.rls ∧ (modTag f s).hap = s.hap ∧ (modTag f s).mill = s.mill ∧ (modTag f s).bus = s.bus ∧
    (modTag f s).enc = s.enc ∧ (modTag f s).fab = s.fab ∧ (modTag f s).core = s.core ∧ (modTag f s).ext = s.ext ∧ (modTag f s).nvm = s.nvm ∧
    (modTag f s).boot = s.boot ∧ (modTag f s).resetDue = s.resetDue ∧ (modTag f s).wakeDue = s.wakeDue ∧ (modTag f s).work = s.work ∧
    (modTag f s).pending = s.pending ∧ (modTag f s).tag = f s.tag := by
  simp [modTag]

/-- A change within the tag unit leaves every other unit alone. -/
@[simp] theorem modRec_keeps (n : Bytes) (f : InsRec → InsRec) (s : State) :
    (modRec n f s).now = s.now ∧ (modRec n f s).freeCtr = s.freeCtr ∧ (modRec n f s).env = s.env ∧ (modRec n f s).otp = s.otp ∧
    (modRec n f s).ao = s.ao ∧ (modRec n f s).mbx = s.mbx ∧ (modRec n f s).win = s.win ∧ (modRec n f s).mode = s.mode ∧ (modRec n f s).pwr = s.pwr ∧
    (modRec n f s).outs = s.outs ∧ (modRec n f s).scan = s.scan ∧ (modRec n f s).rls = s.rls ∧ (modRec n f s).hap = s.hap ∧
    (modRec n f s).mill = s.mill ∧ (modRec n f s).bus = s.bus ∧ (modRec n f s).enc = s.enc ∧ (modRec n f s).fab = s.fab ∧
    (modRec n f s).core = s.core ∧ (modRec n f s).ext = s.ext ∧ (modRec n f s).nvm = s.nvm ∧ (modRec n f s).boot = s.boot ∧
    (modRec n f s).resetDue = s.resetDue ∧ (modRec n f s).wakeDue = s.wakeDue ∧ (modRec n f s).work = s.work ∧ (modRec n f s).pending = s.pending := by
  simp [modRec]

/-- A change within the tag unit leaves every other unit alone. -/
@[simp] theorem modAccept_keeps (f : Accept → Accept) (s : State) :
    (modAccept f s).now = s.now ∧ (modAccept f s).freeCtr = s.freeCtr ∧ (modAccept f s).env = s.env ∧ (modAccept f s).otp = s.otp ∧
    (modAccept f s).ao = s.ao ∧ (modAccept f s).mbx = s.mbx ∧ (modAccept f s).win = s.win ∧ (modAccept f s).mode = s.mode ∧
    (modAccept f s).pwr = s.pwr ∧ (modAccept f s).outs = s.outs ∧ (modAccept f s).scan = s.scan ∧ (modAccept f s).rls = s.rls ∧
    (modAccept f s).hap = s.hap ∧ (modAccept f s).mill = s.mill ∧ (modAccept f s).bus = s.bus ∧ (modAccept f s).enc = s.enc ∧
    (modAccept f s).fab = s.fab ∧ (modAccept f s).core = s.core ∧ (modAccept f s).ext = s.ext ∧ (modAccept f s).nvm = s.nvm ∧
    (modAccept f s).boot = s.boot ∧ (modAccept f s).resetDue = s.resetDue ∧ (modAccept f s).wakeDue = s.wakeDue ∧ (modAccept f s).work = s.work ∧
    (modAccept f s).pending = s.pending := by
  simp [modAccept]

/-- A change within the tag unit leaves every other unit alone. -/
@[simp] theorem modTxn_keeps (f : Dsrc → Dsrc) (s : State) :
    (modTxn f s).now = s.now ∧ (modTxn f s).freeCtr = s.freeCtr ∧ (modTxn f s).env = s.env ∧ (modTxn f s).otp = s.otp ∧ (modTxn f s).ao = s.ao ∧
    (modTxn f s).mbx = s.mbx ∧ (modTxn f s).win = s.win ∧ (modTxn f s).mode = s.mode ∧ (modTxn f s).pwr = s.pwr ∧ (modTxn f s).outs = s.outs ∧
    (modTxn f s).scan = s.scan ∧ (modTxn f s).rls = s.rls ∧ (modTxn f s).hap = s.hap ∧ (modTxn f s).mill = s.mill ∧ (modTxn f s).bus = s.bus ∧
    (modTxn f s).enc = s.enc ∧ (modTxn f s).fab = s.fab ∧ (modTxn f s).core = s.core ∧ (modTxn f s).ext = s.ext ∧ (modTxn f s).nvm = s.nvm ∧
    (modTxn f s).boot = s.boot ∧ (modTxn f s).resetDue = s.resetDue ∧ (modTxn f s).wakeDue = s.wakeDue ∧ (modTxn f s).work = s.work ∧
    (modTxn f s).pending = s.pending := by
  simp [modTxn]

/-- A change within the tag unit leaves every other unit alone. -/
@[simp] theorem modUhf_keeps (f : Uhf → Uhf) (s : State) :
    (modUhf f s).now = s.now ∧ (modUhf f s).freeCtr = s.freeCtr ∧ (modUhf f s).env = s.env ∧ (modUhf f s).otp = s.otp ∧ (modUhf f s).ao = s.ao ∧
    (modUhf f s).mbx = s.mbx ∧ (modUhf f s).win = s.win ∧ (modUhf f s).mode = s.mode ∧ (modUhf f s).pwr = s.pwr ∧ (modUhf f s).outs = s.outs ∧
    (modUhf f s).scan = s.scan ∧ (modUhf f s).rls = s.rls ∧ (modUhf f s).hap = s.hap ∧ (modUhf f s).mill = s.mill ∧ (modUhf f s).bus = s.bus ∧
    (modUhf f s).enc = s.enc ∧ (modUhf f s).fab = s.fab ∧ (modUhf f s).core = s.core ∧ (modUhf f s).ext = s.ext ∧ (modUhf f s).nvm = s.nvm ∧
    (modUhf f s).boot = s.boot ∧ (modUhf f s).resetDue = s.resetDue ∧ (modUhf f s).wakeDue = s.wakeDue ∧ (modUhf f s).work = s.work ∧
    (modUhf f s).pending = s.pending := by
  simp [modUhf]

/-- A change within the NVM leaves every other unit alone. -/
@[simp] theorem modDiag_keeps (f : Diag → Diag) (s : State) :
    (modDiag f s).now = s.now ∧ (modDiag f s).freeCtr = s.freeCtr ∧ (modDiag f s).env = s.env ∧ (modDiag f s).otp = s.otp ∧ (modDiag f s).ao = s.ao ∧
    (modDiag f s).mbx = s.mbx ∧ (modDiag f s).win = s.win ∧ (modDiag f s).mode = s.mode ∧ (modDiag f s).pwr = s.pwr ∧ (modDiag f s).outs = s.outs ∧
    (modDiag f s).scan = s.scan ∧ (modDiag f s).rls = s.rls ∧ (modDiag f s).hap = s.hap ∧ (modDiag f s).mill = s.mill ∧ (modDiag f s).bus = s.bus ∧
    (modDiag f s).tag = s.tag ∧ (modDiag f s).enc = s.enc ∧ (modDiag f s).fab = s.fab ∧ (modDiag f s).core = s.core ∧ (modDiag f s).ext = s.ext ∧
    (modDiag f s).boot = s.boot ∧ (modDiag f s).resetDue = s.resetDue ∧ (modDiag f s).wakeDue = s.wakeDue ∧ (modDiag f s).work = s.work ∧
    (modDiag f s).pending = s.pending ∧ (modDiag f s).nvm.diag = f s.nvm.diag ∧ (modDiag f s).nvm.life = s.nvm.life ∧ (modDiag f s).nvm.tw = s.nvm.tw := by
  simp [modDiag]

/-- A change within the buses leaves every other unit alone. -/
@[simp] theorem modUp_keeps (f : Uplink → Uplink) (s : State) :
    (modUp f s).now = s.now ∧ (modUp f s).freeCtr = s.freeCtr ∧ (modUp f s).env = s.env ∧ (modUp f s).otp = s.otp ∧ (modUp f s).ao = s.ao ∧
    (modUp f s).mbx = s.mbx ∧ (modUp f s).win = s.win ∧ (modUp f s).mode = s.mode ∧ (modUp f s).pwr = s.pwr ∧ (modUp f s).outs = s.outs ∧
    (modUp f s).scan = s.scan ∧ (modUp f s).rls = s.rls ∧ (modUp f s).hap = s.hap ∧ (modUp f s).mill = s.mill ∧ (modUp f s).tag = s.tag ∧
    (modUp f s).enc = s.enc ∧ (modUp f s).fab = s.fab ∧ (modUp f s).core = s.core ∧ (modUp f s).ext = s.ext ∧ (modUp f s).nvm = s.nvm ∧
    (modUp f s).boot = s.boot ∧ (modUp f s).resetDue = s.resetDue ∧ (modUp f s).wakeDue = s.wakeDue ∧ (modUp f s).work = s.work ∧
    (modUp f s).pending = s.pending ∧ (modUp f s).bus.up = f s.bus.up ∧ (modUp f s).bus.lin = s.bus.lin ∧ (modUp f s).bus.can = s.bus.can := by
  simp [modUp]

/-- A change within the buses leaves every other unit alone. -/
@[simp] theorem modStream_keeps (n : Nat) (f : StreamSt → StreamSt) (s : State) :
    (modStream n f s).now = s.now ∧ (modStream n f s).freeCtr = s.freeCtr ∧ (modStream n f s).env = s.env ∧ (modStream n f s).otp = s.otp ∧
    (modStream n f s).ao = s.ao ∧ (modStream n f s).mbx = s.mbx ∧ (modStream n f s).win = s.win ∧ (modStream n f s).mode = s.mode ∧
    (modStream n f s).pwr = s.pwr ∧ (modStream n f s).outs = s.outs ∧ (modStream n f s).scan = s.scan ∧ (modStream n f s).rls = s.rls ∧
    (modStream n f s).hap = s.hap ∧ (modStream n f s).mill = s.mill ∧ (modStream n f s).tag = s.tag ∧ (modStream n f s).enc = s.enc ∧
    (modStream n f s).fab = s.fab ∧ (modStream n f s).core = s.core ∧ (modStream n f s).ext = s.ext ∧ (modStream n f s).nvm = s.nvm ∧
    (modStream n f s).boot = s.boot ∧ (modStream n f s).resetDue = s.resetDue ∧ (modStream n f s).wakeDue = s.wakeDue ∧
    (modStream n f s).work = s.work ∧ (modStream n f s).pending = s.pending := by
  simp [modStream]

/-- A change within the buses leaves every other unit alone. -/
@[simp] theorem modLin_keeps (c : Nat) (f : LinChan → LinChan) (s : State) :
    (modLin c f s).now = s.now ∧ (modLin c f s).freeCtr = s.freeCtr ∧ (modLin c f s).env = s.env ∧ (modLin c f s).otp = s.otp ∧
    (modLin c f s).ao = s.ao ∧ (modLin c f s).mbx = s.mbx ∧ (modLin c f s).win = s.win ∧ (modLin c f s).mode = s.mode ∧ (modLin c f s).pwr = s.pwr ∧
    (modLin c f s).outs = s.outs ∧ (modLin c f s).scan = s.scan ∧ (modLin c f s).rls = s.rls ∧ (modLin c f s).hap = s.hap ∧
    (modLin c f s).mill = s.mill ∧ (modLin c f s).tag = s.tag ∧ (modLin c f s).enc = s.enc ∧ (modLin c f s).fab = s.fab ∧
    (modLin c f s).core = s.core ∧ (modLin c f s).ext = s.ext ∧ (modLin c f s).nvm = s.nvm ∧ (modLin c f s).boot = s.boot ∧
    (modLin c f s).resetDue = s.resetDue ∧ (modLin c f s).wakeDue = s.wakeDue ∧ (modLin c f s).work = s.work ∧ (modLin c f s).pending = s.pending ∧
    (modLin c f s).bus.up = s.bus.up ∧ (modLin c f s).bus.can = s.bus.can := by
  simp [modLin]

/-- A change within the buses leaves every other unit alone. -/
@[simp] theorem modGptp_keeps (f : Gptp → Gptp) (s : State) :
    (modGptp f s).now = s.now ∧ (modGptp f s).freeCtr = s.freeCtr ∧ (modGptp f s).env = s.env ∧ (modGptp f s).otp = s.otp ∧ (modGptp f s).ao = s.ao ∧
    (modGptp f s).mbx = s.mbx ∧ (modGptp f s).win = s.win ∧ (modGptp f s).mode = s.mode ∧ (modGptp f s).pwr = s.pwr ∧ (modGptp f s).outs = s.outs ∧
    (modGptp f s).scan = s.scan ∧ (modGptp f s).rls = s.rls ∧ (modGptp f s).hap = s.hap ∧ (modGptp f s).mill = s.mill ∧ (modGptp f s).tag = s.tag ∧
    (modGptp f s).enc = s.enc ∧ (modGptp f s).fab = s.fab ∧ (modGptp f s).core = s.core ∧ (modGptp f s).ext = s.ext ∧ (modGptp f s).nvm = s.nvm ∧
    (modGptp f s).boot = s.boot ∧ (modGptp f s).resetDue = s.resetDue ∧ (modGptp f s).wakeDue = s.wakeDue ∧ (modGptp f s).work = s.work ∧
    (modGptp f s).pending = s.pending := by
  simp [modGptp]

/-- A change within the enclave leaves every other unit alone. -/
@[simp] theorem modMon_keeps (n : Nat) (f : Monitor → Monitor) (s : State) :
    (modMon n f s).now = s.now ∧ (modMon n f s).freeCtr = s.freeCtr ∧ (modMon n f s).env = s.env ∧ (modMon n f s).otp = s.otp ∧
    (modMon n f s).ao = s.ao ∧ (modMon n f s).mbx = s.mbx ∧ (modMon n f s).win = s.win ∧ (modMon n f s).mode = s.mode ∧ (modMon n f s).pwr = s.pwr ∧
    (modMon n f s).outs = s.outs ∧ (modMon n f s).scan = s.scan ∧ (modMon n f s).rls = s.rls ∧ (modMon n f s).hap = s.hap ∧
    (modMon n f s).mill = s.mill ∧ (modMon n f s).bus = s.bus ∧ (modMon n f s).tag = s.tag ∧ (modMon n f s).fab = s.fab ∧
    (modMon n f s).core = s.core ∧ (modMon n f s).ext = s.ext ∧ (modMon n f s).nvm = s.nvm ∧ (modMon n f s).boot = s.boot ∧
    (modMon n f s).resetDue = s.resetDue ∧ (modMon n f s).wakeDue = s.wakeDue ∧ (modMon n f s).work = s.work ∧ (modMon n f s).pending = s.pending := by
  simp [modMon]

/-- A change of the haptic unit leaves every other unit alone. -/
@[simp] theorem modHap_keeps (f : Hap → Hap) (s : State) :
    (modHap f s).now = s.now ∧ (modHap f s).freeCtr = s.freeCtr ∧ (modHap f s).env = s.env ∧ (modHap f s).otp = s.otp ∧ (modHap f s).ao = s.ao ∧
    (modHap f s).mbx = s.mbx ∧ (modHap f s).win = s.win ∧ (modHap f s).mode = s.mode ∧ (modHap f s).pwr = s.pwr ∧ (modHap f s).outs = s.outs ∧
    (modHap f s).scan = s.scan ∧ (modHap f s).rls = s.rls ∧ (modHap f s).mill = s.mill ∧ (modHap f s).bus = s.bus ∧ (modHap f s).tag = s.tag ∧
    (modHap f s).enc = s.enc ∧ (modHap f s).fab = s.fab ∧ (modHap f s).core = s.core ∧ (modHap f s).ext = s.ext ∧ (modHap f s).nvm = s.nvm ∧
    (modHap f s).boot = s.boot ∧ (modHap f s).resetDue = s.resetDue ∧ (modHap f s).wakeDue = s.wakeDue ∧ (modHap f s).work = s.work ∧
    (modHap f s).pending = s.pending ∧ (modHap f s).hap = f s.hap := by
  simp [modHap]

/-- A change within the scanner leaves every other unit alone. -/
@[simp] theorem modSw_keeps (n : Nat) (f : SwSt → SwSt) (s : State) :
    (modSw n f s).now = s.now ∧ (modSw n f s).freeCtr = s.freeCtr ∧ (modSw n f s).env = s.env ∧ (modSw n f s).otp = s.otp ∧ (modSw n f s).ao = s.ao ∧
    (modSw n f s).mbx = s.mbx ∧ (modSw n f s).win = s.win ∧ (modSw n f s).mode = s.mode ∧ (modSw n f s).pwr = s.pwr ∧ (modSw n f s).outs = s.outs ∧
    (modSw n f s).rls = s.rls ∧ (modSw n f s).hap = s.hap ∧ (modSw n f s).mill = s.mill ∧ (modSw n f s).bus = s.bus ∧ (modSw n f s).tag = s.tag ∧
    (modSw n f s).enc = s.enc ∧ (modSw n f s).fab = s.fab ∧ (modSw n f s).core = s.core ∧ (modSw n f s).ext = s.ext ∧ (modSw n f s).nvm = s.nvm ∧
    (modSw n f s).boot = s.boot ∧ (modSw n f s).resetDue = s.resetDue ∧ (modSw n f s).wakeDue = s.wakeDue ∧ (modSw n f s).work = s.work ∧
    (modSw n f s).pending = s.pending ∧ (modSw n f s).scan.pins = s.scan.pins ∧ (modSw n f s).scan.sw = modAt f n s.scan.sw := by
  simp [modSw]

/-- A change within the scanner leaves every other unit alone. -/
@[simp] theorem modPin_keeps (n : Nat) (f : PinSt → PinSt) (s : State) :
    (modPin n f s).now = s.now ∧ (modPin n f s).freeCtr = s.freeCtr ∧ (modPin n f s).env = s.env ∧ (modPin n f s).otp = s.otp ∧
    (modPin n f s).ao = s.ao ∧ (modPin n f s).mbx = s.mbx ∧ (modPin n f s).win = s.win ∧ (modPin n f s).mode = s.mode ∧ (modPin n f s).pwr = s.pwr ∧
    (modPin n f s).outs = s.outs ∧ (modPin n f s).rls = s.rls ∧ (modPin n f s).hap = s.hap ∧ (modPin n f s).mill = s.mill ∧
    (modPin n f s).bus = s.bus ∧ (modPin n f s).tag = s.tag ∧ (modPin n f s).enc = s.enc ∧ (modPin n f s).fab = s.fab ∧
    (modPin n f s).core = s.core ∧ (modPin n f s).ext = s.ext ∧ (modPin n f s).nvm = s.nvm ∧ (modPin n f s).boot = s.boot ∧
    (modPin n f s).resetDue = s.resetDue ∧ (modPin n f s).wakeDue = s.wakeDue ∧ (modPin n f s).work = s.work ∧ (modPin n f s).pending = s.pending ∧
    (modPin n f s).scan.sw = s.scan.sw ∧ (modPin n f s).scan.pins = modAt f n s.scan.pins := by
  simp [modPin]

/-- A change of the rain and light sensor leaves every other unit alone. -/
@[simp] theorem modRls_keeps (f : Rls → Rls) (s : State) :
    (modRls f s).now = s.now ∧ (modRls f s).freeCtr = s.freeCtr ∧ (modRls f s).env = s.env ∧ (modRls f s).otp = s.otp ∧ (modRls f s).ao = s.ao ∧
    (modRls f s).mbx = s.mbx ∧ (modRls f s).win = s.win ∧ (modRls f s).mode = s.mode ∧ (modRls f s).pwr = s.pwr ∧ (modRls f s).outs = s.outs ∧
    (modRls f s).scan = s.scan ∧ (modRls f s).hap = s.hap ∧ (modRls f s).mill = s.mill ∧ (modRls f s).bus = s.bus ∧ (modRls f s).tag = s.tag ∧
    (modRls f s).enc = s.enc ∧ (modRls f s).fab = s.fab ∧ (modRls f s).core = s.core ∧ (modRls f s).ext = s.ext ∧ (modRls f s).nvm = s.nvm ∧
    (modRls f s).boot = s.boot ∧ (modRls f s).resetDue = s.resetDue ∧ (modRls f s).wakeDue = s.wakeDue ∧ (modRls f s).work = s.work ∧
    (modRls f s).pending = s.pending ∧ (modRls f s).rls = f s.rls := by
  simp [modRls]

/-- A change within Millrace leaves every other unit alone. -/
@[simp] theorem modEngine_keeps (p : Nat) (f : Engine → Engine) (s : State) :
    (modEngine p f s).now = s.now ∧ (modEngine p f s).freeCtr = s.freeCtr ∧ (modEngine p f s).env = s.env ∧ (modEngine p f s).otp = s.otp ∧
    (modEngine p f s).ao = s.ao ∧ (modEngine p f s).mbx = s.mbx ∧ (modEngine p f s).win = s.win ∧ (modEngine p f s).mode = s.mode ∧
    (modEngine p f s).pwr = s.pwr ∧ (modEngine p f s).outs = s.outs ∧ (modEngine p f s).scan = s.scan ∧ (modEngine p f s).rls = s.rls ∧
    (modEngine p f s).hap = s.hap ∧ (modEngine p f s).bus = s.bus ∧ (modEngine p f s).tag = s.tag ∧ (modEngine p f s).enc = s.enc ∧
    (modEngine p f s).fab = s.fab ∧ (modEngine p f s).core = s.core ∧ (modEngine p f s).ext = s.ext ∧ (modEngine p f s).nvm = s.nvm ∧
    (modEngine p f s).boot = s.boot ∧ (modEngine p f s).resetDue = s.resetDue ∧ (modEngine p f s).wakeDue = s.wakeDue ∧
    (modEngine p f s).work = s.work ∧ (modEngine p f s).pending = s.pending ∧ (modEngine p f s).mill.stn = s.mill.stn ∧
    (modEngine p f s).mill.ports = modAt f p s.mill.ports := by
  simp [modEngine]

/-- An operation of the data NVM begun changes the NVM alone (R447). -/
@[simp] theorem nvmOp_keeps (us : Nat) (w : NvmWork) (s : State) :
    (nvmOp us w s).now = s.now ∧ (nvmOp us w s).freeCtr = s.freeCtr ∧ (nvmOp us w s).env = s.env ∧ (nvmOp us w s).otp = s.otp ∧ (nvmOp us w s).ao = s.ao ∧
    (nvmOp us w s).mbx = s.mbx ∧ (nvmOp us w s).win = s.win ∧ (nvmOp us w s).mode = s.mode ∧ (nvmOp us w s).pwr = s.pwr ∧ (nvmOp us w s).outs = s.outs ∧
    (nvmOp us w s).scan = s.scan ∧ (nvmOp us w s).rls = s.rls ∧ (nvmOp us w s).hap = s.hap ∧ (nvmOp us w s).mill = s.mill ∧ (nvmOp us w s).bus = s.bus ∧
    (nvmOp us w s).tag = s.tag ∧ (nvmOp us w s).enc = s.enc ∧ (nvmOp us w s).fab = s.fab ∧ (nvmOp us w s).core = s.core ∧ (nvmOp us w s).ext = s.ext ∧
    (nvmOp us w s).boot = s.boot ∧ (nvmOp us w s).resetDue = s.resetDue ∧ (nvmOp us w s).wakeDue = s.wakeDue ∧ (nvmOp us w s).work = s.work ∧
    (nvmOp us w s).pending = s.pending := by
  simp [nvmOp]

/-- A change of a raw area changes the NVM alone (R453). -/
@[simp] theorem modRaw_keeps (a : Nat) (f : RawArea → RawArea) (s : State) :
    (modRaw a f s).now = s.now ∧ (modRaw a f s).freeCtr = s.freeCtr ∧ (modRaw a f s).env = s.env ∧ (modRaw a f s).otp = s.otp ∧ (modRaw a f s).ao = s.ao ∧
    (modRaw a f s).mbx = s.mbx ∧ (modRaw a f s).win = s.win ∧ (modRaw a f s).mode = s.mode ∧ (modRaw a f s).pwr = s.pwr ∧ (modRaw a f s).outs = s.outs ∧
    (modRaw a f s).scan = s.scan ∧ (modRaw a f s).rls = s.rls ∧ (modRaw a f s).hap = s.hap ∧ (modRaw a f s).mill = s.mill ∧ (modRaw a f s).bus = s.bus ∧
    (modRaw a f s).tag = s.tag ∧ (modRaw a f s).enc = s.enc ∧ (modRaw a f s).fab = s.fab ∧ (modRaw a f s).core = s.core ∧ (modRaw a f s).ext = s.ext ∧
    (modRaw a f s).boot = s.boot ∧ (modRaw a f s).resetDue = s.resetDue ∧ (modRaw a f s).wakeDue = s.wakeDue ∧ (modRaw a f s).work = s.work ∧
    (modRaw a f s).pending = s.pending := by
  simp [modRaw]

/-- A request to the DRBG changes the enclave alone (R301). -/
@[simp] theorem drbgRequest_keeps  (s : State) :
    (drbgRequest s).now = s.now ∧ (drbgRequest s).freeCtr = s.freeCtr ∧ (drbgRequest s).env = s.env ∧ (drbgRequest s).otp = s.otp ∧
    (drbgRequest s).ao = s.ao ∧ (drbgRequest s).mbx = s.mbx ∧ (drbgRequest s).win = s.win ∧ (drbgRequest s).mode = s.mode ∧ (drbgRequest s).pwr = s.pwr ∧
    (drbgRequest s).outs = s.outs ∧ (drbgRequest s).scan = s.scan ∧ (drbgRequest s).rls = s.rls ∧ (drbgRequest s).hap = s.hap ∧
    (drbgRequest s).mill = s.mill ∧ (drbgRequest s).bus = s.bus ∧ (drbgRequest s).tag = s.tag ∧ (drbgRequest s).fab = s.fab ∧
    (drbgRequest s).core = s.core ∧ (drbgRequest s).ext = s.ext ∧ (drbgRequest s).nvm = s.nvm ∧ (drbgRequest s).boot = s.boot ∧
    (drbgRequest s).resetDue = s.resetDue ∧ (drbgRequest s).wakeDue = s.wakeDue ∧ (drbgRequest s).work = s.work ∧ (drbgRequest s).pending = s.pending := by
  simp [drbgRequest]

/-- A change of the insert interface changes the tag alone (R275). -/
@[simp] theorem modLink_keeps (f : CardLink → CardLink) (s : State) :
    (modLink f s).now = s.now ∧ (modLink f s).freeCtr = s.freeCtr ∧ (modLink f s).env = s.env ∧ (modLink f s).otp = s.otp ∧ (modLink f s).ao = s.ao ∧
    (modLink f s).mbx = s.mbx ∧ (modLink f s).win = s.win ∧ (modLink f s).mode = s.mode ∧ (modLink f s).pwr = s.pwr ∧ (modLink f s).outs = s.outs ∧
    (modLink f s).scan = s.scan ∧ (modLink f s).rls = s.rls ∧ (modLink f s).hap = s.hap ∧ (modLink f s).mill = s.mill ∧ (modLink f s).bus = s.bus ∧
    (modLink f s).enc = s.enc ∧ (modLink f s).fab = s.fab ∧ (modLink f s).core = s.core ∧ (modLink f s).ext = s.ext ∧ (modLink f s).nvm = s.nvm ∧
    (modLink f s).boot = s.boot ∧ (modLink f s).resetDue = s.resetDue ∧ (modLink f s).wakeDue = s.wakeDue ∧ (modLink f s).work = s.work ∧
    (modLink f s).pending = s.pending := by
  simp [modLink, modTag]

/-- A source made pending changes the core alone (R534). -/
@[simp] theorem pendAt_keeps (source level : Nat) (s : State) :
    (pendAt source level s).now = s.now ∧ (pendAt source level s).freeCtr = s.freeCtr ∧ (pendAt source level s).env = s.env ∧
    (pendAt source level s).otp = s.otp ∧ (pendAt source level s).ao = s.ao ∧ (pendAt source level s).mbx = s.mbx ∧ (pendAt source level s).win = s.win ∧
    (pendAt source level s).mode = s.mode ∧ (pendAt source level s).pwr = s.pwr ∧ (pendAt source level s).outs = s.outs ∧
    (pendAt source level s).scan = s.scan ∧ (pendAt source level s).rls = s.rls ∧ (pendAt source level s).hap = s.hap ∧
    (pendAt source level s).mill = s.mill ∧ (pendAt source level s).bus = s.bus ∧ (pendAt source level s).tag = s.tag ∧
    (pendAt source level s).enc = s.enc ∧ (pendAt source level s).fab = s.fab ∧ (pendAt source level s).ext = s.ext ∧ (pendAt source level s).nvm = s.nvm ∧
    (pendAt source level s).boot = s.boot ∧ (pendAt source level s).resetDue = s.resetDue ∧ (pendAt source level s).wakeDue = s.wakeDue ∧
    (pendAt source level s).work = s.work ∧ (pendAt source level s).pending = s.pending ∧ (pendAt source level s).core.r = s.core.r ∧
    (pendAt source level s).core.mem = s.core.mem := by
  simp [pendAt]

/-- A store to core memory changes the core alone (R530). -/
@[simp] theorem storeMem_keeps (a : Nat) (b : Bytes) (s : State) :
    (storeMem a b s).now = s.now ∧ (storeMem a b s).freeCtr = s.freeCtr ∧ (storeMem a b s).env = s.env ∧ (storeMem a b s).otp = s.otp ∧
    (storeMem a b s).ao = s.ao ∧ (storeMem a b s).mbx = s.mbx ∧ (storeMem a b s).win = s.win ∧ (storeMem a b s).mode = s.mode ∧
    (storeMem a b s).pwr = s.pwr ∧ (storeMem a b s).outs = s.outs ∧ (storeMem a b s).scan = s.scan ∧ (storeMem a b s).rls = s.rls ∧
    (storeMem a b s).hap = s.hap ∧ (storeMem a b s).mill = s.mill ∧ (storeMem a b s).bus = s.bus ∧ (storeMem a b s).tag = s.tag ∧
    (storeMem a b s).enc = s.enc ∧ (storeMem a b s).fab = s.fab ∧ (storeMem a b s).ext = s.ext ∧ (storeMem a b s).nvm = s.nvm ∧
    (storeMem a b s).boot = s.boot ∧ (storeMem a b s).resetDue = s.resetDue ∧ (storeMem a b s).wakeDue = s.wakeDue ∧ (storeMem a b s).work = s.work ∧
    (storeMem a b s).pending = s.pending ∧ (storeMem a b s).core.r = s.core.r ∧ (storeMem a b s).core.tdx = s.core.tdx ∧
    (storeMem a b s).core.mpu = s.core.mpu := by
  unfold storeMem; split <;> simp

/-- A store of an instruction changes the core alone (R380, R530). -/
@[simp] theorem storeBytes_keeps (a : Nat) (b : Bytes) (s : State) :
    (storeBytes a b s).now = s.now ∧ (storeBytes a b s).freeCtr = s.freeCtr ∧ (storeBytes a b s).env = s.env ∧ (storeBytes a b s).otp = s.otp ∧
    (storeBytes a b s).ao = s.ao ∧ (storeBytes a b s).mbx = s.mbx ∧ (storeBytes a b s).win = s.win ∧ (storeBytes a b s).mode = s.mode ∧
    (storeBytes a b s).pwr = s.pwr ∧ (storeBytes a b s).outs = s.outs ∧ (storeBytes a b s).scan = s.scan ∧ (storeBytes a b s).rls = s.rls ∧
    (storeBytes a b s).hap = s.hap ∧ (storeBytes a b s).mill = s.mill ∧ (storeBytes a b s).bus = s.bus ∧ (storeBytes a b s).tag = s.tag ∧
    (storeBytes a b s).enc = s.enc ∧ (storeBytes a b s).fab = s.fab ∧ (storeBytes a b s).ext = s.ext ∧ (storeBytes a b s).nvm = s.nvm ∧
    (storeBytes a b s).boot = s.boot ∧ (storeBytes a b s).resetDue = s.resetDue ∧ (storeBytes a b s).wakeDue = s.wakeDue ∧
    (storeBytes a b s).work = s.work ∧ (storeBytes a b s).pending = s.pending := by
  unfold storeBytes; split <;> simp

end Sys2Proof.Laws
end

