-- ==== Sys2Proof/Machine/Lands.lean ====
section
/-! DEFINITION. The signals of the lands: how many lands each has, the domain that governs it, its state in reset, and when it holds that state (R558, R560 to R562, R566, 19_package.md). -/

namespace Sys2Proof.Machine

/-- Direction of a signal, seen from the device (R560). -/
inductive LandDir where
  | input | output | both | openDrain | analog | supply | none
  deriving DecidableEq, Repr

/-- What governs a signal (R560): a power domain, the always-on region, the fabric, the regulators, or nothing. -/
inductive LandDomain where
  | dom (d : Domain) | ao | fabric | regulators | none
  deriving DecidableEq, Repr

/-- The state of a signal while a reset is asserted, as R560 words it; a pull resistor in kΩ. -/
inductive LandState where
  | unstated | off | low | highZ | zeroVolt | noCurrent | input | inputDown (kohm : Nat) | inputUp (kohm : Nat)
  | highUp (kohm : Nat) | oscillatorOff | running | released | disconnected | transceiverOff | recessive | noWetting
  | sampled | pullUpOff | discharged
  deriving DecidableEq, Repr

/-- A row of R560's table: signals that share direction, domain and state in reset, and how many lands they have together. -/
structure Signal where
  name : String
  lands : Nat
  dir : LandDir
  dom : LandDomain
  reset : LandState
  deriving DecidableEq, Repr

/-- Supplies and power outputs (R560). -/
def powerSignals : List Signal :=
  [{ name := "VBAT_C", lands := 2, dir := .supply, dom := .ao, reset := .unstated },
   { name := "VBAT_A", lands := 12, dir := .supply, dom := .none, reset := .unstated },
   { name := "VBAT_B", lands := 10, dir := .supply, dom := .none, reset := .unstated },
   { name := "VBAT_H", lands := 2, dir := .supply, dom := .dom .ana, reset := .unstated },
   { name := "VSW", lands := 2, dir := .supply, dom := .regulators, reset := .highZ },
   { name := "V33", lands := 3, dir := .supply, dom := .regulators, reset := .zeroVolt },
   { name := "VCORE", lands := 2, dir := .supply, dom := .none, reset := .unstated },
   { name := "VAO", lands := 1, dir := .supply, dom := .none, reset := .unstated },
   { name := "VRF", lands := 1, dir := .supply, dom := .none, reset := .unstated },
   { name := "VDDIO_E", lands := 1, dir := .supply, dom := .dom .net, reset := .unstated },
   { name := "GND", lands := 32, dir := .supply, dom := .none, reset := .unstated },
   { name := "AGND", lands := 2, dir := .supply, dom := .none, reset := .unstated },
   { name := "PGND", lands := 10, dir := .supply, dom := .none, reset := .unstated },
   { name := "GND_RF", lands := 6, dir := .supply, dom := .none, reset := .unstated },
   { name := "HSA", lands := 40, dir := .output, dom := .dom .outA, reset := .off },
   { name := "HSB", lands := 12, dir := .output, dom := .dom .outB, reset := .off },
   { name := "HB", lands := 16, dir := .output, dom := .dom .outB, reset := .highZ },
   { name := "LS", lands := 16, dir := .output, dom := .dom .outB, reset := .off },
   { name := "GH", lands := 4, dir := .output, dom := .dom .outB, reset := .low },
   { name := "GL", lands := 4, dir := .output, dom := .dom .outB, reset := .low },
   { name := "SN", lands := 4, dir := .analog, dom := .dom .outB, reset := .unstated },
   { name := "BS", lands := 4, dir := .supply, dom := .dom .outB, reset := .unstated },
   { name := "SHP, SHN", lands := 4, dir := .analog, dom := .dom .outB, reset := .unstated }]

/-- Sense, straps, crystals and host signals (R560). -/
def hostSignals : List Signal :=
  [{ name := "ISNS", lands := 1, dir := .analog, dom := .dom .outA, reset := .noCurrent },
   { name := "ISEL", lands := 5, dir := .both, dom := .dom .outA, reset := .inputDown 50 },
   { name := "ISMODE", lands := 1, dir := .input, dom := .ao, reset := .inputDown 50 },
   { name := "TEST", lands := 1, dir := .input, dom := .ao, reset := .inputDown 50 },
   { name := "RSTN", lands := 1, dir := .input, dom := .ao, reset := .inputUp 100 },
   { name := "TP", lands := 4, dir := .none, dom := .none, reset := .highZ },
   { name := "XTAL25", lands := 2, dir := .analog, dom := .fabric, reset := .oscillatorOff },
   { name := "XTAL32", lands := 2, dir := .analog, dom := .ao, reset := .running },
   { name := "HSPI_CSN", lands := 1, dir := .input, dom := .ao, reset := .inputUp 100 },
   { name := "HSPI_SCK, HSPI_SDI", lands := 2, dir := .input, dom := .dom .svc, reset := .input },
   { name := "HSPI_SDO", lands := 1, dir := .output, dom := .dom .svc, reset := .highZ },
   { name := "INTN", lands := 1, dir := .openDrain, dom := .dom .svc, reset := .released },
   { name := "HTRIG", lands := 1, dir := .input, dom := .dom .ana, reset := .input },
   { name := "QSPI_CSN", lands := 1, dir := .output, dom := .dom .svc, reset := .highUp 47 },
   { name := "QSPI_SCK", lands := 1, dir := .output, dom := .dom .svc, reset := .low },
   { name := "QSPI_IO", lands := 4, dir := .both, dom := .dom .svc, reset := .highZ }]

/-- Bus signals (R560). -/
def busSignals : List Signal :=
  [{ name := "ETH_TX", lands := 6, dir := .output, dom := .dom .net, reset := .low },
   { name := "ETH_RX", lands := 6, dir := .input, dom := .dom .net, reset := .disconnected },
   { name := "ETH_MDC", lands := 1, dir := .output, dom := .dom .net, reset := .low },
   { name := "ETH_MDIO", lands := 1, dir := .both, dom := .dom .net, reset := .highZ },
   { name := "T1S0", lands := 2, dir := .both, dom := .dom .net, reset := .highZ },
   { name := "T1S1", lands := 2, dir := .both, dom := .dom .net, reset := .highZ },
   { name := "T1S2", lands := 2, dir := .both, dom := .dom .net, reset := .highZ },
   { name := "T1S3", lands := 2, dir := .both, dom := .dom .net, reset := .highZ },
   { name := "CAN0", lands := 2, dir := .both, dom := .dom .vbus, reset := .transceiverOff },
   { name := "CAN1", lands := 2, dir := .both, dom := .dom .vbus, reset := .transceiverOff },
   { name := "LIN", lands := 4, dir := .both, dom := .dom .vbus, reset := .recessive }]

/-- Input, haptic, insert and radio signals (R560). -/
def inputSignals : List Signal :=
  [{ name := "SW", lands := 24, dir := .input, dom := .dom .scan, reset := .noWetting },
   { name := "WAKE", lands := 4, dir := .input, dom := .ao, reset := .sampled },
   { name := "AN", lands := 8, dir := .analog, dom := .dom .ana, reset := .pullUpOff },
   { name := "COL", lands := 8, dir := .output, dom := .dom .scan, reset := .highZ },
   { name := "ROW", lands := 8, dir := .input, dom := .dom .scan, reset := .pullUpOff },
   { name := "LED", lands := 2, dir := .output, dom := .dom .ana, reset := .off },
   { name := "PD", lands := 3, dir := .analog, dom := .dom .ana, reset := .unstated },
   { name := "ALS", lands := 2, dir := .analog, dom := .dom .ana, reset := .unstated },
   { name := "MSNS", lands := 1, dir := .analog, dom := .dom .ana, reset := .unstated },
   { name := "MSG", lands := 1, dir := .output, dom := .dom .ana, reset := .unstated },
   { name := "HAPP, HAPN", lands := 4, dir := .output, dom := .dom .ana, reset := .highZ },
   { name := "INS_VCC", lands := 1, dir := .supply, dom := .dom .enc, reset := .discharged },
   { name := "INS_RST, INS_CLK", lands := 2, dir := .output, dom := .dom .enc, reset := .low },
   { name := "INS_IO", lands := 1, dir := .both, dom := .dom .enc, reset := .low },
   { name := "INS_DET", lands := 1, dir := .input, dom := .ao, reset := .inputUp 100 },
   { name := "DSRC_ANT", lands := 1, dir := .analog, dom := .dom .rfd, reset := .off },
   { name := "UHF_ANT", lands := 2, dir := .analog, dom := .dom .rfd, reset := .off },
   { name := "NC", lands := 2, dir := .none, dom := .none, reset := .unstated }]

/-- Every row of R560's table. -/
def signals : List Signal := powerSignals ++ hostSignals ++ busSignals ++ inputSignals

/-- The lands add up (R558). -/
def landTotal : Nat := (signals.map (fun g => g.lands)).sum

/-- What a domain in RET still serves at its lands (R561 with R398): the wake senses, PARKED polling with any-key sense, and field detect. -/
def servesInRet (s : State) (g : Signal) : Bool :=
  if g.name == "CAN0" then true
  else if g.name == "DSRC_ANT" || g.name == "UHF_ANT" || g.name == "SW" || g.name == "COL" || g.name == "ROW" then true
  else match (tw s).power.wakePort with
    | 0 => g.name == "T1S0" | 1 => g.name == "T1S1" | 2 => g.name == "T1S2" | 3 => g.name == "T1S3"
    | _ => false

/-- A signal is served (R561): its domain is ON, or in RET serves it; those of AO always are. -/
def landServed (s : State) (g : Signal) : Bool := match g.dom with
  | .dom d => match domSt s d with
    | .on => true
    | .ret => servesInRet s g
    | .off => false
  | .fabric => islandRuns s 2
  | .ao | .regulators | .none => true

/-- A signal holds its state in reset: a reset is asserted, or its domain does not serve it (R560, R561). -/
def landHeld (s : State) (g : Signal) : Bool := s.pwr.inReset || !landServed s g

/-- A signal that has no internal connection, or is never powered, on a BZ-7464 (R566). -/
def landAbsent (s : State) (g : Signal) : Bool :=
  s.otp.part == .bz7464 && (g.name == "DSRC_ANT" || g.name == "UHF_ANT" || g.name == "VRF")

/-- The level of ISEL4 to ISEL0 that the device drives (R562): with ISMODE low the selection while OUTA is ON and 0 otherwise; with ISMODE high they are inputs. -/
def iselDriven (s : State) : Option Nat :=
  if s.outs.isMode then none else if isOn s .outA then some s.outs.isel else some 0

end Sys2Proof.Machine
end

