-- ==== Sys2Proof/Machine/Ratings.lean ====
section
/-! DEFINITION. The electrical figures that the spec states as bounds on the device: hold-up, currents, protected channels, junction temperatures and dissipation (R425, 14_power.md; R573 to R575, R591 to R593, 20_electrical.md). -/

namespace Sys2Proof.Machine

/-- I_run in mA (R425, R573): the maximum of RUN at 5.5 V with 0.75 mA for each mA of external V33 load, rounded up. -/
def iRun (extMa : Nat) : Nat := 140 + (3 * extMa + 3) / 4

/-- The bounds of S1 to S5 in ms, and the trigger filter that comes before them (R425). -/
def holdUpMs : Nat := 34
def triggerFilterMs : Nat := 2

/-- A hold-up capacitor of so many µF satisfies R425: its charge from 5.5 V to 4.0 V, in mA × ms, covers the filter at I_run and the sequence at 60 mA. -/
def holdUpOk (microF extMa : Nat) : Bool := decide (1000 * (iRun extMa * triggerFilterMs + 60 * holdUpMs) ≤ microF * 1500)

/-- The most that the device draws from VBAT_C in a supply shutdown from S1 to S5, mA (R425). -/
def shutdownMaxMa : Nat := 60

/-- Maximum on-resistance at 150 °C in mΩ (R575). -/
def rOnMax (o : Nat) : Nat := match groupOf o with
  | .hsa10 => 16 | .hsa3 => 80 | .hsb => 200 | .hb => 400 | .ls => 3000 | .gd => 0

/-- t_sw in µs (R575). -/
def tSw (o : Nat) : Nat := match groupOf o with
  | .hsa10 => 6 | .hsa3 => 4 | .hsb => 3 | .hb => 1 | .ls => 2 | .gd => 0

/-- Accuracy of I_LIM in per cent (R575). -/
def ilimAccuracy (o : Nat) : Option Nat := match groupOf o with
  | .hsa10 => some 10 | .hsa3 => some 12 | .hsb => some 15 | .hb => none | .ls => none | .gd => none

/-- The range of the fixed trip in mA (R575): a channel's trip lies anywhere within it (R107). -/
def fixedTrip (o : Nat) : Option (Nat × Nat) := match groupOf o with
  | .hb => some (3200, 5000) | .ls => some (450, 800)
  | .hsa10 => none | .hsa3 => none | .hsb => none | .gd => none

/-- Single-pulse clamp energy in mJ (R575). -/
def clampMj (o : Nat) : Option Nat := match groupOf o with
  | .hsa10 => some 200 | .hsa3 => some 50 | .hsb => some 20 | .ls => some 10
  | .hb => none | .gd => none

/-- Maximum off leakage at 150 °C in µA (R575). -/
def leakUa (o : Nat) : Option Nat := match groupOf o with
  | .hsa10 => some 20 | .hsa3 => some 10 | .hsb => some 5 | .hb => some 5 | .ls => some 2 | .gd => none

/-- Worst-case dissipation of a channel in pW (R592): I² × R_on,max × D and, below 100 % duty, V_bat × I × t_sw × f_PWM; a GD channel stands for half its pair's 0.05 W. `ma` is the on-phase current in mA, `mv` V_bat in mV, `duty` the applied duty in 0.01 %. -/
def worstPw (o ma mv duty freq : Nat) : Nat :=
  if groupOf o == .gd then 25000000000
  else ma * ma * rOnMax o * duty / 10 + (if duty < 10000 then mv * ma * tSw o * freq else 0)

/-- The worst-case dissipation that a channel has as it drives now (R592). -/
def channelPw (s : State) (o ma mv : Nat) : Nat :=
  let d := (getChan s o).drive
  if d.mode == 0 then 0 else worstPw o ma mv d.duty d.freq

/-- Steady-state junction temperatures of die A, die B and the control die on the reference board (R591), in units of 10⁻¹² °C: T_a in °C, the dissipation of each die in pW. -/
def junctions (ta : Int) (pa pb pc : Nat) : Int × Int × Int :=
  (ta * 1000000000000 + 14 * pa + 4 * pb + 3 * pc,
   ta * 1000000000000 + 4 * pa + 16 * pb + 3 * pc,
   ta * 1000000000000 + 3 * pa + 3 * pb + 12 * pc)

/-- The hot spot of a channel above its die, in K per W (R591). -/
def spotKpw (o : Nat) : Nat := match groupOf o with
  | .hsa10 => 2 | .hsa3 => 4 | .hsb => 8 | .hb => 6 | .ls => 10 | .gd => 0

/-- A channel's hot spot in 10⁻¹² °C (R591). -/
def hotSpot (tj : Int) (o p : Nat) : Int := tj + spotKpw o * p

/-- The limits of R593 hold: Tj_A and Tj_B at most 150 °C and Tj_C at most 135 °C. -/
def junctionsOk (t : Int × Int × Int) : Bool :=
  decide (t.1 ≤ 150000000000000) && decide (t.2.1 ≤ 150000000000000) && decide (t.2.2 ≤ 135000000000000)

/-- Maximum current of TRANSPORT and PARKED in nA by the table's columns of 25 °C, 85 °C and 105 °C (R574, R416); with RF field detect its part is added. None above 105 °C. -/
def sleepMaxNa (parked field : Bool) (tj : Int) : Option Nat :=
  let row (a b c d e f : Nat) : Option Nat :=
    if tj ≤ 25 then some (a + if field then d else 0)
    else if tj ≤ 85 then some (b + if field then e else 0)
    else if tj ≤ 105 then some (c + if field then f else 0)
    else none
  if parked then row 21000 32000 45000 4000 6000 8000 else row 900 4000 9000 0 0 0

end Sys2Proof.Machine
end

