-- ==== Sys2Proof/WellFormed.lean ====
section
/-! DEFINITION. Well-formed commands: every operand inside the width or range that the spec gives it. -/

namespace Sys2Proof

/-- A request is well formed: the widths of the header fields of R47 and a payload of at most 1000 bytes (R47, R51). -/
def Req.wf (r : Req) : Bool :=
  decide (r.session < 4294967296) && decide (r.seq < 65536) && decide (r.priv < 256) && decide (r.payload.length ≤ 1000) &&
    (r.auth == (r.session != 0))

/-- A CAN frame is well formed: an 11-bit or 29-bit identifier, at most 8 bytes, or 64 under FD (R238, 08_buses.md). -/
def CanFrame.wf (f : CanFrame) : Bool :=
  decide (f.id < (if f.ext then 536870912 else 2048)) && decide (f.data.length ≤ (if f.fd then 64 else 8)) && (!f.remote || (!f.fd && f.data.isEmpty))

/-- A Millrace frame is well formed: a port 0 to 3, a MAC address, and an Ethernet payload of at most 1500 bytes (R211, 07_millrace.md). -/
def InputFrame.wf (f : InputFrame) : Bool :=
  decide (f.port < 4) && decide (f.src < 2 ^ 48) && decide (f.pdu.length ≤ 1500)

/-- What a monitor sees is well formed: an LFSR of 32 bits and 24 far ends (R322, R323), a temperature above absolute zero. -/
def TamperSeen.wf : TamperSeen → Bool
  | .mesh d f => decide (d < 2 ^ 32) && decide (f < 2 ^ 24)
  | .temp c => decide (-273 ≤ c)
  | .core _ _ => true | .v33 _ _ => true | .clock _ => true | .noEdge _ => true

/-- An IPv4 address and a UDP port are well formed (R46). -/
def Addr.wf (a : Addr) : Bool := decide (a.ip < 4294967296) && decide (a.port < 65536)

/-- A command is well formed: each operand inside the range of what it names (objects R72, actuators R88, switches R145, wake pins R153, keys R159, CAN R238, LIN R246, interrupt sources R534). The step is total on every other operand as well. -/
def Instr.wf : Instr → Bool
  | .registerWrite _ off bytes => decide (off < 256) && decide (bytes.length ≤ 4)
  | .winIrqWrite _ _ => true
  | .winIrqenWrite _ _ => true
  | .evflush _ => true
  | .rxdrop _ => true
  | .winErrWrite _ => true
  | .unknownOpcode _ op off _ => decide (op < 256) && decide (off < 256)
  | .frameWrite _ _ => true
  | .frameRead _ _ => true
  | .hspiWake _ => true
  | .firstFrame _ f => f.wf
  | .consecutiveFrame _ f => f.wf
  | .nCrTimeout _ => true
  | .flowControl _ f => f.wf
  | .nBsTimeout _ => true
  | .mbxEthDatagram _ d => d.src.wf && d.dst.wf && decide (d.vlan < 4096)
  | .sessionIdleTimeout _ _ id => decide (id < 4294967296)
  | .unprovenSessionTimeout _ _ id => decide (id < 4294967296)
  | .sysInfo r => r.wf
  | .sysStatus r => r.wf
  | .sysReset r => r.wf
  | .sysGettime r => r.wf
  | .sysSettime r => r.wf
  | .sysResetlog r => r.wf
  | .sysWake r => r.wf
  | .modeGet r => r.wf
  | .modeSet r => r.wf
  | .modeHold r => r.wf
  | .modeHoldExpiry _ => true
  | .pwrGet r => r.wf
  | .pwrSet r => r.wf
  | .pwrRefusals r => r.wf
  | .outGet r => r.wf
  | .outSet r => r.wf
  | .outClaim r => r.wf
  | .outRelease r => r.wf
  | .outKeep r => r.wf
  | .outClear r => r.wf
  | .outOwners r => r.wf
  | .outStnowners r => r.wf
  | .lampGet r => r.wf
  | .lampSet r => r.wf
  | .lampScene r => r.wf
  | .wipeGet r => r.wf
  | .wipeSet r => r.wf
  | .wipeWash r => r.wf
  | .motnGet r => r.wf
  | .motnMove r => r.wf
  | .motnStop r => r.wf
  | .motnLearn r => r.wf
  | .hapPlay r => r.wf
  | .hapArm r => r.wf
  | .hapGet r => r.wf
  | .inGet r => r.wf
  | .inWatch r => r.wf
  | .keyGet r => r.wf
  | .rlsGet r => r.wf
  | .rlsCal r _ => r.wf
  | .stnList r => r.wf
  | .stnGet r => r.wf
  | .stnWrite r => r.wf
  | .stnCycle r => r.wf
  | .busGet r => r.wf
  | .busRoute r => r.wf
  | .busSend r => r.wf
  | .busSendAckTimeout _ ch => decide (ch < 2)
  | .busLinsched r => r.wf
  | .tagGet r => r.wf
  | .tagEnable r => r.wf
  | .tagTxnlog r => r.wf
  | .insGet r => r.wf
  | .insApdu r => r.wf
  | .encCert r => r.wf
  | .encOpen r => r.wf
  | .encProve r => r.wf
  | .encClose r => r.wf
  | .encAttest r => r.wf
  | .encKeyupd r _ => r.wf
  | .encKeyinfo r => r.wf
  | .encCounter r => r.wf
  | .tmpFlags r => r.wf
  | .tmpLog r => r.wf
  | .tmpExport r => r.wf
  | .tmpTest r found => r.wf && decide (found < 16)
  | .fltRead r => r.wf
  | .fltCounters r => r.wf
  | .fltClear r => r.wf
  | .tdxStatus r => r.wf
  | .cfgInfo r => r.wf
  | .cfgBegin r => r.wf
  | .cfgData r => r.wf
  | .cfgCommit r _ => r.wf
  | .cfgRead r => r.wf
  | .cfgAbort r => r.wf
  | .cfgStagingIdle _ => true
  | .lifeClock r => r.wf
  | .lifeCounter r => r.wf
  | .lifeNotices r => r.wf
  | .lifeAck r => r.wf
  | .updInfo r => r.wf
  | .updWrite r => r.wf
  | .updStage r => r.wf
  | .updActivate r => r.wf
  | .updConfirm r _ => r.wf
  | .extInfo r => r.wf
  | .extCtrl r => r.wf
  | .extMsg r => r.wf
  | .extMsgTimeout _ id => decide (id < 65536)
  | .diagReq r => r.wf
  | .diagS3Timeout _ => true
  | .arbitrationStep _ => true
  | .claimLeaseExpiry _ obj => decide (obj < 512)
  | .triggerLevelChange _ _ => true
  | .modeEvaluation _ => true
  | .wake0Qualified _ => true
  | .approachLingerElapsed _ => true
  | .approachTimeout _ => true
  | .serviceInactivity _ => true
  | .crankLimit _ => true
  | .ignitionTimeout _ => true
  | .ignitionInvalidLimit _ => true
  | .linkLoss _ _ => true
  | .linkReturn _ _ => true
  | .enclaveEventTake _ => true
  | .limitHoldExpiry _ obj _ => decide (obj < 56)
  | .overcurrentTrip _ obj => decide (obj < 56)
  | .thermalShutdown _ obj _ => decide (obj < 56)
  | .bootstrapUndervoltage _ obj => decide (obj < 56)
  | .restartIntervalExpiry _ obj _ => decide (obj < 56)
  | .sensorCooled _ obj _ => decide (obj < 56)
  | .restartCountRestore _ obj => decide (obj < 56)
  | .inrushWindowEnd _ obj => decide (obj < 56)
  | .pwmPeriodStart _ obj mv _ => decide (obj < 56) && decide (mv < 65536)
  | .senseSlot _ sel _ => decide (sel < 32)
  | .offStateCheck _ obj mv pulled => decide (obj < 56) && decide (mv < 65536) && decide (pulled < 65536)
  | .onStateOpenLoad _ obj ma => decide (obj < 56) && decide (ma < 1048576)
  | .crankThresholdCrossing _ _ mv => decide (mv < 65536)
  | .overvoltageOff _ _ mv => decide (mv < 65536)
  | .overvoltageRelease _ _ mv => decide (mv < 65536)
  | .governorEvaluation _ _ _ _ => true
  | .wiperParked _ => true
  | .parkTimeout _ => true
  | .wiperStall _ ma => decide (ma < 1048576)
  | .stallRetry _ => true
  | .wipeIntervalExpiry _ => true
  | .washEnd _ => true
  | .pinchDetected _ act ma _ => decide (act < 4) && decide (ma < 1048576)
  | .endStopStall _ act ma _ _ => decide (act < 4) && decide (ma < 1048576)
  | .motionTargetReached _ act _ => decide (act < 4)
  | .holdToRunTimeout _ act => decide (act < 4)
  | .switchPoll _ swn mv => decide (swn < 24) && decide (mv < 65536)
  | .confirmBurstPoll _ swn mv => decide (swn < 24) && decide (mv < 65536)
  | .switchStuckTime _ swn => decide (swn < 24)
  | .wakePinFiltered _ pin => decide (pin < 4)
  | .analogSample _ mvs => decide (mvs.length = 8) && mvs.all (fun x => decide (x < 65536))
  | .keyScan _ rows idle => decide (rows.length = 8) && rows.all (fun x => decide (x < 256)) && decide (idle < 256)
  | .keyStuckTime _ key => decide (key < 64)
  | .anyKeySense _ rows => decide (rows < 256)
  | .rainMeasurement _ s0 _ s1 _ => decide (s0 < 65536) && decide (s1 < 65536)
  | .intensityFall _ => true
  | .rainSensingFailed _ => true
  | .alsSample _ raw0 _ raw1 _ => decide (raw0 < 65536) && decide (raw1 < 65536)
  | .lightStateDelayExpiry _ => true
  | .alsFailed _ ch => decide (ch < 2)
  | .rainLight _ => true
  | .mountMeasurement _ v => decide (v < 65536)
  | .htrigEdge _ _ => true
  | .effectEnd _ bemf => decide (bemf < 65536)
  | .effectTimeLimit _ => true
  | .i2tUpdate _ ma => decide (ma < 1048576)
  | .resistanceCheck _ mv ua => decide (mv < 65536) && decide (ua < 1048576)
  | .hapticUndervoltage _ mv => decide (mv < 65536)
  | .cycleInstant _ port => decide (port < 4)
  | .inputFrame _ f => f.wf
  | .inputDeadline _ port => decide (port < 4)
  | .computeComplete _ port => decide (port < 4)
  | .outputsReadyDeadline _ port => decide (port < 4)
  | .residualFrame _ port src _ _ => decide (port < 4) && decide (src < 281474976710656)
  | .residualUplinkFrame _ dst vlan _ => decide (dst < 281474976710656) && decide (vlan < 4096)
  | .engineStart _ => true
  | .keyLoadRetry _ => true
  | .t1sEnergyDetect _ port _ => decide (port < 4)
  | .canFrameReceived _ ch f _ => decide (ch < 2) && f.wf
  | .canBusOffEntry _ ch => decide (ch < 2)
  | .busOffRecovery _ ch => decide (ch < 2)
  | .wuf _ f => f.wf
  | .wakeErrorCount _ count => decide (count < 256)
  | .linSlotEnd _ ch _ _ => decide (ch < 4)
  | .linBusFault _ ch _ => decide (ch < 4)
  | .linScheduleStart _ ch => decide (ch < 4)
  | .linkPoll _ _ _ _ => true
  | .gptpSync _ domain seq _ _ _ => decide (domain < 256) && decide (seq < 65536)
  | .announce _ domain _ _ => decide (domain < 256)
  | .gptpInvalid _ => true
  | .arpRequest _ vlan target sender => decide (vlan < 4096) && decide (target < 4294967296) && decide (sender < 281474976710656)
  | .icmpEcho _ vlan target sender ident seq _ => decide (vlan < 4096) && decide (target < 4294967296) && decide (sender < 281474976710656) && decide (ident < 65536) && decide (seq < 65536)
  | .ntscfReceived _ vlan etherType _ => decide (vlan < 4096) && decide (etherType < 65536)
  | .batchClose _ stream => decide (stream < 8)
  | .bst _ _ _ profile _ _ => decide (profile < 256)
  | .get _ _ link attrs _ => decide (link < 3) && attrs.all (fun x => decide (x < 256))
  | .set _ _ link attr _ => decide (link < 3) && decide (attr < 256)
  | .actionGetStamped _ _ link attrs _ key _ => decide (link < 3) && attrs.all (fun x => decide (x < 256)) && decide (key < 256)
  | .actionSetMmi _ _ link v => decide (link < 3) && decide (v < 256)
  | .actionEcho _ _ link _ => decide (link < 3)
  | .eventReport _ _ link => decide (link < 3)
  | .transactionIdle _ => true
  | .select _ target _ bank _ len _ => decide (target < 8) && decide (bank < 4) && decide (len < 256)
  | .query _ sel session _ q => decide (sel < 4) && decide (session < 4) && decide (q < 16)
  | .queryAdjust _ session _ => decide (session < 4)
  | .queryRep _ session => decide (session < 4)
  | .ack _ rn => decide (rn < 65536)
  | .nak _ => true
  | .reqRn _ rn => decide (rn < 65536)
  | .read _ bank _ count handle => decide (bank < 4) && decide (count < 256) && decide (handle < 65536)
  | .access _ pw handle => decide (pw < 4294967296) && decide (handle < 65536)
  | .authenticate _ csi method keyId _ handle => decide (csi < 256) && decide (method < 256) && decide (keyId < 256) && decide (handle < 65536)
  | .write _ handle => decide (handle < 65536)
  | .blockwrite _ handle => decide (handle < 65536)
  | .blockerase _ handle => decide (handle < 65536)
  | .lock _ handle => decide (handle < 65536)
  | .kill _ handle => decide (handle < 65536)
  | .uhfFlagPersistence _ => true
  | .rfFieldDetect _ _ => true
  | .insertion _ => true
  | .insertApduResponse _ _ swn _ => decide (swn < 65536)
  | .bwtTimeout _ => true
  | .removal _ => true
  | .insertStateTick _ => true
  | .writeBack _ => true
  | .writeBackRetry _ => true
  | .encStart _ _ => true
  | .enclaveWatchdogExpiry _ => true
  | .encr _ => true
  | .tamperEvent _ seen => seen.wf
  | .slowCheck _ _ => true
  | .slowCheckConfirm _ _ => true
  | .monitorArmed _ source => decide (source < 7)
  | .tamperRearm _ source => decide (source < 7)
  | .tamperLogWrite _ line => decide (line < 3)
  | .noticeArrival _ src kind island detail => decide (src < 256) && decide (kind < 256) && decide (island < 256) && decide (detail < 4294967296)
  | .recoverableArrival _ src kind island detail => decide (src < 256) && decide (kind < 256) && decide (island < 256) && decide (detail < 4294967296)
  | .severeArrival _ src kind island detail => decide (src < 256) && decide (kind < 256) && decide (island < 256) && decide (detail < 4294967296)
  | .graveArrival _ src kind island detail => decide (src < 256) && decide (kind < 256) && decide (island < 256) && decide (detail < 4294967296)
  | .quietPeriodEnd _ => true
  | .faultHistoryTake _ => true
  | .recoverableAck _ => true
  | .ackTimeout _ => true
  | .collectorHandshakeMiss _ => true
  | .bridgeTimeout _ near far _ => decide (near < 14) && decide (far < 14)
  | .xtal25Fail _ _ => true
  | .aokFail _ _ => true
  | .aokRetry _ _ => true
  | .aorcCalibration _ => true
  | .powerDieClockFail _ _ _ => true
  | .regFault _ => true
  | .sensorFail _ _ => true
  | .seqParity _ _ => true
  | .tdxWindowCompare _ _ _ _ => true
  | .supplyTrigger _ mv => decide (mv < 65536)
  | .shutdownByModePolicy _ target => decide (target < 2)
  | .shutdownStepComplete _ => true
  | .supplyReturn _ mv => decide (mv < 65536)
  | .supplyRestart _ mv => decide (mv < 65536)
  | .entryRetry _ => true
  | .domainOn _ _ => true
  | .wake _ source => decide (source < 256)
  | .wakeTimer _ => true
  | .wakeHeldRelease _ mv => decide (mv < 65536)
  | .awakeTimerExpiry _ => true
  | .por _ _ _ _ _ _ => true
  | .bor _ _ => true
  | .lpbo _ ua _ => decide (ua < 1048576)
  | .pinReset _ _ _ _ _ => true
  | .wdt _ _ => true
  | .domReset _ _ => true
  | .journalFlush _ => true
  | .formerPageErase _ => true
  | .autoConfirm _ => true
  | .floorRaiseRetry _ => true
  | .inactiveBankCheck _ => true
  | .extensionStart _ => true
  | .extensionRestart _ => true
  | .timeSlice _ => true
  | .sharePeriod _ => true
  | .syscallTimeout _ thread => decide (thread < 4)
  | .interrupt _ source level => decide (source < 128) && decide (level < 16)
  | .addi _ _ _ => true
  | .andi _ _ _ => true
  | .ori _ _ _ => true
  | .xori _ _ _ => true
  | .lui _ _ => true
  | .add _ _ _ => true
  | .sub _ _ _ => true
  | .and _ _ _ => true
  | .or _ _ _ => true
  | .xor _ _ _ => true
  | .sll _ _ _ => true
  | .srl _ _ _ => true
  | .sra _ _ _ => true
  | .ror _ _ _ => true
  | .slli _ _ _ => true
  | .srli _ _ _ => true
  | .srai _ _ _ => true
  | .rori _ _ _ => true
  | .mul _ _ _ => true
  | .mulh _ _ _ => true
  | .mulhu _ _ _ => true
  | .div _ _ _ => true
  | .divu _ _ _ => true
  | .rem _ _ _ => true
  | .remu _ _ _ => true
  | .lw _ _ _ _ => true
  | .lh _ _ _ => true
  | .lhu _ _ _ => true
  | .lb _ _ _ => true
  | .lbu _ _ _ => true
  | .sw _ _ _ => true
  | .sh _ _ _ => true
  | .sb _ _ _ => true
  | .swap _ _ _ => true
  | .beq _ _ _ => true
  | .bne _ _ _ => true
  | .blt _ _ _ => true
  | .bge _ _ _ => true
  | .bltu _ _ _ => true
  | .bgeu _ _ _ => true
  | .beqi _ _ _ => true
  | .bnei _ _ _ => true
  | .blti _ _ _ => true
  | .bgei _ _ _ => true
  | .j _ => true
  | .call _ => true
  | .callw _ => true
  | .jr _ => true
  | .callr _ => true
  | .callwr _ => true
  | .ret => true
  | .retw => true
  | .sysc _ => true
  | .tret => true
  | .wspill => true
  | .wfill => true
  | .wfi => true
  | .halt => true
  | .csrr _ _ => true
  | .csrw _ _ => true
  | .vadd _ _ _ => true
  | .vadds _ _ _ => true
  | .vsub _ _ _ => true
  | .vsubs _ _ _ => true
  | .vand _ _ _ => true
  | .vor _ _ _ => true
  | .vxor _ _ _ => true
  | .vmul _ _ _ => true
  | .vmac _ _ => true
  | .vmsu _ _ => true
  | .vaclr => true
  | .vacrd _ _ => true
  | .vmovg _ _ _ => true
  | .vmovv _ _ _ => true
  | .vsplat _ _ => true
  | .vld _ _ _ => true
  | .vst _ _ _ => true
  | .cxvDma _ => true
  | .syscExit => true
  | .syscThread => true
  | .syscYield => true
  | .syscSleep => true
  | .syscWait => true
  | .syscTime => true
  | .syscLastfault => true
  | .syscTdx => true
  | .syscMsgWait => true
  | .syscMsgReply => true
  | .syscInGet => true
  | .syscKeyGet => true
  | .syscModeGet => true
  | .syscWatch => true
  | .syscOutClaim => true
  | .syscOutRelease => true
  | .syscOutSet => true
  | .syscOutGet => true
  | .syscHapPlay => true
  | .syscStnGet => true
  | .syscStnWrite => true
  | .syscCanFilter => true
  | .syscCanRecv => true
  | .syscCanSend => true
  | .syscNdRead => true
  | .syscNdWrite => true
  | .syscNdAppend => true
  | .syscNdErase => true
  | .syscSha256 => true
  | .syscRandom => true
  | .syscCmac => true
  | .syscGcmSeal => true
  | .syscGcmOpen => true
  | .syscCtrGet => true
  | .syscCtrRaise => true
  | .canFrameTransmitted _ ch _ => decide (ch < 2)
  | .residualWindowOpen _ port => decide (port < 4)
  | .gptpFollowUp _ domain seq _ => decide (domain < 256) && decide (seq < 65536)
  | .pdelayResponse _ _ _ _ _ _ => true
  | .lifeClockSecond _ => true
  | .effectBrakeEnd _ => true
  | .uhfFieldLoss _ => true
  | .wakePinEdge _ pin _ => decide (pin < 4)
  | .wiperServicePosition _ => true

end Sys2Proof
end

