-- ==== Sys2Proof/Tests/Slice0.lean ====
section
/-! SUPPORT. The model's own tests. -/

namespace Sys2Proof.Tests

set_option Elab.async false
open Sys2Proof Sys2Proof.Machine Sys2Proof.Safety

/-- An awake device: every domain ON, Smisa running, SPI served, a P4 session proven by anchor 3 beside session 0. -/
def awake : State :=
  { State.reset with
    pwr := { ({} : Pwr) with dom := List.replicate 12 .on, full := true }
    boot := { ({} : Boot) with runs := 1 }
    enc := { ({} : Enc) with avail := true }
    mode := { ({} : ModeSt) with mode := .service }
    mbx := { ({} : Mbx) with
      spi := { served := true }
      sessions := [({} : Session), { id := 1, priv := 4, anchor := some 3, idleAt := 300000000 }] } }

/-- A request of session 1 at P4 with its MAC. -/
def rq (code : Nat) (payload : Bytes) : Req :=
  let r : Req := { session := 1, seq := 1, auth := true, priv := 4, payload := payload, time := 7 }
  { r with mac := (cmac [] (be 4 0 ++ reqHeader code r ++ payload)).take 8 }

/-- A request of session 0 at P0. -/
def rq0 (payload : Bytes) : Req := { session := 0, seq := 1, payload := payload, time := 7 }

/-- A request whose checks pass in a state like `awake` is served. -/
theorem served_auth (code lo hi : Nat) (payload : Bytes) (s : State) (h1 : (getPort (advance 7 s) .spi).served = true) (h2 : (getPort (advance 7 s) .spi).slots = [])
    (x : Session) (h3 : findSession (advance 7 s) .spi 1 = some x) (h4 : x.proven = true) (h5 : x.h = none) (h6 : x.ctr = 0) (h7 : x.kHd = []) (h8 : encServes (advance 7 s) = true)
    (h9 : laneCheck code (rq code payload) (advance 7 s) = none) (h10 : s.boot.runs = 1) (h11 : lo ≤ payload.length) (h12 : payload.length ≤ hi) (h13 : hi ≤ 1000) :
    Served code lo hi (rq code payload) s := by
  refine ⟨⟨h1, ?_, ?_, ?_, ⟨x, ?_, ?_, ?_, ?_⟩, h9, h10⟩, h11, h12⟩
  · exact le_trans h12 h13
  · show (getPort (advance 7 s) .spi).slots.length < 8
    rw [h2]; decide
  · intro y hy
    have : y ∈ (getPort (advance 7 s) .spi).slots := hy
    rw [h2] at this; cases this
  · have : findSession (advance (rq code payload).time s) (rq code payload).transport (rq code payload).session = some x := h3
    simp only [sessionCheck, this, h4]
    simp [rq]
  · simp [seqClass, h5]
  · simp [ctrAfter, h5, h6]
  · intro _
    refine ⟨h8, ?_⟩
    simp [macOk, macCounter, h5, h6, h7, rq]; rfl

/-- A state in which the P4 session of `awake` is served. -/
def Able (s : State) : Prop :=
  (getPort (advance 7 s) .spi).served = true ∧ (getPort (advance 7 s) .spi).slots = [] ∧
  findSession (advance 7 s) .spi 1 = some { id := 1, priv := 4, anchor := some 3, idleAt := 300000000 } ∧ encServes (advance 7 s) = true ∧ s.boot.runs = 1

/-- A request whose privilege and lane pass is served in such a state. -/
theorem servedAt {s : State} {code lo hi : Nat} {payload : Bytes} (h : Able s) (h9 : laneCheck code (rq code payload) (advance 7 s) = none)
    (h11 : lo ≤ payload.length) (h12 : payload.length ≤ hi) (h13 : hi ≤ 1000) : Served code lo hi (rq code payload) s :=
  served_auth code lo hi payload s h.1 h.2.1 _ h.2.2.1 rfl rfl rfl rfl h.2.2.2.1 h9 h.2.2.2.2 h11 h12 h13

/-- The state that a served request's handler works on. -/
def sv (code : Nat) (payload : Bytes) (s : State) : State := serving code (rq code payload) s

/-- A request of session 0 whose privilege and lane pass is served as well. -/
theorem servedAt0 {s : State} {code lo hi : Nat} {payload : Bytes} (h1 : (getPort (advance 7 s) .spi).served = true) (h2 : (getPort (advance 7 s) .spi).slots = [])
    (h3 : findSession (advance 7 s) .spi 0 = some {}) (h10 : s.boot.runs = 1) (h9 : laneCheck code (rq0 payload) (advance 7 s) = none)
    (h11 : lo ≤ payload.length) (h12 : payload.length ≤ hi) (h13 : hi ≤ 1000) : Served code lo hi (rq0 payload) s := by
  refine ⟨⟨h1, le_trans h12 h13, ?_, ?_, ⟨{}, ?_, rfl, by simp [ctrAfter], ?_⟩, h9, h10⟩, h11, h12⟩
  · show (getPort (advance 7 s) .spi).slots.length < 8
    rw [h2]; decide
  · intro y hy
    have : y ∈ (getPort (advance 7 s) .spi).slots := hy
    rw [h2] at this; cases this
  · have : findSession (advance (rq0 payload).time s) (rq0 payload).transport (rq0 payload).session = some {} := h3
    simp only [sessionCheck, this]
    simp [rq0]
  · intro h; cases h

/-- No mode and no shutdown refuses a request. -/
def opens (code : Nat) (r : Req) (p : State) : Bool := !modeRefused code r.payload p && !shutdownRefused code p

/-- That is what the statements call allowed. -/
theorem allowed_of_opens {code : Nat} {r : Req} {p : State} (h : opens code r p = true) : Allowed code r p := by
  simpa [opens, Allowed] using h

/-- A request of the P4 session is served at a state, and more is so of the state its handler works on. -/
def Met (s : State) (code lo hi : Nat) (payload : Bytes) (Q : State → State → Req → Prop) : Prop :=
  Served code lo hi (rq code payload) s ∧ Q s (sv code payload s) (rq code payload)

/-- The same of a request of session 0. -/
def Met0 (s : State) (code lo hi : Nat) (payload : Bytes) (Q : State → State → Req → Prop) : Prop :=
  Served code lo hi (rq0 payload) s ∧ Q s (serving code (rq0 payload) s) (rq0 payload)

/-- What is so of a state at the time of an event. -/
def Holds (s : State) (Q : State → Prop) : Prop := Q (advance 0 s)

/-- A working copy with one record of each kind that the statements ask for. -/
def richTw : Twill :=
  { lamps := [{ func := 31, ch := [16, 17] }], scenes := [{ scene := 15, entries := [(31, 5000)] }], wiper := some { pair := 2, washer := 20, stall := 3000 },
    motion := [{ act := 0, pair := 0, zone := 200, margin := 100, stall := 5000 }, { act := 3, pair := 1 }], screens := [{ sref0 := 100, sref1 := 100 }], haptic := some {},
    ports := [{ enabled := true, nodes := 4 }], stations := [{ addr := 1, ilen := 8, olen := 8 }],
    lin := [{ enabled := true, scheds := [{ num := 15, slots := [{ id := 1 }] }] }] }

/-- `awake` with that working copy. -/
def rich : State := { awake with nvm := { awake.nvm with tw := richTw } }

/-- The same at `awake`. -/
theorem served (code lo hi : Nat) (payload : Bytes) (h9 : laneCheck code (rq code payload) (advance 7 awake) = none) (h11 : lo ≤ payload.length) (h12 : payload.length ≤ hi) (h13 : hi ≤ 1000) :
    Served code lo hi (rq code payload) awake :=
  servedAt ⟨rfl, rfl, rfl, rfl, rfl⟩ h9 h11 h12 h13

/-- Every mailbox row is served at some request of the least length, and at one of the greatest (R51, R68). -/
theorem test_every_row_is_served : ∀ e ∈ mailboxRows, ∃ row, cmdRow e.1 = some row ∧
    Served e.1 row.lo row.hi (rq e.1 (List.replicate row.lo 0)) awake ∧ Served e.1 row.lo row.hi (rq e.1 (List.replicate row.hi 0)) awake := by
  intro e he
  have h : ∀ e ∈ mailboxRows, (cmdRow e.1).isSome = true ∧ ((cmdRow e.1).getD {}).lo ≤ ((cmdRow e.1).getD {}).hi ∧ ((cmdRow e.1).getD {}).hi ≤ 1000 ∧
      ∀ p ∈ [List.replicate ((cmdRow e.1).getD {}).lo (0 : Byte), List.replicate ((cmdRow e.1).getD {}).hi 0],
        laneCheck e.1 (rq e.1 p) (advance 7 awake) = none := by
    have : ∀ c ∈ mailboxRows.map (fun e => e.1), (cmdRow c).isSome = true ∧ ((cmdRow c).getD {}).lo ≤ ((cmdRow c).getD {}).hi ∧ ((cmdRow c).getD {}).hi ≤ 1000 ∧
        ∀ p ∈ [List.replicate ((cmdRow c).getD {}).lo (0 : Byte), List.replicate ((cmdRow c).getD {}).hi 0],
        laneCheck c (rq c p) (advance 7 awake) = none := by decide
    intro e he; exact this _ (List.mem_map_of_mem he)
  obtain ⟨h1, h2, h3, h4⟩ := h e he
  obtain ⟨row, hr⟩ := Option.isSome_iff_exists.1 h1
  simp only [hr, Option.getD_some] at h2 h3 h4
  exact ⟨row, hr, served _ _ _ _ (h4 _ (by simp)) (by simp) (by simpa using h2) h3, served _ _ _ _ (h4 _ (by simp)) (by simpa using h2) (by simp) h3⟩


/-- `awake` with registers changed. -/
def coreAt (f : Regs → Regs) : State := modRegs f awake

/-- A thread in user mode with every address permitted. -/
def user : State :=
  { awake with
    ext := { ({} : Ext) with st := .running, threads := [{ live := true }, {}, {}, {}] }
    core := { awake.core with r := { awake.core.r with psr := { u := true, ie := true } }, mpu := [{ log2 := 32, user := 4, sup := 4 }] } }

/-- That thread, or a changed one, with the arguments of a syscall in w12 on. -/
def callIn (s : State) (l : List Nat) : State :=
  modRegs (fun r => { r with ring := l.zipIdx.foldl (fun g e => g.setIfInBounds (12 + e.2) (BitVec.ofNat 32 e.1)) r.ring }) s

/-- A syscall of a thread is served, whatever its arguments are. -/
theorem served_call {s : State} (h : SyscallServed s) (t : s.core.r.psr.tdx = false) (l : List Nat) : SyscallServed (callIn s l) :=
  ⟨⟨h.1.1, h.1.2⟩, h.2.1, h.2.2.1, h.2.2.2.1, h.2.2.2.2.1, fun e => absurd (show s.core.r.psr.tdx = true from e) (by simp [t])⟩

/-- A task in a TDX window whose confirm buffer holds `n` stores (R375). -/
def inTdx (n : Nat) : State :=
  { awake with core := { awake.core with r := { awake.core.r with psr := { tdx := true } }, tdx := { ({} : Tdx) with open_ := true, buffer := List.replicate n {} } } }

/-- The same with a window waiting for its comparison (R379). -/
def waiting : State := { inTdx 0 with core := { (inTdx 0).core with tdx := { closed := [{}] } } }

/-- A TDX task beside device memory, before the access and once the window of its own has matched (R378). -/
def beside (n : Option Word) : State :=
  { inTdx 0 with core := { (inTdx 0).core with mpu := [{ base := 0x50000000, log2 := 12, user := 4, sup := 4, device := true }], tdx := { passed := n } } }

/-- A save record at WSP whose seal word is right for DEPTH 1 (R523). -/
def sealed : State := storeMem 0x20000000 (List.replicate 48 0 ++ le 4 0xFFFF0000) (coreAt (fun r => { r with depth := 1, wsp := 0x20000000 }))

/-- A region of the MPU that supervisor mode may read only. -/
def guarded : State := { awake with core := { awake.core with mpu := [{ base := 0x20000000, log2 := 8, user := 0, sup := 1 }] } }

/-- The hypotheses of the statements about single instructions are met: in supervisor mode, in a TDX task with its confirm buffer full or not, in user mode, in a trap, at the ring's and the save area's bounds. -/
theorem test_met_core :
    (Fetches awake ∧ Fetches user ∧ Fetches (inTdx 15) ∧ Fetches (inTdx 16) ∧ Fetches sealed ∧ Fetches guarded ∧ ∀ f ∈ ([
      fun r => { r with lk := 0xFFFFFFFC, res := 2 }, fun r => { r with lk := 0xFFFFFFFD, res := 6 }, fun r => { r with wlimit := 0x20000000, wsp := 0x20000034 },
      fun r => { r with depth := 1, wsp := 0x20000000 }, fun r => { r with psr := { r.psr with tw := true } }] : List (Regs → Regs)), Fetches (coreAt f)) ∧
    regOk 25#5 = true ∧ regOk 26#5 = false ∧ regOk 31#5 = false ∧
    mpuSpan (atInstr awake).core false 1 0x10000 8 = true ∧ mpuSpan (atInstr awake).core false 2 0xFFFFFFF8 8 = true ∧
    (atInstr (inTdx 15)).core.tdx.buffer.length < 16 ∧ 16 ≤ (atInstr (inTdx 16)).core.tdx.buffer.length ∧
    Exits (modRegs (fun r => { r with lk := 0xFFFFFFF0 }) user) 0xFFFFFFF0 ∧ ¬ Exits (coreAt (fun r => { r with lk := 0xFFFFFFFC, res := 2 })) 0xFFFFFFFC ∧
    sealOk (closeWindow (atInstr sealed)) = true ∧ sealOk (closeWindow (atInstr (coreAt (fun r => { r with depth := 1, wsp := 0x20000000 })))) = false ∧
    mpuSpan (atInstr guarded).core false 2 0x20000000 4 = false ∧ mpuSpan (atInstr guarded).core false 1 0x200000FC 4 = true ∧
    csrRead (atInstr awake).core 0x31 ≠ none ∧ csrRead (atInstr awake).core 0x32 = none ∧
    csrWrite (closeWindow (atInstr awake)).core 0x2F 1 ≠ none ∧ csrWrite (closeWindow (atInstr awake)).core 0x0A 1 = none ∧
    (closeWindow (atInstr waiting)).core.tdx.closed ≠ [] ∧ (closeWindow (atInstr (inTdx 0))).core.tdx.closed = [] ∧
    isDevice (beside none).core 0x50000000 = true ∧ isDevice (beside none).core 0x20000000 = false ∧ mpuSpan (atInstr (beside none)).core false 1 0x50000000 4 = true ∧
    mpuSpan (atInstr (beside none)).core false 2 0x50000000 4 = true ∧ (closeWindow (atInstr (beside none))).core.tdx.passed ≠ some (beside none).core.r.pc ∧
    (closeWindow (atInstr (beside (some awake.core.r.pc)))).core.tdx.passed = some (beside none).core.r.pc ∧ canRun (beside none) = true ∧
    user.core.r.psr.u = true ∧ awake.core.r.psr.u = false ∧ awake.core.r.res < 7 ∧ awake.core.tdx.open_ = false := by
  refine ⟨⟨?_, ?_, ?_, ?_, ?_, ?_, ?_⟩, ?_⟩
  · unfold Fetches; decide +kernel
  · unfold Fetches; decide +kernel
  · unfold Fetches; decide +kernel
  · unfold Fetches; decide +kernel
  · unfold Fetches; decide +kernel
  · unfold Fetches; decide +kernel
  · unfold Fetches
    simp only [List.forall_mem_cons, List.not_mem_nil, false_imp_iff, implies_true]
    decide +kernel
  · unfold Exits; decide +kernel

/-- A thread's syscall is served. -/
theorem user_served : SyscallServed user := by
  refine ⟨?_, rfl, rfl, by decide, by decide, fun h => by cases h⟩
  unfold Fetches; decide +kernel

/-- A syscall with these arguments is served at a state, and more is so of it and of the state Smisa serves it in. -/
def Calls (s : State) (l : List Nat) (Q : State → State → Prop) : Prop := SyscallServed (callIn s l) ∧ Q (callIn s l) (inSyscall (callIn s l))

/-- The hypotheses of SyscNumbersAreTheSyscalls and SyscallsOfThreads are met, clause by clause. -/
theorem test_met_syscalls_of_threads :
    Calls ({ user with ext := { user.ext with cur := 1, threads := [{ live := true }, { live := true }, {}, {}] } }) [3] (fun s _ => (List.range 1).map (argOf s) = [3] ∧ s.ext.cur ≠ 0) ∧
    Calls (user) [0] (fun s _ => (List.range 1).map (argOf s) = [0] ∧ s.ext.cur = 0) ∧
    Calls (user) [8, 1073741824, 3, 0] (fun s _ => (List.range 4).map (argOf s) = [8, 1073741824, 3, 0] ∧ bufWrite 1073741824 0 = true ∧ [1, 2, 3].find? (fun n => !(getThread s n).live) = some 1) ∧
    Calls ({ user with ext := { user.ext with threads := [{ live := true }, { live := true }, { live := true }, {}] } }) [8, 1073872896, 0, 0] (fun s _ => (List.range 4).map (argOf s) = [8, 1073872896, 0, 0] ∧ bufWrite 1073872896 0 = true ∧ [1, 2, 3].find? (fun n => !(getThread s n).live) = some 3) ∧
    Calls (user) [] (fun s p => pickThread (modRegs (putResults stOk []) p) s.ext.cur = some 0) ∧
    Calls (user) [1] (fun s _ => (List.range 1).map (argOf s) = [1]) ∧
    Calls (user) [4294967295] (fun s _ => (List.range 1).map (argOf s) = [4294967295]) ∧
    Calls ({ user with ext := { user.ext with threads := [{ live := true, events := 64 }, {}, {}, {}] } }) [127, 0] (fun s _ => (List.range 2).map (argOf s) = [127, 0] ∧ ((getThread s 0).events &&& 127) % 128 ≠ 0) ∧
    Calls (user) [127, 0] (fun s _ => (List.range 2).map (argOf s) = [127, 0] ∧ ((getThread s 0).events &&& 127) % 128 = 0) ∧
    Calls (user) [1, 1] (fun s _ => (List.range 2).map (argOf s) = [1, 1]) ∧
    Calls (user) [1, 4294967295] (fun s _ => (List.range 2).map (argOf s) = [1, 4294967295]) ∧
    Calls (user) [0] (fun s _ => (List.range 1).map (argOf s) = [0]) ∧
    Calls (user) [1] (fun s _ => (List.range 1).map (argOf s) = [1]) ∧
    Calls ({ user with ext := { user.ext with msgs := [{ data := [1] }] } }) [1073872895, 1, 0] (fun s _ => (List.range 3).map (argOf s) = [1073872895, 1, 0] ∧ bufWrite 1073872895 1 = true ∧ (s.ext.msgs.filter (fun (m : ExtMsg) => !m.taken)).head? = some { data := [1] }) ∧
    Calls (user) [1073741824, 0, 1] (fun s _ => (List.range 3).map (argOf s) = [1073741824, 0, 1] ∧ bufWrite 1073741824 0 = true ∧ (s.ext.msgs.filter (fun (m : ExtMsg) => !m.taken)).head? = none) ∧
    Calls ({ user with ext := { user.ext with msgs := [{ id := 5 }] } }) [5, 273154047, 1] (fun s _ => (List.range 3).map (argOf s) = [5, 273154047, 1] ∧ bufRead 0x1047FFFF 1 = true ∧ s.ext.msgs.find? (fun m => m.id == 5) = some { id := 5 }) ∧
    Calls ({ user with ext := { user.ext with msgs := [{ id := 5 }] } }) [5, 1073741824, 992] (fun s _ => (List.range 3).map (argOf s) = [5, 1073741824, 992] ∧ bufRead 1073741824 992 = true) := by
  refine ⟨?_, ?_, ?_, ?_, ?_, ?_, ?_, ?_, ?_, ?_, ?_, ?_, ?_, ?_, ?_, ?_, ?_⟩ <;> exact ⟨served_call user_served rfl _, by beta_reduce; decide +kernel⟩

/-- The hypotheses of SyscallsOfInputsAndOutputs are met, clause by clause. -/
theorem test_met_syscalls_of_inputs_and_outputs :
    Calls (user) [1073872876] (fun s _ => (List.range 1).map (argOf s) = [1073872876] ∧ bufWrite 1073872876 20 = true) ∧
    Calls (user) [1073741824] (fun s _ => (List.range 1).map (argOf s) = [1073741824] ∧ bufWrite 1073741824 16 = true) ∧
    Calls (user) [268435455, 1, 2] (fun s _ => (List.range 3).map (argOf s) = [268435455, 1, 2]) ∧
    Calls (user) [55, 15] (fun s p => (List.range 2).map (argOf s) = [55, 15] ∧ objectAssigned p 55 = true ∧ modeRefused 0x1003 [] p = false) ∧
    Calls (user) [0, 1] (fun s p => (List.range 2).map (argOf s) = [0, 1] ∧ objectAssigned p 0 = true) ∧
    Calls ({ user with outs := { user.outs with chans := { own := { owner := .ext } } :: List.replicate 55 {} } }) [0] (fun s p => (List.range 1).map (argOf s) = [0] ∧ objectAssigned p 0 = true ∧ owns p .ext 0 = true) ∧
    Calls (user) [55] (fun s p => (List.range 1).map (argOf s) = [55] ∧ owns p .ext 55 = false) ∧
    Calls (user) [65535] (fun s _ => (List.range 1).map (argOf s) = [65535]) ∧
    Calls ({ user with outs := { user.outs with chans := { own := { owner := .ext } } :: List.replicate 55 {} } }) [0, 2, 10000, 100] (fun s p => (List.range 4).map (argOf s) = [0, 2, 10000, 100] ∧ isChannel 0 = true ∧ modeAllowed 0 2 = true ∧ modeRefused 0x1002 [] p = false ∧ owns p .ext 0 = true) ∧
    Calls (user) [55, 2, 0, 0] (fun s p => (List.range 4).map (argOf s) = [55, 2, 0, 0] ∧ isChannel 55 = true ∧ modeAllowed 55 2 = true ∧ owns p .ext 55 = false) ∧
    Calls (user) [0, 1073741824] (fun s p => (List.range 2).map (argOf s) = [0, 1073741824] ∧ objectAssigned p 0 = true ∧ bufWrite 1073741824 11 = true) ∧
    Calls (user) [63, 100] (fun s p => (List.range 2).map (argOf s) = [63, 100] ∧ modeRefused 0x1B01 [] p = false) ∧
    Calls (user) [0, 1] (fun s p => (List.range 2).map (argOf s) = [0, 1] ∧ modeRefused 0x1B01 [] p = false) ∧
    Calls ({ user with nvm := { user.nvm with tw := richTw } }) [1, 1073872822] (fun s p => (List.range 2).map (argOf s) = [1, 1073872822] ∧ (stationCfg p 1).isSome = true ∧ bufWrite 1073872822 74 = true) ∧
    Calls ({ user with nvm := { user.nvm with tw := richTw }, mill := { user.mill with stn := List.replicate 256 { st := .active, own := { owner := .ext } } } }) [1, 0, 1073741824, 8] (fun s p => (List.range 4).map (argOf s) = [1, 0, 1073741824, 8] ∧ (stationCfg p 1).map (fun c => c.olen) = some 8 ∧ bufRead 1073741824 8 = true ∧ modeRefused 0x2003 [] p = false ∧ inSnapshot (getStn p 1) = true ∧ owns p .ext 0x101 = true) ∧
    Calls (user) [7, 255] (fun s _ => (List.range 2).map (argOf s) = [7, 255]) ∧
    Calls (user) [0, 1, 2684354559, 0] (fun s _ => (List.range 4).map (argOf s) = [0, 1, 2684354559, 0] ∧ canIdOk 0x9FFFFFFF = true) ∧
    Calls (user) [7, 0, 2047, 0] (fun s _ => (List.range 4).map (argOf s) = [7, 0, 2047, 0] ∧ canIdOk 0x7FF = true) ∧
    Calls ({ user with ext := { user.ext with rx := [(0, {})] } }) [1073741824, 0] (fun s _ => (List.range 2).map (argOf s) = [1073741824, 0] ∧ bufWrite 1073741824 72 = true ∧ s.ext.rx ≠ []) ∧
    Calls (user) [1073741824, 1] (fun s _ => (List.range 2).map (argOf s) = [1073741824, 1] ∧ s.ext.rx = []) ∧
    Calls (user) [1073741824, 4294967295] (fun s _ => (List.range 2).map (argOf s) = [1073741824, 4294967295]) ∧
    Calls ({ user with bus := { user.bus with can := [{ state := 1 }, { state := 2 }] } }) [0, 2047, 1073741824, 0] (fun s p => (List.range 4).map (argOf s) = [0, 2047, 1073741824, 0] ∧ bufRead 1073741824 0 = true ∧ sendOk p 0 0x7FF 0 [] = true ∧ canActive p 0 = true) ∧
    Calls ({ user with bus := { user.bus with can := [{ state := 1 }, { state := 2 }] } }) [1, 2684354559, 1073741824, 832] (fun s p => (List.range 4).map (argOf s) = [1, 2684354559, 1073741824, 832] ∧ bufRead 1073741824 64 = true ∧ sendOk p 1 0x9FFFFFFF 3 (loadBytes p 1073741824 64) = true ∧ canActive p 1 = true) := by
  refine ⟨?_, ?_, ?_, ?_, ?_, ?_, ?_, ?_, ?_, ?_, ?_, ?_, ?_, ?_, ?_, ?_, ?_, ?_, ?_, ?_, ?_, ?_, ?_⟩ <;> exact ⟨served_call user_served rfl _, by beta_reduce; decide +kernel⟩

/-- The hypotheses of SyscallsOfDataAndKeys are met, clause by clause, as far as no standard algorithm decides them. -/
theorem test_met_syscalls_of_data_and_keys :
    Calls ({ (user) with ext := { user.ext with sectors := 13 } }) [12, 1919, 1073872895, 1] (fun s _ => (List.range 4).map (argOf s) = [12, 1919, 1073872895, 1] ∧ s.pwr.shutdown = none ∧ s.enc.segregated = false ∧ s.enc.avail = true ∧ bufWrite 1073872895 1 = true ∧ areaAtomic s 12 = true) ∧
    Calls (user) [0, 0, 1073741824, 4096] (fun s _ => (List.range 4).map (argOf s) = [0, 0, 1073741824, 4096] ∧ s.pwr.shutdown = none ∧ s.enc.segregated = false ∧ s.enc.avail = true ∧ bufWrite 1073741824 4096 = true ∧ areaAtomic s 0 = false) ∧
    Calls ({ (user) with ext := { user.ext with sectors := 13 } }) [12, 7, 1073741824] (fun s p => (List.range 3).map (argOf s) = [12, 7, 1073741824] ∧ s.pwr.shutdown = none ∧ s.enc.segregated = false ∧ s.enc.avail = true ∧ bufRead 1073741824 240 = true ∧ areaAtomic s 12 = true ∧ hasBlankLine (loadBytes p 1073741824 240) = false ∧ (getPage s 12 7).writes < s.ao.life / 3600 + 64) ∧
    Calls ({ ({ user with nvm := { user.nvm with atomic := List.replicate 13 (List.replicate 8 { writes := 64 }) } }) with ext := { user.ext with sectors := 13 } }) [0, 0, 1073741824] (fun s p => (List.range 3).map (argOf s) = [0, 0, 1073741824] ∧ s.pwr.shutdown = none ∧ s.enc.segregated = false ∧ s.enc.avail = true ∧ hasBlankLine (loadBytes p 1073741824 240) = false ∧ s.ao.life / 3600 + 64 ≤ (getPage s 0 0).writes) ∧
    Calls (user) [0, 1073741824, 16] (fun s p => (List.range 3).map (argOf s) = [0, 1073741824, 16] ∧ s.pwr.shutdown = none ∧ s.enc.segregated = false ∧ s.enc.avail = true ∧ bufRead 1073741824 16 = true ∧ areaAtomic s 0 = false ∧ hasBlankLine (loadBytes p 1073741824 16) = false ∧ (getRaw s 0).lines.length + 1 ≤ 256) ∧
    Calls ({ user with nvm := { user.nvm with raw := List.replicate 13 { lines := List.replicate 240 none } } }) [12, 1073741824, 256] (fun s p => (List.range 3).map (argOf s) = [12, 1073741824, 256] ∧ s.pwr.shutdown = none ∧ s.enc.segregated = false ∧ s.enc.avail = true ∧ hasBlankLine (loadBytes p 1073741824 256) = false ∧ (getRaw s 12).lines.length + 16 ≤ 256) ∧
    Calls (user) [12] (fun s _ => (List.range 1).map (argOf s) = [12] ∧ s.pwr.shutdown = none ∧ s.enc.segregated = false ∧ s.enc.avail = true ∧ areaAtomic s 12 = false ∧ (getRaw s 12).erases < s.ao.life / 7200 + 64) ∧
    Calls ({ user with nvm := { user.nvm with raw := List.replicate 13 { erases := 64 } } }) [0] (fun s _ => (List.range 1).map (argOf s) = [0] ∧ s.pwr.shutdown = none ∧ s.enc.segregated = false ∧ s.enc.avail = true ∧ s.ao.life / 7200 + 64 ≤ (getRaw s 0).erases) ∧
    Calls (user) [1073741824, 4096, 1073741824] (fun s _ => (List.range 3).map (argOf s) = [1073741824, 4096, 1073741824] ∧ s.pwr.shutdown = none ∧ s.enc.segregated = false ∧ s.enc.avail = true ∧ bufRead 1073741824 4096 = true ∧ bufWrite 1073741824 32 = true) ∧
    Calls (user) [1073741824, 256] (fun s _ => (List.range 2).map (argOf s) = [1073741824, 256] ∧ s.pwr.shutdown = none ∧ s.enc.segregated = false ∧ s.enc.avail = true ∧ bufWrite 1073741824 256 = true) ∧
    Calls (user) [1073741824, 1] (fun s _ => (List.range 2).map (argOf s) = [1073741824, 1] ∧ s.pwr.shutdown = none ∧ s.enc.segregated = false ∧ s.enc.avail = true) ∧
    Calls ({ user with enc := { user.enc with slots := List.replicate 32 { a := some { alg := 1, usage := 16 } } } }) [8, 1073741824, 4096, 1073741824] (fun s p => (List.range 4).map (argOf s) = [8, 1073741824, 4096, 1073741824] ∧ s.pwr.shutdown = none ∧ s.enc.segregated = false ∧ s.enc.avail = true ∧ extKey p 8 = some [] ∧ bufRead 1073741824 4096 = true ∧ bufWrite 1073741824 16 = true) ∧
    Calls ({ user with enc := { user.enc with slots := List.replicate 32 { a := some { alg := 1, usage := 16 } } }, core := { user.core with mem := memStore 0 [] 1073741824 (List.replicate 12 0 ++ le 4 1073741888 ++ le 4 2000 ++ le 4 1073743888 ++ le 4 2096 ++ le 4 1073750016 ++ le 4 1073758208) } }) [23, 1073741824] (fun s p => (List.range 2).map (argOf s) = [23, 1073741824] ∧ s.pwr.shutdown = none ∧ s.enc.segregated = false ∧ s.enc.avail = true ∧ extKey p 23 = some [] ∧ gcmOk p 1073741824 false = true ∧ gcmOk p 1073741824 true = true) ∧
    Calls (user) [4] (fun s _ => (List.range 1).map (argOf s) = [4] ∧ s.pwr.shutdown = none ∧ s.enc.segregated = false ∧ s.enc.avail = true) ∧
    Calls (user) [7] (fun s _ => (List.range 1).map (argOf s) = [7] ∧ s.pwr.shutdown = none ∧ s.enc.segregated = false ∧ s.enc.avail = true) ∧
    Calls (user) [4, 4294967294] (fun s _ => (List.range 2).map (argOf s) = [4, 4294967294] ∧ s.pwr.shutdown = none ∧ s.enc.segregated = false ∧ s.enc.avail = true) ∧
    Calls (user) [7, 0] (fun s _ => (List.range 2).map (argOf s) = [7, 0] ∧ s.pwr.shutdown = none ∧ s.enc.segregated = false ∧ s.enc.avail = true) := by
  refine ⟨?_, ?_, ?_, ?_, ?_, ?_, ?_, ?_, ?_, ?_, ?_, ?_, ?_, ?_, ?_, ?_, ?_⟩ <;> exact ⟨served_call user_served rfl _, by beta_reduce; decide +kernel⟩

/-- The hypotheses of SystemModeAndPowerCommands are met, clause by clause. -/
theorem test_met_system_mode_power :
    Met (awake) 0x0103 2 2 [0, 0] (fun _ p r => opens 0x0103 r p) ∧
    Met (awake) 0x0103 2 2 [1, 11] (fun _ p r => opens 0x0103 r p ∧ domOf 11 = some .ana) ∧
    Met ({ awake with nvm := { awake.nvm with trim := -2000 } }) 0x0105 6 6 [0, 0, 0, 1, 248, 48] (fun s p r => opens 0x0105 r p ∧ sext 16 (field r.payload 4 2) = (-2000 : Int) ∧ ¬ (s.nvm.tw.uplink.gptp = true ∧ s.bus.up.gptp.valid = true) ∧ s.nvm.trim = (-2000 : Int)) ∧
    Met ({ awake with nvm := { awake.nvm with trim := 2000 } }) 0x0105 6 6 [0, 0, 0, 1, 7, 208] (fun s p r => opens 0x0105 r p ∧ sext 16 (field r.payload 4 2) = (2000 : Int) ∧ ¬ (s.nvm.tw.uplink.gptp = true ∧ s.bus.up.gptp.valid = true) ∧ s.nvm.trim = (2000 : Int)) ∧
    Met ({ awake with mode := { awake.mode with mode := .parked } }) 0x0202 1 1 [5] (fun _ p r => inService p r = true ∧ modeOpen p = true) ∧
    Met ({ awake with mode := { awake.mode with mode := .run } }) 0x0202 1 1 [5] (fun _ p r => inService p r = true) ∧
    Met (awake) 0x0202 1 1 [1] (fun _ p r => inService p r = true ∧ modeOpen p = true) ∧
    Met (awake) 0x0202 1 1 [4] (fun _ p r => inService p r = true ∧ modeOpen p = true) ∧
    Met (awake) 0x0202 1 1 [0] (fun _ p r => inService p r = true ∧ parkRefuser p 2 = none) ∧
    Met (awake) 0x0203 2 2 [0, 0] (fun _ p r => opens 0x0203 r p) ∧
    Met (awake) 0x0203 2 2 [14, 16] (fun _ p r => opens 0x0203 r p ∧ field r.payload 0 2 = 3600) ∧
    Met (awake) 0x0302 2 2 [11, 2] (fun s p r => opens 0x0302 r p ∧ overrideOk .ana 2 = true ∧ noRfd p .ana = false ∧ stRank (domSt s .ana) ≤ stRank .on) ∧
    Met (awake) 0x0302 2 2 [11, 0] (fun _ p r => opens 0x0302 r p ∧ overrideOk .ana 0 = true ∧ noRfd p .ana = false ∧ refuserOf p .ana = none) := by
  refine ⟨?_, ?_, ?_, ?_, ?_, ?_, ?_, ?_, ?_, ?_, ?_, ?_, ?_⟩
  all_goals exact ⟨servedAt ⟨rfl, rfl, rfl, rfl, rfl⟩ (by decide +kernel) (by decide +kernel) (by decide +kernel) (by decide +kernel), by beta_reduce; decide +kernel⟩

/-- The hypotheses of OutputLampAndWiperCommands are met, clause by clause. -/
theorem test_met_output_lamp_wiper :
    Met (rich) 0x1001 2 2 [0, 55] (fun _ p _ => objectAssigned p 55 = true) ∧
    Met (rich) 0x1001 2 2 [1, 1] (fun _ p _ => objectAssigned p 0x101 = true) ∧
    Met (modOwn 0 (fun x => { x with owner := .service, prio := 3 }) (rich)) 0x1002 7 7 [0, 0, 2, 39, 16, 0, 100] (fun _ p r => opens 0x1002 r p ∧ isChannel 0 = true ∧ modeAllowed 0 2 = true ∧ owns p (requester p r) 0 = true) ∧
    Met (modOwn 55 (fun x => { x with owner := .service, prio := 3 }) (rich)) 0x1002 7 7 [0, 55, 2, 0, 0, 7, 208] (fun _ p r => opens 0x1002 r p ∧ isChannel 55 = true ∧ modeAllowed 55 2 = true ∧ owns p (requester p r) 55 = true) ∧
    Met (rich) 0x1002 7 7 [0, 0, 1, 39, 16, 0, 0] (fun _ p r => opens 0x1002 r p ∧ isChannel 0 = true ∧ modeAllowed 0 1 = true ∧ owns p (requester p r) 0 = false) ∧
    Met (rich) 0x1003 3 3 [0, 0, 1] (fun _ p r => opens 0x1003 r p ∧ objectAssigned p 0 = true) ∧
    Met (rich) 0x1003 3 3 [1, 1, 15] (fun _ p r => opens 0x1003 r p ∧ objectAssigned p 0x101 = true) ∧
    Met (rich) 0x1004 2 2 [255, 255] (fun _ _ r => field r.payload 0 2 = 0xFFFF) ∧
    Met (modOwn 55 (fun x => { x with owner := .service, prio := 3 }) (rich)) 0x1004 2 2 [0, 55] (fun _ p r => objectAssigned p 55 = true ∧ requester p r ≠ .dflt ∧ owns p (requester p r) 55 = true) ∧
    Met (rich) 0x1004 2 2 [1, 1] (fun _ p r => objectAssigned p 0x101 = true ∧ owns p (requester p r) 0x101 = false) ∧
    Met (rich) 0x1006 2 2 [0, 0] (fun _ p r => opens 0x1006 r p ∧ (getChan p 0).latched = false) ∧
    Met (modChan 55 (fun c => { c with latched := true }) rich) 0x1006 2 2 [0, 55] (fun _ p r => opens 0x1006 r p ∧ (getChan p 55).latched = true ∧ owns p (requester p r) 55 = false) ∧
    Met (modOwn 55 (fun x => { x with owner := .service, prio := 3 }) (modChan 55 (fun c => { c with latched := true }) rich)) 0x1006 2 2 [0, 55] (fun _ p r => opens 0x1006 r p ∧ (getChan p 55).latched = true ∧ owns p (requester p r) 55 = true) ∧
    Met (rich) 0x1101 1 1 [31] (fun _ p _ => (lampCfg p 31).isSome = true) ∧
    Met (rich) 0x1102 5 5 [31, 2, 50, 39, 16] (fun _ p r => opens 0x1102 r p ∧ (lampCfg p 31).isSome = true ∧ serviceOwns p [16, 17] = true) ∧
    Met (modOwn 17 (fun x => { x with owner := .service, prio := 3 }) (rich)) 0x1102 5 5 [31, 0, 0, 0, 0] (fun _ p r => opens 0x1102 r p ∧ (lampCfg p 31).isSome = true ∧ serviceOwns p [16, 17] = false) ∧
    Met (rich) 0x1103 1 1 [15] (fun _ p r => opens 0x1103 r p ∧ (tw p).scenes.find? (fun x => x.scene == 15) = some { scene := 15, entries := [(31, 5000)] } ∧ serviceOwns p [16, 17] = true) ∧
    Met (modOwn 16 (fun x => { x with owner := .service, prio := 3 }) (rich)) 0x1103 1 1 [15] (fun _ p r => opens 0x1103 r p ∧ (tw p).scenes.find? (fun x => x.scene == 15) = some { scene := 15, entries := [(31, 5000)] } ∧ serviceOwns p [16, 17] = false) ∧
    Met (rich) 0x1202 3 3 [6, 3, 30] (fun _ p r => opens 0x1202 r p ∧ (tw p).wiper = some { pair := 2, washer := 20, stall := 3000 } ∧ serviceOwns p [28, 29] = true) ∧
    Met (modOwn 29 (fun x => { x with owner := .service, prio := 3 }) (rich)) 0x1202 3 3 [0, 0, 2] (fun _ p r => opens 0x1202 r p ∧ (tw p).wiper = some { pair := 2, washer := 20, stall := 3000 } ∧ serviceOwns p [28, 29] = false) ∧
    Met (rich) 0x1203 2 2 [0, 200] (fun _ p r => opens 0x1203 r p ∧ (tw p).wiper = some { pair := 2, washer := 20, stall := 3000 } ∧ serviceOwns p [28, 29, 20] = true) ∧
    Met (modOwn 20 (fun x => { x with owner := .service, prio := 3 }) (rich)) 0x1203 2 2 [19, 136] (fun _ p r => opens 0x1203 r p ∧ (tw p).wiper = some { pair := 2, washer := 20, stall := 3000 } ∧ serviceOwns p [28, 29, 20] = false) := by
  refine ⟨?_, ?_, ?_, ?_, ?_, ?_, ?_, ?_, ?_, ?_, ?_, ?_, ?_, ?_, ?_, ?_, ?_, ?_, ?_, ?_, ?_, ?_⟩
  all_goals exact ⟨servedAt ⟨rfl, rfl, rfl, rfl, rfl⟩ (by decide +kernel) (by decide +kernel) (by decide +kernel) (by decide +kernel), by beta_reduce; decide +kernel⟩

/-- The hypotheses of MotionHapticAndInputCommands are met, clause by clause. -/
theorem test_met_motion_haptic_input :
    Met (rich) 0x1301 1 1 [3] (fun _ p _ => (motionCfg p 3).isSome = true) ∧
    Met ({ rich with mode := { rich.mode with mode := .run } }) 0x1302 4 4 [0, 3, 232, 2] (fun _ p r => (motionCfg p 0).isSome = true ∧ serviceReq p r = false) ∧
    Met (rich) 0x1302 4 4 [0, 3, 232, 0] (fun _ p r => opens 0x1302 r p ∧ (motionCfg p 0).isSome = true ∧ (getAct p 0).travel = 0) ∧
    Met (rich) 0x1302 4 4 [0, 0, 0, 2] (fun _ p r => opens 0x1302 r p ∧ serviceReq p r = true ∧ (getAct p 0).learn = 0 ∧ serviceOwns p [52, 53] = true) ∧
    Met (modAct 0 (fun a => { a with travel := 1 }) (rich)) 0x1302 4 4 [0, 0, 0, 1] (fun _ p r => opens 0x1302 r p ∧ (getAct p 0).travel ≠ 0 ∧ (getAct p 0).learn = 0 ∧ serviceOwns p [52, 53] = true) ∧
    Met (modOwn 55 (fun x => { x with owner := .service, prio := 3 }) (modAct 3 (fun a => { a with travel := 1 }) (rich))) 0x1302 4 4 [3, 0, 0, 1] (fun _ p r => opens 0x1302 r p ∧ (getAct p 3).travel ≠ 0 ∧ (getAct p 3).learn = 0 ∧ serviceOwns p [54, 55] = false) ∧
    Met (rich) 0x1303 1 1 [255] (fun _ _ r => r.payload = [0xFF]) ∧
    Met (rich) 0x1303 1 1 [3] (fun _ p _ => (motionCfg p 3).isSome = true) ∧
    Met (modAct 0 (fun a => { a with learn := 1 }) (rich)) 0x1304 1 1 [0] (fun _ p r => opens 0x1304 r p ∧ (motionCfg p 0).isSome = true ∧ (getAct p 0).learn ≠ 0) ∧
    Met (modOwn 52 (fun x => { x with owner := .service, prio := 3 }) (rich)) 0x1304 1 1 [0] (fun _ p r => opens 0x1304 r p ∧ (motionCfg p 0).isSome = true ∧ (getAct p 0).learn = 0 ∧ serviceOwns p [52, 53] = false) ∧
    Met ({ rich with nvm := { rich.nvm with snapWrites := List.replicate 16 64 } }) 0x1304 1 1 [0] (fun _ p r => opens 0x1304 r p ∧ (getAct p 0).learn = 0 ∧ serviceOwns p [52, 53] = true ∧ snapOk p 4 = false) ∧
    Met ({ rich with nvm := { rich.nvm with snapWrites := List.replicate 16 63 } }) 0x1304 1 1 [3] (fun _ p r => opens 0x1304 r p ∧ (getAct p 3).learn = 0 ∧ serviceOwns p [54, 55] = true ∧ snapOk p 7 = true) ∧
    Met (awake) 0x1B01 2 2 [63, 100] (fun _ p r => opens 0x1B01 r p ∧ (tw p).haptic.isNone = true) ∧
    Met (rich) 0x1B01 2 2 [0, 1] (fun _ p r => opens 0x1B01 r p ∧ (tw p).haptic.isSome = true) ∧
    Met (awake) 0x1B02 1 1 [63] (fun _ _ _ => True) ∧
    Met (awake) 0x1802 4 4 [15, 255, 255, 255] (fun _ _ r => field r.payload 0 4 < 2 ^ 28) ∧
    Met ({ rich with pwr := { rich.pwr with dom := List.replicate 11 .on ++ [.off] } }) 0x1A02 1 1 [0] (fun _ p r => opens 0x1A02 r p ∧ (tw p).screens.find? (fun z => z.record == 0) = some { sref0 := 100, sref1 := 100 } ∧ isOn p .ana = false) ∧
    Met (rich) 0x1A02 1 1 [0] (fun s p r => opens 0x1A02 r p ∧ (tw p).screens.find? (fun z => z.record == 0) = some { sref0 := 100, sref1 := 100 } ∧ s.env.cal.a0 = none) ∧
    Met ({ rich with env := { rich.env with cal := { a0 := some 50, a1 := some 50, b0 := some 49, b1 := some 50 } } }) 0x1A02 1 1 [0] (fun s p r => opens 0x1A02 r p ∧ (tw p).screens.find? (fun z => z.record == 0) = some { sref0 := 100, sref1 := 100 } ∧ s.env.cal = { a0 := some 50, a1 := some 50, b0 := some 49, b1 := some 50 } ∧ ¬ (100 ≤ 2 * 49)) ∧
    Met ({ rich with env := { rich.env with cal := { a0 := some 50, a1 := some 50, b0 := some 50, b1 := some 50 } }, nvm := { rich.nvm with snapWrites := List.replicate 16 64 } }) 0x1A02 1 1 [0] (fun s p r => opens 0x1A02 r p ∧ (tw p).screens.find? (fun z => z.record == 0) = some { sref0 := 100, sref1 := 100 } ∧ isOn p .ana = true ∧ s.env.cal.b1 = some 50 ∧ snapOk p 0 = false) ∧
    Met ({ rich with env := { rich.env with cal := { a0 := some 50, a1 := some 50, b0 := some 50, b1 := some 50 } } }) 0x1A02 1 1 [0] (fun s p r => opens 0x1A02 r p ∧ (tw p).screens.find? (fun z => z.record == 0) = some { sref0 := 100, sref1 := 100 } ∧ isOn p .ana = true ∧ s.env.cal = { a0 := some 50, a1 := some 50, b0 := some 50, b1 := some 50 } ∧ snapOk p 0 = true) := by
  refine ⟨?_, ?_, ?_, ?_, ?_, ?_, ?_, ?_, ?_, ?_, ?_, ?_, ?_, ?_, ?_, ?_, ?_, ?_, ?_, ?_, ?_⟩
  all_goals exact ⟨servedAt ⟨rfl, rfl, rfl, rfl, rfl⟩ (by decide +kernel) (by decide +kernel) (by decide +kernel) (by decide +kernel), by beta_reduce; decide +kernel⟩

/-- The hypotheses of StationBusAndTagCommands are met, clause by clause. -/
theorem test_met_station_bus_tag :
    Met (rich) 0x2002 1 1 [1] (fun _ p _ => (stationCfg p 1).isSome = true) ∧
    Met (rich) 0x2003 3 66 [1, 0, 7] (fun _ p r => opens 0x2003 r p ∧ (stationCfg p 1).isSome = true ∧ inSnapshot (getStn p 1) = false) ∧
    Met (modStn 1 (fun x => { x with st := .stale }) (rich)) 0x2003 3 66 [1, 7, 7] (fun _ p r => opens 0x2003 r p ∧ (stationCfg p 1).isSome = true ∧ inSnapshot (getStn p 1) = true ∧ owns p (requester p r) 0x101 = false) ∧
    Met (modOwn 257 (fun x => { x with owner := .service, prio := 3 }) (modStn 1 (fun x => { x with st := .active }) (rich))) 0x2003 3 66 [1, 0, 9, 9, 9, 9, 9, 9, 9, 9] (fun _ p r => opens 0x2003 r p ∧ (stationCfg p 1).isSome = true ∧ inSnapshot (getStn p 1) = true ∧ owns p (requester p r) 0x101 = true) ∧
    Met (rich) 0x2004 2 2 [0, 0] (fun _ p r => opens 0x2004 r p ∧ (portCfg p 0).isSome = true ∧ budgetOk (tw p) ((portCfg p 0).getD {}) 0 = true) ∧
    Met (rich) 0x2004 2 2 [0, 6] (fun _ p r => opens 0x2004 r p ∧ (portCfg p 0).isSome = true ∧ budgetOk (tw p) ((portCfg p 0).getD {}) 6 = true) ∧
    Met (awake) 0x2101 1 1 [1] (fun _ _ _ => True) ∧
    Met (awake) 0x2101 1 1 [2] (fun _ _ _ => True) ∧
    Met (awake) 0x2101 1 1 [5] (fun _ _ _ => True) ∧
    Met (awake) 0x2102 13 13 [63, 3, 0, 0, 0, 1, 35, 0, 0, 7, 255, 0, 0] (fun _ p r => routeOk (r.payload.drop 1) = true ∧ routeReserved (tw p).transports (readRoute (r.payload.drop 1)) = false) ∧
    Met (modCan 0 (fun c => { c with state := 0 }) rich) 0x2103 6 70 [0, 0, 0, 7, 255, 0] (fun _ p r => opens 0x2103 r p ∧ sendOk p 0 0x7FF 0 [] = true ∧ canActive p 0 = false) ∧
    Met (modCan 0 (fun c => { c with state := 1 }) rich) 0x2103 6 70 [0, 159, 255, 255, 255, 3, 1, 1, 1, 1, 1, 1, 1, 1, 1, 1, 1, 1, 1, 1, 1, 1, 1, 1, 1, 1, 1, 1, 1, 1, 1, 1, 1, 1, 1, 1, 1, 1, 1, 1, 1, 1, 1, 1, 1, 1, 1, 1, 1, 1, 1, 1, 1, 1, 1, 1, 1, 1, 1, 1, 1, 1, 1, 1, 1, 1, 1, 1, 1, 1] (fun _ p r => opens 0x2103 r p ∧ sendOk p 0 0x9FFFFFFF 3 (List.replicate 64 1) = true ∧ canActive p 0 = true) ∧
    Met (modLin 0 (fun c => { c with state := 1 }) rich) 0x2104 2 2 [2, 15] (fun _ p r => opens 0x2104 r p ∧ schedFilled p 0 15 = true ∧ (getLin p 0).state = 1) ∧
    Met (modLin 0 (fun c => { c with state := 0 }) rich) 0x2104 2 2 [2, 15] (fun _ p r => opens 0x2104 r p ∧ schedFilled p 0 15 = true ∧ (getLin p 0).state ≠ 1 ∧ (getLin p 0).startAt = none) ∧
    Met (awake) 0x3002 1 1 [1] (fun _ p r => opens 0x3002 r p ∧ encStatus p = none) ∧
    Met (awake) 0x3002 1 1 [0] (fun _ p r => opens 0x3002 r p ∧ encStatus p = none) ∧
    Met ({ rich with tag := { rich.tag with lastTxn := 40, log := (List.range 40).map (fun n => ({ txn := 40 - n } : TxnRec)) } }) 0x3003 5 5 [0, 0, 0, 1, 40] (fun _ p _ => p.tag.log ≠ [] ∧ (p.tag.log.getLast?.getD {}).txn ≤ 1 ∧ 1 + 40 ≤ p.tag.lastTxn + 1 ∧ encStatus p = none) ∧
    Met ({ rich with tag := { rich.tag with sess := some { serial := [1], contract := { ({} : Contract) with txnCeiling := 1 } } } }) 0x3101 0 0 [] (fun _ p _ => (p.tag.sess.map (fun x => x.contract.txnCeiling)) = some 1) ∧
    Met ({ rich with tag := { rich.tag with sess := some { serial := [1], contract := { ({} : Contract) with txnCeiling := 0 } } } }) 0x3101 0 0 [] (fun _ p _ => (p.tag.sess.map (fun x => x.contract.txnCeiling)) = some 0) ∧
    Met (rich) 0x3101 0 0 [] (fun _ p _ => p.tag.sess = none) ∧
    Met ({ rich with env := { rich.env with insDet := false }, tag := { rich.tag with accept := none, apdu := none } }) 0x3102 5 261 [0, 0, 0, 0, 0] (fun _ p r => opens 0x3102 r p ∧ encStatus p = none ∧ p.env.insDet = false) ∧
    Met ({ rich with env := { rich.env with insDet := true }, tag := { rich.tag with accept := none, apdu := some (.spi, 1, 0, []) } }) 0x3102 5 261 [0, 0, 0, 0, 0] (fun _ p r => opens 0x3102 r p ∧ encStatus p = none ∧ p.env.insDet = true ∧ p.tag.accept = none ∧ p.tag.apdu.isSome = true) ∧
    Met ({ rich with env := { rich.env with insDet := true }, tag := { rich.tag with accept := none, apdu := none } }) 0x3102 5 261 (List.replicate 261 0) (fun _ p r => opens 0x3102 r p ∧ encStatus p = none ∧ p.env.insDet = true ∧ p.tag.accept = none ∧ p.tag.apdu = none) := by
  refine ⟨?_, ?_, ?_, ?_, ?_, ?_, ?_, ?_, ?_, ?_, ?_, ?_, ?_, ?_, ?_, ?_, ?_, ?_, ?_, ?_, ?_, ?_, ?_⟩
  all_goals exact ⟨servedAt ⟨rfl, rfl, rfl, rfl, rfl⟩ (by decide +kernel) (by decide +kernel) (by decide +kernel) (by decide +kernel), by beta_reduce; decide +kernel⟩

/-- The hypotheses of EnclaveAndTamperCommands are met, clause by clause, as far as no standard algorithm decides them. -/
theorem test_met_enclave_tamper :
    Met (awake) 0x3201 2 2 [0, 0] (fun _ p _ => p.enc.avail = true ∧ p.enc.certFault = false ∧ dikLost p = false) ∧
    Met (awake) 0x3201 2 2 [1, 255] (fun _ p _ => p.enc.avail = true ∧ p.enc.certFault = false ∧ dikLost p = false ∧ 511 < p.enc.cert.length) ∧
    Met0 (awake) 0x3202 82 82 (1 :: List.replicate 81 0) (fun _ p _ => encStatus p = none ∧ p.enc.certFault = false ∧ dikLost p = false ∧ (p.mbx.sessions.filter (fun x => x.id != 0 && x.transport == .spi)).length < 2 ∧ (p.mbx.sessions.filter (fun x => x.id != 0)).length < 6) ∧
    Met0 ({ awake with mbx := { awake.mbx with sessions := awake.mbx.sessions ++ [{ id := 2 }] } }) 0x3202 82 82 (4 :: List.replicate 81 0) (fun _ p _ => encStatus p = none ∧ 2 ≤ (p.mbx.sessions.filter (fun x => x.id != 0 && x.transport == .spi)).length) ∧
    Met0 ({ awake with mbx := { awake.mbx with sessions := awake.mbx.sessions ++ [{ id := 2, proven := false }] } }) 0x3203 70 970 (be 4 2 ++ be 2 0 ++ List.replicate 64 0) (fun _ p _ => encStatus p = none ∧ p.enc.certFault = false ∧ dikLost p = false ∧ findSession p .spi 2 = some { id := 2, proven := false }) ∧
    Met (awake) 0x3204 0 0 [] (fun _ _ r => r.session ≠ 0) ∧
    Met0 (awake) 0x3204 0 0 [] (fun _ _ r => r.session = 0) ∧
    Met (awake) 0x3205 16 16 (List.replicate 16 0) (fun _ p _ => p.enc.avail = true ∧ p.enc.certFault = false ∧ dikLost p = false) ∧
    Met (awake) 0x3206 1 1000 [0] (fun _ p _ => encStatus p = none ∧ (findSession p .spi 1).isSome = true) ∧
    Met (awake) 0x3206 1 1000 [31] (fun _ p _ => encStatus p = none ∧ slotReserved 31 = true) ∧
    Met (modSlot 8 (fun k => { k with updates := 4096 }) awake) 0x3206 1 1000 [8, 1, 0, 0, 16, 0, 0, 0, 0, 0, 0, 0, 0, 0, 0, 0, 0, 0, 0, 0, 0, 0, 0, 0, 0, 0, 0, 0, 0, 0, 0, 0, 0, 0, 0, 0, 0, 0, 0, 0, 0, 0, 0, 0, 0, 0, 0, 0, 0] (fun _ p r => opens 0x3206 r p ∧ wrapOk 8 r.payload = true ∧ encStatus p = none ∧ ∀ u ∈ p.enc.updating, u.slot ≠ 8 ∧ slotReserved 8 = false ∧ 4096 ≤ (getSlot p 8).updates) ∧
    Met ({ awake with enc := { (awake).enc with dayUpdates := 64 } }) 0x3206 1 1000 [8, 1, 0, 0, 16, 0, 0, 0, 0, 0, 0, 0, 0, 0, 0, 0, 0, 0, 0, 0, 0, 0, 0, 0, 0, 0, 0, 0, 0, 0, 0, 0, 0, 0, 0, 0, 0, 0, 0, 0, 0, 0, 0, 0, 0, 0, 0, 0, 0] (fun _ p r => opens 0x3206 r p ∧ wrapOk 8 r.payload = true ∧ 64 ≤ updatesToday p) ∧
    Met (modSlot 8 (fun k => { k with updates := 4095, g := 4294967294 }) awake) 0x3206 1 1000 [8, 1, 0, 0, 16, 0, 0, 0, 0, 0, 0, 0, 0, 0, 0, 0, 0, 0, 0, 0, 0, 0, 0, 0, 0, 0, 0, 0, 0, 0, 0, 0, 0, 0, 0, 0, 0, 0, 0, 0, 0, 0, 0, 0, 0, 0, 0, 0, 0] (fun _ p r => opens 0x3206 r p ∧ wrapOk 8 r.payload = true ∧ encStatus p = none ∧ ∀ u ∈ p.enc.updating, u.slot ≠ 8 ∧ slotReserved 8 = false ∧ updatesToday p < 64 ∧ (getSlot p 8).updates < 4096 ∧ (getSlot p 8).g ≠ 0xFFFFFFFF) ∧
    Met ({ awake with enc := { (awake).enc with updating := [{ slot := 8 }] } }) 0x3206 1 1000 [8, 1, 0, 0, 16, 0, 0, 0, 0, 0, 0, 0, 0, 0, 0, 0, 0, 0, 0, 0, 0, 0, 0, 0, 0, 0, 0, 0, 0, 0, 0, 0, 0, 0, 0, 0, 0, 0, 0, 0, 0, 0, 0, 0, 0, 0, 0, 0, 0] (fun _ p r => opens 0x3206 r p ∧ wrapOk 8 r.payload = true ∧ encStatus p = none ∧ ∃ u ∈ p.enc.updating, u.slot = 8) ∧
    Met (modSlot 8 (fun k => { k with g := 4294967295 }) awake) 0x3206 1 1000 [8, 1, 0, 0, 16, 0, 0, 0, 0, 0, 0, 0, 0, 0, 0, 0, 0, 0, 0, 0, 0, 0, 0, 0, 0, 0, 0, 0, 0, 0, 0, 0, 0, 0, 0, 0, 0, 0, 0, 0, 0, 0, 0, 0, 0, 0, 0, 0, 0] (fun _ p r => opens 0x3206 r p ∧ wrapOk 8 r.payload = true ∧ ∀ u ∈ p.enc.updating, u.slot ≠ 8 ∧ (getSlot p 8).g = 0xFFFFFFFF) ∧
    Met ({ awake with env := { awake.env with keyRun := .mismatch } }) 0x3206 1 1000 [8, 1, 0, 0, 16, 0, 0, 0, 0, 0, 0, 0, 0, 0, 0, 0, 0, 0, 0, 0, 0, 0, 0, 0, 0, 0, 0, 0, 0, 0, 0, 0, 0, 0, 0, 0, 0, 0, 0, 0, 0, 0, 0, 0, 0, 0, 0, 0, 0] (fun s p r => opens 0x3206 r p ∧ wrapOk 8 r.payload = true ∧ encStatus p = none ∧ s.env.keyRun = .mismatch ∧ updatesToday p < 64 ∧ (getSlot p 8).updates < 4096 ∧ (getSlot p 8).g ≠ 0xFFFFFFFF) ∧
    Met ({ awake with env := { awake.env with keyRun := .runs } }) 0x3206 1 1000 [8, 1, 0, 0, 16, 0, 0, 0, 0, 0, 0, 0, 0, 0, 0, 0, 0, 0, 0, 0, 0, 0, 0, 0, 0, 0, 0, 0, 0, 0, 0, 0, 0, 0, 0, 0, 0, 0, 0, 0, 0, 0, 0, 0, 0, 0, 0, 0, 0] (fun s p r => opens 0x3206 r p ∧ wrapOk 8 r.payload = true ∧ encStatus p = none ∧ s.env.keyRun = .runs ∧ updatesToday p < 64 ∧ (getSlot p 8).updates < 4096 ∧ (getSlot p 8).g ≠ 0xFFFFFFFF) ∧
    Met (awake) 0x3207 1 1 [31] (fun _ p _ => p.enc.avail = true) ∧
    Met (awake) 0x3208 1 1 [7] (fun _ p _ => p.enc.avail = true) ∧
    Met (awake) 0x3208 1 1 [3] (fun _ p _ => p.enc.avail = true) ∧
    Met (awake) 0x3302 3 3 [3, 255, 1] (fun _ p _ => encStatus p = none) ∧
    Met (awake) 0x3302 3 3 [3, 196, 60] (fun _ p _ => encStatus p = none) ∧
    Met (awake) 0x3303 4 4 [0, 0, 0, 0] (fun _ p _ => encStatus p = none ∧ p.enc.certFault = false ∧ dikLost p = false) ∧
    Met (awake) 0x3303 4 4 [0, 0, 0, 1] (fun _ p _ => encStatus p = none ∧ p.enc.export_ = none) ∧
    Met ({ awake with enc := { (awake).enc with export_ := some (.spi, 1, [1, 2]) } }) 0x3303 4 4 [0, 0, 0, 1] (fun _ p _ => encStatus p = none ∧ p.enc.export_ = some (.spi, 1, [1, 2])) ∧
    Met (modMon 1 (fun m => { m with armed := true }) awake) 0x3304 2 2 [1, 15] (fun _ p r => opens 0x3304 r p ∧ encStatus p = none ∧ (getMon p 1).armed = true ∧ monitorRuns p 1 = true ∧ (tamperRule p 1).response ≠ 0) ∧
    Met ({ modMon 1 (fun m => { m with armed := true }) awake with env := { awake.env with found := 15 } }) 0x3304 2 2 [1, 15] (fun s p r => opens 0x3304 r p ∧ s.env.found = 15 ∧ (getMon p 1).armed = true) ∧
    Met (awake) 0x3304 2 2 [5, 1] (fun _ p r => opens 0x3304 r p ∧ encStatus p = none ∧ (getMon p 5).armed = false) := by
  refine ⟨?_, ?_, ?_, ?_, ?_, ?_, ?_, ?_, ?_, ?_, ?_, ?_, ?_, ?_, ?_, ?_, ?_, ?_, ?_, ?_, ?_, ?_, ?_, ?_, ?_, ?_, ?_, ?_⟩
  · exact ⟨servedAt ⟨rfl, rfl, rfl, rfl, rfl⟩ (by decide +kernel) (by decide +kernel) (by decide +kernel) (by decide +kernel), by beta_reduce; decide +kernel⟩
  · exact ⟨servedAt ⟨rfl, rfl, rfl, rfl, rfl⟩ (by decide +kernel) (by decide +kernel) (by decide +kernel) (by decide +kernel), by beta_reduce; decide +kernel⟩
  · exact ⟨servedAt0 rfl rfl rfl rfl (by decide +kernel) (by decide +kernel) (by decide +kernel) (by decide +kernel), by beta_reduce; decide +kernel⟩
  · exact ⟨servedAt0 rfl rfl rfl rfl (by decide +kernel) (by decide +kernel) (by decide +kernel) (by decide +kernel), by beta_reduce; decide +kernel⟩
  · exact ⟨servedAt0 rfl rfl rfl rfl (by decide +kernel) (by decide +kernel) (by decide +kernel) (by decide +kernel), by beta_reduce; decide +kernel⟩
  · exact ⟨servedAt ⟨rfl, rfl, rfl, rfl, rfl⟩ (by decide +kernel) (by decide +kernel) (by decide +kernel) (by decide +kernel), by beta_reduce; decide +kernel⟩
  · exact ⟨servedAt0 rfl rfl rfl rfl (by decide +kernel) (by decide +kernel) (by decide +kernel) (by decide +kernel), by beta_reduce; decide +kernel⟩
  · exact ⟨servedAt ⟨rfl, rfl, rfl, rfl, rfl⟩ (by decide +kernel) (by decide +kernel) (by decide +kernel) (by decide +kernel), by beta_reduce; decide +kernel⟩
  · exact ⟨servedAt ⟨rfl, rfl, rfl, rfl, rfl⟩ (by decide +kernel) (by decide +kernel) (by decide +kernel) (by decide +kernel), by beta_reduce; decide +kernel⟩
  · exact ⟨servedAt ⟨rfl, rfl, rfl, rfl, rfl⟩ (by decide +kernel) (by decide +kernel) (by decide +kernel) (by decide +kernel), by beta_reduce; decide +kernel⟩
  · exact ⟨servedAt ⟨rfl, rfl, rfl, rfl, rfl⟩ (by decide +kernel) (by decide +kernel) (by decide +kernel) (by decide +kernel), by beta_reduce; decide +kernel⟩
  · exact ⟨servedAt ⟨rfl, rfl, rfl, rfl, rfl⟩ (by decide +kernel) (by decide +kernel) (by decide +kernel) (by decide +kernel), by beta_reduce; decide +kernel⟩
  · exact ⟨servedAt ⟨rfl, rfl, rfl, rfl, rfl⟩ (by decide +kernel) (by decide +kernel) (by decide +kernel) (by decide +kernel), by beta_reduce; decide +kernel⟩
  · exact ⟨servedAt ⟨rfl, rfl, rfl, rfl, rfl⟩ (by decide +kernel) (by decide +kernel) (by decide +kernel) (by decide +kernel), by beta_reduce; decide +kernel⟩
  · exact ⟨servedAt ⟨rfl, rfl, rfl, rfl, rfl⟩ (by decide +kernel) (by decide +kernel) (by decide +kernel) (by decide +kernel), by beta_reduce; decide +kernel⟩
  · exact ⟨servedAt ⟨rfl, rfl, rfl, rfl, rfl⟩ (by decide +kernel) (by decide +kernel) (by decide +kernel) (by decide +kernel), by beta_reduce; decide +kernel⟩
  · exact ⟨servedAt ⟨rfl, rfl, rfl, rfl, rfl⟩ (by decide +kernel) (by decide +kernel) (by decide +kernel) (by decide +kernel), by beta_reduce; decide +kernel⟩
  · exact ⟨servedAt ⟨rfl, rfl, rfl, rfl, rfl⟩ (by decide +kernel) (by decide +kernel) (by decide +kernel) (by decide +kernel), by beta_reduce; decide +kernel⟩
  · exact ⟨servedAt ⟨rfl, rfl, rfl, rfl, rfl⟩ (by decide +kernel) (by decide +kernel) (by decide +kernel) (by decide +kernel), by beta_reduce; decide +kernel⟩
  · exact ⟨servedAt ⟨rfl, rfl, rfl, rfl, rfl⟩ (by decide +kernel) (by decide +kernel) (by decide +kernel) (by decide +kernel), by beta_reduce; decide +kernel⟩
  · exact ⟨servedAt ⟨rfl, rfl, rfl, rfl, rfl⟩ (by decide +kernel) (by decide +kernel) (by decide +kernel) (by decide +kernel), by beta_reduce; decide +kernel⟩
  · exact ⟨servedAt ⟨rfl, rfl, rfl, rfl, rfl⟩ (by decide +kernel) (by decide +kernel) (by decide +kernel) (by decide +kernel), by beta_reduce; decide +kernel⟩
  · exact ⟨servedAt ⟨rfl, rfl, rfl, rfl, rfl⟩ (by decide +kernel) (by decide +kernel) (by decide +kernel) (by decide +kernel), by beta_reduce; decide +kernel⟩
  · exact ⟨servedAt ⟨rfl, rfl, rfl, rfl, rfl⟩ (by decide +kernel) (by decide +kernel) (by decide +kernel) (by decide +kernel), by beta_reduce; decide +kernel⟩
  · exact ⟨servedAt ⟨rfl, rfl, rfl, rfl, rfl⟩ (by decide +kernel) (by decide +kernel) (by decide +kernel) (by decide +kernel), by beta_reduce; decide +kernel⟩
  · exact ⟨servedAt ⟨rfl, rfl, rfl, rfl, rfl⟩ (by decide +kernel) (by decide +kernel) (by decide +kernel) (by decide +kernel), by beta_reduce; decide +kernel⟩
  · exact ⟨servedAt ⟨rfl, rfl, rfl, rfl, rfl⟩ (by decide +kernel) (by decide +kernel) (by decide +kernel) (by decide +kernel), by beta_reduce; decide +kernel⟩
  · exact ⟨servedAt ⟨rfl, rfl, rfl, rfl, rfl⟩ (by decide +kernel) (by decide +kernel) (by decide +kernel) (by decide +kernel), by beta_reduce; decide +kernel⟩

/-- The hypotheses of FaultConfigurationAndLifeCommands are met, clause by clause. -/
theorem test_met_faults_configuration_life :
    Met (awake) 0x4001 1 1 [1] (fun _ _ _ => True) ∧
    Met (awake) 0x4001 1 1 [80] (fun _ _ _ => True) ∧
    Met (awake) 0x4002 2 2 [56, 200] (fun _ _ _ => True) ∧
    Met (awake) 0x4002 2 2 [255, 1] (fun _ _ _ => True) ∧
    Met (awake) 0x4003 1 1 [255] (fun _ p r => opens 0x4003 r p) ∧
    Met (awake) 0x4003 1 1 [254] (fun _ p r => opens 0x4003 r p) ∧
    Met ({ awake with nvm := { awake.nvm with active := some 1, copyB := { stamp := some (7, 0, 9) } } }) 0x5001 0 0 [] (fun _ p _ => p.nvm.active = some 1 ∧ (copyOf p 1).stamp = some (7, 0, 9)) ∧
    Met (awake) 0x5001 0 0 [] (fun _ p _ => p.nvm.active = none) ∧
    Met ({ awake with mode := { awake.mode with mode := .parked }, nvm := { awake.nvm with staging := some { owner := .can } } }) 0x5002 4 4 [0, 0, 0, 64] (fun _ p r => opens 0x5002 r p ∧ p.nvm.staging = some { owner := .can } ∧ Owner.can ≠ requester p r) ∧
    Met ({ awake with mode := { awake.mode with mode := .parked } }) 0x5002 4 4 [0, 0, 240, 0] (fun _ p r => opens 0x5002 r p ∧ p.nvm.staging = none) ∧
    Met ({ awake with mode := { awake.mode with mode := .parked }, nvm := { awake.nvm with staging := some { owner := .service, length := 64, idleAt := 0 } } }) 0x5002 4 4 [0, 0, 0, 64] (fun _ p r => opens 0x5002 r p ∧ (p.nvm.staging.map (fun g => g.owner)) = some (requester p r)) ∧
    Met ({ awake with mode := { awake.mode with mode := .parked } }) 0x5003 5 996 [0, 0, 0, 0, 1] (fun _ p r => opens 0x5003 r p ∧ myStaging p r = none) ∧
    Met ({ awake with mode := { awake.mode with mode := .parked }, nvm := { awake.nvm with staging := some { owner := .service, length := 64, idleAt := 0 } } }) 0x5003 5 996 [0, 0, 0, 63, 1] (fun _ p r => opens 0x5003 r p ∧ (myStaging p r).map (fun g => g.length) = some 64) ∧
    Met ({ awake with mode := { awake.mode with mode := .parked } }) 0x5004 4 4 [0, 0, 0, 0] (fun _ p r => opens 0x5004 r p ∧ myStaging p r = none) ∧
    Met ({ awake with mode := { awake.mode with mode := .parked }, nvm := { awake.nvm with staging := some { owner := .service, length := 64, idleAt := 0 } } }) 0x5004 4 4 [0, 0, 0, 0] (fun _ p r => opens 0x5004 r p ∧ ((myStaging p r).bind stagedBytes) = none ∧ (myStaging p r).isSome = true) ∧
    Met ({ awake with mode := { awake.mode with mode := .parked }, nvm := { awake.nvm with staging := some { owner := .service, length := 64, data := [(0, List.replicate 64 0)] } } }) 0x5004 4 4 [0, 0, 0, 0] (fun _ p r => opens 0x5004 r p ∧ ((myStaging p r).bind stagedBytes) = some (List.replicate 64 0) ∧ crc32 (List.replicate 64 0) ≠ 0) ∧
    Met ({ awake with mode := { awake.mode with mode := .parked }, nvm := { awake.nvm with staging := some { owner := .service, length := 64, data := [(0, List.replicate 64 0)] } } }) 0x5004 4 4 [117, 141, 99, 54] (fun _ p r => opens 0x5004 r p ∧ ((myStaging p r).bind stagedBytes) = some (List.replicate 64 0) ∧ crc32 (List.replicate 64 0) = 1972200246 ∧ signatureNeeded p (List.replicate 64 0) = false ∧ commitOk p = true) ∧
    Met ({ awake with env := { awake.env with commitRuns := true }, mode := { awake.mode with mode := .parked }, nvm := { awake.nvm with staging := some { owner := .service, length := 64, data := [(0, List.replicate 64 0)] } } }) 0x5004 4 4 [117, 141, 99, 54] (fun s p r => opens 0x5004 r p ∧ (p.nvm.staging.map (fun g => g.length)) = some 64 ∧ signatureNeeded p (List.replicate 64 0) = false ∧ commitOk p = true ∧ s.env.commitRuns = true) ∧
    Met (setLife 0x50 13 20000 ({ awake with mode := { awake.mode with mode := .parked }, nvm := { awake.nvm with staging := some { owner := .service, length := 64, data := [(0, List.replicate 64 0)] } } })) 0x5004 4 4 [117, 141, 99, 54] (fun _ p r => opens 0x5004 r p ∧ ((myStaging p r).bind stagedBytes) = some (List.replicate 64 0) ∧ signatureNeeded p (List.replicate 64 0) = false ∧ commitOk p = false) ∧
    Met ({ awake with nvm := { awake.nvm with active := some 0, copyA := { image := [1, 2, 3] } } }) 0x5005 6 6 [0, 0, 0, 2, 0, 1] (fun _ p _ => activeCopy p = some { image := [1, 2, 3] }) ∧
    Met ({ awake with mode := { awake.mode with mode := .parked } }) 0x5006 0 0 [] (fun _ p r => myStaging p r = none) ∧
    Met ({ awake with mode := { awake.mode with mode := .parked }, nvm := { awake.nvm with staging := some { owner := .service, length := 64, idleAt := 0 } } }) 0x5006 0 0 [] (fun _ p r => (myStaging p r).isSome = true) ∧
    Met (awake) 0x5102 4 4 [32, 0, 1, 120] (fun _ _ _ => classRange 0x20 = some (1, 255)) ∧
    Met (awake) 0x5102 4 4 [49, 0, 15, 1] (fun _ p _ => classRange 0x31 = some (0, 15) ∧ encStatus p = none) ∧
    Met ({ awake with nvm := { awake.nvm with notices := [{ code := 3, object := 4 }] } }) 0x5104 4 4 [0, 3, 0, 4] (fun _ p r => opens 0x5104 r p ∧ p.nvm.notices.any (fun n => n.code == 3 && n.object == 4) = true ∧ snapOk p 1 = true ∧ (((ackCounter 3 4).isSome = true → snapOk p 8 = true))) ∧
    Met ({ awake with nvm := { awake.nvm with notices := [{ code := 3, object := 4 }], snapWrites := List.replicate 16 64 } }) 0x5104 4 4 [0, 3, 0, 4] (fun _ p r => opens 0x5104 r p ∧ snapOk p 1 = false) := by
  refine ⟨?_, ?_, ?_, ?_, ?_, ?_, ?_, ?_, ?_, ?_, ?_, ?_, ?_, ?_, ?_, ?_, ?_, ?_, ?_, ?_, ?_, ?_, ?_, ?_, ?_, ?_⟩
  all_goals exact ⟨servedAt ⟨rfl, rfl, rfl, rfl, rfl⟩ (by decide +kernel) (by decide +kernel) (by decide +kernel) (by decide +kernel), by beta_reduce; decide +kernel⟩

/-- The hypotheses of UpdateExtensionAndDiagnosticCommands are met, clause by clause, as far as no standard algorithm decides them. -/
theorem test_met_update_extension :
    Met ({ awake with otp := { awake.otp with extFlashOk := false, extFlashSize := 4096 } }) 0x6002 5 996 [0, 0, 15, 255, 1] (fun _ p r => opens 0x6002 r p) ∧
    Met ({ awake with otp := { awake.otp with extFlashOk := true, extFlashSize := 4096 } }) 0x6002 5 996 [0, 0, 0, 0, 1] (fun _ p r => opens 0x6002 r p) ∧
    Met ({ awake with otp := { awake.otp with extFlashOk := true, extFlashSize := 4096 } }) 0x6003 9 9 [0, 0, 0, 0, 0, 0, 0, 2, 0] (fun _ p r => opens 0x6003 r p ∧ (readHeader (flashRead p 0 512)).length + 512 ≠ 512 ∧ 512 ≤ regionSize 0) ∧
    Met ({ awake with otp := { awake.otp with extFlashOk := true, extFlashSize := 4096 }, boot := { awake.boot with flash := (List.range 512).map (fun n => (n, 0)) } }) 0x6003 9 9 [0, 0, 0, 0, 0, 0, 0, 2, 0] (fun s p r => opens 0x6003 r p ∧ (readHeader (flashRead p 0 512)).length + 512 = 512 ∧ contentOk s.otp 0 (flashRead p 0 512) (flashRead p 512 0) = false) ∧
    Met (awake) 0x6004 0 0 [] (fun s p r => opens 0x6004 r p ∧ s.boot.sel.staged.any (fun x => x) = false) ∧
    Met ({ awake with boot := { awake.boot with sel := { awake.boot.sel with staged := [true, false, false] } } }) 0x6004 0 0 [] (fun s p r => opens 0x6004 r p ∧ s.boot.sel.staged.any (fun x => x) = true ∧ s.boot.sel.pending = false ∧ bootWriteOk p = true) ∧
    Met ({ awake with boot := { awake.boot with sel := { awake.boot.sel with staged := [true, false, false], pending := true } } }) 0x6004 0 0 [] (fun s p r => opens 0x6004 r p ∧ s.boot.sel.pending = true) ∧
    Met (awake) 0x6005 1 1 [0] (fun s p r => opens 0x6005 r p ∧ confirmed s.boot.sel s.boot.sel.active = true) ∧
    Met (awake) 0x6005 1 1 [2] (fun _ p r => opens 0x6005 r p ∧ bootWriteOk p = true) ∧
    Met ({ awake with env := { awake.env with raiseRuns := true } }) 0x6005 1 1 [0] (fun s p r => opens 0x6005 r p ∧ bootWriteOk p = true ∧ s.env.raiseRuns = true ∧ (regionHeader 0 (regionOf (activeBank p) 0)).isSome = true) ∧
    Met (awake) 0x6101 0 0 [] (fun _ p _ => regionHeader 2 (activeBank p).ext = none) ∧
    Met (awake) 0x6102 1 1 [0] (fun _ p r => opens 0x6102 r p) ∧
    Met ({ awake with ext := { ({} : Ext) with st := .running } }) 0x6102 1 1 [1] (fun _ p r => opens 0x6102 r p) ∧
    Met ({ awake with ext := { ({} : Ext) with st := .stopped } }) 0x6102 1 1 [1] (fun _ p r => opens 0x6102 r p) ∧
    Met ({ awake with ext := { ({} : Ext) with st := .refused } }) 0x6102 1 1 [1] (fun _ p r => opens 0x6102 r p) ∧
    Met ({ awake with ext := { ({} : Ext) with st := .stopped } }) 0x6103 0 992 [] (fun _ _ _ => True) ∧
    Met ({ awake with ext := { ({} : Ext) with st := .running, msgs := List.replicate 4 {} } }) 0x6103 0 992 [] (fun s _ _ => 4 ≤ (s.ext.msgs.filter (fun (m : ExtMsg) => !m.taken)).length) ∧
    Met ({ awake with ext := { ({} : Ext) with st := .running, msgs := List.replicate 3 {} } }) 0x6103 0 992 (List.replicate 992 0) (fun s _ _ => (s.ext.msgs.filter (fun (m : ExtMsg) => !m.taken)).length < 4) ∧
    Met (awake) 0x7001 1 999 [62] (fun _ p r => diagClaims r.payload p = false) ∧
    Met (awake) 0x7001 1 999 [47, 253, 55, 3, 1] (fun _ p r => diagClaims r.payload p = true) := by
  refine ⟨?_, ?_, ?_, ?_, ?_, ?_, ?_, ?_, ?_, ?_, ?_, ?_, ?_, ?_, ?_, ?_, ?_, ?_, ?_, ?_⟩
  all_goals exact ⟨servedAt ⟨rfl, rfl, rfl, rfl, rfl⟩ (by decide +kernel) (by decide +kernel) (by decide +kernel) (by decide +kernel), by beta_reduce; decide +kernel⟩

/-- The hypotheses of HostWindowAccesses are met: a live window and one that is not, a short, a full and an event frame at the head, and frames that fail each check. -/
theorem test_met_host_window :
    Holds (State.reset) (fun p => winLive p = false) ∧
    Holds (awake) (fun p => winLive p = true ∧ isOn p .svc = true) ∧
    Holds ({ awake with pwr := { (awake).pwr with dom := List.replicate 12 .off } }) (fun p => winLive p = true ∧ isOn p .svc = false) ∧
    Holds ({ awake with mbx := { (awake).mbx with spi := { served := true, out := List.replicate 40 {} } } }) (fun p => p.mbx.spi.out.length ≤ 40 ∧ p.mbx.spi.out = {} :: List.replicate 39 {} ∧ (frameBytes {}).length = 16) ∧
    Holds ({ awake with mbx := { (awake).mbx with spi := { served := true, out := List.replicate 41 {} } } }) (fun p => 40 < p.mbx.spi.out.length ∧ (List.tail (p.mbx.spi.out.take 40)).length < min 40 (List.tail p.mbx.spi.out).length) ∧
    Holds ({ awake with mbx := { (awake).mbx with spi := { served := true, out := [{ event := true }] } } }) (fun p => p.mbx.spi.out = [{ event := true }]) ∧
    Holds (awake) (fun p => winRead p 0 = some 0x0B010301 ∧ p.mbx.spi.out = [] ∧ winRead p 0x24 = none) ∧
    Holds (State.reset) (fun p => p.mbx.spi.served = false) ∧
    Holds (awake) (fun p => p.mbx.spi.served = true ∧ crc16 (List.replicate 14 0) ≠ field (List.replicate 16 0) 14 2) ∧
    Holds (awake) (fun _ => crc16 (([4, 0, 1, 1] ++ List.replicate 10 0)) = field ([4, 0, 1, 1] ++ List.replicate 10 0 ++ be 2 (crc16 ([4, 0, 1, 1] ++ List.replicate 10 0))) 14 2) ∧
    Holds (awake) (fun _ => frameLen ([3, 0, 1, 1] ++ List.replicate 12 0) = 16 ∧ frameLen ([3, 0, 1, 1, 0, 0, 3, 0xE8] ++ List.replicate 8 0) = 1016 ∧ frameLen ([3, 2, 1, 1] ++ List.replicate 12 0) = 24) ∧
    Holds ({ awake with mbx := { (awake).mbx with spi := { served := true, slots := List.replicate 8 {} } } }) (fun p => 8 ≤ p.mbx.spi.slots.length) := by
  refine ⟨?_, ?_, ?_, ?_, ?_, ?_, ?_, ?_, ?_, ?_, ?_, ?_⟩ <;> (unfold Holds; beta_reduce; decide +kernel)

/-- The hypotheses of CanAndSegmentedMessages are met: active channels, segmented messages in both directions, and the events of a channel off the bus or asleep. -/
theorem test_met_can :
    Holds ({ awake with bus := { (awake).bus with can := [{ state := 1 }, {}] } }) (fun p => canActive p 0 = true ∧ canActive p 1 = false ∧ isMbxFrame p 0 { id := 0x6F0, data := [0x10, 0x10] } = false) ∧
    Holds ({ { awake with bus := { (awake).bus with can := [{ state := 1 }, {}] } } with mbx := { ({ awake with bus := { (awake).bus with can := [{ state := 1 }, {}] } }).mbx with can := { served := true }, canRx := none } }) (fun p => (tw p).transports.canCh = 0 ∧ isMbxFrame p 0 { id := 0x6F0, data := [0x10, 0x10] } = true ∧ isMbxFrame p 0 { id := 0x6F0, ext := true, data := [0x10, 0x10] } = false) ∧
    Holds ({ { awake with bus := { (awake).bus with can := [{ state := 1 }, {}] } } with mbx := { ({ awake with bus := { (awake).bus with can := [{ state := 1 }, {}] } }).mbx with can := { served := true }, canRx := some { ffDl := 17, bytes := List.replicate 16 0, nextSn := 1, crAt := 0 } } }) (fun p => (p.mbx.canRx.map (fun x => x.crAt)) = some 0 ∧ (p.mbx.canRx.map (fun x => x.nextSn)) = some 1 ∧ p.now = 0) ∧
    Holds ({ { awake with bus := { (awake).bus with can := [{ state := 1 }, {}] } } with mbx := { ({ awake with bus := { (awake).bus with can := [{ state := 1 }, {}] } }).mbx with can := { served := true }, canTx := some { queued := false, waitFc := true, fcAt := 0 } } }) (fun p => ((nAsCheck p).mbx.canTx.map (fun x => x.waitFc)) = some true ∧ ((nAsCheck p).mbx.canTx.map (fun x => x.fcAt)) = some 0 ∧ (p.mbx.canTx.map (fun x => x.queued)) = some false) ∧
    Holds ({ { awake with bus := { (awake).bus with can := [{ state := 1 }, {}] } } with mbx := { ({ awake with bus := { (awake).bus with can := [{ state := 1 }, {}] } }).mbx with can := { served := true }, canTx := some { queued := true, asAt := 0 } } }) (fun p => (p.mbx.canTx.map (fun x => x.queued)) = some true ∧ (p.mbx.canTx.map (fun x => x.asAt)) = some 0) ∧
    Holds ({ { awake with bus := { (awake).bus with can := [{ state := 1 }, {}] } } with mbx := { ({ awake with bus := { (awake).bus with can := [{ state := 1 }, {}] } }).mbx with can := { served := true }, canTx := some { queued := true, asAt := 1 } } }) (fun p => (p.mbx.canTx.map (fun x => x.asAt)) = some 1 ∧ p.now < 1) ∧
    Holds ({ awake with bus := { (awake).bus with can := [{ state := 1, rec_ := 127 }, {}] } }) (fun p => canActive (modCan 0 (canRxErrors 1) p) 0 = true ∧ canActive p 0 = true) ∧
    Holds ({ awake with bus := { (awake).bus with can := [{ state := 1, queue := [{ origin := .busSend .spi 1 2 }] }, {}] } }) (fun p => canActive (nAsCheck p) 0 = true ∧ (getCan (nAsCheck p) 0).restricted = false ∧ (getCan (nAsCheck p) 0).queue = [{ origin := .busSend .spi 1 2 }]) ∧
    Holds ({ awake with bus := { (awake).bus with can := [{ state := 1, queue := [{ origin := .routed 3 }] }, {}] } }) (fun p => (getCan p 0).queue = [{ origin := .routed 3 }]) ∧
    Holds ({ awake with bus := { (awake).bus with can := [{ state := 2, queue := [{ origin := .mailbox, frame := { data := [0x30] } }] }, {}] } }) (fun p => canActive p 0 = true ∧ (getCan p 0).queue = [{ origin := .mailbox, frame := { data := [0x30] } }]) ∧
    Holds ({ awake with bus := { (awake).bus with can := [{ state := 3, recoverAt := some 0 }, {}] } }) (fun p => (getCan p 0).state = 3 ∧ due (getCan p 0).recoverAt p = true) ∧
    Holds ({ { awake with bus := { (awake).bus with can := [{ state := 1 }, {}] } } with pwr := { ({ awake with bus := { (awake).bus with can := [{ state := 1 }, {}] } }).pwr with shutdown := some { target := 1, step := 3 } } }) (fun p => wufSense p { enabled := true, selWake := true } = true ∧ (getCan p 0).state ≠ 4) ∧
    Holds ({ awake with bus := { (awake).bus with can := [{ state := 4 }, {}] } }) (fun p => (getCan p 0).state = 4 ∧ isWuf { ch := 0, enabled := true } {} = true ∧ (tw p).can.find? (fun x => x.ch == 0) = some { ch := 0, enabled := true }) ∧
    Holds ({ awake with nvm := { (awake).nvm with tw := { uplink := { enabled := true } } }, bus := { (awake).bus with up := { awake.bus.up with link := true } }, mbx := { (awake).mbx with eth := { served := true } } }) (fun p => uplinkRuns p = true ∧ p.bus.up.link = true ∧ p.mbx.eth.served = true ∧ (tw p).uplink.vlan = 1 ∧ (tw p).uplink.ipv4 = 0 ∧ (tw p).transports.ethPort = 0 ∧ (List.replicate 1016 (0 : Byte)).length ≤ 1472 ∧ 16 < frameLen ([3, 2, 1, 1] ++ List.replicate 12 0) + 16) := by
  refine ⟨?_, ?_, ?_, ?_, ?_, ?_, ?_, ?_, ?_, ?_, ?_, ?_, ?_, ?_⟩ <;> (unfold Holds; beta_reduce; decide +kernel)

/-- The hypotheses of LinAndUplinkEvents are met. -/
theorem test_met_lin_uplink :
    Holds (modLin 0 (fun x => { x with state := 1, sched := 15 }) rich) (fun p => (getLin p 0).state = 1 ∧ (linCfg p 0).isSome = true ∧ (linSched p 0 15).isSome = true ∧ linRespOk {} { id := 1 } [5, linSum (linEnhanced {} 1) (linPid 1) [5]] = true ∧ linRespOk {} { id := 1 } [5, ~~~ linSum (linEnhanced {} 1) (linPid 1) [5]] = false) ∧
    Holds (modLin 3 (fun x => { x with startAt := some 0, state := 0 }) rich) (fun p => due (getLin p 3).startAt p = true ∧ (getLin p 3).state = 0) ∧
    Holds ({ awake with nvm := { (awake).nvm with tw := { uplink := { enabled := true, gateway := 1 }, streams := [{ id := 7 }] } }, bus := { (awake).bus with up := { awake.bus.up with link := true } } }) (fun p => uplinkRuns p = true ∧ reachable p 5 = true ∧ (tw p).streams.find? (fun x => x.id == 7) = some { id := 7 } ∧ field ([0x82, 0, 0, 0] ++ be 8 7) 4 8 = 7 ∧ byte ([0x82, 0, 0, 0] ++ be 8 7) 1 / 16 % 8 = 0) ∧
    Holds ({ awake with nvm := { (awake).nvm with tw := { uplink := { enabled := true, gateway := 1 }, streams := [{ id := 7 }] } }, bus := { (awake).bus with up := { awake.bus.up with gptp := { awake.bus.up.gptp with twoStep := some (9, 0), lastPd := some (1, 2) } } } }) (fun p => p.bus.up.gptp.twoStep = some (9, 0) ∧ p.bus.up.gptp.lastPd = some (1, 2)) ∧
    Holds (modStream 7 (fun x => { x with closeAt := some 0, batch := [[1]] }) ({ awake with nvm := { (awake).nvm with tw := { uplink := { enabled := true, gateway := 1 }, streams := [{ id := 7 }] } }, bus := { (awake).bus with up := { awake.bus.up with link := true } } })) (fun p => due (getStream p 7).closeAt p = true ∧ (getStream p 7).batch ≠ [] ∧ p.bus.up.link = true) ∧
    Holds ({ awake with nvm := { (awake).nvm with tw := { uplink := { enabled := true, gateway := 1 }, streams := [{ id := 7 }] } }, bus := { (awake).bus with up := { awake.bus.up with link := false } } }) (fun p => due (getStream p 0).closeAt p = false ∧ p.bus.up.link = false) := by
  refine ⟨?_, ?_, ?_, ?_, ?_, ?_⟩ <;> (unfold Holds; beta_reduce; decide +kernel)

/-- The hypotheses of SessionsClaimsAndModes and ClaimsAreDecidedByPriority are met. -/
theorem test_met_sessions_claims_modes :
    Holds ({ awake with mbx := { (awake).mbx with sessions := [{ id := 2, idleAt := 0 }] } }) (fun p => findSession p .spi 2 = some { id := 2, idleAt := 0 } ∧ p.now = 0) ∧
    Holds ({ awake with mbx := { (awake).mbx with sessions := [{ id := 2, idleAt := 1 }] } }) (fun p => findSession p .spi 2 = some { id := 2, idleAt := 1 }) ∧
    Holds ({ awake with mbx := { (awake).mbx with sessions := [{ id := 2, proven := false, proveAt := 0 }] } }) (fun p => findSession p .spi 2 = some { id := 2, proven := false, proveAt := 0 }) ∧
    Holds ({ awake with outs := { (awake).outs with claims := [{ owner := .can, object := 55, prio := 1 }] } }) (fun p => p.outs.claims = [{ owner := .can, object := 55, prio := 1 }] ∧ p.outs.chans.length = 56 ∧ (getOwn p 55).owner ≠ .can ∧ (getOwn p 55).prio < 1) ∧
    Holds (modOwn 0 (fun x => { x with owner := .eth, prio := 15, leaseAt := some 0 }) awake) (fun p => (getOwn p 0).owner ≠ .dflt ∧ due (getOwn p 0).leaseAt p = true ∧ 15 ≤ (getOwn p 0).prio) ∧
    Holds ({ awake with mode := { (awake).mode with hold := some (0, .spi, 1) } }) (fun p => p.mode.hold = some (0, .spi, 1)) ∧
    Holds (awake) (fun p => smisaRuns p = true ∧ (tw p).mode.ign.kind ≠ 0xFF ∧ p.mode.ign ≠ .run ∧ p.mode.ignOffAt = none ∧ (tw p).mode.lock.kind = 0xFF) ∧
    Holds ({ awake with nvm := { (awake).nvm with tw := { mode := { lock := { kind := 1 } } } } }) (fun p => (tw p).mode.lock.kind ≠ 0xFF ∧ p.mode.lock ≠ .locked) ∧
    Holds ({ awake with mode := { (awake).mode with ignTimeoutAt := some 0 } }) (fun p => due p.mode.ignTimeoutAt p = true ∧ p.mode.ignOffAt = none) ∧
    Holds ({ awake with mode := { (awake).mode with ignOffAt := some 0, ign := .run } }) (fun p => due p.mode.ignOffAt p = true ∧ p.mode.ign ≠ .off) ∧
    Holds ({ awake with mode := { (awake).mode with mode := .parked, ign := .run, ignValid := true } }) (fun p => policyRuns p = true ∧ policyIgn p = .run) ∧
    Holds ({ awake with mode := { (awake).mode with mode := .approach, ign := .run, ignValid := true } }) (fun p => policyRuns p = true ∧ policyIgn p = .run) ∧
    Holds ({ awake with mode := { (awake).mode with mode := .accessory, ign := .run, ignValid := true } }) (fun p => policyRuns p = true ∧ policyIgn p = .run) ∧
    Holds ({ awake with mode := { (awake).mode with mode := .parked, ign := .acc, ignValid := true } }) (fun p => policyRuns p = true ∧ policyIgn p = .acc) ∧
    Holds ({ awake with mode := { (awake).mode with mode := .approach, ign := .acc, ignValid := true } }) (fun p => policyRuns p = true ∧ policyIgn p = .acc) ∧
    Holds ({ awake with mode := { (awake).mode with mode := .run, ign := .acc, ignValid := true } }) (fun p => policyRuns p = true ∧ policyIgn p = .acc) ∧
    Holds ({ awake with mode := { (awake).mode with mode := .parked, ign := .off, ignValid := true } }) (fun p => policyRuns p = true ∧ policyIgn p = .off) ∧
    Holds ({ awake with mode := { (awake).mode with mode := .accessory, ign := .off, ignValid := true } }) (fun p => policyRuns p = true ∧ policyIgn p = .off) ∧
    Holds ({ awake with mode := { (awake).mode with mode := .run, ign := .off, ignValid := true } }) (fun p => policyRuns p = true ∧ policyIgn p = .off) ∧
    Holds ({ awake with now := 30000000, mode := { (awake).mode with mode := .approach, ign := .off, ignValid := true, lock := .locked } }) (fun p => policyIgn p = .off ∧ p.mode.lock = .locked ∧ p.mode.door = false ∧ lingerOver p = true) ∧
    Holds ({ awake with now := 300000000, mode := { (awake).mode with mode := .approach, ign := .off, ignValid := true } }) (fun p => policyIgn p = .off ∧ p.mode.lock = .none ∧ approachOver p = true) ∧
    Holds ({ awake with now := 299999999, mode := { (awake).mode with mode := .approach, ign := .off, ignValid := true } }) (fun p => approachOver p = false) ∧
    Holds ({ awake with mode := { (awake).mode with mode := .service, serviceSess := some (.spi, 1) } }) (fun p => policyRuns p = true ∧ serviceOpen p = true) ∧
    Holds ({ awake with now := 1800000000, mode := { (awake).mode with mode := .service, serviceSess := none } }) (fun p => policyRuns p = true ∧ serviceOpen p = false ∧ p.mode.serviceAt + 1800000000 ≤ p.now) ∧
    Holds (State.reset) (fun p => policyRuns p = false) ∧
    Holds ({ awake with mode := { (awake).mode with mode := .run, crank := true, crankEnd := some 0 } }) (fun p => p.mode.crank = true ∧ due p.mode.crankEnd p = true) ∧
    Holds (modPin 0 (fun x => { x with qualAt := some 0 }) ({ { awake with mode := { (awake).mode with mode := .transport } } with env := { ({ awake with mode := { (awake).mode with mode := .transport } }).env with wakeLevel := [true, false, false, false], vbat := 12000 }, pwr := { ({ awake with mode := { (awake).mode with mode := .transport } }).pwr with shutdown := none } })) (fun p => p.mode.mode = .transport ∧ (getPin p 0).armed = true ∧ p.env.wakeLevel.getD 0 false = true ∧ due (getPin p 0).qualAt p = true ∧ p.pwr.inReset = false ∧ p.pwr.supplyOff = false ∧ p.pwr.shutdown = none) ∧
    Holds (modPin 0 (fun x => { x with qualAt := some 0 }) ({ { awake with mode := { (awake).mode with mode := .transport } } with env := { ({ awake with mode := { (awake).mode with mode := .transport } }).env with wakeLevel := [true, false, false, false], vbat := 5499 }, pwr := { ({ awake with mode := { (awake).mode with mode := .transport } }).pwr with shutdown := none } })) (fun p => p.mode.mode = .transport ∧ (getPin p 0).armed = true ∧ p.env.wakeLevel.getD 0 false = true ∧ due (getPin p 0).qualAt p = true ∧ p.pwr.inReset = false ∧ p.pwr.supplyOff = false ∧ p.env.vbat < 5500) ∧
    Holds (modPin 0 (fun x => { x with qualAt := some 0 }) ({ { awake with mode := { (awake).mode with mode := .transport } } with env := { ({ awake with mode := { (awake).mode with mode := .transport } }).env with wakeLevel := [true, false, false, false], vbat := 12000 }, pwr := { ({ awake with mode := { (awake).mode with mode := .transport } }).pwr with shutdown := some { target := 2, step := 1 } } })) (fun p => p.mode.mode = .transport ∧ (getPin p 0).armed = true ∧ p.env.wakeLevel.getD 0 false = true ∧ due (getPin p 0).qualAt p = true ∧ p.pwr.inReset = false ∧ p.pwr.supplyOff = false ∧ heldTransport p = false) ∧
    Holds (modPin 0 (fun x => { x with qualAt := some 0 }) ({ { awake with mode := { (awake).mode with mode := .transport } } with env := { ({ awake with mode := { (awake).mode with mode := .transport } }).env with wakeLevel := [true, false, false, false], vbat := 12000 }, pwr := { ({ awake with mode := { (awake).mode with mode := .transport } }).pwr with shutdown := some { target := 2, step := 5 }, dom := List.replicate 12 .off } })) (fun p => p.mode.mode = .transport ∧ (getPin p 0).armed = true ∧ p.env.wakeLevel.getD 0 false = true ∧ due (getPin p 0).qualAt p = true ∧ p.pwr.inReset = false ∧ p.pwr.supplyOff = false ∧ heldTransport p = true) := by
  refine ⟨?_, ?_, ?_, ?_, ?_, ?_, ?_, ?_, ?_, ?_, ?_, ?_, ?_, ?_, ?_, ?_, ?_, ?_, ?_, ?_, ?_, ?_, ?_, ?_, ?_, ?_, ?_, ?_, ?_, ?_⟩ <;> (unfold Holds; beta_reduce; decide +kernel)

/-- The hypotheses of PowerWakeAndResetEvents are met: each step of a shutdown, supply at its thresholds, wakes, clocks and resets. -/
theorem test_met_power_wake_resets :
    Holds (awake) (fun p => p.mode.mode ≠ .transport ∧ p.pwr.supplyOff = false ∧ p.pwr.inReset = false ∧ p.boot.runs = 1 ∧ p.pwr.shutdown = none ∧ powered p = true) ∧
    Holds ({ awake with pwr := { (awake).pwr with shutdown := some { target := 0, step := 1 } } }) (fun p => p.pwr.shutdown = some { target := 0, step := 1 }) ∧
    Holds ({ awake with pwr := { (awake).pwr with shutdown := some { target := 1, step := 2 } } }) (fun p => p.pwr.shutdown = some { target := 1, step := 2 }) ∧
    Holds ({ awake with pwr := { (awake).pwr with shutdown := some { target := 1, step := 1 } } }) (fun p => p.mill.parking = false ∧ p.outs.wiper.phase ≠ .parking) ∧
    Holds ({ { awake with mill := { (awake).mill with parking := true } } with pwr := { ({ awake with mill := { (awake).mill with parking := true } }).pwr with shutdown := some { target := 1, step := 1 } } }) (fun p => p.mill.parking = true) ∧
    Holds ({ { awake with mode := { (awake).mode with mode := .transport } } with pwr := { ({ awake with mode := { (awake).mode with mode := .transport } }).pwr with shutdown := some { target := 2, step := 3 } } }) (fun p => p.mode.mode = .transport ∧ (p.pwr.shutdown.map (fun d => d.step)) = some 3) ∧
    Holds ({ awake with pwr := { (awake).pwr with shutdown := some { step := 3 } } }) (fun p => p.mode.mode ≠ .transport) ∧
    Holds ({ awake with pwr := { (awake).pwr with shutdown := some { step := 4 } } }) (fun p => (p.pwr.shutdown.map (fun d => d.step)) = some 4) ∧
    Holds ({ awake with pwr := { (awake).pwr with shutdown := some { step := 5 } } }) (fun p => (p.pwr.shutdown.map (fun d => d.step)) = some 5) ∧
    Holds ({ awake with pwr := { (awake).pwr with supplyOff := true } }) (fun p => p.pwr.supplyOff = true ∧ p.pwr.inReset = false) ∧
    Holds ({ { awake with mode := { (awake).mode with mode := .parked } } with pwr := { ({ awake with mode := { (awake).mode with mode := .parked } }).pwr with awakeAt := some 0 } }) (fun p => awakeOver p = true ∧ awakeOver (modeEval 0 p) = true) ∧
    Holds ({ { awake with mode := { (awake).mode with mode := .parked, ign := .run, ignValid := true } } with pwr := { ({ awake with mode := { (awake).mode with mode := .parked, ign := .run, ignValid := true } }).pwr with awakeAt := some 0 } }) (fun p => awakeOver p = true ∧ awakeOver (modeEval 0 p) = false) ∧
    Holds (awake) (fun p => awakeOver p = false ∧ p.pwr.parkRefused = false ∧ (retryEntries p).pwr.parkRefused = false) ∧
    Holds ({ awake with pwr := { (awake).pwr with dom := List.replicate 12 .off } }) (fun p => domTarget p .vbus = .on ∧ p.ao.grave = none ∧ p.pwr.full = true) ∧
    Holds ({ awake with pwr := { (awake).pwr with override := List.replicate 12 (some .off) } }) (fun p => domTarget p .ana ≠ .on) ∧
    Holds ({ awake with mode := { (awake).mode with mode := .parked } }) (fun p => armedSource p 0x38 = true ∧ armedSource p 0x60 = false ∧ armedSource p 0xFF = false) ∧
    Holds ({ { awake with mode := { (awake).mode with mode := .parked } } with nvm := { ({ awake with mode := { (awake).mode with mode := .parked } }).nvm with tw := { power := { wakeIntS := 1 } } }, pwr := { ({ awake with mode := { (awake).mode with mode := .parked } }).pwr with asleepAt := some 0 } }) (fun p => (tw p).power.wakeIntS ≠ 0 ∧ p.pwr.asleepAt = some 0) ∧
    Holds ({ awake with ao := { (awake).ao with wakeHeld := some 0x38 }, pwr := { (awake).pwr with asleep := true } }) (fun p => p.ao.wakeHeld = some 0x38 ∧ p.pwr.asleep = true ∧ p.pwr.shutdown = none) ∧
    Holds ({ awake with ao := { awake.ao with wakeHeld := some 1 }, mode := { (awake).mode with mode := .transport } }) (fun p => p.ao.wakeHeld = some 1 ∧ p.mode.mode = .transport ∧ p.pwr.shutdown = none ∧ p.pwr.asleep = false) ∧
    Holds ({ awake with mode := { (awake).mode with mode := .run, ign := .crank } }) (fun p => cranking p = true ∧ p.pwr.override.getD 11 none = none) ∧
    Holds (awake) (fun p => cranking p = false ∧ powered p = true ∧ p.pwr.wdtAt + 0 ≤ p.now ∧ 4 * 0 < 1000 * (tw p).power.wdtMs) ∧
    Holds ({ { awake with mode := { (awake).mode with mode := .transport } } with pwr := { ({ awake with mode := { (awake).mode with mode := .transport } }).pwr with shutdown := some { target := 2, step := 5 } } }) (fun p => (match p.pwr.shutdown with | some d => transportEnd d p | none => p).pwr.parkRefused = false) ∧
    Holds ({ { awake with mode := { (awake).mode with mode := .approach } } with pwr := { ({ awake with mode := { (awake).mode with mode := .approach } }).pwr with parkRefused := true } }) (fun p => p.pwr.shutdown = none ∧ p.mode.mode = .approach) ∧
    Holds ({ awake with pwr := { (awake).pwr with lowPower := true } }) (fun p => p.pwr.lowPower = true) ∧
    Holds ({ awake with pwr := { (awake).pwr with inReset := true } }) (fun p => p.pwr.inReset = true) ∧
    Holds (State.reset) (fun p => powered p = false ∧ isOn p .svc = false) ∧
    Holds (awake) (fun p => isOn p .svc = true ∧ p.pwr.full = true ∧ p.pwr.fallback = false ∧ p.ao.onAorc = false ∧ p.otp.part = .bz7460) ∧
    Holds ({ awake with resetDue := some .cmd }) (fun p => p.resetDue = some .cmd ∧ resetRank .wdt < resetRank .cmd ∧ resetRank .cmd ≤ resetRank (.dom .ana)) := by
  refine ⟨?_, ?_, ?_, ?_, ?_, ?_, ?_, ?_, ?_, ?_, ?_, ?_, ?_, ?_, ?_, ?_, ?_, ?_, ?_, ?_, ?_, ?_, ?_, ?_, ?_, ?_, ?_, ?_⟩ <;> (unfold Holds; beta_reduce; decide +kernel)

/-- The hypotheses of TimersAndClocks and FloorsNeverFall are met. -/
theorem test_met_timers :
    Holds ({ awake with ext := { (awake).ext with msgs := [{ id := 5, dueAt := 0 }] } }) (fun p => p.ext.msgs.find? (fun m => m.id == 5) = some { id := 5, dueAt := 0 }) ∧
    Holds ({ awake with nvm := { (awake).nvm with diag := { extended := true, s3At := 0 } } }) (fun p => p.nvm.diag.extended = true ∧ p.nvm.diag.s3At ≤ p.now) ∧
    Holds ({ awake with nvm := { (awake).nvm with diag := { extended := true, s3At := 1 } } }) (fun p => p.now < p.nvm.diag.s3At) ∧
    Holds ({ awake with nvm := { (awake).nvm with staging := some { idleAt := 0 } } }) (fun p => p.nvm.staging = some { idleAt := 0 }) ∧
    Holds ({ awake with ext := { (awake).ext with st := .stopped, startAt := some 0, restartAt := some 0 } }) (fun p => smisaRuns p = true ∧ p.ext.st = .stopped ∧ p.mode.mode ≠ .transport ∧ p.ext.startAt.isSome = true ∧ due p.ext.restartAt p = true) ∧
    Holds (user) (fun p => p.core.r.psr.u = true ∧ p.ext.frozen = false ∧ pickThread p p.ext.cur = some 0) ∧
    Holds ({ user with ext := { (user).ext with threads := [{ live := true, wait := some .sleep, dueAt := some 0 }, { live := true, wait := some (.events 1), dueAt := some 0 }, {}, {}] } }) (fun p => pickThread p 0 = none ∧ (getThread p 1).live = true ∧ due (getThread p 1).dueAt p = true ∧ (getThread p 0).wait = some .sleep) ∧
    Holds ({ awake with ao := { (awake).ao with life := 600 } }) (fun p => smisaRuns p = true ∧ p.nvm.lastFlush + 600 ≤ p.ao.life) ∧
    Holds ({ awake with ao := { (awake).ao with life := 599 } }) (fun p => p.ao.life < p.nvm.lastFlush + 600) ∧
    Holds ({ awake with boot := { (awake).boot with runSecs := 1200 } }) (fun p => 1200 ≤ p.boot.runSecs ∧ p.enc.segregated = false ∧ p.boot.autoDone = false ∧ p.boot.floorRetryAt = none) ∧
    Holds ({ awake with boot := { (awake).boot with floorRetryAt := some 0 } }) (fun p => due p.boot.floorRetryAt p = true) ∧
    Holds ({ awake with ao := { (awake).ao with rtcSet := true, trimAcc := 9999000, trim := 1000 } }) (fun p => p.ao.rtcSet = true ∧ 10000000 ≤ p.ao.trimAcc + p.ao.trim) ∧
    Holds ({ awake with ao := { (awake).ao with rtcSet := true, trimAcc := -9999000, trim := -1000 } }) (fun p => p.ao.trimAcc + p.ao.trim ≤ -10000000) ∧
    Holds (awake) (fun p => p.enc.counters.length = 8 ∧ p.boot.sel.active ≤ 1 ∧ (regionHeader 0 (regionOf (activeBank p) 0)).isSome = true ∧ regionHeader 2 (regionOf (activeBank p) 2) = none ∧ confirmed p.boot.sel p.boot.sel.active = true) := by
  refine ⟨?_, ?_, ?_, ?_, ?_, ?_, ?_, ?_, ?_, ?_, ?_, ?_, ?_, ?_⟩ <;> (unfold Holds; beta_reduce; decide +kernel)

/-- The hypotheses of SwitchPinAndKeyEvents are met. -/
theorem test_met_switches_pins_keys :
    Holds ({ awake with mode := { (awake).mode with mode := .run } }) (fun p => polls p = true ∧ (pollSample 0 12000 p).1.mode.mode ≠ .parked) ∧
    Holds ({ { awake with mode := { (awake).mode with mode := .run } } with scan := { ({ awake with mode := { (awake).mode with mode := .run } }).scan with sw := { count := 2 } :: List.replicate 23 {} } }) (fun p => (pollSample 0 12000 p).2 ≠ (getSw (pollSample 0 12000 p).1 0).closed ∧ (tw p).inputs.debounce ≤ (getSw (pollSample 0 12000 p).1 0).count + 1) ∧
    Holds ({ { awake with mode := { (awake).mode with mode := .run } } with scan := { ({ awake with mode := { (awake).mode with mode := .run } }).scan with sw := { count := 1 } :: List.replicate 23 {} } }) (fun p => (pollSample 0 12000 p).2 ≠ (getSw (pollSample 0 12000 p).1 0).closed ∧ (getSw (pollSample 0 12000 p).1 0).count + 1 < (tw p).inputs.debounce) ∧
    Holds ({ awake with env := { (awake).env with vbat := 4499 } }) (fun p => polls p = false ∧ p.env.vbat < 4500) ∧
    Holds ({ awake with mode := { (awake).mode with mode := .transport } }) (fun p => polls p = false ∧ 4500 ≤ p.env.vbat) ∧
    Holds ({ { awake with mode := { (awake).mode with mode := .parked } } with scan := { ({ awake with mode := { (awake).mode with mode := .parked } }).scan with sw := { burst := true } :: List.replicate 23 {} } }) (fun p => polls p = true ∧ (getSw p 0).burst = true) ∧
    Holds ({ { awake with mode := { (awake).mode with mode := .run } } with nvm := { ({ awake with mode := { (awake).mode with mode := .run } }).nvm with tw := { keys := { scanned := true, diode := true, stuckS := 1 }, inputs := { input := List.replicate 24 { stuckS := 1, wake := 3 } } } }, scan := { ({ awake with mode := { (awake).mode with mode := .run } }).scan with sw := { closed := true, reading := true, stuckUs := 1000001 } :: List.replicate 23 {} } }) (fun p => (swCfg p 0).stuckS ≠ 0 ∧ 1000000 * (swCfg p 0).stuckS < stuckAdd (getSw p 0) p.now true) ∧
    Holds (modPin 3 (fun x => { x with dueAt := some 0 }) ({ { awake with mode := { (awake).mode with mode := .parked } } with env := { ({ awake with mode := { (awake).mode with mode := .parked } }).env with wakeLevel := [false, false, false, true] }, nvm := { ({ awake with mode := { (awake).mode with mode := .parked } }).nvm with tw := { inputs := { pinEn := 15, pinPol := 15 } } } })) (fun p => due (getPin p 3).dueAt p = true ∧ pinLevel p 3 ≠ (getPin p 3).active ∧ tbit (tw p).inputs.pinEn 3 = true ∧ (getPin p 3).armed = true) ∧
    Holds (modPin 0 (fun x => { x with qualAt := some 0, armed := false }) ({ awake with mode := { (awake).mode with mode := .transport } })) (fun p => due (getPin p 0).dueAt p = false ∧ p.mode.mode = .transport ∧ p.env.wakeLevel.getD 0 false = false ∧ due (getPin p 0).qualAt p = true ∧ due (getPin (modPin 0 (fun x => { x with armed := true, qualAt := none }) p) 0).dueAt p = false) ∧
    Holds (modPin 3 (fun x => { x with dueAt := some 0 }) ({ awake with mode := { (awake).mode with mode := .transport } })) (fun p => due (getPin p 3).dueAt p = true ∧ p.mode.mode = .transport) ∧
    Holds (awake) (fun p => due (getPin p 3).dueAt p = false ∧ due (getPin p 0).qualAt p = false) ∧
    Holds ({ { awake with mode := { (awake).mode with mode := .run } } with nvm := { ({ awake with mode := { (awake).mode with mode := .run } }).nvm with tw := { keys := { scanned := true, diode := true, stuckS := 1 }, inputs := { input := List.replicate 24 { stuckS := 1, wake := 3 } } } } }) (fun p => matrixScans p = true ∧ isOn p .ana = true) ∧
    Holds (awake) (fun p => matrixScans p = false) ∧
    Holds ({ { awake with mode := { (awake).mode with mode := .run } } with nvm := { ({ awake with mode := { (awake).mode with mode := .run } }).nvm with tw := { keys := { scanned := true, diode := true, stuckS := 1 }, inputs := { input := List.replicate 24 { stuckS := 1, wake := 3 } } } }, scan := { ({ awake with mode := { (awake).mode with mode := .run } }).scan with keys := List.replicate 64 { pressed := true, heldUs := 1000001 } } }) (fun p => 1000000 * (tw p).keys.stuckS < (getKey p 63).heldUs ∧ (getKey p 63).pressed = true ∧ (getKey p 63).stuck = false) ∧
    Holds ({ { awake with mode := { (awake).mode with mode := .parked } } with nvm := { ({ awake with mode := { (awake).mode with mode := .parked } }).nvm with tw := { keys := { scanned := true, diode := true, stuckS := 1 }, inputs := { input := List.replicate 24 { stuckS := 1, wake := 3 } } } }, scan := { ({ awake with mode := { (awake).mode with mode := .parked } }).scan with senseLow := List.replicate 8 true } }) (fun p => (tw p).keys.scanned = true ∧ domSt p .scan ≠ .off ∧ p.scan.senseLow.getD 7 false = true) := by
  refine ⟨?_, ?_, ?_, ?_, ?_, ?_, ?_, ?_, ?_, ?_, ?_, ?_, ?_, ?_, ?_⟩ <;> (unfold Holds; beta_reduce; decide +kernel)

/-- The hypotheses of RainLightAndHapticEvents are met. -/
theorem test_met_rain_light_haptics :
    Holds (awake) (fun p => isOn p .ana = true ∧ p.rls.mountRef = none) ∧
    Holds (State.reset) (fun p => isOn p .ana = false) ∧
    Holds ({ rich with rls := { (rich).rls with mountRef := some 1000, low := 2 } }) (fun p => p.rls.mountRef = some 1000 ∧ p.rls.removed = false ∧ 599 * 100 < 1000 * 60 ∧ 3 ≤ p.rls.low + 1) ∧
    Holds ({ rich with rls := { (rich).rls with mountRef := some 1000, removed := true, high := 2 } }) (fun p => p.rls.removed = true ∧ 1000 * 80 < 801 * 100 ∧ 3 ≤ p.rls.high + 1) ∧
    Holds ({ rich with now := 2000000, rls := { (rich).rls with fallAt := some 0, intensity := 1 } }) (fun p => (screenCfg p).isSome = true ∧ p.rls.fallAt = some 0 ∧ p.now = 2000000 ∧ p.rls.intensity ≠ 0 ∧ p.rls.failed = false) ∧
    Holds ({ rich with now := 10000000, rls := { (rich).rls with failAt := some 0 } }) (fun p => p.rls.failAt = some 0 ∧ p.rls.failed = false ∧ p.rls.removed = false) ∧
    Holds ({ rich with now := 1000000, rls := { (rich).rls with alsBad0 := some 0, alsBad1 := some 0 } }) (fun p => p.rls.alsBad0 = some 0 ∧ p.rls.alsBad1 = some 0) ∧
    Holds ({ rich with now := 10000000, rls := { (rich).rls with rlUp := some 0 } }) (fun p => p.rls.rlUp = some 0 ∧ p.rls.rainLight = false) ∧
    Holds ({ rich with now := 30000000, rls := { (rich).rls with rlDown := some 0, rainLight := true } }) (fun p => 0 + 1000000 * ((tw p).light.getD {}).lightS ≤ p.now ∧ p.rls.rlUp = none) ∧
    Holds (modHap (fun h => { h with armed := 5 }) ({ rich with nvm := { (rich).nvm with tw := { richTw with haptic := some { htrig := 3 } } } })) (fun p => (tw p).haptic = some { htrig := 3 } ∧ p.hap.armed ≠ 0xFF) ∧
    Holds ({ rich with nvm := { (rich).nvm with tw := { richTw with haptic := some { htrig := 2 } } } }) (fun p => p.hap.armed = 0xFF ∧ p.ao.grave = none) ∧
    Holds (modHap (fun h => { h with playing := some { phase := .drive } }) { rich with now := 60000 }) (fun p => p.hap.playing = some { phase := .drive } ∧ 0 + driveUs 0 100 ≤ p.now ∧ 0 + 60000 ≤ p.now) ∧
    Holds (modHap (fun h => { h with playing := some { phase := .drive } }) rich) (fun p => p.hap.playing = some { phase := .drive } ∧ p.now < 0 + driveUs 0 100) ∧
    Holds (modHap (fun h => { h with playing := some { phase := .bemf, windowAt := 0 } }) rich) (fun p => p.hap.playing = some { phase := .bemf, windowAt := 0 } ∧ 5000 ≤ p.env.vbat ∧ p.hap.testing = none ∧ (tw p).haptic = some {}) ∧
    Holds (modHap (fun h => { h with playing := some { phase := .bemf, windowAt := 0 } }) { rich with env := { rich.env with vbat := 4999 } }) (fun p => p.hap.playing.isSome = true ∧ p.env.vbat < 5000) ∧
    Holds (modHap (fun h => { h with playing := some { phase := .brake, brakeAt := 0 } }) rich) (fun p => (hapTick p).hap.playing = some { phase := .brake, brakeAt := 0 }) ∧
    Holds (rich) (fun p => p.hap.playing = none ∧ (hapTick p).hap.blocked = false ∧ (hapTick p).hap.playing = none ∧ (hapTick p).hap.testing = none ∧ (hapTick p).hap.testAt = none ∧ isOn (hapTick p) .ana = true ∧ (hapTick p).ao.grave = none) ∧
    Holds (modHap (fun h => { h with blocked := true }) rich) (fun p => (hapTick p).hap.blocked = true) ∧
    Holds (modHap (fun h => { h with testing := some (0, 100), testAt := some 0 }) rich) (fun p => p.hap.testing = some (0, 100) ∧ (hapTick p).hap.testAt = some 0) := by
  refine ⟨?_, ?_, ?_, ?_, ?_, ?_, ?_, ?_, ?_, ?_, ?_, ?_, ?_, ?_, ?_, ?_, ?_, ?_, ?_⟩ <;> (unfold Holds; beta_reduce; decide +kernel)

/-- The hypotheses of TripsAndRestarts and PowerDieEvents are met. -/
theorem test_met_trips_and_dies :
    Holds (modChan 0 (fun c => { c with drive := { c.drive with mode := 1 } }) (awake)) (fun p => drives p 0 = true ∧ (getChan p 0).inrushAt = none ∧ groupOf 0 ≠ .gd) ∧
    Holds (modChan 28 (fun c => { c with drive := { c.drive with mode := 2 } }) (awake)) (fun p => drives p 28 = true) ∧
    Holds (modChan 52 (fun c => { c with drive := { c.drive with mode := 2 } }) (awake)) (fun p => drives p 52 = true ∧ groupOf 52 = .gd) ∧
    Holds (modChan 0 (fun c => { c with retryAt := some 0, hot := true }) (awake)) (fun p => isChannel 0 = true ∧ due (getChan p 0).retryAt p = true ∧ (getChan p 0).hot = true) ∧
    Holds (modChan 0 (fun c => { c with hot := true }) (awake)) (fun p => due (getChan p 0).retryAt p = false ∧ (getChan p 0).hot = true) ∧
    Holds (modChan 0 (fun c => { c with drive := { c.drive with mode := 1 } }) (awake)) (fun p => (chanCfg p 0).holdUs ≤ 10000) ∧
    Holds (modChan 0 (fun c => { c with cleanAt := some 0 }) ({ awake with now := 5000000 })) (fun p => (getChan p 0).cleanAt = some 0 ∧ p.now = 5000000) ∧
    Holds (modChan 0 (fun c => { c with inrushAt := some 0 }) (awake)) (fun p => due (getChan p 0).inrushAt p = true) ∧
    Holds (awake) (fun p => isOn p (dieDom (dieOf 55)) = true ∧ isOn p .outA = true ∧ p.outs.isMode = false ∧ (getDie p .a).linkLost = false ∧ (getDie p .b).clockFail = false ∧ (getDie p .a).coolAt = none) ∧
    Holds ({ awake with nvm := { (awake).nvm with tw := { channels := [{ object := 16, diag := true, onstate := 5 }, { object := 36, diag := true }] } } }) (fun p => (chanCfg p 16).diag = true ∧ (getChan p 16).drive.mode = 0 ∧ groupOf 36 = .ls ∧ (chanCfg p 36).diag = true) ∧
    Holds (modDie .a (fun d => { d with overV := true, linkLost := true }) awake) (fun p => (getDie p .a).overV = true ∧ (getDie p .a).linkLost = true) ∧
    Holds (modDie .b (fun d => { d with coolAt := some 0 }) { awake with now := 2000000 }) (fun p => (getDie p .b).coolAt = some 0 ∧ 0 + 2000000 ≤ p.now) ∧
    Holds ({ awake with pwr := { (awake).pwr with dom := List.replicate 12 .off } }) (fun p => isOn p (dieDom .a) = false) ∧
    Holds ({ awake with outs := { (awake).outs with isMode := true } }) (fun p => p.outs.isMode = true ∧ isOn p .outA = true) ∧
    Holds ({ awake with outs := { (awake).outs with isMode := true }, pwr := { (awake).pwr with dom := List.replicate 12 .off } }) (fun p => p.outs.isMode = true ∧ isOn p .outA = false) := by
  refine ⟨?_, ?_, ?_, ?_, ?_, ?_, ?_, ?_, ?_, ?_, ?_, ?_, ?_, ?_, ?_⟩ <;> (unfold Holds; beta_reduce; decide +kernel)

/-- The hypotheses of WiperAndMotionEvents are met. -/
theorem test_met_wiper_and_motion :
    Holds (awake) (fun p => (tw p).wiper = none ∧ motionCfg p 0 = none) ∧
    Holds (rich) (fun p => (tw p).wiper.isSome = true ∧ groupOf (pairChannels 2).1 ≠ .gd ∧ due p.outs.wiper.washAt p = false) ∧
    Holds ({ awake with nvm := { (awake).nvm with tw := { wiper := some { pair := 0, stall := 2999 } } } }) (fun p => groupOf (pairChannels 0).1 = .gd ∧ ((tw p).wiper.map (fun c => c.stall)) = some 2999) ∧
    Holds (modWiper (fun w => { w with phase := .parking, parkAt := some 0 }) rich) (fun p => p.outs.wiper.phase = .parking ∧ due p.outs.wiper.parkAt p = true) ∧
    Holds (modWiper (fun w => { w with washAt := some 0 }) rich) (fun p => due p.outs.wiper.washAt p = true) ∧
    Holds (modWiper (fun w => { w with phase := .stallWait, waitAt := some 0, mode := 1 }) rich) (fun p => p.outs.wiper.mode = 1 ∧ due p.outs.wiper.waitAt p = true) ∧
    Holds (modWiper (fun w => { w with phase := .waiting, waitAt := some 0 }) rich) (fun p => p.outs.wiper.phase = .waiting) ∧
    Holds (modWiper (fun w => { w with phase := .toService, waitAt := some 0 }) rich) (fun p => p.outs.wiper.phase = .toService) ∧
    Holds (modAct 0 (fun a => { a with state := 1, opening := false, htrAt := some 0, startPos := 200, travel := 1000, manner := 0 }) ({ rich with outs := { (rich).outs with chans := List.replicate 56 { drive := { mode := 1 } } } })) (fun p => (motionCfg p 0).isSome = true ∧ (getAct p 0).state = 1 ∧ (getAct p 0).learn = 0 ∧ (getAct p 0).renorm = false ∧ (getAct p 0).manner ≠ 2 ∧ 4 ≤ actPos p 0 ∧ actPos p 0 ≤ 200 ∧ (getAct p 0).profile.getD 10 0 + 100 < 101 ∧ due (getAct p 0).htrAt p = true) ∧
    Holds (modAct 0 (fun a => { a with opening := true, target := 1000 }) rich) (fun p => (getAct p 0).opening = true ∧ (getAct p 0).target ≤ 1000) := by
  refine ⟨?_, ?_, ?_, ?_, ?_, ?_, ?_, ?_, ?_, ?_⟩ <;> (unfold Holds; beta_reduce; decide +kernel)

/-- The hypotheses of MillraceCycleEvents and StationsFollowTheTable are met. -/
theorem test_met_millrace :
    Holds (rich) (fun p => p.mill.on = false) ∧
    Holds ({ rich with mill := { (rich).mill with on := true, ports := [{ running := true, cycle := none }, {}, {}, {}] } }) (fun p => portRuns p 0 = true ∧ (getEngine p 0).cycle = none ∧ smisaRuns p = true) ∧
    Holds ({ rich with mill := { (rich).mill with on := true, ports := [{ running := true, cycle := some 65535, code := 0 }, {}, {}, {}] } }) (fun p => (getEngine p 0).cycle = some 65535 ∧ p.now < (getEngine p 0).t0 + cycleUs p 0 ∧ frameRefused p { pdu := [2, 2, 0, b8 p.mill.epoch, 0, 0, 255, 255, 0, 6, 1, 0, 0, 0, 0, 0] } = none ∧ frameRefused p { pdu := [2, 2, 0, b8 p.mill.epoch, 0, 0, 0, 0, 0, 6, 1, 0, 0, 0, 0, 0] } = some false ∧ portRuns p 0 = true) ∧
    Holds ({ { rich with mill := { (rich).mill with on := true, ports := [{ running := true, cycle := some 65535, code := 0 }, {}, {}, {}] } } with nvm := { ({ rich with mill := { (rich).mill with on := true, ports := [{ running := true, cycle := some 65535, code := 0 }, {}, {}, {}] } }).nvm with tw := { richTw with ports := [{ enabled := true, nodes := 4, auth := true }] } } }) (fun p => ((portCfg p 0).map (fun c => c.auth)) = some true) ∧
    Holds ({ rich with now := 100000, mill := { (rich).mill with on := true, ports := [{ running := true, cycle := some 1, code := 0 }, {}, {}, {}] } }) (fun p => (getEngine p 0).t0 + cycleUs p 0 ≤ p.now ∧ pastPart p 0 10 = true ∧ (getEngine p 0).closed = false) ∧
    Holds ({ rich with now := 100000, mill := { (rich).mill with on := true, ports := [{ running := true, cycle := some 1, closed := true, computing := some (1, []) }, {}, {}, {}] } }) (fun p => pastPart p 0 14 = true ∧ (getEngine p 0).outSent = false ∧ (getEngine p 0).computing = some (1, [])) ∧
    Holds ({ { rich with now := 8600, mill := { (rich).mill with on := true, ports := [{ running := true, cycle := some 1, code := 3 }, {}, {}, {}] } } with nvm := { ({ rich with now := 8600, mill := { (rich).mill with on := true, ports := [{ running := true, cycle := some 1, code := 3 }, {}, {}, {}] } }).nvm with tw := { ports := [{ enabled := true, residual := true }] } } }) (fun p => windowOpen p 0 = true) ∧
    Holds ({ rich with mill := { (rich).mill with startDue := true } }) (fun p => p.mill.startDue = true ∧ isOn p .net = true ∧ p.ao.grave = none ∧ p.pwr.fallback = false ∧ p.ao.epoch = none) ∧
    Holds ({ rich with mill := { (rich).mill with startDue := true }, ao := { (rich).ao with epoch := some 255 } }) (fun p => p.ao.epoch = some 255) ∧
    Holds ({ rich with mill := { (rich).mill with on := true, keyRetryAt := some 0 } }) (fun p => due p.mill.keyRetryAt p = true) ∧
    Holds ({ rich with pwr := { (rich).pwr with dom := List.replicate 12 .ret }, nvm := { (rich).nvm with tw := { power := { wakePort := 3 } } } }) (fun p => domSt p .net = .ret ∧ (tw p).power.wakePort = 3) ∧
    Holds (modStn 1 (fun x => { x with st := .lost, got := some [], missRow := 0, silent := 0, fresh := 0 }) rich) (fun p => 1 < p.mill.stn.length ∧ onPort p 0 1 = true ∧ (getStn p 1).join = none ∧ (getStn p 1).st = .lost) ∧
    Holds (modStn 1 (fun x => { x with st := .joining, got := some [], missRow := 0, silent := 0, fresh := 0 }) rich) (fun p => 1 < p.mill.stn.length ∧ onPort p 0 1 = true ∧ (getStn p 1).join = none ∧ (getStn p 1).st = .joining) ∧
    Holds (modStn 1 (fun x => { x with st := .joining, got := some [], missRow := 0, silent := 0, fresh := 1 }) rich) (fun p => 1 < p.mill.stn.length ∧ onPort p 0 1 = true ∧ (getStn p 1).join = none ∧ (getStn p 1).st = .joining) ∧
    Holds (modStn 1 (fun x => { x with st := .active, got := none, missRow := 0, silent := 0, fresh := 0 }) rich) (fun p => 1 < p.mill.stn.length ∧ onPort p 0 1 = true ∧ (getStn p 1).join = none ∧ (getStn p 1).st = .active) ∧
    Holds (modStn 1 (fun x => { x with st := .stale, got := none, missRow := 2, silent := 0, fresh := 0 }) rich) (fun p => 1 < p.mill.stn.length ∧ onPort p 0 1 = true ∧ (getStn p 1).join = none ∧ (getStn p 1).st = .stale) ∧
    Holds (modStn 1 (fun x => { x with st := .stale, got := none, missRow := 1, silent := 0, fresh := 0 }) rich) (fun p => 1 < p.mill.stn.length ∧ onPort p 0 1 = true ∧ (getStn p 1).join = none ∧ (getStn p 1).st = .stale) ∧
    Holds (modStn 1 (fun x => { x with st := .joining, got := none, missRow := 2, silent := 0, fresh := 0 }) rich) (fun p => 1 < p.mill.stn.length ∧ onPort p 0 1 = true ∧ (getStn p 1).join = none ∧ (getStn p 1).st = .joining) ∧
    Holds (modStn 1 (fun x => { x with st := .refused, got := none, missRow := 0, silent := 191, fresh := 0 }) rich) (fun p => 1 < p.mill.stn.length ∧ onPort p 0 1 = true ∧ (getStn p 1).join = none ∧ (getStn p 1).st = .refused) ∧
    Holds (modStn 1 (fun x => { x with st := .refused, got := none, missRow := 0, silent := 190, fresh := 0 }) rich) (fun p => 1 < p.mill.stn.length ∧ onPort p 0 1 = true ∧ (getStn p 1).join = none ∧ (getStn p 1).st = .refused) ∧
    Holds (modStn 1 (fun x => { x with st := .absent, got := none, missRow := 0, silent := 0, fresh := 0 }) rich) (fun p => 1 < p.mill.stn.length ∧ onPort p 0 1 = true ∧ (getStn p 1).join = none ∧ (getStn p 1).st = .absent) ∧
    Holds (modStn 1 (fun x => { x with join := some { port := 0, node := 1, profile := 0, ilen := 8, olen := 8, serial := 5 } }) rich) (fun p => onPort p 0 1 = true ∧ ((getStn p 1).join.map (joinReason p 1)) = some 0) ∧
    Holds (modStn 1 (fun x => { x with st := .active, serial := some 4, join := some { port := 0, node := 1, ilen := 8, olen := 8, serial := 5 } }) rich) (fun p => onPort p 0 1 = true ∧ (getStn p 1).serial = some 4 ∧ ((getStn p 1).join.map (fun j => j.serial)) = some 5) ∧
    Holds (modStn 1 (fun x => { x with join := some { port := 0, node := 1, profile := 9, ilen := 8, olen := 8 } }) rich) (fun p => onPort p 0 1 = true ∧ ((getStn p 1).join.map (joinReason p 1)) = some 1) ∧
    Holds (modStn 1 (fun x => { x with st := .active, join := some { port := 0, node := 1, profile := 9, ilen := 8, olen := 8 } }) rich) (fun p => onPort p 0 1 = true ∧ (getStn p 1).st = .active ∧ ((getStn p 1).join.map (joinReason p 1)) = some 1 ∧ inSnapshot (getStn p 1) = true) := by
  refine ⟨?_, ?_, ?_, ?_, ?_, ?_, ?_, ?_, ?_, ?_, ?_, ?_, ?_, ?_, ?_, ?_, ?_, ?_, ?_, ?_, ?_, ?_, ?_, ?_, ?_⟩ <;> (unfold Holds; beta_reduce; decide +kernel)

/-- The hypotheses of DsrcTransactions and UhfCommands are met. -/
theorem test_met_tag :
    Holds ({ awake with nvm := { (awake).nvm with tw := { tag := { enabled := true, dsrc := true, uhf := true, fieldDetect := true } } }, tag := { (awake).tag with state := 3, sess := some { serial := [1] }, ins := 2 } }) (fun p => radioOn p = true ∧ (tw p).tag.dsrc = true ∧ p.tag.txn = none ∧ p.tag.state = 3 ∧ p.tag.buffer.length < 32 ∧ p.tag.apduRuns = false ∧ p.tag.sess.isSome = true ∧ p.tag.ins ≠ 3) ∧
    Holds ({ awake with nvm := { (awake).nvm with tw := { tag := { enabled := true, dsrc := true, uhf := true, fieldDetect := true } } }, tag := { (awake).tag with state := 2, ins := 3 } }) (fun p => p.tag.ins = 3 ∧ radioOn p = true) ∧
    Holds (State.reset) (fun p => radioOn p = false ∧ uhfOn p = false) ∧
    Holds ({ awake with nvm := { (awake).nvm with tw := { tag := { enabled := true, dsrc := true, uhf := true, fieldDetect := true } } }, tag := { (awake).tag with state := 3, txn := some { lastBit := some true } } }) (fun p => dsrcOn p = true ∧ (p.tag.txn.map (fun d => d.lastBit)) = some (some true) ∧ (p.tag.txn.map (fun d => d.repeated)) = some false ∧ (p.tag.txn.map (fun d => d.lastOk)) = some true) ∧
    Holds ({ awake with nvm := { (awake).nvm with tw := { tag := { enabled := true, dsrc := true, uhf := true, fieldDetect := true } } }, tag := { (awake).tag with state := 3, txn := some {} } }) (fun p => dsrcOn p = true ∧ (p.tag.txn.map (fun d => d.lastBit)) = some none) ∧
    Holds ({ awake with nvm := { (awake).nvm with tw := { tag := { enabled := true, dsrc := true, uhf := true, fieldDetect := true } } }, tag := { (awake).tag with state := 3, txn := some { lastBit := some true, repeated := true, lastOk := false } } }) (fun p => dsrcOn p = true ∧ (p.tag.txn.map (fun d => d.lastOk)) = some false ∧ (p.tag.txn.map (fun d => d.repeated)) = some true) ∧
    Holds ({ awake with nvm := { (awake).nvm with tw := { tag := { enabled := true, dsrc := true, uhf := true, fieldDetect := true } } }, tag := { (awake).tag with state := 0, txn := some {} } }) (fun p => dsrcOn p = false) ∧
    Holds ({ awake with nvm := { (awake).nvm with tw := { tag := { enabled := true, dsrc := true, uhf := true, fieldDetect := true } } }, tag := { (awake).tag with state := 3, wb := some 0, sess := some {} } }) (fun p => p.tag.wb.isSome = true ∧ p.tag.txn = none) ∧
    Holds ({ { awake with nvm := { (awake).nvm with tw := { tag := { enabled := true, dsrc := true, uhf := true, fieldDetect := true } } }, tag := { (awake).tag with state := 3, txn := some { phase := 4, lastAt := 0 } } } with now := 200000 }) (fun p => (p.tag.txn.map (fun d => d.lastAt + 200000)) = some p.now) ∧
    Holds ({ awake with nvm := { (awake).nvm with tw := { tag := { enabled := true, dsrc := true, uhf := true, fieldDetect := true } } }, tag := { (awake).tag with state := 3, uhf := { phase := 0, rn := 7, session := 1, slot := 1 } } }) (fun p => uhfOn p = true ∧ p.tag.uhf.phase = 0) ∧
    Holds ({ awake with nvm := { (awake).nvm with tw := { tag := { enabled := true, dsrc := true, uhf := true, fieldDetect := true } } }, tag := { (awake).tag with state := 3, uhf := { phase := 1, rn := 7, session := 1, slot := 1 } } }) (fun p => uhfOn p = true ∧ p.tag.uhf.phase = 1) ∧
    Holds ({ awake with nvm := { (awake).nvm with tw := { tag := { enabled := true, dsrc := true, uhf := true, fieldDetect := true } } }, tag := { (awake).tag with state := 3, uhf := { phase := 2, rn := 7, session := 1, slot := 1 } } }) (fun p => uhfOn p = true ∧ p.tag.uhf.phase = 2) ∧
    Holds ({ awake with nvm := { (awake).nvm with tw := { tag := { enabled := true, dsrc := true, uhf := true, fieldDetect := true } } }, tag := { (awake).tag with state := 3, uhf := { phase := 3, rn := 7, session := 1, slot := 1 } } }) (fun p => uhfOn p = true ∧ p.tag.uhf.phase = 3) ∧
    Holds ({ awake with nvm := { (awake).nvm with tw := { tag := { enabled := true, dsrc := true, uhf := true, fieldDetect := true } } }, tag := { (awake).tag with state := 3, uhf := { phase := 4, rn := 7, session := 1, slot := 1 } } }) (fun p => uhfOn p = true ∧ p.tag.uhf.phase = 4) ∧
    Holds ({ awake with nvm := { (awake).nvm with tw := { tag := { enabled := true, dsrc := true, uhf := true, fieldDetect := true } } }, tag := { (awake).tag with state := 3, uhf := { phase := 5, rn := 7, session := 1, slot := 1 } } }) (fun p => uhfOn p = true ∧ p.tag.uhf.phase = 5) ∧
    Holds ({ awake with nvm := { (awake).nvm with tw := { tag := { enabled := true, dsrc := true, uhf := true, fieldDetect := true } } }, tag := { (awake).tag with state := 2, uhf := { phase := 4, rn := 65535 } } }) (fun p => uhfOn p = true ∧ p.tag.uhf.rn = 65535 ∧ (uhfBank p 1).isSome = true ∧ uhfBank p 3 = none ∧ accessPw p = 0) ∧
    Holds ({ awake with nvm := { (awake).nvm with tw := { tag := { enabled := true, dsrc := true, uhf := true, fieldDetect := true } } }, tag := { (awake).tag with state := 3, uhf := { phase := 4, accessHalf := true } } }) (fun p => p.tag.uhf.accessHalf = true) ∧
    Holds ({ { awake with nvm := { (awake).nvm with tw := { tag := { enabled := true, dsrc := true, uhf := true, fieldDetect := true } } }, tag := { (awake).tag with uhf := { fieldLossAt := some 0, s1At := some 0 } } } with pwr := { ({ awake with nvm := { (awake).nvm with tw := { tag := { enabled := true, dsrc := true, uhf := true, fieldDetect := true } } }, tag := { (awake).tag with uhf := { fieldLossAt := some 0, s1At := some 0 } } }).pwr with dom := List.replicate 12 .ret } }) (fun p => due p.tag.uhf.fieldLossAt p = true ∧ due p.tag.uhf.s1At p = true ∧ domSt p .rfd = .ret ∧ p.otp.part = .bz7460 ∧ (tw p).tag.fieldDetect = true) := by
  refine ⟨?_, ?_, ?_, ?_, ?_, ?_, ?_, ?_, ?_, ?_, ?_, ?_, ?_, ?_, ?_, ?_, ?_, ?_⟩ <;> (unfold Holds; beta_reduce; decide +kernel)

/-- The hypotheses of InsertEvents are met. -/
theorem test_met_insert :
    Holds ({ awake with env := { (awake).env with insDet := false }, tag := { (awake).tag with ins := 0 } }) (fun p => p.otp.part = .bz7460 ∧ p.env.insDet = false) ∧
    Holds ({ awake with otp := { (awake).otp with part := .bz7464 } }) (fun p => p.otp.part ≠ .bz7460) ∧
    Holds ({ awake with env := { (awake).env with insDet := true }, tag := { (awake).tag with accept := some { step := 0 }, link := { retries := 0, bwtAt := 0 } } }) (fun p => p.enc.avail = true ∧ p.tag.accept = some { step := 0 } ∧ p.tag.link.retries = 0 ∧ p.tag.link.bwtAt ≤ p.now) ∧
    Holds ({ awake with env := { (awake).env with insDet := true }, tag := { (awake).tag with accept := some { step := 7 }, link := { retries := 0, bwtAt := 0 } } }) (fun p => p.enc.avail = true ∧ p.tag.accept = some { step := 7 } ∧ p.tag.link.retries = 0 ∧ p.tag.link.bwtAt ≤ p.now) ∧
    Holds ({ awake with env := { (awake).env with insDet := true }, tag := { (awake).tag with accept := some { step := 1 }, link := { retries := 2, bwtAt := 0 } } }) (fun p => p.enc.avail = true ∧ p.tag.accept = some { step := 1 } ∧ p.tag.link.retries = 2 ∧ p.tag.link.bwtAt ≤ p.now) ∧
    Holds ({ awake with env := { (awake).env with insDet := true }, tag := { (awake).tag with accept := some { step := 2 }, link := { retries := 3, bwtAt := 0 } } }) (fun p => p.enc.avail = true ∧ p.tag.accept = some { step := 2 } ∧ p.tag.link.retries = 3 ∧ p.tag.link.bwtAt ≤ p.now) ∧
    Holds ({ awake with env := { (awake).env with insDet := true }, tag := { (awake).tag with wb := some 0, link := { retries := 0, bwtAt := 0 } } }) (fun p => p.tag.accept = none ∧ p.tag.wb = some 0 ∧ p.tag.link.retries = 0 ∧ p.enc.avail = true) ∧
    Holds ({ awake with env := { (awake).env with insDet := true }, tag := { (awake).tag with wb := some 1, link := { retries := 2, bwtAt := 0 } } }) (fun p => p.tag.accept = none ∧ p.tag.wb = some 1 ∧ p.tag.link.retries = 2 ∧ p.enc.avail = true) ∧
    Holds ({ awake with env := { (awake).env with insDet := true }, tag := { (awake).tag with wb := some 2, link := { retries := 3, bwtAt := 0 } } }) (fun p => p.tag.accept = none ∧ p.tag.wb = some 2 ∧ p.tag.link.retries = 3 ∧ p.enc.avail = true) ∧
    Holds ({ awake with env := { (awake).env with insDet := true }, tag := { (awake).tag with apdu := some (.spi, 1, 2, []), insSent := some [], apduRuns := true, apduAt := 0 } }) (fun p => p.tag.accept = none ∧ p.tag.wb = none ∧ p.tag.apdu.isSome = true ∧ p.tag.apduRuns = true ∧ p.tag.apduAt ≤ p.now) ∧
    Holds ({ awake with env := { (awake).env with insDet := true }, tag := { (awake).tag with vcc := false } }) (fun p => p.env.insDet = true ∧ p.tag.txn = none ∧ p.tag.vcc = false) ∧
    Holds ({ awake with env := { (awake).env with insDet := true }, tag := { (awake).tag with vcc := true } }) (fun p => p.tag.vcc = true) ∧
    Holds ({ awake with env := { (awake).env with insDet := true }, tag := { (awake).tag with txn := some {} } }) (fun p => p.tag.txn = some {}) ∧
    Holds ({ awake with env := { (awake).env with insDet := true }, tag := { (awake).tag with sess := some {}, wbAt := some 0, wbRetry := false } }) (fun p => p.tag.sess.isSome = true ∧ p.tag.wbAt.isSome = true ∧ p.tag.wbRetry = false ∧ p.pwr.fallback = false ∧ p.tag.wb = none ∧ p.tag.apduRuns = false ∧ p.tag.txn = none ∧ p.enc.avail = true) ∧
    Holds ({ { awake with env := { (awake).env with insDet := true }, tag := { (awake).tag with sess := some {}, wbAt := some 0 } } with pwr := { ({ awake with env := { (awake).env with insDet := true }, tag := { (awake).tag with sess := some {}, wbAt := some 0 } }).pwr with fallback := true } }) (fun p => p.pwr.fallback = true ∧ p.tag.wbAt.isSome = true) ∧
    Holds ({ awake with env := { (awake).env with insDet := true }, tag := { (awake).tag with sess := some {}, wbAt := some 0, wbRetry := true } }) (fun p => due p.tag.wbAt p = true ∧ p.tag.wbRetry = true) ∧
    Holds (awake) (fun p => smisaRuns p = true ∧ p.enc.avail = true) := by
  refine ⟨?_, ?_, ?_, ?_, ?_, ?_, ?_, ?_, ?_, ?_, ?_, ?_, ?_, ?_, ?_, ?_, ?_⟩ <;> (unfold Holds; beta_reduce; decide +kernel)

/-- The hypotheses of EnclaveAndTamperEvents are met. -/
theorem test_met_enclave_events :
    Holds ({ awake with enc := { (awake).enc with avail := false } }) (fun p => isOn p .enc = true ∧ p.enc.avail = false ∧ p.pwr.inReset = false) ∧
    Holds ({ awake with enc := { (awake).enc with wdtAt := 0 } }) (fun p => p.enc.avail = true ∧ p.enc.wdtAt ≤ p.now) ∧
    Holds (modMon 1 (fun m => { m with armed := true }) (awake)) (fun p => (tamperRule p 1).response ≠ 0 ∧ (getMon p 1).armed = true ∧ monitorRuns p 1 = true ∧ 1 ∉ p.ao.alarmed) ∧
    Holds (modMon 6 (fun m => { m with armed := true }) (awake)) (fun p => (tamperRule p 6).n ≤ 1 ∧ monitorRuns p 6 = true ∧ 6 ∉ p.ao.alarmed) ∧
    Holds (modMon 1 (fun m => { m with armed := true }) ({ awake with enc := { (awake).enc with policy := [⟨2, 1, 1⟩] } })) (fun p => (tamperRule p 1).response = 2) ∧
    Holds (modMon 1 (fun m => { m with armed := true, lastAt := 0 }) ({ { awake with now := 10000000 } with ao := { ({ awake with now := 10000000 }).ao with alarmed := [1] } })) (fun p => 1 ∈ p.ao.alarmed ∧ (getMon p 1).lastAt + 10000000 ≤ p.now) ∧
    Holds (modMon 1 (fun m => { m with armed := false, armAt := some 0 }) (awake)) (fun p => monitorRuns p 1 = true ∧ (getMon p 1).armed = false ∧ (getMon p 1).armAt = some 0) ∧
    Holds ({ awake with enc := { (awake).enc with avail := false, slowAt := 0, confirm := some 2 } }) (fun p => activeCheck p = false ∧ p.enc.confirmAt ≤ p.now ∧ p.enc.slowAt ≤ p.now ∧ p.enc.confirm = some 2) ∧
    Holds ({ awake with enc := { (awake).enc with avail := false, confirm := some 2, confirmAt := 1 } }) (fun p => activeCheck p = false ∧ p.now < p.enc.confirmAt) ∧
    Holds ({ awake with ao := { (awake).ao with tamperPending := [{}] } }) (fun p => activeCheck p = true ∧ p.ao.tamperPending = [{}] ∧ p.enc.log.length < 1023) ∧
    Holds ({ awake with enc := { (awake).enc with log := List.replicate 1023 {} } }) (fun p => 1023 ≤ p.enc.log.length) := by
  refine ⟨?_, ?_, ?_, ?_, ?_, ?_, ?_, ?_, ?_, ?_, ?_⟩ <;> (unfold Holds; beta_reduce; decide +kernel)

/-- The hypotheses of ConfluenceEvents and QueueKeepsTheHigherClasses are met. -/
theorem test_met_confluence :
    Holds (awake) (fun p => (catalogue 0x1A 0x01).isSome = true ∧ islandRuns p 3 = true ∧ catalogue 0xEE 0 = none ∧ p.ao.grave = none ∧ 0 ≠ 3 ∧ 4 * crossingBound 0 3 < 400101 ∧ ¬ (4 * crossingBound 0 3 < 400100)) ∧
    Holds (State.reset) (fun p => islandRuns p 3 = false ∧ p.ao.severeAt = none) ∧
    Holds ({ { awake with now := 2000000 } with ao := { ({ awake with now := 2000000 }).ao with severeAt := some 0 } }) (fun p => p.ao.severeAt = some 0 ∧ 0 + (tw p).confluence.quiet * 10000 ≤ p.now) ∧
    Holds ({ awake with fab := { (awake).fab with queue := [{ msg := { cls := .severe } }] } }) (fun p => isOn p .svc = true ∧ p.core.halted = false ∧ p.boot.runs = 1 ∧ p.fab.queue = [{ msg := { cls := .severe } }]) ∧
    Holds ({ awake with fab := { (awake).fab with queue := [{ unacked := true, ackAt := 0 }] } }) (fun p => p.fab.queue.any (fun e => e.unacked && decide (e.ackAt ≤ p.now)) = true) ∧
    Holds ({ awake with ao := { (awake).ao with grave := some {} } }) (fun p => p.ao.grave.isSome = true) ∧
    Holds (awake) (fun p => generalUsed (List.replicate 55 {}) < 56 ∧ 56 ≤ generalUsed (List.replicate 56 {}) ∧ (List.replicate 64 ({} : QEntry)).length = 64 ∧ p.ao.grave = none) := by
  refine ⟨?_, ?_, ?_, ?_, ?_, ?_, ?_⟩ <;> (unfold Holds; beta_reduce; decide +kernel)

/-- The hypotheses of InterruptsAndComparisons are met. -/
theorem test_met_interrupts :
    Holds ({ awake with core := { (awake).core with levels := List.replicate 128 15, r := { awake.core.r with psr := { ie := true, ipl := 14 } }, pend := [127] } }) (fun p => isOn p .svc = true ∧ bestPending p = some (127, 15) ∧ p.core.r.psr.ie = true ∧ p.core.r.psr.tw = false ∧ p.core.r.psr.ipl < 15 ∧ p.core.halted = false ∧ p.core.tdx.stopped = false ∧ p.core.tdx.replay = false ∧ mustWait (closeWindow p) = false) ∧
    Holds ({ waiting with core := { (waiting).core with pend := [0], levels := List.replicate 128 15 } }) (fun p => mustWait (closeWindow p) = true ∧ bestPending p = some (0, 15)) ∧
    Holds ({ awake with core := { (awake).core with pend := [0] } }) (fun p => bestPending p = none) ∧
    Holds (State.reset) (fun p => isOn p .svc = false) ∧
    Holds ({ awake with core := { (awake).core with tdx := { closed := [{ misr := 5, shadow := 4, held := 2 }], replay := true } } }) (fun p => (p.core.tdx.closed.map (fun x => x.misr)) = [5] ∧ (4 : Word) ^^^ 1 = 5 ∧ p.core.tdx.replay = true) ∧
    Holds ({ awake with core := { (awake).core with tdx := { closed := [{}] } } }) (fun p => p.core.tdx.replay = false ∧ p.core.tdx.closed = [{}]) ∧
    Holds ({ awake with core := { (awake).core with tdx := { smisa := some .lamps } } }) (fun p => smisaRuns p = true ∧ p.core.tdx.smisa = some .lamps) ∧
    Holds (awake) (fun p => p.core.tdx.smisa ≠ some .confluence ∧ smisaRuns p = true) := by
  refine ⟨?_, ?_, ?_, ?_, ?_, ?_, ?_, ?_⟩ <;> (unfold Holds; beta_reduce; decide +kernel)

/-- The checks of the commands' operands refuse an ill-formed one of each kind, and accept the bounds. -/
theorem test_ill_formed_commands_are_refused :
    ([.registerWrite 0 256 [0], .registerWrite 0 4 [0, 0, 0, 0, 0], .unknownOpcode 0 256 0 0, .firstFrame 0 { id := 2048 }, .firstFrame 0 { id := 536870912, ext := true },
      .canFrameReceived 0 2 {} 0, .canFrameReceived 0 0 { data := List.replicate 9 0 } 0, .canFrameReceived 0 0 { fd := true, data := List.replicate 65 0 } 0,
      .canFrameReceived 0 0 { remote := true, data := [1] } 0, .mbxEthDatagram 0 { src := { ip := 4294967296 } }, .sysInfo { auth := true, session := 0 },
      .outSet { session := 1, auth := true, seq := 65536 }, .outSet { payload := List.replicate 1001 0 }, .outGet { priv := 256 }, .limitHoldExpiry 0 56 0, .pinchDetected 0 4 0 0,
      .switchPoll 0 24 0, .wakePinFiltered 0 4, .analogSample 0 [0], .keyScan 0 (List.replicate 8 256) 0, .keyStuckTime 0 64, .cycleInstant 0 4,
      .linBusFault 0 4 0, .inputFrame 0 { port := 4 }, .select 0 8 0 0 0 0 [], .ack 0 65536, .authenticate 0 0 0 256 [] 0, .insertApduResponse 0 [] 65536 true,
      .noticeArrival 0 256 0 0 0, .tamperEvent 0 (.mesh 0 16777216), .interrupt 0 128 0, .interrupt 0 0 16, .syscallTimeout 0 4, .arpRequest 0 4096 0 0] : List Instr).all (fun i => !i.wf) = true ∧
    ([.registerWrite 0 255 [0, 0, 0, 0], .sysInfo {}, .outSet { session := 1, auth := true, seq := 65535, priv := 2, payload := List.replicate 1000 0 },
      .canFrameReceived 0 1 { id := 0x7FF, data := List.replicate 8 0 } 0, .limitHoldExpiry 0 55 0, .keyScan 0 (List.replicate 8 255) 255, .addi 31 31 0xFFFF, .retw] : List Instr).all Instr.wf = true := by
  decide +kernel

/-- HX32 words written out from the formats and opcodes of R528 to R530, one or more of each family; two with a field set that the instruction does not use (log 42). -/
theorem test_hx32_words :
    hx32Decode 0b000000_00001_00010_00011_00000_000000#32 = some (.add 1 2 3) ∧
    hx32Decode 0b000010_00100_00101_0000000011111111#32 = some (.andi 4 5 0xFF) ∧
    hx32Decode 0b001000_00001_00010_00011_00000_000000#32 = some (.mul 1 2 3) ∧
    hx32Decode 0b010100_01100_01101_1111111111111100#32 = some (.lbu 12 13 0xFFFC) ∧
    hx32Decode 0b011000_01100_01101_0000000000000100#32 = some (.sw 12 13 4) ∧
    hx32Decode 0b100001_00001_00010_1000000000000000#32 = some (.bne 1 2 0x8000) ∧
    hx32Decode 0b101000_00001_00000_011111_0000000001#32 = some (.beqi 1 31 1) ∧
    hx32Decode 0b110000_11111111111111111111111111#32 = some (.j 0x3FFFFFF) ∧
    hx32Decode 0b110011_00000_00111_00000_00000_000000#32 = some (.jr 7) ∧
    hx32Decode 0b111001_00000_00000_00000_00000_000011#32 = some .wfi ∧
    hx32Decode 0b111011_00000_01001_0000000000000101#32 = some (.csrw 9 5) ∧
    hx32Decode 0b111100_00001_00010_00011_00000_000000#32 = some (.vadd 1 2 3) ∧
    hx32Decode 0b111001_00000_00000_00000_00001_000011#32 = none ∧
    hx32Decode 0b000000_00001_00010_00011_11111_000000#32 = none := by
  decide +kernel

/-- A session whose highest sequence number is 1000, with 990 answered. -/
def window : Session := { h := some 1000, cache := [{ seq := 990, code := 0x0101 }] }

/-- The bounds of R55 meet the clauses of SequenceNumbers: 32767 ahead is new and 32768 is not; 63 behind fills a gap and 64 is stale; a number of the cache is a duplicate; a wrap past 65535 is new. -/
theorem test_met_sequence_numbers :
    seqClass window 33767 = .fresh ∧ seqClass window 33768 = .stale ∧ seqClass window 937 = .gap ∧ seqClass window 936 = .stale ∧ seqClass window 1000 = .gap ∧
    seqClass window 990 = .known { seq := 990, code := 0x0101 } ∧ seqClass { window with h := some 65530 } 4 = .fresh ∧
    ctrAfter { window with h := some 65530, ctr := 8 } 4 = 9 ∧ ctrAfter { window with ctr := 8 } 33767 = 8 := by
  decide +kernel

/-- `awake` with its P4 session changed. -/
def withSession (f : Session → Session) : State := { awake with mbx := { awake.mbx with sessions := awake.mbx.sessions.map (fun x => if x.id == 1 then f x else x) } }

/-- `awake` with its SPI mailbox changed. -/
def withSpi (f : Port → Port) : State := { awake with mbx := { awake.mbx with spi := f awake.mbx.spi } }

/-- The clauses of RequestsAreCheckedInOrder are met: a transport not served, a payload of 1001 bytes, eight slots in use, the enclave away, no session, an unproven one, a wrong MAC for the first and the eighth time, a duplicate of another code, and a stale number. -/
theorem test_met_request_checks :
    (getPort (advance 7 awake) .can).served = false ∧ (getPort (advance 7 awake) .spi).served = true ∧ 1000 < (List.replicate 1001 (0 : Byte)).length ∧
    8 ≤ (getPort (withSpi (fun p => { p with slots := List.replicate 8 {} })) .spi).slots.length ∧
    encServes { awake with enc := {} } = false ∧ encServes awake = true ∧
    findSession awake .spi 2 = none ∧ findSession awake .spi 1 = some { id := 1, priv := 4, anchor := some 3, idleAt := 300000000 } ∧
    (findSession (withSession (fun x => { x with proven := false })) .spi 1).map (fun x => x.proven) = some false ∧
    (findSession (withSession (fun x => { x with macFails := 7 })) .spi 1).map (fun x => x.macFails) = some 7 ∧
    seqClass window 990 = .known { seq := 990, code := 0x0101 } ∧ (0x0102 : Nat) ≠ 0x0101 ∧
    seqClass { window with cache := [{ seq := 990, code := 0x0101, resp := some {} }] } 990 = .known { seq := 990, code := 0x0101, resp := some {} } ∧ seqClass window 936 = .stale ∧ seqClass { h := some 65535, ctr := 0xFFFFFFFF } 1 = .fresh ∧ 0xFFFFFFFF < ctrAfter { h := some 65535, ctr := 0xFFFFFFFF } 1 := by
  decide +kernel

/-- The clauses of PrivilegeAndLaneRefusals are met: MODE.SET at P0 and in the asynchronous lane, a part without the tag, and a payload too short. -/
theorem test_met_privilege_and_lane :
    laneCheck 0x0202 (rq0 [0]) awake = some stPriv ∧ laneCheck 0x0202 { rq 0x0202 [0] with async := true } awake = some stLane ∧ laneCheck 0x0101 (rq0 []) awake = none ∧
    partLacks { awake with otp := { awake.otp with part := .bz7464 } } 0x3001 = true ∧ laneCheck 0x3001 (rq0 []) { awake with otp := { awake.otp with part := .bz7464 } } = some stUnsupported ∧
    (cmdRow 0x0202).map (fun x => decide (0 < x.lo)) = some true := by
  decide +kernel

/-- The modes of ModesRefuseCommands refuse driving commands: PARKED, TRANSPORT, a Grave latch, a Severe reaction, a shutdown. -/
theorem test_met_mode_refusals :
    modeRefused 0x1003 [] { awake with mode := { awake.mode with mode := .parked } } = true ∧ modeRefused 0x1302 [] { awake with mode := { awake.mode with mode := .transport } } = true ∧
    modeRefused 0x2003 [] { awake with ao := { awake.ao with severeAt := some 0 } } = true ∧ modeRefused 0x1003 [] awake = false ∧ shutdownRefused 0x1003 awake = false := by
  decide +kernel

/-- A response is due to a request of the P4 session, on each transport's session, with room in the RX queue and without, and to a peer of the uplink that is reachable (R50, R54, R57). -/
theorem test_met_responses :
    (recordOf (sv 0x0101 [] awake) .spi 1 1).isSome = true ∧ ¬ 40 ≤ awake.mbx.spi.out.length ∧ 40 ≤ (withSpi (fun p => { p with out := List.replicate 40 {} })).mbx.spi.out.length ∧
    reachable { awake with nvm := { awake.nvm with tw := { uplink := { enabled := true, gateway := 1 } } } } 5 = true ∧
    findSession awake .spi 1 ≠ none ∧ findSession awake .spi 0 ≠ none ∧ findSession awake .spi 2 = none ∧
    (finish 0x0101 0 [] (rq0 []) awake).mbx.spi.out = awake.mbx.spi.out ++ [{ code := 0x0101, seq := 1, payload := [0] }] := by
  decide +kernel

/-- A queue of so many Notices, Recoverable and Severe messages. -/
def queueOf (n r v : Nat) : List QEntry :=
  List.replicate n { msg := { cls := .notice } } ++ List.replicate r { msg := { cls := .recoverable } } ++ List.replicate v { msg := { cls := .severe } }

/-- The queues of QueueKeepsTheHigherClasses are met: 55 and 56 general entries, and 64 entries with a Notice, with a Recoverable message alone, and with neither. -/
theorem test_met_queue :
    generalUsed (queueOf 55 0 0) < 56 ∧ 56 ≤ generalUsed (queueOf 1 54 1) ∧ (queueOf 1 54 1).length < 64 ∧ (queueOf 1 1 62).length = 64 ∧
    (queueOf 1 1 62).any (isCls .notice) = true ∧ (queueOf 0 1 63).any (isCls .notice) = false ∧ (queueOf 0 1 63).any (isCls .recoverable) = true ∧
    (queueOf 0 0 64).any (isCls .notice) = false ∧ (queueOf 0 0 64).any (isCls .recoverable) = false ∧ 56 ≤ generalUsed (queueOf 0 0 64) := by
  decide +kernel

/-- The CRCs of R48 and of the images over the ASCII string 123456789: 0x29B1, the spec's own check value, and 0xCBF43926. -/
theorem test_crcs : crc16 [0x31, 0x32, 0x33, 0x34, 0x35, 0x36, 0x37, 0x38, 0x39] = 0x29B1 ∧ crc32 [0x31, 0x32, 0x33, 0x34, 0x35, 0x36, 0x37, 0x38, 0x39] = 0xCBF43926 := by
  decide +kernel

/-- The rain example of 05_inputs.md: S_ref 40 000, S 36 400 and thresholds of 20 n per mille give a coverage of 90 and intensity 4 at sensitivity 1. -/
theorem test_rain_example : coverage 40000 36400 = 90 ∧ topIntensity ((List.range 9).map (fun n => 20 * (n + 1))) 90 1 = 4 := by
  decide +kernel

/-- The worked case of 07_millrace.md: 20 stations with ILEN 8 and OLEN 6 at 5 ms; E = 69.2 µs, W = 67.2 µs and 230.4 µs, and the budget holds at 5 ms. -/
theorem test_millrace_worked_case :
    let p : TwPort := { enabled := true, code := 2, nodes := 21 }
    let t : Twill := { ports := [p], stations := (List.range 20).map (fun n => { addr := n + 1, node := n + 1, ilen := 8, olen := 6 }) }
    emptyTime 21 = 692 ∧ wireTime 26 = 672 ∧ wireTime 24 = 672 ∧ wireTime 250 = 2304 ∧ 3 * emptyTime 21 + 1500 + wireTime 26 + 20 * wireTime 24 = 17688 ∧ cycleTenths 2 = 50000 ∧
    budgetOk t p 2 = true ∧ budgetOk t p 1 = false := by
  decide +kernel

/-- A field of a step's next state. -/
def after (c : Instr) (s : State) (f : State → α) : Option α := match exec c s with
  | .next t => some (f t)
  | _ => none

/-- Single instructions by R529: a wrap, a write to z, division by zero and of the most negative number, a shift by its low five bits, a sign-extending load of a byte just stored, a branch back, and the trap entry of a misaligned word. -/
theorem test_core_steps :
    after (.addi 1 2 0xFFFF) (coreAt (fun r => writeReg r 2 0)) (fun t => readReg t.core.r 1) = some 0xFFFFFFFF#32 ∧
    after (.addi 24 2 5) (coreAt (fun r => writeReg r 2 1)) (fun t => readReg t.core.r 24) = some 0#32 ∧
    after (.div 1 2 3) (coreAt (fun r => writeReg r 2 7)) (fun t => readReg t.core.r 1) = some 0xFFFFFFFF#32 ∧
    after (.div 1 2 3) (coreAt (fun r => writeReg (writeReg r 2 0x80000000) 3 0xFFFFFFFF)) (fun t => readReg t.core.r 1) = some 0x80000000#32 ∧
    after (.srai 1 2 4) (coreAt (fun r => writeReg r 2 0x80000000)) (fun t => readReg t.core.r 1) = some 0xF8000000#32 ∧
    after (.sw 3 1 4) (coreAt (fun r => writeReg (writeReg r 1 0x20000000) 3 0x04030201)) (fun t => memLoad 0 t.core.mem 0x20000004 4) = some [1, 2, 3, 4] ∧
    after (.lb 1 2 0) (storeMem 0x20000000 [0x80] (coreAt (fun r => writeReg r 2 0x20000000))) (fun t => readReg t.core.r 1) = some 0xFFFFFF80#32 ∧
    after (.bne 1 2 0xFFFF) (coreAt (fun r => { writeReg r 1 1 with pc := 0x10010 })) (fun t => t.core.r.pc) = some 0x1000C#32 ∧
    after (.lw 1 2 0 .clean) (coreAt (fun r => { writeReg r 2 0x20000002 with pc := 0x10010 })) (fun t => (t.core.ecause, t.core.eaddr, t.core.epc)) = some (5, 0x20000002#32, 0x10010#32) := by
  decide +kernel

/-- The hypotheses of FloorsNeverFall are met at reset and after: eight counters, a header in the active bank, none for the extension, a bank confirmed and one not. -/
theorem test_met_floors :
    awake.enc.counters.length = 8 ∧ (regionHeader 0 (regionOf (activeBank awake) 0)).isSome = true ∧ regionHeader 2 (regionOf (activeBank awake) 2) = none ∧
    confirmed awake.boot.sel awake.boot.sel.active = true ∧ awake.boot.sel.active ≤ 1 ∧ confirmed { awake.boot.sel with confA := false } 0 = false := by
  decide +kernel

/-- The hypotheses of the invariant over both memories are met, with a byte listed. -/
theorem test_met_memories : ∃ t, MemoryWf (storeMem 0x20000000 [1] awake) ∧ step (storeMem 0x20000000 [1] awake) = .next t :=
  ⟨_, by unfold MemoryWf; decide +kernel, rfl⟩

/-- The hypotheses of ClaimsAreDecidedByPriority are met: a claim that outranks, one that does not, one of the owner; and two claims of other requesters, of different and of equal priority. -/
theorem test_met_claims :
    3 < awake.outs.chans.length ∧ (getOwn awake 3).owner ≠ .ext ∧ (getOwn awake 3).prio < 5 ∧ ¬ (getOwn (modOwn 3 (fun x => { x with owner := .spi, prio := 5 }) awake) 3).prio < 5 ∧
    (getOwn (modOwn 3 (fun x => { x with owner := .ext, prio := 5 }) awake) 3).owner = .ext ∧
    (∀ o ∈ [Owner.service, .eth, .can, .spi, .ext], o ≠ (getOwn awake 3).owner) ∧ (getOwn awake 3).prio < 1 ∧
    [Owner.service, Owner.eth, .can, .spi, .ext].idxOf Owner.service < [Owner.service, Owner.eth, .can, .spi, .ext].idxOf Owner.ext := by
  decide +kernel

end Sys2Proof.Tests
end

section
/-! The sequence numbers of R55: where a number stands in its session's window, what becomes of its request, and the highest number that an accepted request leaves. -/

namespace Sys2Proof.Proofs
open Sys2Proof Sys2Proof.Machine

/-- The first request in a session is new whatever its number (R55). -/
theorem seqClass_of_first {x : Session} (hx : x.h = none) (seq : Nat) : seqClass x seq = .fresh := by
  unfold seqClass
  rw [hx]

section Window
variable {x : Session} {seq h : Nat}

/-- A number 1 to 32767 ahead of the highest is new (R55). -/
theorem seqClass_of_ahead (hx : x.h = some h) (hlo : 1 ≤ (seq + 65536 - h) % 65536) (hhi : (seq + 65536 - h) % 65536 ≤ 32767) :
    seqClass x seq = .fresh := by
  unfold seqClass
  rw [hx]
  exact if_pos ⟨hlo, hhi⟩

/-- A number 0 to 63 behind the highest is not also ahead of it: the two distances add up to 0 or 65536. -/
theorem not_ahead_of_behind (hseq : seq < 65536) (hh : h < 65536) (hb : (h + 65536 - seq) % 65536 ≤ 63) :
    ¬ (1 ≤ (seq + 65536 - h) % 65536 ∧ (seq + 65536 - h) % 65536 ≤ 32767) := by
  omega

/-- In the window of R55, a number that the cache holds is a duplicate of its entry. -/
theorem seqClass_of_cached {e : CacheEntry} (hx : x.h = some h) (hseq : seq < 65536) (hh : h < 65536) (hb : (h + 65536 - seq) % 65536 ≤ 63)
    (he : x.cache.find? (fun e => e.seq == seq) = some e) : seqClass x seq = .known e := by
  unfold seqClass
  rw [hx]
  dsimp only
  rw [if_neg (not_ahead_of_behind hseq hh hb), if_pos hb, he]

/-- In the window of R55, a number that the cache does not hold fills a gap. -/
theorem seqClass_of_uncached (hx : x.h = some h) (hseq : seq < 65536) (hh : h < 65536) (hb : (h + 65536 - seq) % 65536 ≤ 63)
    (hnone : x.cache.find? (fun e => e.seq == seq) = none) : seqClass x seq = .gap := by
  unfold seqClass
  rw [hx]
  dsimp only
  rw [if_neg (not_ahead_of_behind hseq hh hb), if_pos hb, hnone]

/-- Neither ahead of the highest nor in its window, a number is stale (R55). -/
theorem seqClass_of_far (hx : x.h = some h) (hb : 64 ≤ (h + 65536 - seq) % 65536) (hd : 32768 ≤ (seq + 65536 - h) % 65536) :
    seqClass x seq = .stale := by
  unfold seqClass
  rw [hx]
  dsimp only
  rw [if_neg (by omega), if_neg (by omega)]

/-- A new number below the highest has wrapped past 65535, and the session counter advances (R56). -/
theorem ctrAfter_of_wrap (hx : x.h = some h) (hc : seqClass x seq = .fresh) (hlt : seq < h) : ctrAfter x seq = x.ctr + 1 := by
  simp [ctrAfter, hx, hc, hlt]

/-- A number not below the highest leaves the session counter (R56). -/
theorem ctrAfter_of_le (hx : x.h = some h) (hle : h ≤ seq) : ctrAfter x seq = x.ctr := by
  simp [ctrAfter, hx, hle]

end Window

section Classify
variable {code : Nat} {r : Req} {x : Session} {s : State}

/-- A new request is accepted as new while the session counter stays within 32 bits (R55, R56). -/
theorem classify_fresh (hc : seqClass x r.seq = .fresh) (hctr : ctrAfter x r.seq ≤ 0xFFFFFFFF) : classify code r x s = accept code r x true s := by
  unfold classify
  rw [hc]
  exact if_neg (Nat.not_lt.mpr hctr)

/-- A request that fills a gap is accepted, but not as new (R55). -/
theorem classify_gap (hc : seqClass x r.seq = .gap) : classify code r x s = accept code r x false s := by
  unfold classify
  rw [hc]

/-- A duplicate of the same code is answered from its response (R57). -/
theorem classify_answered {e : CacheEntry} {f : Frame} (hc : seqClass x r.seq = .known e) (hcode : e.code = code) (hf : e.resp = some f) :
    classify code r x s = resend r f (macGood r s) := by
  unfold classify
  rw [hc]
  dsimp only
  rw [if_neg (by simp [hcode]), hf]

/-- A duplicate of the same code is left to its running request (R57). -/
theorem classify_running {e : CacheEntry} (hc : seqClass x r.seq = .known e) (hcode : e.code = code) (hnone : e.resp = none) :
    classify code r x s = macGood r s := by
  unfold classify
  rw [hc]
  dsimp only
  rw [if_neg (by simp [hcode]), hnone]

/-- A stale request of an authenticated session is refused (R55). -/
theorem classify_stale_auth (hc : seqClass x r.seq = .stale) (hs : r.session ≠ 0) :
    classify code r x s = respondPlain code stSequence [] r (macGood r s) := by
  unfold classify
  rw [hc]
  exact if_neg (by simpa using hs)

/-- A stale request of session 0 starts a new window: it is accepted as new (R55). -/
theorem classify_stale_session0 (hc : seqClass x r.seq = .stale) (hs : r.session = 0) : classify code r x s = accept code r x true s := by
  unfold classify
  rw [hc]
  exact if_pos (by simpa using hs)

end Classify

/-- What an accepted request leaves of its own session: a new number becomes the highest, and the response cache has its entry (R46, R53, R55 to R57, R60). -/
def acceptedSession (code : Nat) (r : Req) (x : Session) (isNew : Bool) (s : State) (y : Session) : Session :=
  { y with
    h := if isNew then some r.seq else y.h, ctr := ctrAfter x r.seq, macFails := 0,
    cache := (({ seq := r.seq, code := code } : CacheEntry) :: y.cache.filter (fun e => e.seq != r.seq)).take 64,
    idleAt := s.now + sec (tw s).transports.idleS, src := some r.src }

/-- Among the sessions, an accepted request changes its own alone. -/
theorem noteAccepted_sessions (code : Nat) (r : Req) (x : Session) (isNew : Bool) (s : State) :
    (noteAccepted code r x isNew s).mbx.sessions = (modSession r.transport r.session (acceptedSession code r x isNew s) s).mbx.sessions := by
  unfold noteAccepted modPort
  dsimp only
  split <;> rfl

/-- After a request is accepted its session is found where it was, changed as `acceptedSession` says. -/
theorem findSession_noteAccepted (code : Nat) (r : Req) (x : Session) (isNew : Bool) {s : State} {y : Session} (hy : findSession s r.transport r.session = some y) :
    findSession (noteAccepted code r x isNew s) r.transport r.session = some (acceptedSession code r x isNew s y) := by
  have hkey : (y.transport == r.transport && y.id == r.session) = true :=
    List.find?_some (p := fun z : Session => z.transport == r.transport && z.id == r.session) hy
  calc findSession (noteAccepted code r x isNew s) r.transport r.session
      = findSession (modSession r.transport r.session (acceptedSession code r x isNew s) s) r.transport r.session := by
        unfold findSession
        rw [noteAccepted_sessions]
    _ = some (acceptedSession code r x isNew s y) := by
        rw [Laws.findSession_map s _ _ (acceptedSession code r x isNew s) (fun _ => ⟨rfl, rfl⟩), hy, Option.map_some, if_pos hkey]

/-- Settles O29: the class of a number by its two distances from the highest, the fate of each class, and the highest number that an accepted request leaves. -/
theorem sequenceNumbers : Obligations.SequenceNumbers := by
  intro x seq hseq
  refine ⟨fun hx => seqClass_of_first hx seq, fun h hx hh => ⟨?ahead, ?duplicate, ?gap, ?stale, ?wrap, ?noWrap⟩, ?_⟩
  case ahead => exact seqClass_of_ahead hx
  case duplicate => exact fun hb _ he => seqClass_of_cached hx hseq hh hb he
  case gap => exact seqClass_of_uncached hx hseq hh
  case stale => exact seqClass_of_far hx
  case wrap => exact ctrAfter_of_wrap hx
  case noWrap => exact ctrAfter_of_le hx
  rintro code r s rfl
  refine ⟨classify_fresh, classify_gap, ?answered, ?running, classify_stale_auth, classify_stale_session0, ?highest⟩
  case answered => exact fun _ _ hc hcode hf => classify_answered hc hcode hf
  case running => exact fun _ hc hcode hnone => classify_running hc hcode hnone
  case highest => exact fun _ isNew hy => ⟨_, findSession_noteAccepted code r x isNew hy, rfl⟩

end Sys2Proof.Proofs
end

section
/-! Steps 11 to 14 of R51 for a request that its session lets pass: how a request enters its lane, what becomes of one whose privilege, code or lane is refused, and a payload length that its command does not take (R54, R69, R71, R76). -/

namespace Sys2Proof.Proofs
open Sys2Proof Sys2Proof.Machine Sys2Proof.Safety

/-- Each mailbox row runs the request of its code, over what its operand offers (R68). -/
theorem exec_mailboxRow {e : Nat × (Req → Instr)} (he : e ∈ mailboxRows) (r : Req) (s : State) :
    exec (e.2 r) s = .next (settle (requestAt e.1 r (offered e.1 s))) := by
  unfold mailboxRows at he
  fin_cases he <;> rfl

/-- A port's change is decided by what it makes of the present port. -/
theorem modPort_congr {t : Transport} {f g : Port → Port} {s : State} (h : f (getPort s t) = g (getPort s t)) : modPort t f s = modPort t g s := by
  cases t <;> simp only [getPort, modPort] at h ⊢ <;> rw [h]

section Lane
variable {t : Transport} {x : Slot} {s : State}

/-- Beside slots that all run, marking a new one as started changes that one alone. -/
theorem markStarted_append (hrun : ∀ y ∈ (getPort s t).slots, y.started = true) :
    markStarted t x.req.session x.req.seq (modPort t (fun p => { p with slots := p.slots ++ [x] }) s) =
      modPort t (fun p => { p with slots := p.slots ++ [{ x with started := true }] }) s := by
  unfold markStarted
  rw [Laws.modPort_modPort]
  refine modPort_congr ?_
  dsimp only
  rw [List.map_append, Laws.markStarted_running _ _ _ hrun]
  simp

/-- In an ordered lane that is free, a new request starts at once (R54). -/
theorem pumpOne_append (hrun : ∀ y ∈ (getPort s t).slots, y.req.async = true ∧ y.started = true)
    (hasync : x.req.async = false) (hdone : x.done = none) (hstarted : x.started = false) :
    pumpOne t (modPort t (fun p => { p with slots := p.slots ++ [x] }) s) =
      startSlot x (modPort t (fun p => { p with slots := p.slots ++ [{ x with started := true }] }) s) := by
  have hnone : (getPort s t).slots.find? (fun y => !y.req.async && y.done.isNone) = none :=
    List.find?_eq_none.2 fun y hy => by simp [(hrun y hy).1]
  have hfind : ((getPort s t).slots ++ [x]).find? (fun y => !y.req.async && y.done.isNone) = some x := by
    rw [List.find?_append, hnone]
    simp [hasync, hdone]
  unfold pumpOne
  rw [Laws.getPort_modPort]
  dsimp only
  rw [hfind]
  dsimp only
  rw [if_neg (by simp [hstarted]), markStarted_append fun y hy => (hrun y hy).2]

end Lane

section Request
variable {code st : Nat} {r : Req} {x : Session} {s : State}

/-- Steps 11 to 13 refuse with three statuses alone (R51). -/
theorem laneCheck_status (h : laneCheck code r s = some st) : st ∈ [stPriv, stUnsupported, stLane] := by
  unfold laneCheck at h
  extract_lets row least at h
  clear_value row
  split at h
  case isTrue => cases h; simp
  case isFalse =>
    split at h
    case h_1 => cases h; simp
    case h_2 =>
      split at h
      case isTrue => cases h; simp
      case isFalse =>
        split at h
        case isTrue => cases h; simp
        case isFalse => cases h

/-- With its privilege and its code allowed, a request is left to the Lane column of its row: the asynchronous lane of an ordered-only command is refused, and nothing else is (R71). -/
theorem laneCheck_of_allowed {row : CmdRow} (hrow : cmdRow code = some row)
    (hpriv : privOk code (if s.boot.runs = 3 ∧ rescueServes code = true then 0 else row.priv) r s = true) (hpart : partLacks s code = false) :
    laneCheck code r s = if r.async && !row.async then some stLane else none := by
  unfold laneCheck
  simp [hrow, hpriv, hpart]

/-- A new request with a slot, a session and a correct MAC is accepted (R51, steps 5 to 10). -/
theorem request_fresh (hserved : (getPort s r.transport).served = true) (hlen : r.payload.length ≤ 1000) (hslots : (getPort s r.transport).slots.length < 8)
    (hsess : sessionCheck r s = .ok x) (hnew : seqClass x r.seq = .fresh) (hctr : ctrAfter x r.seq ≤ 0xFFFFFFFF)
    (hauth : r.auth = true → encServes s = true ∧ macOk code r x = true) : request code r s = accept code r x true s := by
  have henc : ¬ (r.auth && !encServes s) = true := by
    simpa using fun ha => (hauth ha).1
  have hmac : ¬ (r.auth && !macOk code r x) = true := by
    simpa using fun ha => (hauth ha).2
  unfold request
  rw [if_neg (by simp [hserved]), if_neg (by omega), if_neg (by omega)]
  unfold checkSession
  rw [hsess]
  dsimp only
  rw [if_neg henc, if_neg hmac, classify_fresh hnew hctr]

/-- A request that steps 11 to 13 refuse is accepted all the same, renews no lease, and is answered with the refusal in its turn, here at once (R51, R54, R76). -/
theorem accept_refused (hrun : ∀ y ∈ (getPort s r.transport).slots, y.req.async = true ∧ y.started = true) (hlane : laneCheck code r s = some st) :
    accept code r x true s =
      finish code st [] r (modPort r.transport (fun p => { p with slots := p.slots ++ [{ code := code, req := r, started := true, refuse := some st }] }) (noteAccepted code r x true s)) := by
  unfold accept
  dsimp only
  rw [Laws.laneCheck_noteAccepted, hlane]
  cases hasync : r.async with
  | true => rfl
  | false =>
    rw [← Laws.noteAccepted_slots code r x] at hrun
    exact pumpOne_append hrun hasync rfl rfl

/-- Step 14 refuses a payload length outside its command's row (R51, R69). -/
theorem serveCode_payload {row : CmdRow} (hruns : s.boot.runs = 1) (hrow : cmdRow code = some row)
    (hlen : r.payload.length < row.lo ∨ row.hi < r.payload.length) : serveCode code r s = deny stPayload s := by
  unfold serveCode
  simp [hruns, hrow, hlen]

/-- A request whose step 14 answers at once: its response, then the events held (R61, R62). -/
theorem runRequest_done {body : Bytes} {p : State} (h : serveCode code r { s with mbx := { s.mbx with hold := some [] } } = .done st body p) :
    runRequest code r s = releaseEvents (finish code st body r p) := by
  unfold runRequest
  rw [h]

/-- A request that is served at once but for its payload length is answered ST_PAYLOAD (R51, R69). -/
theorem requestAt_payload {row : CmdRow} (h : Ready code r (advance r.time s)) (hrow : cmdRow code = some row)
    (hlen : r.payload.length < row.lo ∨ row.hi < r.payload.length) :
    requestAt code r s = releaseEvents (finish code stPayload [] r (serving code r s)) := by
  have hruns : (serving code r s).boot.runs = 1 := by
    obtain ⟨-, -, -, -, -, -, hruns⟩ := h
    rwa [Laws.serving_boot]
  calc requestAt code r s = runRequest code r (taken code r (advance r.time s)) := Laws.request_ready h
    _ = releaseEvents (finish code stPayload [] r (serving code r s)) := runRequest_done (serveCode_payload hruns hrow hlen)

end Request

/-- Settles O30: a refusal of steps 11 to 13 is an acceptance without leases, the Lane column decides once privilege and code pass, and a payload length that does not fit is the refusal of step 14. -/
theorem privilegeAndLaneRefusals : Obligations.PrivilegeAndLaneRefusals := by
  intro e he s r
  refine ⟨?refused, ?lane, ?payload⟩
  case refused =>
    intro x st hserved hlen hslots hrun hsess hnew hctr hauth hlane
    refine ⟨laneCheck_status hlane, ?_⟩
    unfold Does
    rw [exec_mailboxRow he]
    unfold requestAt
    rw [request_fresh hserved hlen hslots hsess hnew hctr hauth, accept_refused hrun hlane]
  case lane =>
    rintro row _ hrow rfl hpriv hpart
    have hcheck := laneCheck_of_allowed hrow hpriv hpart
    refine ⟨fun hord hasync => ?_, fun hfree => ?_⟩
    · rw [hcheck, hasync, hord]
      rfl
    · rw [hcheck, if_neg]
      rcases hfree with hrowAsync | hord
      · simp [hrowAsync]
      · simp [hord]
  case payload =>
    intro row hrow hready hlen
    unfold Answers Does
    rw [exec_mailboxRow he, requestAt_payload hready hrow hlen]

end Sys2Proof.Proofs
end

section
/-! HX32 words and instructions: what a word decodes to encodes back to it, group by group and then opcode by opcode (R528, R530, R538). -/

namespace Sys2Proof.Proofs
open Sys2Proof Sys2Proof.Laws

/-- A field that reads as a number is the field of that number. -/
theorem ofNat_of_toNat_eq {w n : Nat} {x : BitVec w} (h : x.toNat = n) : BitVec.ofNat w n = x := by
  rw [← h, BitVec.ofNat_toNat, BitVec.setWidth_eq]

section Groups
variable {func : BitVec 6} {rd ra rb : BitVec 5} {i : Hx32}

theorem hx32Encode_of_hx32Alu (h : hx32Alu func rd ra rb = some i) : hx32Encode i = wordR 0x00#6 rd ra rb func := by
  unfold hx32Alu at h
  split at h <;> cases h
  all_goals exact congrArg (wordR _ rd ra rb) (ofNat_of_toNat_eq ‹func.toNat = _›)

theorem hx32Encode_of_hx32MulDiv (h : hx32MulDiv func rd ra rb = some i) : hx32Encode i = wordR 0x08#6 rd ra rb func := by
  unfold hx32MulDiv at h
  split at h <;> cases h
  all_goals exact congrArg (wordR _ rd ra rb) (ofNat_of_toNat_eq ‹func.toNat = _›)

/-- Where the unused fields are zero, a word of the JUMP group is its instruction's. -/
theorem hx32Encode_of_hx32Jump (h : hx32Jump func rd ra rb = some i) : hx32Encode i = wordR 0x33#6 rd ra rb func := by
  unfold hx32Jump at h
  split at h <;> simp at h
  all_goals
    have hfunc := ofNat_of_toNat_eq ‹func.toNat = _›
    grind [hx32Encode]

theorem hx32Encode_of_hx32Priv (h : hx32Priv func rd ra rb = some i) : hx32Encode i = wordR 0x39#6 rd ra rb func := by
  unfold hx32Priv at h
  split at h <;> simp at h
  all_goals
    have hfunc := ofNat_of_toNat_eq ‹func.toNat = _›
    grind [hx32Encode]

theorem hx32Encode_of_hx32Cxv (h : hx32Cxv func rd ra rb = some i) : hx32Encode i = wordR 0x3C#6 rd ra rb func := by
  unfold hx32Cxv at h
  split at h <;> simp at h
  all_goals
    have hfunc := ofNat_of_toNat_eq ‹func.toNat = _›
    grind [hx32Encode]

end Groups

/-- The word of an instruction decodes to it. -/
theorem hx32Decode_hx32Encode (i : Hx32) : hx32Decode (hx32Encode i) = some i := by
  cases i <;> simp [hx32Encode, hx32Decode, hx32Alu, hx32MulDiv, hx32Jump, hx32Priv, hx32Cxv]

/-- A word of a format R group is the word of its instruction, where the group's own instructions are. -/
theorem hx32Encode_of_groupR {w : Word} {i : Hx32} {op : BitVec 6} {g : BitVec 6 → BitVec 5 → BitVec 5 → BitVec 5 → Option Hx32} (hop : op = opOf w)
    (h : (if z10 w == 0 then g (funcOf w) (f25 w) (f20 w) (f15 w) else none) = some i)
    (hg : g (funcOf w) (f25 w) (f20 w) (f15 w) = some i → hx32Encode i = wordR op (f25 w) (f20 w) (f15 w) (funcOf w)) : hx32Encode i = w := by
  simp only [Option.ite_none_right_eq_some, beq_iff_eq] at h
  obtain ⟨hz, hi⟩ := h
  rw [hg hi, hop, wordR_fields w hz]

/-- A word that decodes is the word of what it decodes to: the groups of format R by their func, every other opcode by the fields of its format. -/
theorem hx32Encode_of_hx32Decode {w : Word} {i : Hx32} (h : hx32Decode w = some i) : hx32Encode i = w := by
  have hI := wordI_fields w
  have hBI := wordBI_fields w
  have hJ := wordJ_fields w
  unfold hx32Decode at h
  dsimp only at h
  split at h
  case h_39 => cases h
  all_goals have hop := ofNat_of_toNat_eq ‹(opOf w).toNat = _›
  case h_1 => exact hx32Encode_of_groupR hop h hx32Encode_of_hx32Alu
  case h_7 => exact hx32Encode_of_groupR hop h hx32Encode_of_hx32MulDiv
  case h_30 => exact hx32Encode_of_groupR hop h hx32Encode_of_hx32Jump
  case h_32 => exact hx32Encode_of_groupR hop h hx32Encode_of_hx32Priv
  case h_35 => exact hx32Encode_of_groupR hop h hx32Encode_of_hx32Cxv
  all_goals
    have hR := wordR_fields w
    simp at h
    grind [hx32Encode]

/-- Settles O57: a word is encoded from the fields that decoding reads, so each of the two undoes the other. -/
theorem hx32DecodeAndEncodeAgree : Obligations.Hx32DecodeAndEncodeAgree :=
  ⟨hx32Decode_hx32Encode, fun _ _ => hx32Encode_of_hx32Decode, fun i j h => by
    have hi := hx32Decode_hx32Encode i
    rw [h, hx32Decode_hx32Encode] at hi
    exact (Option.some.inj hi).symm⟩

end Sys2Proof.Proofs
end

section
/-! The registers of the core: what a read finds after a write, in whichever frame the window stands (R519, R522), and the control registers by number (R520, R521, R536). -/

namespace Sys2Proof.Proofs
open Sys2Proof Sys2Proof.Machine

section Window
variable {cwp i j : Nat}

/-- The 16 window registers lie inside the ring. -/
theorem wIndex_lt (hi : i < 16) : wIndex cwp i < 96 := by
  unfold wIndex
  split <;> omega

/-- The 16 window registers of one window lie at different places of the ring. -/
theorem wIndex_ne (hi : i < 16) (hj : j < 16) (h : i ≠ j) : wIndex cwp i ≠ wIndex cwp j := by
  unfold wIndex
  split <;> split <;> omega

end Window

section Vectors
variable {α : Type} {n i j : Nat} {x d : α} {v : Vector α n}

theorem getD_setIfInBounds_same (hi : i < n) : (v.setIfInBounds i x).getD i d = x := by
  simp [Vector.getD, hi]

theorem getD_setIfInBounds_other (h : i ≠ j) : (v.setIfInBounds i x).getD j d = v.getD j d := by
  by_cases hj : j < n <;> simp [Vector.getD, hj, h]

end Vectors

section ReadWrite
variable {r : Regs} {f g : BitVec 5} {v : Word}

/-- A register named by a field reads back what was written to it (R519). -/
theorem readReg_writeReg_same (hf : regOk f = true) (hz : f ≠ 24#5) : readReg (writeReg r f v) f = v := by
  have hlt : f.toNat < 26 := of_decide_eq_true hf
  have hne : f.toNat ≠ 24 := fun h => hz (BitVec.eq_of_toNat_eq h)
  unfold readReg writeReg
  dsimp only
  by_cases hk : f.toNat < 8
  · rw [if_pos hk, if_pos hk]
    exact getD_setIfInBounds_same hk
  rw [if_neg hk, if_neg hk]
  by_cases hw : f.toNat < 24
  · rw [if_pos hw, if_pos hw]
    exact getD_setIfInBounds_same (wIndex_lt (by omega))
  have hl : f.toNat = 25 := by omega
  simp [hl]

/-- Every other register keeps its value (R519). -/
theorem readReg_writeReg_other (hf : regOk f = true) (hg : regOk g = true) (hne : g ≠ f) : readReg (writeReg r f v) g = readReg r g := by
  have hf' : f.toNat < 26 := of_decide_eq_true hf
  have hg' : g.toNat < 26 := of_decide_eq_true hg
  have hn : f.toNat ≠ g.toNat := fun h => hne (BitVec.eq_of_toNat_eq h.symm)
  unfold readReg writeReg
  dsimp only
  by_cases hk : f.toNat < 8
  · rw [if_pos hk]
    simp only [getD_setIfInBounds_other hn]
  rw [if_neg hk]
  by_cases hw : f.toNat < 24
  · rw [if_pos hw]
    dsimp only
    split
    · rfl
    split
    · exact getD_setIfInBounds_other (wIndex_ne (by omega) (by omega) (by omega))
    · rfl
  rw [if_neg hw]
  by_cases hl : f.toNat = 25
  · simp [hl, show g.toNat ≠ 25 by omega]
  · simp [hl]

end ReadWrite

/-- Settles O3: z reads 0 and takes no write; the other 25 registers lie at different places. -/
theorem registersReadBack : Obligations.RegistersReadBack := by
  intro r f g v
  refine ⟨rfl, rfl, readReg_writeReg_same, readReg_writeReg_other, ?_⟩
  conv_lhs => rw [Laws.writeReg_frame]

section ControlRegisters
variable {c k : Core} {w : Word} {n : Nat}

/-- A flag as a number is a binary digit. -/
theorem bit_testBit (n i : Nat) : bit (n.testBit i) = n / 2 ^ i % 2 := by
  unfold bit
  rw [Nat.testBit_eq_decide_div_mod_eq]
  rcases Nat.mod_two_eq_zero_or_one (n / 2 ^ i) with h | h <;> simp [h]

/-- The low bits of a word as a mask leaves them. -/
theorem toNat_and_lowMask (w : Word) : (w &&& 0xFF#32).toNat = w.toNat % 256 := by
  rw [BitVec.toNat_and]
  exact Nat.and_two_pow_sub_one_eq_mod w.toNat 8

/-- PSR keeps its eight bits of a word written to it, and reads 0 in every other (R520). -/
theorem psrWord_wordPsr (w : Word) : psrWord (wordPsr w) = w &&& 0xFF#32 := by
  apply BitVec.eq_of_toNat_eq
  have hw := w.isLt
  simp only [psrWord, wordPsr, BitVec.getLsbD, bit_testBit, bits, Nat.shiftRight_eq_div_pow, toNat_and_lowMask, BitVec.toNat_ofNat]
  omega

/-- A field of a masked number is the masked field. -/
theorem bits_and (x m lo w : Nat) : bits (x &&& m) lo w = bits x lo w &&& bits m lo w := by
  simp only [bits, Nat.shiftRight_and_distrib, Nat.and_mod_two_pow]

/-- WSTATE keeps CWP, RES and DEPTH of a word written to it, and reads 0 in every other bit (R521). -/
theorem wstate_fields (w : Word) :
    BitVec.ofNat 32 (w.toNat % 8 % 8 + 16 * (bits w.toNat 4 3 % 8) + 65536 * (bits w.toNat 16 16 % 65536)) = w &&& 0xFFFF0077#32 := by
  apply BitVec.eq_of_toNat_eq
  have hw := w.isLt
  have hlt : w.toNat &&& 0xFFFF0077 < 2 ^ 32 := Nat.lt_of_le_of_lt Nat.and_le_left hw
  have hcwp : bits (w.toNat &&& 0xFFFF0077) 0 3 = bits w.toNat 0 3 := (bits_and ..).trans (Nat.and_two_pow_sub_one_of_lt_two_pow (Nat.mod_lt _ (by decide)))
  have hres : bits (w.toNat &&& 0xFFFF0077) 4 3 = bits w.toNat 4 3 := (bits_and ..).trans (Nat.and_two_pow_sub_one_of_lt_two_pow (Nat.mod_lt _ (by decide)))
  have hdepth : bits (w.toNat &&& 0xFFFF0077) 16 16 = bits w.toNat 16 16 := (bits_and ..).trans (Nat.and_two_pow_sub_one_of_lt_two_pow (Nat.mod_lt _ (by decide)))
  have hlow : bits (w.toNat &&& 0xFFFF0077) 3 1 = 0 := (bits_and ..).trans (Nat.and_zero _)
  have hhigh : bits (w.toNat &&& 0xFFFF0077) 7 9 = 0 := (bits_and ..).trans (Nat.and_zero _)
  rw [BitVec.toNat_and, BitVec.toNat_ofNat, BitVec.toNat_ofNat, Nat.mod_eq_of_lt (show 0xFFFF0077 < 2 ^ 32 by decide)]
  simp only [bits, Nat.shiftRight_eq_div_pow] at hcwp hres hdepth hlow hhigh ⊢
  omega

/-- The numbers of the control registers (R521). -/
theorem isSome_csrRead (c : Core) (n : Nat) : (csrRead c n).isSome = true ↔ n ∈ List.range 10 ++ List.range' 0x10 32 ++ [0x30, 0x31] := by
  simp only [List.mem_append, List.mem_range, List.mem_range'_1, List.mem_cons, List.not_mem_nil, or_false]
  unfold csrRead
  by_cases hbase : 0x10 ≤ n ∧ n < 0x20
  · simp [hbase]
    omega
  rw [if_neg hbase]
  by_cases hattr : 0x20 ≤ n ∧ n < 0x30
  · simp [hattr]
    omega
  rw [if_neg hattr]
  split <;> simp
  grind

/-- A number with a control register to read has one to write (R521). -/
theorem isSome_csrWrite (c : Core) (n : Nat) (w : Word) : (csrWrite c n w).isSome = (csrRead c n).isSome := by
  unfold csrWrite csrRead
  dsimp only
  split
  · rfl
  split
  · rfl
  split <;> rfl

end ControlRegisters

/-- Settles O12: each listed number reads its register and each write leaves what it names. -/
theorem controlRegisters : Obligations.ControlRegisters := by
  intro c w n
  refine ⟨rfl, rfl, rfl, rfl, rfl, rfl, rfl, rfl, rfl, rfl, rfl, ?vbr, rfl, rfl, ?wtop, ?psr, ?wstate, propext (isSome_csrRead c n), ?listed⟩
  case vbr =>
    have hvbr : BitVec.ofNat 32 (w.toNat / 1024 * 1024) = w - BitVec.ofNat 32 (w.toNat % 1024) := by bv_omega
    exact congrArg (fun x => some { c with vbr := x }) hvbr
  case wtop =>
    have hwtop : w.toNat / 4 * 4 = w.toNat - w.toNat % 4 := by omega
    exact congrArg (fun x => some { c with r := { c.r with wtop := x } }) hwtop
  case psr =>
    rintro _ ⟨⟩
    exact ⟨rfl, congrArg some (psrWord_wordPsr w)⟩
  case wstate =>
    rintro _ ⟨⟩
    exact congrArg some (wstate_fields w)
  case listed => rw [isSome_csrWrite]

end Sys2Proof.Proofs
end

section
/-! The bytes of the core's memory: what a store changes, and what a load of a TDX task sees of the stores held for it (R374, R494, R519). -/

namespace Sys2Proof.Proofs
open Sys2Proof Sys2Proof.Machine

/-- A store changes the memory alone. -/
theorem storeMem_frame (a : Nat) (b : Bytes) (s : State) : { storeMem a b s with core := { (storeMem a b s).core with mem := s.core.mem } } = s := by
  unfold storeMem
  split <;> rfl

/-- A store to program flash or the boot ROM changes nothing (R494). -/
theorem storeMem_readOnly {a : Nat} (b : Bytes) (s : State) (h : a < 0x10000 ∨ 0x10000000 ≤ a ∧ a < 0x10500000) : storeMem a b s = s := by
  unfold storeMem isFlash
  rw [if_pos]
  simpa [or_comm] using h

/-- Any other store puts its bytes into the memory. -/
theorem storeMem_mem {a : Nat} (b : Bytes) (s : State) (hrom : 0x10000 ≤ a) (hflash : ¬ (0x10000000 ≤ a ∧ a < 0x10500000)) :
    storeMem a b s = { s with core := { s.core with mem := memStore 0 s.core.mem a b } } := by
  unfold storeMem isFlash
  rw [if_neg]
  simp only [Bool.or_eq_true, Bool.and_eq_true, decide_eq_true_eq]
  omega

/-- Outside program flash the core reads its memory (R494). -/
theorem coreByte_mem {s : State} {x : Nat} (h : ¬ (0x10000000 ≤ x ∧ x < 0x10500000)) : coreByte s x = memRead 0 s.core.mem x := by
  unfold coreByte
  rw [if_neg (by omega), if_neg (by omega), if_neg (by omega)]

/-- Program flash reads the active bank, whatever memory holds (R494). -/
theorem coreByte_flash {s : State} {x : Nat} (m : List Host.Cell) (h : 0x10000000 ≤ x ∧ x < 0x10500000) :
    coreByte { s with core := { s.core with mem := m } } x = coreByte s x := by
  unfold coreByte
  have hx : x < 0x10380000 ∨ 0x10380000 ≤ x ∧ x < 0x10480000 ∨ 0x10480000 ≤ x := by omega
  rcases hx with hx | hx | hx
  · rw [if_pos (by omega), if_pos (by omega)]
    rfl
  · rw [if_neg (by omega), if_pos hx, if_neg (by omega), if_pos hx]
    rfl
  · rw [if_neg (by omega), if_neg (by omega), if_pos (by omega), if_neg (by omega), if_neg (by omega), if_pos (by omega)]

/-- Bytes stored are read back in their place, and every other address as before. -/
theorem memRead_memStore (m : List Host.Cell) (a x : Nat) (b : Bytes) :
    memRead 0 (memStore 0 m a b) x = if a ≤ x ∧ x < a + b.length then b.getD (x - a) 0 else memRead 0 m x := by
  split
  case isTrue h =>
    obtain ⟨i, rfl⟩ := Nat.exists_eq_add_of_le h.1
    have hi : i < b.length := by omega
    rw [Laws.memRead_memStore_in 0 m a b i hi, Nat.add_sub_cancel_left, List.getD_eq_getElem _ _ hi]
  case isFalse h => exact Laws.memRead_memStore_out 0 m a b x (by omega)

/-- The byte that the core reads after an aligned store: the store's own where it reaches memory, the old one everywhere else (R494, R519). -/
theorem coreByte_storeMem {a n : Nat} {b : Bytes} (s : State) (x : Nat) (hn : n ∈ [1, 2, 4, 8]) (ha : a % n = 0) (hb : b.length = n) :
    coreByte (storeMem a b s) x =
      if a ≤ x ∧ x < a + n ∧ 0x10000 ≤ x ∧ ¬ (0x10000000 ≤ x ∧ x < 0x10500000) then b.getD (x - a) 0 else coreByte s x := by
  have halign : a % n = 0 ∧ (n = 1 ∨ n = 2 ∨ n = 4 ∨ n = 8) := ⟨ha, by simpa using hn⟩
  by_cases hro : a < 0x10000 ∨ 0x10000000 ≤ a ∧ a < 0x10500000
  · rw [storeMem_readOnly b s hro, if_neg]
    rcases halign with ⟨ha, rfl | rfl | rfl | rfl⟩ <;> omega
  rw [storeMem_mem b s (by omega) (by omega)]
  by_cases hx : 0x10000000 ≤ x ∧ x < 0x10500000
  · rw [coreByte_flash _ hx, if_neg (by omega)]
  rw [coreByte_mem hx, coreByte_mem hx, memRead_memStore, hb]
  exact if_congr (by omega) rfl rfl

/-- A load sees as many bytes as it names. -/
theorem length_loadBytes (s : State) (a n : Nat) : (loadBytes s a n).length = n := by
  induction n generalizing a with
  | zero => rfl
  | succ n ih => rw [loadBytes, List.length_cons, ih]

/-- Byte `i` of a load: the newest held store's that covers it, and otherwise the memory's (R374). -/
theorem getD_loadBytes (s : State) (a : Nat) {n i : Nat} (hi : i < n) :
    (loadBytes s a n).getD i 0 = (heldByte s.core.tdx.buffer (a + i)).getD (coreByte s (a + i)) := by
  induction n generalizing a i with
  | zero => omega
  | succ n ih =>
    unfold loadBytes
    cases i with
    | zero =>
      rw [List.getD_cons_zero, Nat.add_zero]
      split <;> simp [*]
    | succ i => rw [List.getD_cons_succ, ih (a + 1) (by omega), Nat.add_right_comm, Nat.add_assoc]

/-- The held byte of an address that no store after `h` covers (R374). -/
theorem heldByte_newest {older newer : List Held} {h : Held} {x : Nat} (hlo : h.addr ≤ x) (hhi : x < h.addr + h.bytes.length)
    (hnew : ∀ k ∈ newer, ¬ (k.addr ≤ x ∧ x < k.addr + k.bytes.length)) : heldByte (older ++ h :: newer) x = h.bytes[x - h.addr]? := by
  have hfind : newer.reverse.find? (fun k => decide (k.addr ≤ x) && decide (x < k.addr + k.bytes.length)) = none :=
    List.find?_eq_none.2 fun k hk => by simpa using hnew k (List.mem_reverse.1 hk)
  unfold heldByte
  simp [List.find?_append, hfind, hlo, hhi]

/-- No held store covers the address: none gives its byte (R374). -/
theorem heldByte_uncovered {l : List Held} {x : Nat} (h : ∀ k ∈ l, ¬ (k.addr ≤ x ∧ x < k.addr + k.bytes.length)) : heldByte l x = none := by
  have hfind : l.reverse.find? (fun k => decide (k.addr ≤ x) && decide (x < k.addr + k.bytes.length)) = none :=
    List.find?_eq_none.2 fun k hk => by simpa using h k (List.mem_reverse.1 hk)
  unfold heldByte
  rw [hfind]

/-- Settles O6: the bytes of an aligned store, and the bytes of a load behind the confirm buffer. -/
theorem memoryBytesOfLoadsAndStores : Obligations.MemoryBytesOfLoadsAndStores := by
  refine ⟨fun s a n b x hn ha hb => ⟨coreByte_storeMem s x hn ha hb, storeMem_frame a b s⟩, fun s a n i hi => ⟨length_loadBytes s a n, ?held, ?mem⟩⟩
  case held =>
    intro older newer h hbuf hlo hhi hnew
    rw [getD_loadBytes s a hi, hbuf, heldByte_newest hlo hhi hnew, List.getD_eq_getElem?_getD, List.getElem?_eq_getElem (by omega)]
    rfl
  case mem =>
    intro h
    rw [getD_loadBytes s a hi, heldByte_uncovered h]
    rfl

end Sys2Proof.Proofs
end

section
/-! The ALU and MULDIV groups and the immediate forms: the register result of each, as the numbers of R530 and R531. -/

namespace Sys2Proof.Proofs
open Sys2Proof Sys2Proof.Machine Sys2Proof.Safety

section Results
variable {s : State} {c : Instr} {rd : BitVec 5} {srcs : List (BitVec 5)} {f : Regs → Word} {v : Word}

/-- A register result whose shadow finds the same by its transform (R373). -/
theorem writesRd_of_coreAlu {g : Regs → Word} (hexec : exec c s = .next (settle (coreAlu rd srcs f g s))) (hf : Fetches s) (hrd : regOk rd = true)
    (hsrcs : srcs.all regOk = true) (hg : ∀ r, g r = f r) (hv : f s.core.r = v) : WritesRd c s rd v := by
  subst hv
  exact hexec.trans (congrArg (fun x => Host.Outcome.next (settle x)) (Laws.core_alu_transformed hf f g hrd hsrcs hg))

/-- A register result that the shadow repeats on the untransformed operands (R373). -/
theorem writesRd_of_coreStep (hexec : exec c s = .next (settle (coreStep (alu rd srcs f) s))) (hf : Fetches s) (hrd : regOk rd = true)
    (hsrcs : srcs.all regOk = true) (hv : f s.core.r = v) : WritesRd c s rd v := by
  subst hv
  exact hexec.trans (congrArg (fun x => Host.Outcome.next (settle x)) (Laws.core_alu hf f hrd hsrcs))

end Results

section Words
variable (a b : Word) (n : Nat)

theorem shiftLeft_eq_ofNat : a <<< n = BitVec.ofNat 32 (a.toNat * 2 ^ n) := by
  apply BitVec.eq_of_toNat_eq
  rw [BitVec.toNat_shiftLeft, BitVec.toNat_ofNat, Nat.shiftLeft_eq]

theorem ushiftRight_eq_ofNat : a >>> n = BitVec.ofNat 32 (a.toNat / 2 ^ n) := by
  apply BitVec.eq_of_toNat_eq
  rw [BitVec.toNat_ushiftRight, BitVec.toNat_ofNat, Nat.shiftRight_eq_div_pow, Nat.mod_eq_of_lt (Nat.lt_of_le_of_lt (Nat.div_le_self _ _) a.isLt)]

theorem sshiftRight_eq_ofInt : a.sshiftRight n = BitVec.ofInt 32 (a.toInt / 2 ^ n) := by
  rw [BitVec.sshiftRight, Int.shiftRight_eq_div_pow]
  norm_cast

theorem rotateRight_eq_or (hn : n < 32) : a.rotateRight n = a >>> n ||| a <<< (32 - n) := by
  rw [BitVec.rotateRight_def, Nat.mod_eq_of_lt hn]

theorem shiftLeft_eq_append (imm : BitVec 16) : (imm.zeroExtend 32) <<< 16 = imm ++ 0#16 := by
  ext i
  simp
  grind

theorem mul_eq_ofNat : a * b = BitVec.ofNat 32 (a.toNat * b.toNat) := by
  apply BitVec.eq_of_toNat_eq
  rw [BitVec.toNat_mul, BitVec.toNat_ofNat]

theorem sdiv_eq_ofInt : a.sdiv b = BitVec.ofInt 32 (a.toInt.tdiv b.toInt) := by
  apply BitVec.eq_of_toInt_eq
  rw [BitVec.toInt_sdiv, BitVec.toInt_ofInt]

theorem udiv_eq_ofNat : a.udiv b = BitVec.ofNat 32 (a.toNat / b.toNat) := by
  apply BitVec.eq_of_toNat_eq
  rw [BitVec.toNat_ofNat, Nat.mod_eq_of_lt (Nat.lt_of_le_of_lt (Nat.div_le_self _ _) a.isLt)]
  exact BitVec.toNat_udiv

theorem srem_eq_sub : a.srem b = a - a.sdiv b * b := by
  have hrem : a.srem b = BitVec.ofInt 32 (a.toInt.tmod b.toInt) := by
    rw [← BitVec.toInt_srem, BitVec.ofInt_toInt]
  rw [hrem, Int.tmod_def, Int.sub_eq_add_neg, BitVec.ofInt_add, BitVec.ofInt_neg, BitVec.ofInt_mul, BitVec.ofInt_toInt, BitVec.ofInt_toInt, ← sdiv_eq_ofInt,
    BitVec.mul_comm, sub_eq_add_neg]

theorem umod_eq_sub : a.umod b = a - a.udiv b * b := by
  have hadd : a.umod b + a.udiv b * b = a := by
    apply BitVec.eq_of_toNat_eq
    simpa [BitVec.toNat_add, BitVec.toNat_mul, Nat.mod_add_div'] using a.isLt
  rw [eq_sub_iff_add_eq, hadd]

end Words

/-- Settles O1: each immediate form and ALU instruction is a register result, of the number that R531 gives. -/
theorem aluWritesItsResult : Obligations.AluWritesItsResult := by
  intro s rd ra rb sh imm hf hrd hra hrb a b n
  have hone : [ra].all regOk = true := by simp [hra]
  have htwo : [ra, rb].all regOk = true := by simp [hra, hrb]
  have hn : n < 32 := Nat.mod_lt _ (by decide)
  refine ⟨?addi, ?andi, ?ori, ?xori, ?lui, ?add, ?sub, ?and, ?or, ?xor, ?sll, ?srl, ?sra, ?ror, ?slli, ?srli, ?srai, ?rori⟩
  case addi => exact writesRd_of_coreAlu rfl hf hrd hone (fun _ => Laws.shAdd_eq _ _) rfl
  case andi => exact writesRd_of_coreAlu rfl hf hrd hone (fun _ => Laws.shAnd_eq _ _) rfl
  case ori => exact writesRd_of_coreAlu rfl hf hrd hone (fun _ => Laws.shOr_eq _ _) rfl
  case xori => exact writesRd_of_coreAlu rfl hf hrd hone (fun _ => Laws.shXor_eq _ _) rfl
  case lui => exact writesRd_of_coreAlu rfl hf hrd rfl (fun _ => Laws.shData_eq _) (shiftLeft_eq_append imm)
  case add => exact writesRd_of_coreAlu rfl hf hrd htwo (fun _ => Laws.shAdd_eq _ _) rfl
  case sub => exact writesRd_of_coreAlu rfl hf hrd htwo (fun _ => Laws.shSub_eq _ _) rfl
  case and => exact writesRd_of_coreAlu rfl hf hrd htwo (fun _ => Laws.shAnd_eq _ _) rfl
  case or => exact writesRd_of_coreAlu rfl hf hrd htwo (fun _ => Laws.shOr_eq _ _) rfl
  case xor => exact writesRd_of_coreAlu rfl hf hrd htwo (fun _ => Laws.shXor_eq _ _) rfl
  case sll => exact writesRd_of_coreAlu rfl hf hrd htwo (fun _ => Laws.shSll_eq _ _) (shiftLeft_eq_ofNat a n)
  case srl => exact writesRd_of_coreAlu rfl hf hrd htwo (fun _ => Laws.shSrl_eq _ _) (ushiftRight_eq_ofNat a n)
  case sra => exact writesRd_of_coreAlu rfl hf hrd htwo (fun _ => Laws.shSra_eq _ _) (sshiftRight_eq_ofInt a n)
  case ror => exact writesRd_of_coreAlu rfl hf hrd htwo (fun _ => Laws.shRor_eq _ _) (rotateRight_eq_or a n hn)
  case slli => exact writesRd_of_coreAlu rfl hf hrd hone (fun _ => Laws.shSll_eq _ _) (shiftLeft_eq_ofNat a _)
  case srli => exact writesRd_of_coreAlu rfl hf hrd hone (fun _ => Laws.shSrl_eq _ _) (ushiftRight_eq_ofNat a _)
  case srai => exact writesRd_of_coreAlu rfl hf hrd hone (fun _ => Laws.shSra_eq _ _) (sshiftRight_eq_ofInt a _)
  case rori => exact writesRd_of_coreAlu rfl hf hrd hone (fun _ => Laws.shRor_eq _ _) (rotateRight_eq_or a _ sh.isLt)

/-- Settles O2: products, quotients and remainders as integers; the divisor 0 is the branch the model takes first. -/
theorem mulDivWritesItsResult : Obligations.MulDivWritesItsResult := by
  intro s rd ra rb hf hrd hra hrb a b q qu
  have htwo : [ra, rb].all regOk = true := by simp [hra, hrb]
  have hq : (if b == 0 then 0xFFFFFFFF else a.sdiv b) = q := by simp only [q, beq_iff_eq, sdiv_eq_ofInt]
  have hqu : (if b == 0 then 0xFFFFFFFF else a.udiv b) = qu := by simp only [qu, beq_iff_eq, udiv_eq_ofNat]
  refine ⟨?mul, ?mulh, ?mulhu, ?div, ?divu, ?rem, ?remu⟩
  case mul => exact writesRd_of_coreAlu rfl hf hrd htwo (fun _ => Laws.shMul_eq _ _) (mul_eq_ofNat a b)
  case mulh => exact writesRd_of_coreStep rfl hf hrd htwo rfl
  case mulhu => exact writesRd_of_coreStep rfl hf hrd htwo rfl
  case div => exact writesRd_of_coreStep rfl hf hrd htwo hq
  case divu => exact writesRd_of_coreStep rfl hf hrd htwo hqu
  case rem =>
    refine writesRd_of_coreStep rfl hf hrd htwo ?_
    have hrem : a.srem b = a - a.sdiv b * b := srem_eq_sub a b
    simp only [← hq, beq_iff_eq]
    split
    · rfl
    · exact hrem
  case remu =>
    refine writesRd_of_coreStep rfl hf hrd htwo ?_
    have hrem : a.umod b = a - a.udiv b * b := umod_eq_sub a b
    simp only [← hqu, beq_iff_eq]
    split
    · rfl
    · exact hrem

end Sys2Proof.Proofs
end

section
/-! Branches, jumps, calls and windowed calls and returns: where each goes, and what it leaves of lk and the window (R522, R525, R526, R529). -/

namespace Sys2Proof.Proofs
open Sys2Proof Sys2Proof.Machine Sys2Proof.Safety

section Instruction
variable {s s₁ : State} {c : Instr} {g : State → Word → Word → Word × Word} {f : State → CoreRes} {res ea : Word}

/-- What an instruction does whose operation answers a state and whose shadow finds the same (R373). -/
theorem does_of_ok (hexec : exec c s = .next (settle (coreWith g f s))) (hf : Fetches s) (hok : f (atInstr s) = .ok (s₁, res, ea))
    (hg : g (atInstr s) res ea = (res, ea)) : Does c s (foldWindow res ea s₁) := by
  unfold Does
  rw [hexec, Laws.coreWith_ok hf hok, hg]
  rfl

/-- The trap of an instruction whose operation answers an error (R533). -/
theorem traps_of_error {cause : Nat} {a : Word} (hexec : exec c s = .next (settle (coreWith g f s))) (hf : Fetches s)
    (herr : f (atInstr s) = .error (cause, a)) : Traps c s cause a := by
  unfold Traps Does
  rw [hexec, Laws.coreWith_trap hf herr]

end Instruction

section Jumps
variable {s u : State} {c : Instr} {g : State → Word → Word → Word × Word} {f : State → CoreRes} {target : Word}

/-- A jump to the exit address in user mode ends the thread, once the windows have matched (R377, R525). -/
theorem jumpTo_exit (hx : Exits s target) (hc : Compared s) :
    jumpTo target (atInstr s) = .ok (threadExit (closeWindow (atInstr s)), target, target) := by
  obtain ⟨rfl, hu⟩ := hx
  unfold jumpTo
  rw [if_pos (by simp [exitAddr, hu]), Laws.serial_compared hc]

/-- A jump to an aligned target moves the pc alone (R529). -/
theorem jumpTo_aligned (hx : ¬ Exits s target) (ha : target.toNat % 4 = 0) :
    jumpTo target (atInstr s) = .ok ({ atInstr s with core := { (atInstr s).core with r := { s.core.r with pc := target } } }, target, target) := by
  have hne : ¬ (target.toNat == exitAddr && (atInstr s).core.r.psr.u) = true := by
    rw [Laws.atInstr_r, Bool.and_eq_true, beq_iff_eq]
    rintro ⟨ht, hu⟩
    exact hx ⟨BitVec.eq_of_toNat_eq ht, hu⟩
  unfold jumpTo
  rw [if_neg hne, if_neg (by simp [ha])]
  simp [modRegs]

/-- A jump to a target that is no multiple of 4 raises ALIGN (R529). -/
theorem jumpTo_misaligned (ha : target.toNat % 4 ≠ 0) : jumpTo target u = .error (0x05, target) := by
  unfold jumpTo
  rw [if_neg, if_pos (by simp [ha])]
  simp only [Bool.and_eq_true, beq_iff_eq]
  rintro ⟨ht, -⟩
  exact ha (by rw [ht]; rfl)

/-- An instruction that jumps to a target its shadow finds too (R525, R529). -/
theorem jumpsTo_of_jumpTo (hexec : exec c s = .next (settle (coreWith g f s))) (hf : Fetches s) (hjump : f (atInstr s) = jumpTo target (atInstr s))
    (hg : g (atInstr s) target target = (target, target)) : JumpsTo c s target :=
  ⟨fun hx hc => does_of_ok hexec hf (hjump.trans (jumpTo_exit hx hc)) hg,
   fun hx ha => does_of_ok hexec hf (hjump.trans (jumpTo_aligned hx ha)) hg,
   fun ha => traps_of_error hexec hf (hjump.trans (jumpTo_misaligned ha))⟩

end Jumps

section Targets
variable (s : State) (off : Word)

/-- Four times an offset, as a shift (R529). -/
theorem shiftLeft_two_eq : off <<< 2 = 4 * off := by
  rw [BitVec.shiftLeft_eq_mul_twoPow, BitVec.mul_comm]
  rfl

/-- The target of a branch is relative to the instruction itself (R529). -/
theorem branchTarget_atInstr : branchTarget (atInstr s) off = s.core.r.pc + 4 * off := by
  rw [branchTarget, Laws.atInstr_r, shiftLeft_two_eq]

/-- The shadow finds the same target (R373). -/
theorem shTarget_eq (r : Regs) : shTarget r off = r.pc + 4 * off := by
  rw [shTarget, Laws.shAdd_eq, shiftLeft_two_eq]

/-- A target that the shadow finds by adding 0 is the register's (R373). -/
theorem shAdd_zero : shAdd off 0 = off := by
  rw [Laws.shAdd_eq]
  simp

end Targets

section Branching
variable {s : State} {c : Instr} {ok : Bool} {taken shadow : Regs → Bool} {off : Word} {p : Prop}

/-- A compare-and-branch whose relation is `p`, and whose shadow takes it as the primary does (R373, R529). -/
theorem branches_of_coreBranch (hexec : exec c s = .next (settle (coreBranch ok taken shadow off s))) (hf : Fetches s) (hok : ok = true)
    (hshadow : ∀ r, shadow r = taken r) (hp : taken s.core.r = true ↔ p) : Branches c s p (s.core.r.pc + 4 * off) := by
  refine ⟨fun h => ?_, fun h => ?_⟩
  · have ht : taken (atInstr s).core.r = true := by rw [Laws.atInstr_r]; exact hp.2 h
    refine jumpsTo_of_jumpTo hexec hf ?_ ?_
    · rw [branch, if_pos hok, if_pos ht, branchTarget_atInstr]
    · rw [shBranch, hshadow, if_pos ht, shTarget_eq, Laws.atInstr_r]
  · have ht : ¬ taken (atInstr s).core.r = true := by rw [Laws.atInstr_r]; exact fun ht => h (hp.1 ht)
    refine does_of_ok (s₁ := { atInstr s with core := { (atInstr s).core with r := { s.core.r with pc := s.core.r.pc + 4 } } }) hexec hf ?_ ?_
    · rw [branch, if_pos hok, if_neg ht, nextPc, modRegs, Laws.atInstr_r]
    · rw [shBranch, hshadow, if_neg ht]

end Branching

/-- Settles O7: each of the ten is a compare-and-branch of its relation. -/
theorem branchesGoToTheirTarget : Obligations.BranchesGoToTheirTarget := by
  intro s ra rb off i6 o10 hf hra hrb a b far near
  have htwo : (regOk ra && regOk rb) = true := by simp [hra, hrb]
  have hi : (i6.signExtend 32).toInt = i6.toInt := BitVec.toInt_signExtend_of_le (by decide)
  refine ⟨?beq, ?bne, ?blt, ?bge, ?bltu, ?bgeu, ?beqi, ?bnei, ?blti, ?bgei⟩
  case beq => exact branches_of_coreBranch rfl hf htwo (fun _ => Laws.shEq_eq _ _) beq_iff_eq
  case bne => exact branches_of_coreBranch rfl hf htwo (fun _ => congrArg (!·) (Laws.shEq_eq _ _)) bne_iff_ne
  case blt => exact branches_of_coreBranch rfl hf htwo (fun _ => Laws.shSlt_eq _ _) BitVec.slt_iff_toInt_lt
  case bge => exact branches_of_coreBranch rfl hf htwo (fun _ => congrArg (!·) (Laws.shSlt_eq _ _)) (by simp [a, b, BitVec.slt_eq_decide])
  case bltu => exact branches_of_coreBranch rfl hf htwo (fun _ => Laws.shUlt_eq _ _) (by simp [a, b, BitVec.ult])
  case bgeu => exact branches_of_coreBranch rfl hf htwo (fun _ => congrArg (!·) (Laws.shUlt_eq _ _)) (by simp [a, b, BitVec.ult])
  case beqi => exact branches_of_coreBranch rfl hf hra (fun _ => Laws.shEq_eq _ _) (by rw [beq_iff_eq, ← BitVec.toInt_inj, hi])
  case bnei => exact branches_of_coreBranch rfl hf hra (fun _ => congrArg (!·) (Laws.shEq_eq _ _)) (by rw [bne_iff_ne, ne_eq, ← BitVec.toInt_inj, hi])
  case blti => exact branches_of_coreBranch rfl hf hra (fun _ => Laws.shSlt_eq _ _) (by rw [BitVec.slt_iff_toInt_lt, hi])
  case bgei => exact branches_of_coreBranch rfl hf hra (fun _ => congrArg (!·) (Laws.shSlt_eq _ _)) (by simp [a, BitVec.slt_eq_decide, hi])

section Calls
variable {s : State} {c : Instr} {g : Regs → Word} {f : State → CoreRes} {target : Word}

/-- A call without a window: lk and the pc, or ALIGN (R526, R529). -/
theorem calls_of_callTo (hexec : exec c s = .next (settle (coreWith (shCall g) f s))) (hf : Fetches s) (hcall : f (atInstr s) = callTo target (atInstr s))
    (hg : g s.core.r = target) :
    (target.toNat % 4 = 0 → Does c s (retired { s.core.r with lk := s.core.r.pc + 4, pc := target } target (s.core.r.pc + 4) (atInstr s))) ∧
    (target.toNat % 4 ≠ 0 → Traps c s 0x05 target) := by
  refine ⟨fun ha => does_of_ok hexec hf (hcall.trans ?_) ?_, fun ha => traps_of_error hexec hf (hcall.trans ?_)⟩
  · rw [callTo, if_neg (by simp [ha]), modRegs, Laws.atInstr_r]
  · rw [shCall, Laws.atInstr_r, Laws.shAdd_eq, hg]
  · rw [callTo, if_pos (by simp [ha])]

/-- A windowed call with room in the ring slides the window by one frame (R522, R526). -/
theorem slides_of_callWindow (hexec : exec c s = .next (settle (coreWith (shCall g) f s))) (hf : Fetches s) (hcall : f (atInstr s) = callWindow target (atInstr s))
    (hg : g s.core.r = target) (hres : s.core.r.res < 7) (ha : target.toNat % 4 = 0) :
    Does c s (retired { s.core.r with cwp := (s.core.r.cwp + 1) % 8, res := s.core.r.res + 1, lk := s.core.r.pc + 4, pc := target } target (s.core.r.pc + 4) (atInstr s)) := by
  refine does_of_ok hexec hf (hcall.trans ?_) ?_
  · unfold callWindow windowTrap roomIn
    simp only [Laws.atInstr_r]
    rw [if_neg (by simpa using hres), if_pos hres]
    simp [ha, slide, modRegs, atInstr]
  · rw [shCall, Laws.atInstr_r, Laws.shAdd_eq, hg]

end Calls

/-- Settles O8: jumps and returns are jumps to their target, calls set lk besides. -/
theorem jumpsAndCallsGoToTheirTarget : Obligations.JumpsAndCallsGoToTheirTarget := by
  intro s ra off hf hra here a Calls
  refine ⟨?j, ?jr, ?ret, ?call, ?callr⟩
  case j => exact jumpsTo_of_jumpTo rfl hf (by rw [branchTarget_atInstr]) (by rw [shJump, shTarget_eq, Laws.atInstr_r])
  case jr => exact jumpsTo_of_jumpTo rfl hf (by rw [if_pos hra, Laws.atInstr_r]) (by rw [shJump, shAdd_zero, Laws.atInstr_r])
  case ret => exact jumpsTo_of_jumpTo rfl hf (by rw [Laws.atInstr_r]) (by rw [shJump, shAdd_zero, Laws.atInstr_r])
  case call => exact calls_of_callTo rfl hf (by rw [branchTarget_atInstr]) (shTarget_eq ..)
  case callr => exact calls_of_callTo rfl hf (by rw [if_pos hra, Laws.atInstr_r]) (shAdd_zero _)

/-- Settles O9: with room in the ring no window trap comes between the slide and the jump. -/
theorem windowedCallsSlide : Obligations.WindowedCallsSlide := by
  intro s ra off hf hra r here a Slides
  refine ⟨?callw, ?callwr, ?retw, ?exit⟩
  case callw => exact slides_of_callWindow rfl hf (by rw [branchTarget_atInstr]) (shTarget_eq ..)
  case callwr => exact slides_of_callWindow rfl hf (by rw [if_pos hra, Laws.atInstr_r]) (shAdd_zero _)
  case retw =>
    intro hres ha hx
    have hne : ¬ (r.lk.toNat == exitAddr && r.psr.u) = true := by
      rw [Bool.and_eq_true, beq_iff_eq]
      exact fun ⟨ht, hu⟩ => hx ⟨BitVec.eq_of_toNat_eq ht, hu⟩
    refine does_of_ok rfl hf (s₁ := { atInstr s with core := { (atInstr s).core with r := { r with cwp := (r.cwp + 7) % 8, res := r.res - 1, pc := r.lk } } }) ?_ ?_
    · unfold returnWindow windowTrap roomOut
      simp only [Laws.atInstr_r]
      rw [if_neg hne, if_neg (by simpa using hres), if_pos hres]
      simp [r, ha, slideBack, modRegs, atInstr]
    · rw [shJump, shAdd_zero, Laws.atInstr_r]
  case exit =>
    intro hx hc
    refine does_of_ok rfl hf ?_ ?_ (res := r.lk) (ea := r.lk)
    · unfold returnWindow
      simp only [Laws.atInstr_r]
      rw [if_pos (by simp [r, hx.1, hx.2, exitAddr]), Laws.serial_compared hc]
    · rw [shJump, shAdd_zero, Laws.atInstr_r]

end Sys2Proof.Proofs
end

section
/-! Trap entry, the PRIV group and the control-register instructions, and the save records of the register windows (R521 to R524, R530, R532, R533). -/

namespace Sys2Proof.Proofs
open Sys2Proof Sys2Proof.Machine Sys2Proof.Safety

section Trap
variable {s : State} {cause : Nat} {epc eaddr : Word}

/-- With a frame free, a trap entry slides the window by one (R522). -/
theorem slideIn_free {pc : Word} (hres : s.core.r.res < 7) : slideIn pc s = some (slide s) := by
  unfold slideIn roomIn
  rw [if_pos hres, Option.map_some]

/-- Trap entry with a frame free and no TDX window open: the state saved, supervisor mode, one window on, the pc at the vector (R522, R532). -/
theorem enterTrap_free (hres : s.core.r.res < 7) (hshut : s.core.tdx.open_ = false) :
    enterTrap cause epc eaddr s = { s with core := { s.core with
      epc := epc, epsr := s.core.r.psr, ecause := cause, eaddr := eaddr,
      r := { s.core.r with psr := { s.core.r.psr with u := false, ie := false }, cwp := (s.core.r.cwp + 1) % 8, res := s.core.r.res + 1, pc := s.core.vbr + BitVec.ofNat 32 (4 * cause) } } } := by
  unfold enterTrap
  dsimp only
  rw [Laws.closeWindow_shut hshut, slideIn_free hres]
  rfl

/-- What Smisa reports of a trap in supervisor mode (R533). -/
def reported (cause : Nat) (s : State) : State := match cause with
  | 0x01 => issue 0x01 0x03 0 s
  | 0x02 => issue 0x01 0x02 0 s
  | 0x03 => issue 0x01 0x02 0 s
  | 0x04 => issue 0x01 0x02 0 s
  | 0x0A => issue 0x01 0x04 0 s
  | _ => s

/-- With a frame free, a trap keeps its cause: the hardware's entry, then the extension's fault or Smisa's report (R522, R533, R549). -/
theorem trap_free (hres : s.core.r.res < 7) (hshut : s.core.tdx.open_ = false) (htw : s.core.r.psr.tw = false) :
    trap cause eaddr s =
      if s.core.r.psr.u then extFault cause s.core.r.pc eaddr (enterTrap cause s.core.r.pc eaddr s)
      else reported cause (enterTrap cause s.core.r.pc eaddr s) := by
  unfold trap
  dsimp only
  rw [if_neg (by simp [htw]), Laws.closeWindow_shut hshut, slideIn_free hres]
  rfl

/-- With no window open, a trap waits for the closed ones alone (R379). -/
theorem trapStep_shut (hshut : s.core.tdx.open_ = false) :
    trapStep cause eaddr s = if s.core.r.psr.tdx = true ∧ s.core.tdx.closed ≠ [] then s else trap cause eaddr s := by
  unfold trapStep mustWait
  rw [Laws.closeWindow_shut hshut]
  exact if_congr (by simp) rfl rfl

end Trap

/-- Settles O14: trap entry with a frame free, then what Smisa does with the cause. -/
theorem trapEntrySaves : Obligations.TrapEntrySaves := by
  intro s cause epc eaddr hres hshut
  refine ⟨enterTrap_free hres hshut, trapStep_shut hshut, ?double, ?silent, ?illegal, ?access, ?user⟩
  case double =>
    intro htw
    unfold trap
    rw [if_pos htw]
    rfl
  case silent =>
    intro htw hu hcause
    rw [trap_free hres hshut htw, if_neg (by simp [hu])]
    fin_cases hcause <;> rfl
  case illegal =>
    rintro htw hu rfl
    rw [trap_free hres hshut htw, if_neg (by simp [hu])]
    rfl
  case access =>
    intro htw hu hcause
    rw [trap_free hres hshut htw, if_neg (by simp [hu])]
    fin_cases hcause <;> rfl
  case user =>
    intro htw hu
    rw [trap_free hres hshut htw, if_pos hu]

section Privileged
variable {s s₁ : State} {c : Instr} {f : State → CoreRes} {res ea : Word}

/-- In supervisor mode an instruction of the PRIV group works on the state with the window closed, once every one before it has matched (R377, R530). -/
theorem privileged_compared (hu : s.core.r.psr.u = false) (hc : Compared s) : privileged f (atInstr s) = f (closeWindow (atInstr s)) := by
  unfold privileged
  rw [Laws.atInstr_r, if_neg (by simp [hu]), Laws.serial_compared hc]

/-- What an instruction of the PRIV group does, from its operation's answer. -/
theorem does_of_privileged (hexec : exec c s = .next (settle (coreStep (fun s => privileged f s) s))) (hf : Fetches s) (hu : s.core.r.psr.u = false)
    (hc : Compared s) (hok : f (closeWindow (atInstr s)) = .ok (s₁, res, ea)) : Does c s (foldWindow res ea s₁) :=
  does_of_ok hexec hf ((privileged_compared hu hc).trans hok) rfl

/-- The trap of such an instruction. -/
theorem traps_of_privileged {cause : Nat} {a : Word} (hexec : exec c s = .next (settle (coreStep (fun s => privileged f s) s))) (hf : Fetches s)
    (hu : s.core.r.psr.u = false) (hc : Compared s) (herr : f (closeWindow (atInstr s)) = .error (cause, a)) : Traps c s cause a :=
  traps_of_error hexec hf ((privileged_compared hu hc).trans herr)

end Privileged

section Records
variable {s : State}

/-- The registers at an instruction whose window has been closed. -/
theorem closed_r (s : State) : (closeWindow (atInstr s)).core.r = s.core.r := by
  rw [Laws.closeWindow_r, Laws.atInstr_r]

/-- A window spilled where 52 bytes remain above WLIMIT (R523). -/
theorem windowSpill_room (h : s.core.r.wlimit + 52 ≤ s.core.r.wsp) :
    windowSpill s = .ok ({ storeMem (s.core.r.wsp - 52) (saveRecord s.core.r (oldestFrame s.core.r)) s with
      core := { (storeMem (s.core.r.wsp - 52) (saveRecord s.core.r (oldestFrame s.core.r)) s).core with
        r := { s.core.r with pc := s.core.r.pc + 4, wsp := s.core.r.wsp - 52, depth := (s.core.r.depth + 1) % 65536, res := s.core.r.res - 1 } } }, 0, 0) := by
  unfold windowSpill spillOne
  dsimp only
  rw [if_pos h]
  simp [nextPc, modRegs]

/-- With fewer than 52 bytes, WDEPTH (R523). -/
theorem windowSpill_full (h : s.core.r.wsp < s.core.r.wlimit + 52) : windowSpill s = .error (0x09, 0) := by
  unfold windowSpill spillOne
  dsimp only
  rw [if_neg (by omega)]

/-- Registers put one after another into a frame of the ring: the frame holds them, every other register is as it was. -/
theorem getD_fillFrame {α : Type} {m : Nat} (ws : Nat → α) (d : α) (base n i : Nat) (hfit : base + n ≤ m) (g : Vector α m) :
    ((List.range n).foldl (fun g j => g.setIfInBounds (base + j) (ws j)) g).getD i d = if base ≤ i ∧ i < base + n then ws (i - base) else g.getD i d := by
  induction n with
  | zero => simp
  | succ n ih =>
    rw [List.range_succ, List.foldl_concat]
    by_cases hi : base + n = i
    · subst hi
      rw [getD_setIfInBounds_same (by omega), if_pos (by omega), Nat.add_sub_cancel_left]
    · rw [getD_setIfInBounds_other hi, ih (by omega)]
      exact if_congr (by omega) rfl rfl

/-- The ring after the record at WSP has been taken into the frame below the oldest resident one (R523). -/
def refilledRing (s : State) : Vector Word 96 :=
  (List.range 12).foldl (fun g j => g.setIfInBounds ((oldestFrame s.core.r + 7) % 8 * 12 + j)
    (((List.range 12).map (fun i => BitVec.ofNat 32 (leNat (loadBytes s (s.core.r.wsp + 4 * i) 4)))).getD j 0)) s.core.r.ring

/-- Register `i` of that ring. -/
theorem getD_refilledRing (i : Nat) :
    (refilledRing s).getD i 0 = if i / 12 = (oldestFrame s.core.r + 7) % 8 then BitVec.ofNat 32 (leNat (loadBytes s (s.core.r.wsp + 4 * (i % 12)) 4))
      else s.core.r.ring.getD i 0 := by
  unfold refilledRing
  rw [getD_fillFrame _ _ _ _ _ (by omega)]
  split
  case isTrue h =>
    have hi : i - (oldestFrame s.core.r + 7) % 8 * 12 = i % 12 := by omega
    rw [if_pos (by omega), hi]
    simp [Nat.mod_lt]
  case isFalse h => rw [if_neg (by omega)]

/-- With no record left, WDEPTH (R523). -/
theorem windowFill_empty (h : s.core.r.depth = 0) : windowFill s = .error (0x09, 0) := by
  unfold windowFill
  rw [if_pos (by simp [h])]

/-- A record whose seal does not match raises WSEAL (R523). -/
theorem windowFill_broken (h : s.core.r.depth ≠ 0) (hseal : sealOk s = false) : windowFill s = .error (0x0A, 0) := by
  unfold windowFill refillOne
  dsimp only
  rw [if_neg (by simpa using h), if_neg (by simp [hseal])]

/-- A record whose seal matches is taken back (R523). -/
theorem windowFill_sealed (h : s.core.r.depth ≠ 0) (hseal : sealOk s = true) :
    windowFill s = .ok ({ s with core := { s.core with
      r := { s.core.r with pc := s.core.r.pc + 4, wsp := s.core.r.wsp + 52, depth := s.core.r.depth - 1, res := s.core.r.res + 1, ring := refilledRing s } } }, 0, 0) := by
  unfold windowFill refillOne
  dsimp only
  rw [if_neg (by simpa using h), if_pos hseal]
  unfold refilledRing nextPc modRegs
  with_reducible rfl

end Records

/-- Settles O10: each instruction moves one record, and traps where there is no room for it, none left, or a broken seal. -/
theorem spillAndFill : Obligations.SpillAndFill := by
  intro s hf hu hc u r
  have hr : u.core.r = r := closed_r s
  refine ⟨?spill, ?full, ?empty, ?broken, ?fill⟩
  case spill =>
    intro hroom
    have hdo := does_of_privileged rfl hf hu hc (windowSpill_room (by rwa [closed_r])) (c := .wspill)
    rwa [closed_r] at hdo
  case full => exact fun hfull => traps_of_privileged rfl hf hu hc (windowSpill_full (by rwa [hr]))
  case empty => exact fun hempty => traps_of_privileged rfl hf hu hc (windowFill_empty (by rwa [hr]))
  case broken => exact fun hdepth hseal => traps_of_privileged rfl hf hu hc (windowFill_broken (by rwa [hr]) hseal)
  case fill =>
    intro hdepth hseal
    refine ⟨refilledRing u, ?_, fun i _ => ?_⟩
    · have hdo := does_of_privileged rfl hf hu hc (windowFill_sealed (by rwa [hr]) hseal) (c := .wfill)
      rwa [closed_r] at hdo
    · have hf : (oldestFrame r + 7) % 8 = (r.cwp + 8 - (r.res - 1) + 7) % 8 := by
        unfold oldestFrame
        omega
      rw [getD_refilledRing, hr, hf]

section Return
variable {s : State} {r : Regs} {epc : Word} {epsr : Psr}

/-- An operation that answers 0 at the next instruction changes the pc alone. -/
theorem ok_nextPc (hr : s.core.r = r) : (.ok (nextPc s, 0, 0) : CoreRes) = .ok ({ s with core := { s.core with r := { r with pc := r.pc + 4 } } }, 0, 0) := by
  subst hr
  rfl

/-- A return from a window trap leaves the window where it stands (R522, R532). -/
theorem trapReturn_windowTrap (hr : s.core.r = r) (hepc : s.core.epc = epc) (hepsr : s.core.epsr = epsr) (htw : r.psr.tw = true) :
    trapReturn s = .ok (reschedule { s with core := { s.core with r := { r with psr := epsr, pc := epc } } }, epc, 0) := by
  subst hr hepc hepsr
  unfold trapReturn
  dsimp only
  rw [if_pos htw]
  rfl

/-- Any other return from a trap slides the window back (R522, R532). -/
theorem trapReturn_slides (hr : s.core.r = r) (hepc : s.core.epc = epc) (hepsr : s.core.epsr = epsr) (htw : r.psr.tw = false) (hres : 1 < r.res) :
    trapReturn s = .ok (reschedule { s with core := { s.core with r := { r with cwp := (r.cwp + 7) % 8, res := r.res - 1, psr := epsr, pc := epc } } }, epc, 0) := by
  subst hr hepc hepsr
  unfold trapReturn slideOut roomOut
  dsimp only
  rw [if_neg (by simp [htw]), if_pos hres]
  rfl

/-- A read of a listed control register other than CYCLE (R521, R377). -/
theorem csrRead1_listed {rd : BitVec 5} {n : Nat} {v : Word} (hrd : regOk rd = true) (hu : s.core.r.psr.u = false) (hc : Compared s)
    (hv : csrRead (atInstr s).core n = some v) (hn : n ≠ 0x30) :
    csrRead1 rd n (atInstr s) = .ok ({ closeWindow (atInstr s) with core := { (closeWindow (atInstr s)).core with r := rdAndNext s.core.r rd v } }, v, 0) := by
  unfold csrRead1
  rw [if_pos (by simp [hrd, hu]), hv]
  dsimp only
  rw [Laws.serial_compared hc, if_neg (by simpa using hn), Laws.nextPc_writeReg, closed_r]

/-- A read of CYCLE latches its high half (R521). -/
theorem csrRead1_cycle {rd : BitVec 5} (hrd : regOk rd = true) (hc : Compared s) :
    csrRead1 rd 0x30 (atInstr s) = .ok ({ closeWindow (atInstr s) with core := { (closeWindow (atInstr s)).core with
      r := rdAndNext s.core.r rd (BitVec.ofNat 32 (atInstr s).core.cycle), cycleH := (closeWindow (atInstr s)).core.cycle / 4294967296 } }, BitVec.ofNat 32 (atInstr s).core.cycle, 0) := by
  have hv : csrRead (atInstr s).core 0x30 = some (BitVec.ofNat 32 (atInstr s).core.cycle) := rfl
  unfold csrRead1
  rw [if_pos (by simp [hrd]), hv]
  dsimp only
  rw [Laws.serial_compared hc, if_pos (beq_self_eq_true _), Laws.nextPc_writeReg]
  dsimp only
  rw [closed_r]

/-- A read of an unlisted number is ILLEGAL (R521; log 93). -/
theorem csrRead1_unlisted {rd : BitVec 5} {n : Nat} (h : csrRead s.core n = none) : csrRead1 rd n s = .error (0x01, 0) := by
  unfold csrRead1
  split
  · rw [h]
  · rfl

/-- A write of a listed control register (R521, R377). -/
theorem csrWrite1_listed {ra : BitVec 5} {n : Nat} {k : Core} (hra : regOk ra = true) (hu : s.core.r.psr.u = false) (hc : Compared s)
    (hk : csrWrite (closeWindow (atInstr s)).core n (readReg s.core.r ra) = some k) :
    csrWrite1 ra n (atInstr s) = .ok (nextPc { closeWindow (atInstr s) with core := k }, 0, 0) := by
  have hlisted : (csrRead (atInstr s).core n).isSome = true := by
    have h := isSome_csrWrite (closeWindow (atInstr s)).core n (readReg s.core.r ra)
    rw [hk, Option.isSome_some, eq_comm, isSome_csrRead] at h
    exact (isSome_csrRead _ n).2 h
  unfold csrWrite1
  rw [if_pos (by simp [hra, hu, hlisted]), Laws.serial_compared hc, closed_r, hk]

/-- A write of an unlisted number is ILLEGAL (R521; log 93). -/
theorem csrWrite1_unlisted {ra : BitVec 5} {n : Nat} (h : csrRead s.core n = none) : csrWrite1 ra n s = .error (0x01, 0) := by
  unfold csrWrite1
  rw [if_neg (by simp [h])]

end Return

/-- Settles O11: each takes effect on the state whose window has been closed. -/
theorem privilegedInstructions : Obligations.PrivilegedInstructions := by
  intro s rd ra n hf hu hc u c r
  have hr : c.core.r = r := closed_r s
  have hepc : c.core.epc = s.core.epc := by rw [Laws.closeWindow_epc, Laws.atInstr_epc]
  have hepsr : c.core.epsr = s.core.epsr := by rw [Laws.closeWindow_epsr, Laws.atInstr_epsr]
  have hunlisted {k : Core} (h : csrWrite k n.toNat (readReg r ra) = none) : csrRead u.core n.toNat = none := by
    have hk := isSome_csrWrite k n.toNat (readReg r ra)
    rw [h, Option.isSome_none, eq_comm, Bool.eq_false_iff, ne_eq, isSome_csrRead, ← isSome_csrRead u.core] at hk
    simpa using hk
  refine ⟨?slide, ?window, ?wfi, ?halt, ?read, ?cycle, ?write, ?readUnlisted, ?writeUnlisted⟩
  case slide => exact fun htw hres => does_of_privileged rfl hf hu hc (trapReturn_slides hr hepc hepsr htw hres)
  case window => exact fun htw => does_of_privileged rfl hf hu hc (trapReturn_windowTrap hr hepc hepsr htw)
  case wfi =>
    have hpend : c.core.pend.isEmpty = s.core.pend.isEmpty := by rw [Laws.closeWindow_pend, Laws.atInstr_pend]
    refine does_of_privileged rfl hf hu hc ?_
    rw [← hpend]
    exact ok_nextPc hr
  case halt => exact does_of_privileged rfl hf hu hc (ok_nextPc hr)
  case read => exact fun v hrd hv hn => does_of_ok rfl hf (csrRead1_listed hrd hu hc hv hn) rfl
  case cycle => exact fun hrd => does_of_ok rfl hf (csrRead1_cycle hrd hc) rfl
  case write => exact fun k hra hk => does_of_ok rfl hf (csrWrite1_listed hra hu hc hk) rfl
  case readUnlisted => exact fun _ h => traps_of_error rfl hf (csrRead1_unlisted h)
  case writeUnlisted => exact fun _ h => traps_of_error rfl hf (csrWrite1_unlisted (hunlisted h))

end Sys2Proof.Proofs
end

section
/-! What a reported condition leaves of the core and of the banks: nothing changes there but the core's halt and the seconds of R510, whatever the message calls for (R350 to R365). -/

namespace Sys2Proof.Proofs
open Sys2Proof Sys2Proof.Machine

/-- A part of the state that every step of a fold keeps, the fold keeps. -/
theorem foldl_keeps {α β : Type} {part : State → β} {f : State → α → State} (h : ∀ s x, part (f s x) = part s) (l : List α) (s : State) :
    part (l.foldl f s) = part s := by
  induction l generalizing s with
  | nil => rfl
  | cons x l ih => rw [List.foldl_cons, ih, h]

section Outputs
variable (s : State)

@[simp] theorem takeHold_core (p : Nat → Bool) : (takeHold s p).core = s.core := rfl
@[simp] theorem takeHold_boot (p : Nat → Bool) : (takeHold s p).boot = s.boot := rfl

@[simp] theorem countSwitchOns_core (old new : List Chan) : (countSwitchOns old new s).core = s.core :=
  foldl_keeps (part := (·.core)) (fun s e => by split <;> simp) _ s

@[simp] theorem countSwitchOns_boot (old new : List Chan) : (countSwitchOns old new s).boot = s.boot :=
  foldl_keeps (part := (·.boot)) (fun s e => by split <;> simp) _ s

@[simp] theorem applyDrives_core : (applyDrives s).core = s.core := by simp [applyDrives]
@[simp] theorem applyDrives_boot : (applyDrives s).boot = s.boot := by simp [applyDrives]

@[simp] theorem failsafeStop_core : (failsafeStop s).core = s.core := by unfold failsafeStop; split <;> rfl
@[simp] theorem failsafeStop_boot : (failsafeStop s).boot = s.boot := by unfold failsafeStop; split <;> rfl

@[simp] theorem hapticOff_core : (hapticOff s).core = s.core := rfl
@[simp] theorem hapticOff_boot : (hapticOff s).boot = s.boot := rfl

end Outputs

section Messages
variable (s : State)

@[simp] theorem callReset_core (c : Cause) : (callReset c s).core = s.core := by unfold callReset; (repeat' split) <;> rfl
@[simp] theorem callReset_boot (c : Cause) : (callReset c s).boot = s.boot := by unfold callReset; (repeat' split) <;> rfl

@[simp] theorem callWake_core (n : Nat) : (callWake n s).core = s.core := rfl
@[simp] theorem callWake_boot (n : Nat) : (callWake n s).boot = s.boot := rfl

@[simp] theorem keepCopy_core (m : Rill) (n : Nat) : (keepCopy m n s).core = s.core := rfl
@[simp] theorem keepCopy_boot (m : Rill) (n : Nat) : (keepCopy m n s).boot = s.boot := rfl

@[simp] theorem queueMsg_core (m : Rill) : (queueMsg m s).1.core = s.core := rfl
@[simp] theorem queueMsg_boot (m : Rill) : (queueMsg m s).1.boot = s.boot := rfl

@[simp] theorem nextSeq_core (src : Nat) : (nextSeq src s).2.core = s.core := rfl
@[simp] theorem nextSeq_boot (src : Nat) : (nextSeq src s).2.boot = s.boot := rfl

/-- A Severe reaction changes neither the core nor the banks (R359). -/
@[simp] theorem severeReact_keeps (m : Rill) : (severeReact m s).core = s.core ∧ (severeReact m s).boot = s.boot := by
  unfold severeReact
  dsimp only
  (repeat' split) <;> simp

/-- A Severe arrival starts the seconds of R510 again and leaves the core. -/
@[simp] theorem severeArrive_keeps (m : Rill) : (severeArrive m s).1.core = s.core ∧ (severeArrive m s).1.boot = { s.boot with runSecs := 0 } := by
  unfold severeArrive bumpRecovery
  dsimp only
  (repeat' split) <;> simp

/-- A Grave reaction halts the core and keeps everything else of it (R365). -/
@[simp] theorem graveReact_keeps (m : Rill) (n : Nat) :
    (graveReact m n s).core.r = s.core.r ∧ (graveReact m n s).core.tdx = s.core.tdx ∧ (graveReact m n s).core.mem = s.core.mem ∧ (graveReact m n s).boot = s.boot := by
  unfold graveReact
  split <;> simp

@[simp] theorem escalate_keeps (m : Rill) :
    (escalate m s).core.r = s.core.r ∧ (escalate m s).core.tdx = s.core.tdx ∧ (escalate m s).core.mem = s.core.mem ∧ (escalate m s).boot = s.boot := by
  simp [escalate]

@[simp] theorem queueLost_keeps :
    (queueLost s).core.r = s.core.r ∧ (queueLost s).core.tdx = s.core.tdx ∧ (queueLost s).core.mem = s.core.mem ∧ (queueLost s).boot.flash = s.boot.flash := by
  unfold queueLost
  dsimp only
  split <;> simp

@[simp] theorem arrive_keeps (m : Rill) :
    (arrive m s).core.r = s.core.r ∧ (arrive m s).core.tdx = s.core.tdx ∧ (arrive m s).core.mem = s.core.mem ∧ (arrive m s).boot.flash = s.boot.flash := by
  unfold arrive
  extract_lets q s1 s2 r s3
  have h1 : s1.core = s.core ∧ s1.boot = s.boot := by
    simp only [s1, q]
    split <;> simp
  have h2 : s2.core = s.core ∧ s2.boot = s.boot := by
    simp only [s2]
    split <;> simp [h1]
  have h3 : s3.core.r = s.core.r ∧ s3.core.tdx = s.core.tdx ∧ s3.core.mem = s.core.mem ∧ s3.boot.flash = s.boot.flash := by
    simp only [s3, r]
    (repeat' split) <;> simp [h2]
  split <;> simp [h3]

@[simp] theorem issueAt_keeps (src kind island detail : Nat) :
    (issueAt src kind island detail s).core.r = s.core.r ∧ (issueAt src kind island detail s).core.tdx = s.core.tdx ∧
    (issueAt src kind island detail s).core.mem = s.core.mem ∧ (issueAt src kind island detail s).boot.flash = s.boot.flash := by
  simp [issueAt]

@[simp] theorem report_keeps (src kind island detail : Nat) :
    (report src kind island detail s).core.r = s.core.r ∧ (report src kind island detail s).core.tdx = s.core.tdx ∧
    (report src kind island detail s).core.mem = s.core.mem ∧ (report src kind island detail s).boot.flash = s.boot.flash := by
  unfold report
  split <;> simp

@[simp] theorem issue_keeps (src kind detail : Nat) :
    (issue src kind detail s).core.r = s.core.r ∧ (issue src kind detail s).core.tdx = s.core.tdx ∧
    (issue src kind detail s).core.mem = s.core.mem ∧ (issue src kind detail s).boot.flash = s.boot.flash := by
  simp [issue]

end Messages

end Sys2Proof.Proofs
end

section
/-! Loads, stores and SWAP: what an aligned, permitted access does, an access of a TDX task to device memory in its own window, what an ECC error makes of a load, and the faults of an access (R374, R375, R377, R378, R383, R530, R531, R533, R537). -/

namespace Sys2Proof.Proofs
open Sys2Proof Sys2Proof.Machine Sys2Proof.Safety

section Shut
variable {s s₁ : State} {c : Instr} {g : State → Word → Word → Word × Word} {f : State → CoreRes} {res ea : Word}

/-- What an instruction does that ends with no window open: nothing is folded (R376). -/
theorem does_of_shut (hexec : exec c s = .next (settle (coreWith g f s))) (hf : Fetches s) (hok : f (atInstr s) = .ok (s₁, res, ea))
    (hshut : s₁.core.tdx.open_ = false) : Does c s s₁ := by
  unfold Does
  rw [hexec, Laws.coreWith_ok hf hok, Laws.foldPair_shut hshut]

end Shut

section OwnWindow
variable {s : State} {res ea : Word} {k : State → CoreRes}

/-- An access whose own window has matched leaves the core (R378). -/
theorem ownWindow_passed (h : (closeWindow s).core.tdx.passed = some s.core.r.pc) :
    ownWindow res ea k s = k { closeWindow s with core := { (closeWindow s).core with tdx := { (closeWindow s).core.tdx with passed := none } } } := by
  unfold ownWindow
  dsimp only
  rw [if_pos (by simp [h])]

/-- It waits for every window before it (R378). -/
theorem ownWindow_waits (h : (closeWindow s).core.tdx.passed ≠ some s.core.r.pc) (hclosed : (closeWindow s).core.tdx.closed ≠ []) :
    ownWindow res ea k s = .ok (closeWindow s, 0, 0) := by
  unfold ownWindow
  dsimp only
  rw [if_neg (by simpa using h), if_pos (by simpa using hclosed)]

/-- With none before it, its own window of one instruction closes with its data and address (R378). -/
theorem ownWindow_compares (h : (closeWindow s).core.tdx.passed ≠ some s.core.r.pc) (hclosed : (closeWindow s).core.tdx.closed = []) :
    ownWindow res ea k s = .ok ({ closeWindow s with core := { (closeWindow s).core with tdx := { (closeWindow s).core.tdx with
      closed := [{ check := s.core.r, count := 1, held := 0, misr := misrFold (misrFold 0 res) ea, shadow := misrFold (misrFold 0 res) ea, access := true }] } } }, 0, 0) := by
  unfold ownWindow
  dsimp only
  rw [if_neg (by simpa using h), if_neg (by simpa using hclosed)]

/-- Device memory in a TDX task takes a window of its own (R378). -/
theorem accessWindow_device (htdx : s.core.r.psr.tdx = true) (hdev : isDevice s.core ea.toNat = true) : accessWindow res ea k s = ownWindow res ea k s := by
  unfold accessWindow
  rw [if_pos (by simp [htdx, hdev])]

/-- Any other access takes none (R377). -/
theorem accessWindow_plain (h : Plain s ea) : accessWindow res ea k s = k s := by
  unfold accessWindow
  rw [if_neg]
  simp only [Bool.and_eq_true, not_and, Bool.not_eq_true]
  exact h

end OwnWindow

section Loads
variable {s u : State} {c : Instr} {n : Nat} {rd ra : BitVec 5} {imm : BitVec 16} {f : Bytes → Word} {ea : Word}

/-- What a command does, from what its meaning comes to. -/
theorem does_of_eq {x y : State} (hexec : exec c s = .next (settle x)) (h : x = y) : Does c s y := by
  rw [Does, hexec, h]

/-- What a load of `n` bytes loads into rd, and its signature's result and address. -/
def loaded (n : Nat) (rd : BitVec 5) (ea : Word) (f : Bytes → Word) (s : State) : CoreRes :=
  .ok ({ s with core := { s.core with r := rdAndNext s.core.r rd (f (loadBytes s ea.toNat n)) } }, f (loadBytes s ea.toNat n), ea)

/-- A load that is aligned and permitted, up to its window (R530, R537). -/
theorem loadWith_permitted (hrd : regOk rd = true) (hra : regOk ra = true) (hea : effAddr s.core.r ra imm = ea) (halign : ea.toNat % n = 0)
    (hspan : mpuSpan s.core s.core.r.psr.u 1 ea.toNat n = true) : loadWith n rd ra imm f s = accessWindow 0 ea (loaded n rd ea f) s := by
  subst hea
  unfold loadWith
  dsimp only
  rw [if_pos (by simp [hrd, hra]), if_neg (by simp [halign]), if_pos hspan]
  simp only [Laws.nextPc_writeReg]
  rfl

/-- A load sees the confirm buffer and memory alone. -/
theorem loadBytes_congr {t : State} (hbuf : t.core.tdx.buffer = s.core.tdx.buffer) (hbyte : ∀ x, coreByte t x = coreByte s x) (a n : Nat) :
    loadBytes t a n = loadBytes s a n := by
  induction n generalizing a with
  | zero => rfl
  | succ n ih => rw [loadBytes, loadBytes, ih, hbuf, hbyte]

/-- What an access loads once its window has matched (R378). -/
theorem loaded_passed (s : State) : loaded n rd ea f { s with core := { s.core with tdx := { s.core.tdx with passed := none } } } =
    .ok ({ s with core := { s.core with r := rdAndNext s.core.r rd (f (loadBytes s ea.toNat n)), tdx := { s.core.tdx with passed := none } } }, f (loadBytes s ea.toNat n), ea) := by
  have hbytes : loadBytes { s with core := { s.core with tdx := { s.core.tdx with passed := none } } } ea.toNat n = loadBytes s ea.toNat n := by
    apply loadBytes_congr
    · rfl
    · exact fun _ => rfl
  unfold loaded
  rw [hbytes]

/-- What VLD loads into a v register. -/
def vloaded (vd : BitVec 5) (ea : Word) (s : State) : CoreRes :=
  .ok ({ s with core := { s.core with r := { s.core.r with
      pc := s.core.r.pc + 4, cxv := { s.core.r.cxv with v := s.core.r.cxv.v.setIfInBounds vd.toNat (BitVec.ofNat 64 (leNat (loadBytes s ea.toNat 8))) } } } },
    vecWord (BitVec.ofNat 64 (leNat (loadBytes s ea.toNat 8))), ea)

/-- A load of 64 bits that is aligned and permitted, up to its window (R530, R537, R541). -/
theorem vload_permitted (hrd : rd.toNat < 8) (hra : regOk ra = true) (hea : effAddr s.core.r ra imm = ea) (halign : ea.toNat % 8 = 0)
    (hspan : mpuSpan s.core s.core.r.psr.u 1 ea.toNat 8 = true) : vload rd ra imm s = accessWindow 0 ea (vloaded rd ea) s := by
  subst hea
  unfold vload vOk
  dsimp only
  rw [if_pos (by simp [hrd, hra]), if_neg (by simp [halign]), if_pos hspan]
  rfl

/-- SWAP outside a TDX task, aligned and permitted both ways (R530, R531, R378). -/
theorem swapMem_permitted (hrd : regOk rd = true) (hra : regOk ra = true) (hea : effAddr s.core.r ra imm = ea) (halign : ea.toNat % 4 = 0)
    (hload : mpuSpan s.core s.core.r.psr.u 1 ea.toNat 4 = true) (hstore : mpuSpan s.core s.core.r.psr.u 2 ea.toNat 4 = true) (htdx : s.core.r.psr.tdx = false) :
    swapMem rd ra imm s = .ok ({ storeMem ea.toNat (le 4 (readReg s.core.r rd).toNat) (closeWindow s) with
        core := { (storeMem ea.toNat (le 4 (readReg s.core.r rd).toNat) (closeWindow s)).core with
          r := rdAndNext s.core.r rd (BitVec.ofNat 32 (leNat (loadBytes (closeWindow s) ea.toNat 4))) } },
      BitVec.ofNat 32 (leNat (loadBytes (closeWindow s) ea.toNat 4)), ea) := by
  subst hea
  unfold swapMem
  dsimp only
  rw [if_pos (by simp [hrd, hra]), if_neg (by simp [halign]), if_neg (by simp [hload]), if_neg (by simp [hstore]), if_neg (by simp [htdx])]
  simp [Laws.nextPc_writeReg]

/-- The effective address at an instruction is its registers' (R530). -/
theorem effAddr_atInstr (s : State) (ra : BitVec 5) (imm : BitVec 16) : effAddr (atInstr s).core.r ra imm = readReg s.core.r ra + imm.signExtend 32 := by
  rw [Laws.atInstr_r, effAddr]

/-- The shadow of an access at an instruction finds the primary's data and address (R373, R374). -/
theorem shAccess_atInstr (res : Word) (h : ea = readReg s.core.r ra + imm.signExtend 32) : shAccess ra imm (atInstr s) res ea = (res, ea) := by
  rw [h, ← effAddr_atInstr, Laws.shAccess_eq]

end Loads

section Ecc
variable {s : State}

/-- After the window's stores have been dropped no window is open (R383). -/
theorem dropWindowStores_open (s : State) : (dropWindowStores s).core.tdx.open_ = false := by
  unfold dropWindowStores
  dsimp only
  split
  · rfl
  · simpa using ‹¬ s.core.tdx.open_ = true›

/-- A window dropped with its error reported folds nothing (R376, R383). -/
theorem foldWindow_issue_dropped (src kind detail : Nat) (s : State) :
    foldWindow 0 0 (issue src kind detail (dropWindowStores s)) = issue src kind detail (dropWindowStores s) :=
  Laws.foldWindow_shut (by simp [dropWindowStores_open]) ..

end Ecc

section Stores
variable {s : State} {n : Nat} {ok : Bool} {ra : BitVec 5} {imm : BitVec 16} {f : Regs → Bytes} {ea : Word}

/-- What a store of memory leaves, and its signature's data and address. -/
def stored (b : Bytes) (ea : Word) (s : State) : CoreRes := .ok (nextPc (storeMem ea.toNat b s), dataWord b, ea)

/-- A store outside a TDX task goes to memory (R375, R530). -/
theorem storeWith_memory (hok : ok = true) (hra : regOk ra = true) (hea : effAddr s.core.r ra imm = ea) (halign : ea.toNat % n = 0)
    (hspan : mpuSpan s.core s.core.r.psr.u 2 ea.toNat n = true) (htdx : s.core.r.psr.tdx = false) :
    storeWith n ok ra imm f s = stored (f s.core.r) ea s := by
  subst hea
  unfold storeWith storeBytes
  dsimp only
  rw [if_pos (by simp [hok, hra]), if_neg (by simp [halign]), if_pos hspan, if_neg (by simp [htdx]), if_neg (by simp [htdx]), if_neg (by simp [htdx])]
  rfl

/-- A store of a TDX task is held while the confirm buffer has room (R375). -/
theorem storeWith_held (hok : ok = true) (hra : regOk ra = true) (hea : effAddr s.core.r ra imm = ea) (halign : ea.toNat % n = 0)
    (hspan : mpuSpan s.core s.core.r.psr.u 2 ea.toNat n = true) (hplain : Plain s ea) (htdx : s.core.r.psr.tdx = true) (hroom : s.core.tdx.buffer.length < 16) :
    storeWith n ok ra imm f s = .ok ({ s with core := { s.core with
      r := { s.core.r with pc := s.core.r.pc + 4 }, tdx := { s.core.tdx with buffer := s.core.tdx.buffer ++ [{ addr := ea.toNat, bytes := f s.core.r }] } } }, dataWord (f s.core.r), ea) := by
  subst hea
  unfold storeWith storeBytes
  dsimp only
  rw [if_pos (by simp [hok, hra]), if_neg (by simp [halign]), if_pos hspan, if_neg (by simp [hplain htdx]), if_neg (by simp [hroom]), if_pos htdx]
  rfl

/-- A store that finds the confirm buffer full closes its window and waits (R375, R377). -/
theorem storeWith_full (hok : ok = true) (hra : regOk ra = true) (hea : effAddr s.core.r ra imm = ea) (halign : ea.toNat % n = 0)
    (hspan : mpuSpan s.core s.core.r.psr.u 2 ea.toNat n = true) (hplain : Plain s ea) (htdx : s.core.r.psr.tdx = true) (hfull : 16 ≤ s.core.tdx.buffer.length) :
    storeWith n ok ra imm f s = .ok (closeWindow s, 0, 0) := by
  subst hea
  unfold storeWith
  dsimp only
  rw [if_pos (by simp [hok, hra]), if_neg (by simp [halign]), if_pos hspan, if_neg (by simp [hplain htdx]), if_pos (by simp [htdx, hfull])]

/-- A store of a TDX task to device memory goes past the buffer, in a window of its own (R378). -/
theorem storeWith_device (hok : ok = true) (hra : regOk ra = true) (hea : effAddr s.core.r ra imm = ea) (halign : ea.toNat % n = 0)
    (hspan : mpuSpan s.core s.core.r.psr.u 2 ea.toNat n = true) (htdx : s.core.r.psr.tdx = true) (hdev : isDevice s.core ea.toNat = true) :
    storeWith n ok ra imm f s = ownWindow (dataWord (f s.core.r)) ea (stored (f s.core.r) ea) s := by
  subst hea
  unfold storeWith
  dsimp only
  rw [if_pos (by simp [hok, hra]), if_neg (by simp [halign]), if_pos hspan, if_pos (by simp [htdx, hdev])]
  rfl

end Stores

section Data
variable (w : Word)

/-- Little-endian bytes spell the number modulo their width. -/
theorem leNat_le (n k : Nat) : leNat (le n k) = k % 256 ^ n := by
  induction n generalizing k with
  | zero => simp [le, leNat, Nat.mod_one]
  | succ n ih =>
    have hbyte : (BitVec.ofNat 8 k).toNat = k % 256 := BitVec.toNat_ofNat ..
    rw [le, leNat, ih, hbyte, pow_succ', Nat.mod_mul]

theorem length_le (n k : Nat) : (le n k).length = n := by
  induction n generalizing k with
  | zero => rfl
  | succ n ih => rw [le, List.length_cons, ih]

/-- The data of a store of up to 4 bytes as it is folded: the low bits of its register (R376). -/
theorem dataWord_le {n : Nat} (hn : n ≤ 4) : dataWord (le n w.toNat) = w &&& BitVec.ofNat 32 (2 ^ (8 * n) - 1) := by
  unfold dataWord
  rw [if_pos (by rw [length_le]; exact hn), leNat_le]
  apply BitVec.eq_of_toNat_eq
  have hpow : 256 ^ n = 2 ^ (8 * n) := by rw [pow_mul]; rfl
  have hle : 2 ^ (8 * n) ≤ 2 ^ 32 := Nat.pow_le_pow_right (by decide) (by omega)
  have hmod : w.toNat % 2 ^ (8 * n) ≤ w.toNat := Nat.mod_le _ _
  rw [BitVec.toNat_and, BitVec.toNat_ofNat, BitVec.toNat_ofNat, Nat.mod_eq_of_lt (a := 2 ^ (8 * n) - 1) (by omega), Nat.and_two_pow_sub_one_eq_mod, hpow,
    Nat.mod_eq_of_lt (lt_of_le_of_lt hmod w.isLt)]

/-- The data of a stored vector as it is folded (R376). -/
theorem dataWord_le_eight (d : BitVec 64) : dataWord (le 8 d.toNat) = vecWord d := by
  unfold dataWord
  rw [if_neg (by rw [length_le]; omega), leNat_le, Nat.mod_eq_of_lt (b := 256 ^ 8) d.isLt, BitVec.ofNat_toNat, BitVec.setWidth_eq]

end Data

/-- Settles O4: the plain loads, the load of device memory by what its own window has come to, SWAP, and the ECC's findings at LW. -/
theorem loadsWriteRd : Obligations.LoadsWriteRd := by
  refine ⟨fun s rd ra imm hf hra => ?clean, fun s rd ra imm hf hrd hra => ?ecc⟩
  case clean =>
    intro ea u b free Loads
    have hu : u.core.r = s.core.r := Laws.atInstr_r s
    have hea : effAddr u.core.r ra imm = ea := effAddr_atInstr s ra imm
    have load {c : Instr} {n : Nat} (f : Bytes → Word) (hexec : exec c s = .next (settle (coreLoad n rd ra imm f s))) (h : free n) : Loads c (f (loadBytes u ea.toNat n)) :=
      fun hrd => does_of_eq hexec (Laws.core_load hf f hrd hra h.1 h.2.1 h.2.2)
    refine ⟨load (fun b => BitVec.ofNat 32 (leNat b)) rfl, load (fun b => (BitVec.ofNat 16 (leNat b)).signExtend 32) rfl, load (fun b => BitVec.ofNat 32 (leNat b)) rfl,
      load (fun b => (BitVec.ofNat 8 (leNat b)).signExtend 32) rfl, load (fun b => BitVec.ofNat 32 (leNat b)) rfl, ?vld, ?device, ?swap⟩
    case vld =>
      rintro ⟨halign, hspan, hplain⟩ hrd
      have hok := (vload_permitted hrd hra hea halign (by rwa [hu])).trans (accessWindow_plain hplain)
      rw [vloaded, hu] at hok
      exact does_of_ok rfl hf hok (shAccess_atInstr _ rfl)
    case device =>
      intro halign hspan hrd htdx hdev c v m
      have hc : c.core.r = s.core.r := closed_r s
      have hload := (loadWith_permitted hrd hra hea halign (by rwa [hu]) (f := fun b => BitVec.ofNat 32 (leNat b))).trans
        (accessWindow_device (by rwa [hu]) hdev)
      have hshut : c.core.tdx.open_ = false := Laws.closeWindow_open u
      refine ⟨fun hpassed => ?_, fun hpassed hclosed => ?_, fun hpassed hclosed => ?_⟩
      · have hpass : c.core.tdx.passed = some u.core.r.pc := by rwa [hu]
        have hok := (hload.trans (ownWindow_passed hpass)).trans (loaded_passed c)
        rw [hc] at hok
        exact does_of_shut rfl hf hok hshut
      · exact does_of_shut rfl hf (hload.trans (ownWindow_waits (by rwa [hu]) hclosed)) hshut
      · have hok := hload.trans (ownWindow_compares (by rwa [hu]) hclosed)
        rw [hu] at hok
        exact does_of_shut rfl hf hok hshut
    case swap =>
      intro halign hload hstore hrd htdx c v
      have hok := swapMem_permitted hrd hra hea halign (by rwa [hu]) (by rwa [hu]) (by rwa [hu])
      rw [hu] at hok
      exact does_of_ok rfl hf hok rfl
  case ecc =>
    intro ea u v halign hspan hplain
    have hu : u.core.r = s.core.r := Laws.atInstr_r s
    have hea : effAddr u.core.r ra imm = ea := effAddr_atInstr s ra imm
    have hload := (loadWith_permitted hrd hra hea halign (by rwa [hu]) (f := fun b => BitVec.ofNat 32 (leNat b))).trans
      (accessWindow_plain hplain)
    rw [loaded, hu] at hload
    refine ⟨?corrected, ?uncorrected, ?fetch⟩
    case corrected => 
      refine does_of_ok rfl hf ?_ (shAccess_atInstr _ rfl)
      unfold withEcc
      dsimp only
      rw [hload]
      rfl
    case uncorrected =>
      have hok : withEcc .uncorrected (effAddr s.core.r ra imm) (loadWith 4 rd ra imm (fun b => BitVec.ofNat 32 (leNat b))) u = .ok (issue 0x04 0x02 ea.toNat (dropWindowStores u), 0, 0) := by
        unfold withEcc
        dsimp only
        rw [hload]
        rfl
      rw [foldWindow_issue_dropped]
      exact does_of_shut rfl hf hok (by simp [dropWindowStores_open])
    case fetch =>
      have hok : withEcc .fetchUncorr (effAddr s.core.r ra imm) (loadWith 4 rd ra imm (fun b => BitVec.ofNat 32 (leNat b))) u =
          .ok (issue 0x05 0x02 s.core.r.pc.toNat (dropWindowStores u), 0, 0) := by
        unfold withEcc
        rw [hu]
      rw [foldWindow_issue_dropped]
      exact does_of_shut rfl hf hok (by simp [dropWindowStores_open])

section StoreInstructions
variable {s : State} {c : Instr} {n : Nat} {ok : Bool} {ra : BitVec 5} {imm : BitVec 16} {f : Regs → Bytes} {ea res : Word}

/-- The registers of a state with memory stored to are its own. -/
theorem stored_eq (b : Bytes) (ea : Word) (s : State) :
    stored b ea s = .ok ({ storeMem ea.toNat b s with core := { (storeMem ea.toNat b s).core with r := { s.core.r with pc := s.core.r.pc + 4 } } }, dataWord b, ea) := by
  simp [stored, nextPc, modRegs]

/-- An aligned, permitted store: to memory, into the confirm buffer, or waiting for room in it (R375, R377). -/
theorem stores_of_coreStore (hexec : exec c s = .next (settle (coreStore n ok ra imm f s))) (hf : Fetches s) (hok : ok = true) (hra : regOk ra = true)
    (hea : readReg s.core.r ra + imm.signExtend 32 = ea) (halign : ea.toNat % n = 0) (hspan : mpuSpan (atInstr s).core s.core.r.psr.u 2 ea.toNat n = true)
    (hplain : Plain (atInstr s) ea) (hres : dataWord (f s.core.r) = res) :
    (s.core.r.psr.tdx = false → Does c s (foldWindow res ea { storeMem ea.toNat (f s.core.r) (atInstr s) with
      core := { (storeMem ea.toNat (f s.core.r) (atInstr s)).core with r := { s.core.r with pc := s.core.r.pc + 4 } } })) ∧
    (s.core.r.psr.tdx = true → (atInstr s).core.tdx.buffer.length < 16 → Does c s (foldWindow res ea { atInstr s with core := { (atInstr s).core with
      r := { s.core.r with pc := s.core.r.pc + 4 }, tdx := { (atInstr s).core.tdx with buffer := (atInstr s).core.tdx.buffer ++ [{ addr := ea.toNat, bytes := f s.core.r }] } } })) ∧
    (s.core.r.psr.tdx = true → 16 ≤ (atInstr s).core.tdx.buffer.length → Does c s (foldWindow 0 0 (closeWindow (atInstr s)))) := by
  have hu : (atInstr s).core.r = s.core.r := Laws.atInstr_r s
  have hea' : effAddr (atInstr s).core.r ra imm = ea := (effAddr_atInstr s ra imm).trans hea
  have hspan' : mpuSpan (atInstr s).core (atInstr s).core.r.psr.u 2 ea.toNat n = true := by rwa [hu]
  refine ⟨fun htdx => ?_, fun htdx hroom => ?_, fun htdx hfull => ?_⟩
  · have hstore := storeWith_memory hok hra hea' halign hspan' (by rwa [hu]) (f := f)
    rw [stored_eq, hu, hres] at hstore
    exact does_of_ok hexec hf hstore (shAccess_atInstr _ hea.symm)
  · have hstore := storeWith_held hok hra hea' halign hspan' hplain (by rwa [hu]) hroom (f := f)
    rw [hu, hres] at hstore
    exact does_of_ok hexec hf hstore (shAccess_atInstr _ hea.symm)
  · have hstore := storeWith_full hok hra hea' halign hspan' hplain (by rwa [hu]) hfull (f := f)
    rw [Laws.foldWindow_shut (Laws.closeWindow_open _)]
    exact does_of_shut hexec hf hstore (Laws.closeWindow_open _)

end StoreInstructions

/-- Settles O5: a plain store by whether its task runs under TDX, and a store to device memory by what its own window has come to. -/
theorem storesTheirBytes : Obligations.StoresTheirBytes := by
  intro s rd ra imm hf hra ea u w d free after Stores
  have hu : u.core.r = s.core.r := Laws.atInstr_r s
  have hea : effAddr u.core.r ra imm = ea := effAddr_atInstr s ra imm
  have hword : dataWord (le 4 w.toNat) = w := (dataWord_le w (by decide)).trans BitVec.and_allOnes
  have hhalf : dataWord (le 2 w.toNat) = w &&& 0xFFFF := dataWord_le w (by decide)
  have hbyte : dataWord (le 1 w.toNat) = w &&& 0xFF := dataWord_le w (by decide)
  have hvec : dataWord (le 8 d.toNat) = vecWord d := dataWord_le_eight d
  refine ⟨?sw, ?sh, ?sb, ?vst, ?device⟩
  case sw =>
    rintro ⟨halign, hspan, hplain⟩ hrd
    exact stores_of_coreStore (f := fun r => le 4 (readReg r rd).toNat) rfl hf hrd hra rfl halign hspan hplain hword
  case sh =>
    rintro ⟨halign, hspan, hplain⟩ hrd
    exact stores_of_coreStore (f := fun r => le 2 (readReg r rd).toNat) rfl hf hrd hra rfl halign hspan hplain hhalf
  case sb =>
    rintro ⟨halign, hspan, hplain⟩ hrd
    exact stores_of_coreStore (f := fun r => le 1 (readReg r rd).toNat) rfl hf hrd hra rfl halign hspan hplain hbyte
  case vst =>
    rintro ⟨halign, hspan, hplain⟩ hrd
    exact stores_of_coreStore (f := fun r => le 8 (readV r.cxv rd).toNat) rfl hf (decide_eq_true hrd) hra rfl halign hspan hplain hvec
  case device =>
    intro halign hspan hrd htdx hdev c m
    have hc : c.core.r = s.core.r := closed_r s
    have hshut : c.core.tdx.open_ = false := Laws.closeWindow_open u
    have hstore := storeWith_device hrd hra hea halign (by rwa [hu]) (by rwa [hu]) hdev (f := fun r => le 4 (readReg r rd).toNat)
    refine ⟨fun hpassed => ?_, fun hpassed hclosed => ?_, fun hpassed hclosed => ?_⟩
    · have hok := hstore.trans (ownWindow_passed (by rwa [hu]))
      rw [stored_eq, hu, hc] at hok
      exact does_of_shut rfl hf hok (by simpa [after] using hshut)
    · exact does_of_shut rfl hf (hstore.trans (ownWindow_waits (by rwa [hu]) hclosed)) hshut
    · have hok := hstore.trans (ownWindow_compares (by rwa [hu]) hclosed)
      rw [hu, hword] at hok
      exact does_of_shut rfl hf hok hshut

end Sys2Proof.Proofs
end

section
/-! The faults of instructions in their order: an illegal field or privilege, then alignment, then the MPU (R519, R524, R530, R531, R533). -/

namespace Sys2Proof.Proofs
open Sys2Proof Sys2Proof.Machine Sys2Proof.Safety

section Accesses
variable {s : State} {n : Nat} {ok : Bool} {rd ra : BitVec 5} {imm : BitVec 16} {ea : Word}

/-- A field that names no register makes a load ILLEGAL before anything else of it (R519). -/
theorem loadWith_illegal (f : Bytes → Word) (h : (regOk rd && regOk ra) = false) : loadWith n rd ra imm f s = .error (0x01, 0) := by
  rw [loadWith, h]
  rfl

theorem loadWith_misaligned (f : Bytes → Word) (hrd : regOk rd = true) (hra : regOk ra = true) (hea : effAddr s.core.r ra imm = ea) (h : ea.toNat % n ≠ 0) :
    loadWith n rd ra imm f s = .error (0x05, ea) := by
  subst hea
  unfold loadWith
  rw [if_pos (by simp [hrd, hra]), if_pos (by simpa using h)]

theorem loadWith_refused (f : Bytes → Word) (hrd : regOk rd = true) (hra : regOk ra = true) (hea : effAddr s.core.r ra imm = ea) (h : ea.toNat % n = 0)
    (hspan : mpuSpan s.core s.core.r.psr.u 1 ea.toNat n = false) : loadWith n rd ra imm f s = .error (0x03, ea) := by
  subst hea
  unfold loadWith
  rw [if_pos (by simp [hrd, hra]), if_neg (by simp [h]), if_neg (by simp [hspan])]

theorem storeWith_illegal (f : Regs → Bytes) (h : (ok && regOk ra) = false) : storeWith n ok ra imm f s = .error (0x01, 0) := by
  rw [storeWith, h]
  rfl

theorem storeWith_misaligned (f : Regs → Bytes) (hok : ok = true) (hra : regOk ra = true) (hea : effAddr s.core.r ra imm = ea) (h : ea.toNat % n ≠ 0) :
    storeWith n ok ra imm f s = .error (0x05, ea) := by
  subst hea
  unfold storeWith
  rw [if_pos (by simp [hok, hra]), if_pos (by simpa using h)]

theorem storeWith_refused (f : Regs → Bytes) (hok : ok = true) (hra : regOk ra = true) (hea : effAddr s.core.r ra imm = ea) (h : ea.toNat % n = 0)
    (hspan : mpuSpan s.core s.core.r.psr.u 2 ea.toNat n = false) : storeWith n ok ra imm f s = .error (0x04, ea) := by
  subst hea
  unfold storeWith
  rw [if_pos (by simp [hok, hra]), if_neg (by simp [h]), if_neg (by simp [hspan])]

theorem swapMem_illegal (h : (regOk rd && regOk ra) = false) : swapMem rd ra imm s = .error (0x01, 0) := by
  rw [swapMem, h]
  rfl

theorem swapMem_misaligned (hrd : regOk rd = true) (hra : regOk ra = true) (hea : effAddr s.core.r ra imm = ea) (h : ea.toNat % 4 ≠ 0) :
    swapMem rd ra imm s = .error (0x05, ea) := by
  subst hea
  unfold swapMem
  rw [if_pos (by simp [hrd, hra]), if_pos (by simpa using h)]

theorem swapMem_refused (hrd : regOk rd = true) (hra : regOk ra = true) (hea : effAddr s.core.r ra imm = ea) (h : ea.toNat % 4 = 0)
    (hspan : mpuSpan s.core s.core.r.psr.u 1 ea.toNat 4 = false) : swapMem rd ra imm s = .error (0x03, ea) := by
  subst hea
  unfold swapMem
  rw [if_pos (by simp [hrd, hra]), if_neg (by simp [h]), if_pos (by simp [hspan])]

theorem vload_illegal (h : (vOk rd && regOk ra) = false) : vload rd ra imm s = .error (0x01, 0) := by
  rw [vload, h]
  rfl

theorem vload_misaligned (hrd : rd.toNat < 8) (hra : regOk ra = true) (hea : effAddr s.core.r ra imm = ea) (h : ea.toNat % 8 ≠ 0) :
    vload rd ra imm s = .error (0x05, ea) := by
  subst hea
  unfold vload vOk
  rw [if_pos (by simp [hrd, hra]), if_pos (by simpa using h)]

theorem vload_refused (hrd : rd.toNat < 8) (hra : regOk ra = true) (hea : effAddr s.core.r ra imm = ea) (h : ea.toNat % 8 = 0)
    (hspan : mpuSpan s.core s.core.r.psr.u 1 ea.toNat 8 = false) : vload rd ra imm s = .error (0x03, ea) := by
  subst hea
  unfold vload vOk
  rw [if_pos (by simp [hrd, hra]), if_neg (by simp [h]), if_neg (by simp [hspan])]

end Accesses

section Illegal
variable {s : State} {rd ra rb sh : BitVec 5} {imm : BitVec 16} {i6 : BitVec 6} {o10 : BitVec 10}

/-- A register field 26 to 31 in the instructions of two fields (R519). -/
theorem traps_of_illegal_two (hf : Fetches s) (h : regOk rd = false ∨ regOk ra = false) :
    ∀ c ∈ [Instr.addi rd ra imm, .andi rd ra imm, .ori rd ra imm, .xori rd ra imm, .slli rd ra sh, .srli rd ra sh, .srai rd ra sh, .rori rd ra sh,
      .lw rd ra imm .clean, .lh rd ra imm, .lhu rd ra imm, .lb rd ra imm, .lbu rd ra imm, .sw rd ra imm, .sh rd ra imm, .sb rd ra imm, .swap rd ra imm,
      .beq rd ra imm, .bne rd ra imm, .blt rd ra imm, .bge rd ra imm, .bltu rd ra imm, .bgeu rd ra imm], Traps c s 0x01 0 := by
  have hno : (regOk rd && regOk ra) = false := by rcases h with h | h <;> simp [h]
  have halu {c f g} (hexec : exec c s = .next (settle (coreAlu rd [ra] f g s))) : Traps c s 0x01 0 :=
    traps_of_error hexec hf (Laws.alu_illegal f _ (by simpa using hno))
  have hload {c n f} (hexec : exec c s = .next (settle (coreLoad n rd ra imm f s))) : Traps c s 0x01 0 := traps_of_error hexec hf (loadWith_illegal f hno)
  have hstore {c n f} (hexec : exec c s = .next (settle (coreStore n (regOk rd) ra imm f s))) : Traps c s 0x01 0 :=
    traps_of_error hexec hf (storeWith_illegal f hno)
  have hbranch {c f g off} (hexec : exec c s = .next (settle (coreBranch (regOk rd && regOk ra) f g off s))) : Traps c s 0x01 0 :=
    traps_of_error hexec hf (by rw [branch, hno]; rfl)
  simp only [List.forall_mem_cons]
  exact ⟨halu rfl, halu rfl, halu rfl, halu rfl, halu rfl, halu rfl, halu rfl, halu rfl,
    hload (n := 4) (f := fun b => BitVec.ofNat 32 (leNat b)) rfl, hload rfl, hload rfl, hload rfl, hload rfl, hstore rfl, hstore rfl, hstore rfl,
    traps_of_error rfl hf (swapMem_illegal hno), hbranch rfl, hbranch rfl, hbranch rfl, hbranch rfl, hbranch rfl, hbranch rfl, List.forall_mem_nil _⟩

/-- A register field 26 to 31 in the instructions of three fields (R519). -/
theorem traps_of_illegal_three (hf : Fetches s) (h : regOk rd = false ∨ regOk ra = false ∨ regOk rb = false) :
    ∀ c ∈ [Instr.add rd ra rb, .sub rd ra rb, .and rd ra rb, .or rd ra rb, .xor rd ra rb, .sll rd ra rb, .srl rd ra rb, .sra rd ra rb, .ror rd ra rb,
      .mul rd ra rb, .mulh rd ra rb, .mulhu rd ra rb, .div rd ra rb, .divu rd ra rb, .rem rd ra rb, .remu rd ra rb], Traps c s 0x01 0 := by
  have hno : (regOk rd && [ra, rb].all regOk) = false := by rcases h with h | h | h <;> simp [h]
  have halu {c f g} (hexec : exec c s = .next (settle (coreAlu rd [ra, rb] f g s))) : Traps c s 0x01 0 := traps_of_error hexec hf (Laws.alu_illegal f _ hno)
  have hmul {c f} (hexec : exec c s = .next (settle (coreStep (alu rd [ra, rb] f) s))) : Traps c s 0x01 0 := traps_of_error hexec hf (Laws.alu_illegal f _ hno)
  simp only [List.forall_mem_cons]
  exact ⟨halu rfl, halu rfl, halu rfl, halu rfl, halu rfl, halu rfl, halu rfl, halu rfl, halu rfl,
    halu rfl, hmul rfl, hmul rfl, hmul rfl, hmul rfl, hmul rfl, hmul rfl, List.forall_mem_nil _⟩

/-- A register field 26 to 31 in the instructions of one general register (R519). -/
theorem traps_of_illegal_one (hf : Fetches s) (h : regOk ra = false) :
    ∀ c ∈ [Instr.lui ra imm, .beqi ra i6 o10, .bnei ra i6 o10, .blti ra i6 o10, .bgei ra i6 o10, .jr ra, .callr ra, .callwr ra, .csrr ra imm, .csrw ra imm,
      .vsplat rd ra, .vmovg ra rd 0, .vmovv rd ra 0], Traps c s 0x01 0 := by
  have hbranch {c f g off} (hexec : exec c s = .next (settle (coreBranch (regOk ra) f g off s))) : Traps c s 0x01 0 :=
    traps_of_error hexec hf (by rw [branch, h]; rfl)
  simp only [List.forall_mem_cons]
  refine ⟨?lui, hbranch rfl, hbranch rfl, hbranch rfl, hbranch rfl, ?jr, ?callr, ?callwr, ?csrr, ?csrw, ?vsplat, ?vmovg, ?vmovv, List.forall_mem_nil _⟩
  case lui => exact traps_of_error rfl hf (Laws.alu_illegal _ _ (by simp [h]))
  case jr => exact traps_of_error rfl hf (if_neg (by simp [h]))
  case callr => exact traps_of_error rfl hf (if_neg (by simp [h]))
  case callwr => exact traps_of_error rfl hf (if_neg (by simp [h]))
  case csrr => exact traps_of_error rfl hf (if_neg (by simp [h]))
  case csrw => exact traps_of_error rfl hf (if_neg (by simp [h]))
  case vsplat => exact traps_of_error rfl hf (if_neg (by simp [h]))
  case vmovg =>
    refine traps_of_error rfl hf ?_
    split
    · exact Laws.alu_illegal _ _ (by simp [h])
    · rfl
  case vmovv => exact traps_of_error rfl hf (if_neg (by simp [h]))

/-- A v register field above 7 in the CXV group (R538). -/
theorem traps_of_illegal_vector (hf : Fetches s) (h : 8 ≤ rd.toNat) :
    ∀ c ∈ [Instr.vadd rd ra rb, .vadds rd ra rb, .vsub rd ra rb, .vsubs rd ra rb, .vand rd ra rb, .vor rd ra rb, .vxor rd ra rb, .vmul rd ra rb,
      .vmac rd rb, .vmsu rd rb, .vacrd rd sh, .vmovg ra rd sh, .vmovv rd ra sh, .vsplat rd ra, .vld rd ra imm, .vst rd ra imm, .cxvDma rd], Traps c s 0x01 0 := by
  have hv : vOk rd = false := decide_eq_false (by omega)
  have hlanes {c g f} (hexec : exec c s = .next (settle (coreWith g (cxvLanes rd ra rb f) s))) : Traps c s 0x01 0 := traps_of_error hexec hf (if_neg (by simp [hv]))
  have hsat {c g f} (hexec : exec c s = .next (settle (coreWith g (cxvSat rd ra rb f) s))) : Traps c s 0x01 0 := traps_of_error hexec hf (if_neg (by simp [hv]))
  have hmac {c g b} (hexec : exec c s = .next (settle (coreWith g (cxvMac rd rb b) s))) : Traps c s 0x01 0 := traps_of_error hexec hf (if_neg (by simp [hv]))
  simp only [List.forall_mem_cons]
  refine ⟨hlanes rfl, hsat rfl, hlanes rfl, hsat rfl, hlanes rfl, hlanes rfl, hlanes rfl, hlanes rfl, hmac rfl, hmac rfl,
    ?vacrd, ?vmovg, ?vmovv, ?vsplat, ?vld, ?vst, ?cxvDma, List.forall_mem_nil _⟩
  case vacrd => exact traps_of_error rfl hf (if_neg (by simp [hv]))
  case vmovg => exact traps_of_error rfl hf (if_neg (by simp [hv]))
  case vmovv => exact traps_of_error rfl hf (if_neg (by simp [hv]))
  case vsplat => exact traps_of_error rfl hf (if_neg (by simp [hv]))
  case vld => exact traps_of_error rfl hf (vload_illegal (by simp [hv]))
  case vst => exact traps_of_error rfl hf (storeWith_illegal _ (by simp [hv]))
  case cxvDma => exact traps_of_error rfl hf (if_pos (by simp [hv]))

/-- User mode in the instructions of supervisor mode (R521, R530). -/
theorem traps_of_user (hf : Fetches s) (h : s.core.r.psr.u = true) :
    ∀ c ∈ [Instr.tret, .wspill, .wfill, .wfi, .halt, .csrw ra imm, .cxvDma ra], Traps c s 0x01 0 := by
  have hpriv {c f} (hexec : exec c s = .next (settle (coreStep (fun s => privileged f s) s))) : Traps c s 0x01 0 :=
    traps_of_error hexec hf (if_pos (by rwa [Laws.atInstr_r]))
  simp only [List.forall_mem_cons]
  refine ⟨hpriv rfl, hpriv rfl, hpriv rfl, hpriv rfl, hpriv rfl, ?csrw, ?cxvDma, List.forall_mem_nil _⟩
  case csrw => exact traps_of_error rfl hf (if_neg (by simp [h]))
  case cxvDma => exact traps_of_error rfl hf (if_pos (by simp [h]))

/-- User mode reads CYCLE and CYCLEH alone (R521). -/
theorem traps_of_csrr_user (hf : Fetches s) (h : s.core.r.psr.u = true) (hlow : imm ≠ 0x30#16) (hhigh : imm ≠ 0x31#16) : Traps (.csrr rd imm) s 0x01 0 := by
  have hn {k : BitVec 16} (hk : imm ≠ k) : imm.toNat ≠ k.toNat := fun e => hk (BitVec.eq_of_toNat_eq e)
  have hl : imm.toNat ≠ 0x30 := hn hlow
  have hh : imm.toNat ≠ 0x31 := hn hhigh
  exact traps_of_error rfl hf (if_neg (by simp [h, hl, hh]))

end Illegal

/-- Settles O13: illegal fields by the number of fields, privilege, and each access by alignment, then by the MPU. -/
theorem illegalAndAccessFaultsTrap : Obligations.IllegalAndAccessFaultsTrap := by
  refine ⟨fun s rd ra rb sh imm i6 o10 hf => ⟨traps_of_illegal_two hf, traps_of_illegal_three hf, traps_of_illegal_one hf, traps_of_illegal_vector hf,
    traps_of_user hf, traps_of_csrr_user hf⟩, fun s rd ra imm hf hrd hra => ?_⟩
  intro ea u Access
  have hu : u.core.r = s.core.r := Laws.atInstr_r s
  have hea : effAddr u.core.r ra imm = ea := effAddr_atInstr s ra imm
  have hload {c n} (f : Bytes → Word) (hexec : exec c s = .next (settle (coreLoad n rd ra imm f s))) : Access c n 1 0x03 :=
    ⟨fun h => traps_of_error hexec hf (loadWith_misaligned f hrd hra hea h), fun h hspan => traps_of_error hexec hf (loadWith_refused f hrd hra hea h (by rwa [hu]))⟩
  have hstore {c n ok} (f : Regs → Bytes) (hok : ok = true) (hexec : exec c s = .next (settle (coreStore n ok ra imm f s))) : Access c n 2 0x04 :=
    ⟨fun h => traps_of_error hexec hf (storeWith_misaligned f hok hra hea h), fun h hspan => traps_of_error hexec hf (storeWith_refused f hok hra hea h (by rwa [hu]))⟩
  refine ⟨hload (fun b => BitVec.ofNat 32 (leNat b)) rfl, hload _ rfl, hload _ rfl, hload _ rfl, hload _ rfl, ?swap, hstore _ hrd rfl, hstore _ hrd rfl, hstore _ hrd rfl,
    fun hv => ⟨?vld, hstore _ (decide_eq_true hv) rfl⟩⟩
  case swap =>
    exact ⟨fun h => traps_of_error rfl hf (swapMem_misaligned hrd hra hea h), fun h hspan => traps_of_error rfl hf (swapMem_refused hrd hra hea h (by rwa [hu]))⟩
  case vld =>
    exact ⟨fun h => traps_of_error rfl hf (vload_misaligned hv hra hea h), fun h hspan => traps_of_error rfl hf (vload_refused hv hra hea h (by rwa [hu]))⟩

end Sys2Proof.Proofs
end

section
/-! The CXV coprocessor: lane operations act on each lane alone, and the accumulators saturate at 40 bits and are read rounded, with what the shadow's copy finds (R385, R386, R538, R541). -/

namespace Sys2Proof.Proofs
open Sys2Proof Sys2Proof.Machine Sys2Proof.Safety

section Lanes
variable {i : Nat} {f h : Nat → BitVec 16}

theorem lane_eq_extract (v : BitVec 64) (i : Nat) : lane v i = v.extractLsb' (16 * i) 16 := by
  ext j
  simp [lane]

/-- A vector's lanes are those it is made of. -/
theorem extract_ofLanes (hi : i < 4) : (ofLanes f).extractLsb' (16 * i) 16 = f i := by
  apply BitVec.eq_of_getLsbD_eq
  intro j hj
  have hcases : i = 0 ∨ i = 1 ∨ i = 2 ∨ i = 3 := by omega
  rcases hcases with rfl | rfl | rfl | rfl <;> simp [ofLanes, hj] <;> grind

theorem ofLanes_congr (hfh : ∀ i < 4, f i = h i) : ofLanes f = ofLanes h := by
  simp [ofLanes, hfh]

/-- An element of a vector changed by position. -/
theorem getD_mapIdx {α : Type} {n i : Nat} {d : α} (g : Nat → α → α) (v : Vector α n) (hi : i < n) : (v.mapIdx g).getD i d = g i (v.getD i d) := by
  simp [Vector.getD, hi]

end Lanes

section Saturation
variable (x : Int)

theorem sat16_eq : sat16 x = if x < -32768 then -32768 else if 32767 < x then 32767 else x := by
  unfold sat16
  split
  · omega
  · split <;> omega

theorem sat40_eq : sat40 x = if x < -(2 ^ 39) then -(2 ^ 39) else if 2 ^ 39 - 1 < x then 2 ^ 39 - 1 else x := by
  unfold sat40
  split
  · omega
  · split <;> omega

theorem ne_sat16_iff : (x != sat16 x) = true ↔ x < -32768 ∨ 32767 < x := by
  rw [bne_iff_ne, sat16_eq]
  split
  · omega
  · split <;> omega

theorem ne_sat40_iff : (x != sat40 x) = true ↔ x < -(2 ^ 39) ∨ 2 ^ 39 - 1 < x := by
  rw [bne_iff_ne, sat40_eq]
  split
  · omega
  · split <;> omega

/-- The complement saturates as the number does (R373). -/
theorem shSat_eq : shSat x = BitVec.ofInt 16 (sat16 x) := by
  have hsat : -1 - sat16 (-1 - x) = sat16 x := by
    unfold sat16
    omega
  rw [shSat, hsat]

end Saturation

/-- `exec c s` is a lane result in v register `rd`: lane `i` is `f i`, and the flag of a lane in `flags` sets and stays (R538). -/
def LaneResult (s : State) (rd : BitVec 5) (c : Instr) (flags : Nat → Prop) (f : Nat → BitVec 16) : Prop :=
  ∃ (x : BitVec 64) (fl : Vector Bool 4), (∀ i < 4, x.extractLsb' (16 * i) 16 = f i) ∧
    (∀ i < 4, fl.getD i false = true ↔ s.core.r.cxv.flag.getD i false = true ∨ flags i) ∧
    Does c s (retired { s.core.r with pc := s.core.r.pc + 4, cxv := { s.core.r.cxv with v := s.core.r.cxv.v.setIfInBounds rd.toNat x, flag := fl } } (vecWord x) 0 (atInstr s))

section LaneOperations
variable {s : State} {c : Instr} {rd ra rb : BitVec 5}

/-- A lane result from its operation's answer, where the shadow finds the same. -/
theorem laneResult_of_ok {g : State → Word → Word → Word × Word} {op : State → CoreRes} {f : Nat → BitVec 16} (hexec : exec c s = .next (settle (coreWith g op s))) (hf : Fetches s)
    (hop : op (atInstr s) = cxvResult rd (ofLanes f) (atInstr s)) (hg : g (atInstr s) (vecWord (ofLanes f)) 0 = (vecWord (ofLanes f), 0)) :
    LaneResult s rd c (fun _ => False) f := by
  refine ⟨ofLanes f, s.core.r.cxv.flag, fun i hi => extract_ofLanes hi, fun i _ => by rw [or_false], ?_⟩
  have hok := does_of_ok hexec hf hop hg
  simp only [nextPc, modRegs, Laws.atInstr_r] at hok
  exact hok

/-- A lane operation whose shadow finds the same by its transform (R373, R385, R538). -/
theorem laneResult_of_cxvLanes {op sh : BitVec 16 → BitVec 16 → BitVec 16} (hexec : exec c s = .next (settle (coreWith (shLanes ra rb sh) (cxvLanes rd ra rb op) s)))
    (hf : Fetches s) (hd : rd.toNat < 8) (ha : ra.toNat < 8) (hb : rb.toNat < 8) (hsh : ∀ a b, sh a b = op a b) :
    LaneResult s rd c (fun _ => False) (fun i => op ((readV s.core.r.cxv ra).extractLsb' (16 * i) 16) ((readV s.core.r.cxv rb).extractLsb' (16 * i) 16)) := by
  refine laneResult_of_ok hexec hf ?_ ?_
  · unfold cxvLanes vOk
    rw [if_pos (by simp [hd, ha, hb]), Laws.atInstr_r]
    simp only [lane_eq_extract]
  · simp only [shLanes, hsh, Laws.atInstr_r, lane_eq_extract]

/-- A saturating lane operation: the flag of a lane that saturates sets and stays (R538). -/
theorem laneResult_of_cxvSat {op : Int → Int → Int} (hexec : exec c s = .next (settle (coreWith (shLanes ra rb (fun a b => shSat (op a.toInt b.toInt))) (cxvSat rd ra rb op) s)))
    (hf : Fetches s) (hd : rd.toNat < 8) (ha : ra.toNat < 8) (hb : rb.toNat < 8) {x : Nat → Int}
    (hx : ∀ i, x i = op ((readV s.core.r.cxv ra).extractLsb' (16 * i) 16).toInt ((readV s.core.r.cxv rb).extractLsb' (16 * i) 16).toInt) :
    LaneResult s rd c (fun i => x i < -32768 ∨ 32767 < x i) (fun i => BitVec.ofInt 16 (if x i < -32768 then -32768 else if 32767 < x i then 32767 else x i)) := by
  simp only [← sat16_eq, ← ne_sat16_iff]
  refine ⟨ofLanes (fun i => BitVec.ofInt 16 (sat16 (x i))), s.core.r.cxv.flag.mapIdx (fun i p => p || x i != sat16 (x i)), fun i hi => extract_ofLanes hi, fun i hi => ?_, ?_⟩
  · rw [getD_mapIdx _ _ hi, Bool.or_eq_true]
  · refine does_of_ok hexec hf ?_ ?_
    · unfold cxvSat vOk
      rw [if_pos (by simp [hd, ha, hb])]
      simp only [lane_eq_extract, Laws.atInstr_r, ← hx]
      simp only [cxvResult, nextPc, modRegs, Laws.atInstr_r]
    · simp only [shLanes, shSat_eq, lane_eq_extract, Laws.atInstr_r, ← hx]

end LaneOperations

/-- Settles O15: each operation from the answer of its meaning, lane by lane. -/
theorem vectorLanes : Obligations.VectorLanes := by
  intro s rd ra rb g hf hd ha hb hg r v l Lanes sum dif clip out
  have hvd : vOk rd = true := decide_eq_true hd
  have hva : vOk ra = true := decide_eq_true ha
  have hlow (w : Word) : w.truncate 16 = w.extractLsb' 0 16 := by
    ext i
    simp
  refine ⟨?vadd, ?vadds, ?vsub, ?vsubs, ?vand, ?vor, ?vxor, ?vmul, ?vsplat, ?vmovv, ?vmovg⟩
  case vadd => exact laneResult_of_cxvLanes rfl hf hd ha hb Laws.shAdd_eq
  case vadds => exact laneResult_of_cxvSat (op := fun a b => a + b) rfl hf hd ha hb (fun _ => rfl)
  case vsub => exact laneResult_of_cxvLanes rfl hf hd ha hb Laws.shSub_eq
  case vsubs => exact laneResult_of_cxvSat (op := fun a b => a - b) rfl hf hd ha hb (fun _ => rfl)
  case vand => exact laneResult_of_cxvLanes rfl hf hd ha hb Laws.shAnd_eq
  case vor => exact laneResult_of_cxvLanes rfl hf hd ha hb Laws.shOr_eq
  case vxor => exact laneResult_of_cxvLanes rfl hf hd ha hb Laws.shXor_eq
  case vmul => exact laneResult_of_cxvLanes rfl hf hd ha hb Laws.shMul_eq
  case vsplat =>
    refine laneResult_of_ok rfl hf ?_ rfl
    rw [if_pos (by simp [hvd, hg]), Laws.atInstr_r, hlow]
  case vmovv =>
    intro n hn
    refine laneResult_of_ok rfl hf ?_ rfl
    have hn5 : (BitVec.ofNat 5 n).toNat = n := by simp; omega
    rw [hn5, if_pos (by simp [hvd, hg, hn]), Laws.atInstr_r]
    simp only [hlow, beq_iff_eq, lane_eq_extract]
    rfl
  case vmovg =>
    intro n hn
    have hn5 : (BitVec.ofNat 5 n).toNat = n := by simp; omega
    have hok := does_of_ok rfl hf ((if_pos (by simp [hva, hn5, hn])).trans (Laws.alu_ok _ (atInstr s) hg rfl)) rfl (c := .vmovg g ra (BitVec.ofNat 5 n))
    rw [Laws.atInstr_r, lane_eq_extract, hn5] at hok
    exact hok

end Sys2Proof.Proofs
end

section
/-! The CXV accumulators and their shadow: saturation at 40 bits, the clear, the rounded read and the DMA form (R385, R386, R538, R541). -/

namespace Sys2Proof.Proofs
open Sys2Proof Sys2Proof.Machine Sys2Proof.Safety

section Vectors
variable {α : Type} {d : α}

/-- Vectors of four with the same elements are the same. -/
theorem vector_ext_getD {v w : Vector α 4} (h : ∀ i < 4, v.getD i d = w.getD i d) : v = w := by
  ext i hi
  simpa [Vector.getD, hi] using h i hi

end Vectors

section MultiplyAccumulate
variable {p : Nat → Int} {sub : Bool} {acc : Vector Int 4} {flag : Vector Bool 4} {i : Nat}

/-- An accumulator before saturation. -/
def macSum (sub : Bool) (a p : Int) : Int := if sub then a - p else a + p

theorem getD_macAcc (hi : i < 4) : (macAcc p sub acc flag).1.getD i 0 = sat40 (macSum sub (acc.getD i 0) (p i)) := by
  unfold macAcc macSum
  rw [getD_mapIdx _ _ hi]

theorem getD_macFlag (hi : i < 4) : (macAcc p sub acc flag).2.getD i false = (flag.getD i false || macSum sub (acc.getD i 0) (p i) != sat40 (macSum sub (acc.getD i 0) (p i))) := by
  unfold macAcc macSum
  rw [getD_mapIdx _ _ hi]

/-- A sum inside 40 bits is not saturated. -/
theorem sat40_inside {x : Int} (h : |x| < 2 ^ 39) : sat40 x = x := by
  rw [abs_lt] at h
  rw [sat40_eq, if_neg (by omega), if_neg (by omega)]

end MultiplyAccumulate

section Copies
variable {sat : Nat → Bool} {acc sh : Vector Int 4} {i : Nat}

/-- The shadow accumulators transformed back, in a lane that has not saturated (R385). -/
theorem getD_unShadow (hi : i < 4) (h : sat i = false) : (unShadow sh sat).getD i 0 = -sh.getD i 0 := by
  unfold unShadow
  rw [getD_mapIdx _ _ hi, h]
  rfl

/-- Where no lane has saturated and the shadow holds the negated values, it finds the accumulators (R385). -/
theorem unShadow_negated (hsat : ∀ i < 4, sat i = false) (h : ∀ i < 4, sh.getD i 0 = -acc.getD i 0) : unShadow sh sat = acc :=
  vector_ext_getD (d := 0) fun i hi => by rw [getD_unShadow hi (hsat i hi), h i hi, neg_neg]

theorem eitherSat_eq_false {f g : Vector Bool 4} (hf : f.getD i false = false) (hg : g.getD i false = false) : eitherSat f g i = false := by
  rw [eitherSat, hf, hg]
  rfl

/-- The shadow accumulators change while a window is open, and nothing else does (R385). -/
theorem shadowAccs_eq (p : Vector Int 4 × Vector Bool 4) (s : State) :
    shadowAccs p s = { s with core := { s.core with tdx := { s.core.tdx with
      shAcc := if s.core.tdx.open_ = true then p.1 else s.core.tdx.shAcc, shFlag := if s.core.tdx.open_ = true then p.2 else s.core.tdx.shFlag } } } := by
  unfold shadowAccs
  split <;> rfl

end Copies

section Operations
variable {s : State} {c : Instr} {rd ra rb : BitVec 5} {sub : Bool}

/-- What an instruction does whose shadow may find another value (R373, R376). -/
theorem does_of_pair {s₁ : State} {g : State → Word → Word → Word × Word} {f : State → CoreRes} {res ea : Word} (hexec : exec c s = .next (settle (coreWith g f s))) (hf : Fetches s)
    (hok : f (atInstr s) = .ok (s₁, res, ea)) : Does c s (foldPair res ea (g (atInstr s) res ea).1 (g (atInstr s) res ea).2 s₁) := by
  rw [Does, hexec, Laws.coreWith_ok hf hok]

/-- The product of lane `i` of two v registers. -/
def laneProduct (r : Regs) (ra rb : BitVec 5) (i : Nat) : Int :=
  ((r.cxv.v.getD ra.toNat 0).extractLsb' (16 * i) 16).toInt * ((r.cxv.v.getD rb.toNat 0).extractLsb' (16 * i) 16).toInt

theorem laneProducts_primary (r : Regs) (i : Nat) : laneProducts false (readV r.cxv ra) (readV r.cxv rb) i = laneProduct r ra rb i := by
  simp [laneProducts, laneProduct, lane_eq_extract, readV]

/-- The shadow's products have the first operand negated (R385). -/
theorem laneProducts_shadow (r : Regs) (i : Nat) : laneProducts true (readV r.cxv ra) (readV r.cxv rb) i = -laneProduct r ra rb i := by
  simp [laneProducts, laneProduct, lane_eq_extract, readV]

/-- The shadow's sum is the negated one where its accumulator is. -/
theorem macSum_neg (a p : Int) : macSum sub (-a) (-p) = -macSum sub a p := by
  unfold macSum
  split <;> omega

/-- Beside unsaturated accumulators whose shadow holds the negated values, both copies of a multiply-accumulate find the same (R385, R386). -/
theorem macBoth_agree {u : State} (h : ∀ i < 4, u.core.tdx.shAcc.getD i 0 = -u.core.r.cxv.acc.getD i 0 ∧ u.core.tdx.shFlag.getD i false = false ∧
      u.core.r.cxv.flag.getD i false = false ∧ |macSum sub (u.core.r.cxv.acc.getD i 0) (laneProduct u.core.r ra rb i)| < 2 ^ 39) :
    (∀ i < 4, (macBoth ra rb sub u).2.1.getD i 0 = -macSum sub (u.core.r.cxv.acc.getD i 0) (laneProduct u.core.r ra rb i)) ∧
    unShadow (macBoth ra rb sub u).2.1 (eitherSat (macBoth ra rb sub u).1.2 (macBoth ra rb sub u).2.2) = (macBoth ra rb sub u).1.1 := by
  have hshadow (i : Nat) (hi : i < 4) : macSum sub (u.core.tdx.shAcc.getD i 0) (laneProducts true (readV u.core.r.cxv ra) (readV u.core.r.cxv rb) i) =
      -macSum sub (u.core.r.cxv.acc.getD i 0) (laneProduct u.core.r ra rb i) := by
    rw [(h i hi).1, laneProducts_shadow, macSum_neg]
  have hacc (i : Nat) (hi : i < 4) : (macBoth ra rb sub u).2.1.getD i 0 = -macSum sub (u.core.r.cxv.acc.getD i 0) (laneProduct u.core.r ra rb i) := by
    obtain ⟨-, -, -, hin⟩ := h i hi
    rw [macBoth, getD_macAcc hi, hshadow i hi, sat40_inside (by rwa [abs_neg])]
  refine ⟨hacc, unShadow_negated (fun i hi => eitherSat_eq_false ?_ ?_) fun i hi => ?_⟩
  · obtain ⟨-, -, hflag, hin⟩ := h i hi
    rw [macBoth, getD_macFlag hi, laneProducts_primary, sat40_inside hin, hflag]
    simp
  · obtain ⟨-, hflag, -, hin⟩ := h i hi
    rw [macBoth, getD_macFlag hi, hshadow i hi, sat40_inside (by rwa [abs_neg]), hflag]
    simp
  · obtain ⟨-, -, -, hin⟩ := h i hi
    rw [hacc i hi, macBoth, getD_macAcc hi, laneProducts_primary, sat40_inside hin]

/-- `exec c s` is a multiply-accumulate whose lane sums are `x`: saturated at 40 bits with the flag, and repeated in the shadow accumulators (R385, R386, R538). -/
def Accumulates (s : State) (c : Instr) (x : Nat → Int) : Prop :=
  ∃ (a : Vector Int 4) (fl : Vector Bool 4),
    (∀ i < 4, a.getD i 0 = (if x i < -(2 ^ 39) then -(2 ^ 39) else if 2 ^ 39 - 1 < x i then 2 ^ 39 - 1 else x i)) ∧
    (∀ i < 4, fl.getD i false = true ↔ s.core.r.cxv.flag.getD i false = true ∨ x i < -(2 ^ 39) ∨ 2 ^ 39 - 1 < x i) ∧
    ∃ (sa : Vector Int 4) (sf : Vector Bool 4) (res sh : Word),
      Does c s (foldPair res 0 sh 0 { atInstr s with core := { (atInstr s).core with
        r := { s.core.r with pc := s.core.r.pc + 4, cxv := { s.core.r.cxv with acc := a, flag := fl } }, tdx := { (atInstr s).core.tdx with shAcc := sa, shFlag := sf } } }) ∧
      ((∀ i < 4, (atInstr s).core.tdx.shAcc.getD i 0 = -s.core.r.cxv.acc.getD i 0 ∧ (atInstr s).core.tdx.shFlag.getD i false = false ∧
          s.core.r.cxv.flag.getD i false = false ∧ |x i| < 2 ^ 39) →
        res = sh ∧ ((atInstr s).core.tdx.open_ = true → ∀ i < 4, sa.getD i 0 = -x i))

/-- The answer of a multiply-accumulate: both copies, and the primary's accumulators as they are folded. -/
theorem cxvMac_ok {u : State} (sub : Bool) (ha : ra.toNat < 8) (hb : rb.toNat < 8) :
    cxvMac ra rb sub u = .ok ({ u with core := { u.core with
        r := { u.core.r with pc := u.core.r.pc + 4, cxv := { u.core.r.cxv with acc := (macBoth ra rb sub u).1.1, flag := (macBoth ra rb sub u).1.2 } },
        tdx := { u.core.tdx with shAcc := if u.core.tdx.open_ = true then (macBoth ra rb sub u).2.1 else u.core.tdx.shAcc,
                                 shFlag := if u.core.tdx.open_ = true then (macBoth ra rb sub u).2.2 else u.core.tdx.shFlag } } },
      accWord (macBoth ra rb sub u).1.1 (eitherSat (macBoth ra rb sub u).1.2 (macBoth ra rb sub u).2.2), 0) := by
  unfold cxvMac vOk
  rw [if_pos (by simp [ha, hb])]
  simp only [shadowAccs_eq, nextPc, modRegs]

theorem accumulates_of_cxvMac (hexec : exec c s = .next (settle (coreWith (shMac ra rb sub) (cxvMac ra rb sub) s))) (hf : Fetches s) (ha : ra.toNat < 8) (hb : rb.toNat < 8)
    {x : Nat → Int} (hx : ∀ i, x i = macSum sub (s.core.r.cxv.acc.getD i 0) (laneProduct s.core.r ra rb i)) : Accumulates s c x := by
  obtain rfl : x = fun i => macSum sub (s.core.r.cxv.acc.getD i 0) (laneProduct s.core.r ra rb i) := funext hx
  have hu : (atInstr s).core.r = s.core.r := Laws.atInstr_r s
  have hdo := does_of_pair hexec hf (cxvMac_ok sub ha hb)
  rw [hu] at hdo
  refine ⟨_, _, fun i hi => ?_, fun i hi => ?_, _, _, _, _, hdo, fun h => ?_⟩
  · dsimp only
    rw [← sat40_eq, ← laneProducts_primary, ← hu]
    exact getD_macAcc hi
  · dsimp only
    rw [← ne_sat40_iff, ← laneProducts_primary, ← hu, ← Bool.or_eq_true]
    exact Bool.eq_iff_iff.1 (getD_macFlag hi)
  · obtain ⟨hacc, hback⟩ := macBoth_agree (u := atInstr s) (ra := ra) (rb := rb) (sub := sub) (by simpa only [hu] using h)
    refine ⟨by rw [shMac, hback], fun hopen i hi => ?_⟩
    rw [if_pos hopen, hacc i hi, hu]

/-- The answer of VACRD: the lanes read, and as they are folded. -/
theorem cxvRead_ok {u : State} (sh : BitVec 5) (hd : rd.toNat < 8) :
    cxvRead rd sh u = .ok ({ u with core := { u.core with r := { u.core.r with
        pc := u.core.r.pc + 4, cxv := { u.core.r.cxv with v := u.core.r.cxv.v.setIfInBounds rd.toNat (ofLanes (fun i => accRead sh.toNat (u.core.r.cxv.acc.getD i 0))) } } } },
      vecWord (accLanes sh.toNat u.core.r.cxv.acc (eitherSat u.core.r.cxv.flag u.core.tdx.shFlag)), 0) := by
  unfold cxvRead vOk
  rw [if_pos (by simp [hd])]
  rfl

/-- The quotient that VACRD rounds to, before it saturates (R538; log 13). -/
def roundedShift (n : Nat) (a : Int) : Int := if n = 0 then a else (a + 2 ^ (n - 1)) / 2 ^ n

/-- It is the nearest: within half of 2^n. -/
theorem abs_roundedShift_le (n : Nat) (a : Int) : |2 ^ (n + 1) * roundedShift n a - 2 * a| ≤ 2 ^ n := by
  unfold roundedShift
  cases n with
  | zero => simp
  | succ k =>
    have hpos : (0 : Int) < 2 ^ (k + 1) := by positivity
    have hlo := Int.mul_ediv_self_le (x := a + 2 ^ k) (k := 2 ^ (k + 1)) (by omega)
    have hhi := Int.lt_mul_ediv_self_add (x := a + 2 ^ k) hpos
    have hk : (2 : Int) ^ (k + 1) = 2 * 2 ^ k := by ring
    rw [if_neg (by omega), Nat.add_sub_cancel, pow_succ _ (k + 1), abs_le]
    constructor <;> linarith

/-- A lane that VACRD reads (R538). -/
theorem toInt_accRead (n : Nat) (a : Int) :
    (accRead n a).toInt = if roundedShift n a < -32768 then -32768 else if 32767 < roundedShift n a then 32767 else roundedShift n a := by
  have hrange : -32768 ≤ sat16 (roundedShift n a) ∧ sat16 (roundedShift n a) ≤ 32767 := by
    unfold sat16
    omega
  have hread : accRead n a = BitVec.ofInt 16 (sat16 (roundedShift n a)) := by
    simp only [accRead, roundedShift, beq_iff_eq]
  rw [hread, ← sat16_eq, BitVec.toInt_ofInt]
  generalize sat16 (roundedShift n a) = y at hrange
  rw [Int.bmod_def]
  split <;> omega

/-- Where no lane has saturated, the lanes folded are those read (R386). -/
theorem accLanes_unsaturated {n : Nat} {acc : Vector Int 4} {sat : Nat → Bool} (h : ∀ i < 4, sat i = false) :
    accLanes n acc sat = ofLanes (fun i => accRead n (acc.getD i 0)) :=
  ofLanes_congr fun i hi => by rw [h i hi]; rfl

end Operations

/-- Settles O16: the two multiply-accumulates, the clear, the read and the DMA form, each from the answer of its meaning. -/
theorem vectorAccumulators : Obligations.VectorAccumulators := by
  intro s rd ra rb sh hf hd ha hb r u l acc Macs
  have hu : u.core.r = r := Laws.atInstr_r s
  refine ⟨?vmac, ?vmsu, ?vaclr, ?vacrd, ?dma⟩
  case vmac => exact accumulates_of_cxvMac rfl hf ha hb (fun _ => rfl)
  case vmsu => exact accumulates_of_cxvMac rfl hf ha hb (fun _ => rfl)
  case vaclr =>
    refine does_of_ok rfl hf ?_ rfl
    simp only [cxvClear, shadowAccs_eq, nextPc, modRegs]
    rw [Laws.atInstr_r]
  case vacrd =>
    have hdo := does_of_pair rfl hf (cxvRead_ok sh hd) (c := .vacrd rd sh)
    rw [Laws.atInstr_r] at hdo
    refine ⟨_, _, _, hdo, fun h => ?_, fun i hi => ⟨roundedShift sh.toNat (acc i), ?_, abs_roundedShift_le _ _⟩⟩
    · have hsat (i : Nat) (hi : i < 4) : eitherSat r.cxv.flag u.core.tdx.shFlag i = false := eitherSat_eq_false (h i hi).2.2 (h i hi).2.1
      have hback : unShadow u.core.tdx.shAcc (eitherSat r.cxv.flag u.core.tdx.shFlag) = r.cxv.acc := unShadow_negated hsat fun i hi => (h i hi).1
      refine ⟨by rw [accLanes_unsaturated hsat], ?_⟩
      rw [shAccRead, Laws.atInstr_r, hback]
    · rw [extract_ofLanes hi, toInt_accRead]
  case dma =>
    intro hsup htdx
    have hc : Compared s := fun h => absurd h (by simp [htdx])
    refine does_of_ok rfl hf ?_ rfl
    unfold dmaFeed vOk
    rw [hu, if_neg (by simp [r, hsup, ha]), Laws.serial_compared hc]
    simp only [nextPc, modRegs, closed_r, Laws.closeWindow_dma, Laws.atInstr_dma]
    rfl

end Sys2Proof.Proofs
end

section
/-! A step is the front command's (O55); a few HX32 words (O56); the machine while POR is asserted (O59). -/

namespace Sys2Proof.Proofs
open Sys2Proof Sys2Proof.Machine Sys2Proof.Safety

/-- Every command goes on: no arm of `exec` answers a fault or a refusal. -/
theorem exec_goesOn (c : Instr) (s : State) : ∃ t, exec c s = .next t := by
  cases c <;> exact ⟨_, rfl⟩

theorem step_cons (c : Instr) (l : List Instr) (s : State) : step { s with pending := c :: l } = exec c { s with pending := l } := rfl

theorem step_nil {s : State} (h : s.pending = []) : step s = .next s := by
  simp [step, h]

theorem goesOn (s : State) : GoesOn s := by
  cases h : s.pending with
  | nil => exact ⟨s, step_nil h⟩
  | cons c rest =>
    obtain ⟨t, ht⟩ := exec_goesOn c { s with pending := rest }
    exact ⟨t, by simp [step, h, ht]⟩

/-- Settles O55: the arms of `exec`, and the queue's two cases. -/
theorem stepTakesFront : Obligations.StepTakesFront :=
  ⟨step_cons, exec_goesOn, fun _ => step_nil, goesOn, fun _ _ _ => rfl⟩

/-- Settles O56: the words are literals, so the decoder computes each of them. -/
theorem hx32Words : Obligations.Hx32Words := by
  unfold Obligations.Hx32Words
  decide

/-- No domain is supplied under POR, whichever it is. -/
theorem domSt_reset (d : Domain) : domSt State.reset d = .off := by
  cases d <;> rfl

/-- Settles O59: the reset state is a literal, so each of its parts computes. -/
theorem resetState : Obligations.ResetState := by
  refine ⟨Laws.reset_memories, rfl, rfl, rfl, rfl, rfl, rfl, rfl, rfl, rfl, rfl, domSt_reset, rfl, ?_, rfl, rfl, rfl, rfl, rfl, rfl, rfl, rfl, rfl, rfl, rfl, rfl, rfl, rfl, rfl⟩
  decide

end Sys2Proof.Proofs
end

section
/-! The rill queue: where a message is placed, and which entry gives way to it (R356, R357, R369). -/

namespace Sys2Proof.Proofs
open Sys2Proof Sys2Proof.Machine Sys2Proof.Safety

/-- The entry `x` stands behind `e`: a message of the same microsecond from a higher source (R369). -/
def StandsBehind (e x : QEntry) : Prop := x.at_ = e.at_ ∧ e.msg.source < x.msg.source

/-- The queue holds an entry of the class. -/
def Holds (q : List QEntry) (c : Cls) : Prop := ∃ x, x ∈ q ∧ x.msg.cls = c

theorem place_end {e : QEntry} {q : List QEntry} (h : ∀ x ∈ q, ¬ StandsBehind e x) : place e q = q ++ [e] := by
  induction q with
  | nil => rfl
  | cons x q ih =>
    obtain ⟨hx, hq⟩ := List.forall_mem_cons.1 h
    rw [place, if_neg (by simpa [StandsBehind] using hx), ih hq, List.cons_append]

theorem place_before {e x : QEntry} {a b : List QEntry} (ha : ∀ y ∈ a, ¬ StandsBehind e y) (hx : StandsBehind e x) :
    place e (a ++ x :: b) = a ++ e :: x :: b := by
  induction a with
  | nil => rw [List.nil_append, place, if_pos (by simpa [StandsBehind] using hx), List.nil_append]
  | cons y a ih =>
    obtain ⟨hy, ha⟩ := List.forall_mem_cons.1 ha
    rw [List.cons_append, place, if_neg (by simpa [StandsBehind] using hy), ih ha, List.cons_append]

@[simp] theorem length_place (e : QEntry) (q : List QEntry) : (place e q).length = q.length + 1 := by
  induction q with
  | nil => rfl
  | cons x q ih => unfold place; split <;> simp [ih]

@[simp] theorem countP_place (p : QEntry → Bool) (e : QEntry) (q : List QEntry) :
    (place e q).countP p = q.countP p + if p e then 1 else 0 := by
  induction q with
  | nil => simp [place, List.countP_cons]
  | cons x q ih => unfold place; split <;> simp [List.countP_cons, ih, Nat.add_right_comm]

theorem any_isCls {q : List QEntry} {c : Cls} : q.any (isCls c) = true ↔ Holds q c := by
  simp [Holds, isCls]

/-- A queue that holds the class has an oldest entry of it: `dropFirst` takes that one out, and `find?` finds it. -/
theorem oldest_of_holds {q : List QEntry} {c : Cls} (h : Holds q c) :
    ∃ a x b, (q = a ++ x :: b ∧ x.msg.cls = c) ∧ (∀ y ∈ a, y.msg.cls ≠ c) ∧ dropFirst (isCls c) q = a ++ b ∧ q.find? (isCls c) = some x := by
  induction q with
  | nil => simp [Holds] at h
  | cons z q ih =>
    by_cases hz : z.msg.cls = c
    · exact ⟨[], z, q, ⟨rfl, hz⟩, by simp, by simp [dropFirst, isCls, hz], by simp [isCls, hz]⟩
    · obtain ⟨y, hy, hc⟩ := h
      have hq : Holds q c := ⟨y, (List.mem_cons.1 hy).resolve_left (by rintro rfl; exact hz hc), hc⟩
      obtain ⟨a, x, b, ⟨rfl, hx⟩, ha, hd, hf⟩ := ih hq
      refine ⟨z :: a, x, b, ⟨rfl, hx⟩, List.forall_mem_cons.2 ⟨hz, ha⟩, ?_, ?_⟩
      · rw [dropFirst, if_neg (by simpa [isCls] using hz), hd, List.cons_append]
      · rw [List.find?_cons_of_neg (by simpa [isCls] using hz), hf]

/-- A queue that holds the class has a newest entry of it: `dropLast` takes that one out. -/
theorem newest_of_holds {q : List QEntry} {c : Cls} (h : Holds q c) :
    ∃ a x b, (q = a ++ x :: b ∧ x.msg.cls = c) ∧ (∀ y ∈ b, y.msg.cls ≠ c) ∧ Machine.dropLast (isCls c) q = a ++ b := by
  have hrev : Holds q.reverse c := by simpa [Holds] using h
  obtain ⟨a, x, b, ⟨hq, hx⟩, ha, -, -⟩ := oldest_of_holds hrev
  have e : q = b.reverse ++ x :: a.reverse := by simpa using congrArg List.reverse hq
  refine ⟨b.reverse, x, a.reverse, ⟨e, hx⟩, by simpa using ha, ?_⟩
  have hidx : q.reverse.findIdx (isCls c) = a.length := by
    rw [hq, List.findIdx_append, if_neg (by simpa [isCls] using ha), List.findIdx_cons]
    simp [isCls, hx]
  have hlen : q.length - 1 - a.length = b.reverse.length := by simp [e]
  have hlen' : q.length - a.length = (b.reverse ++ [x]).length := by simp [e]; omega
  unfold Machine.dropLast
  rw [hidx, hlen, hlen', e, List.take_left, List.append_cons b.reverse x a.reverse, List.drop_left]

/-- Taking out an entry of one class leaves the count of every other. -/
theorem countP_of_taken {c d : Cls} (h : c ≠ d) {a b : List QEntry} {x : QEntry} (hx : x.msg.cls = d) :
    (a ++ x :: b).countP (fun y => y.msg.cls == c) = (a ++ b).countP (fun y => y.msg.cls == c) := by
  have hxc : (x.msg.cls == c) = false := by simp [hx, h.symm]
  simp [List.countP_append, hxc]

section Full
variable {e : QEntry} {q : List QEntry} (hfull : 56 ≤ generalUsed q)
include hfull

theorem enqueue_notice (hc : e.msg.cls = .notice) :
    enqueue e q = if q.any (isCls .notice) then (place e (dropFirst (isCls .notice) q), true, false) else (q, true, false) := by
  simp only [enqueue, if_neg (Nat.not_lt.2 hfull), hc]

theorem enqueue_recoverable (hc : e.msg.cls = .recoverable) :
    enqueue e q = if q.any (isCls .notice) then (place e (dropFirst (isCls .notice) q), true, false)
      else if q.any (isCls .recoverable) then (place e (Machine.dropLast (isCls .recoverable) q), false, true) else (q, false, true) := by
  simp only [enqueue, if_neg (Nat.not_lt.2 hfull), hc]

theorem enqueue_high (hc : e.msg.cls = .severe ∨ e.msg.cls = .grave) :
    enqueue e q = if q.length < 64 then (place { e with reserved := true } q, false, false)
      else if q.any (isCls .notice) then (place (inPlace e (q.find? (isCls .notice))) (dropFirst (isCls .notice) q), true, false)
      else if q.any (isCls .recoverable) then (place (inPlace e (q.find? (isCls .recoverable))) (dropFirst (isCls .recoverable) q), false, false)
      else (q, false, true) := by
  rcases hc with hc | hc <;> simp only [enqueue, if_neg (Nat.not_lt.2 hfull), hc]

end Full

theorem any_isCls_false {q : List QEntry} {c : Cls} : q.any (isCls c) = false ↔ ¬ Holds q c := by
  rw [← any_isCls, Bool.not_eq_true]

/-- The entry of one class gone from the queue, another put where it belongs. -/
def Replaces (q n : List QEntry) (c : Cls) : Prop := ∃ x y a b, n = place x (a ++ b) ∧ q = a ++ y :: b ∧ y.msg.cls = c

theorem replaces_oldest {q : List QEntry} {c : Cls} (h : q.any (isCls c) = true) (x : QEntry) : Replaces q (place x (dropFirst (isCls c) q)) c := by
  obtain ⟨a, y, b, ⟨hq, hy⟩, -, hd, -⟩ := oldest_of_holds (any_isCls.1 h)
  exact ⟨x, y, a, b, by rw [hd], hq, hy⟩

theorem replaces_newest {q : List QEntry} {c : Cls} (h : q.any (isCls c) = true) (x : QEntry) : Replaces q (place x (Machine.dropLast (isCls c) q)) c := by
  obtain ⟨a, y, b, ⟨hq, hy⟩, -, hd⟩ := newest_of_holds (any_isCls.1 h)
  exact ⟨x, y, a, b, by rw [hd], hq, hy⟩

theorem Replaces.length {q n : List QEntry} {c : Cls} (h : Replaces q n c) : n.length = q.length := by
  obtain ⟨x, y, a, b, rfl, rfl, -⟩ := h
  simp; omega

theorem Replaces.countP_le {q n : List QEntry} {c d : Cls} (h : Replaces q n d) (hcd : c ≠ d) :
    q.countP (fun x => x.msg.cls == c) ≤ n.countP (fun x => x.msg.cls == c) := by
  obtain ⟨x, y, a, b, rfl, rfl, hy⟩ := h
  rw [countP_of_taken hcd hy, countP_place]
  omega

/-- What a full queue becomes: it takes a new entry while it holds fewer than 64, it stays, or one entry of the two lower classes gives way. -/
theorem enqueue_full (e : QEntry) {q : List QEntry} (hfull : 56 ≤ generalUsed q) :
    (q.length < 64 ∧ ∃ x, (enqueue e q).1 = place x q) ∨ (enqueue e q).1 = q ∨ Replaces q (enqueue e q).1 .notice ∨ Replaces q (enqueue e q).1 .recoverable := by
  have high (hc : e.msg.cls = .severe ∨ e.msg.cls = .grave) :
      (q.length < 64 ∧ ∃ x, (enqueue e q).1 = place x q) ∨ (enqueue e q).1 = q ∨ Replaces q (enqueue e q).1 .notice ∨ Replaces q (enqueue e q).1 .recoverable := by
    rw [enqueue_high hfull hc]
    split
    · exact .inl ⟨‹_›, _, rfl⟩
    split
    · exact .inr (.inr (.inl (replaces_oldest ‹_› _)))
    split
    · exact .inr (.inr (.inr (replaces_oldest ‹_› _)))
    · exact .inr (.inl rfl)
  cases hc : e.msg.cls with
  | notice =>
    rw [enqueue_notice hfull hc]
    split
    · exact .inr (.inr (.inl (replaces_oldest ‹_› _)))
    · exact .inr (.inl rfl)
  | recoverable =>
    rw [enqueue_recoverable hfull hc]
    split
    · exact .inr (.inr (.inl (replaces_oldest ‹_› _)))
    split
    · exact .inr (.inr (.inr (replaces_newest ‹_› _)))
    · exact .inr (.inl rfl)
  | severe => exact high (.inl hc)
  | grave => exact high (.inr hc)

theorem enqueue_room (e : QEntry) {q : List QEntry} (h : generalUsed q < 56) : enqueue e q = (place e q, false, false) := by
  simp only [enqueue, if_pos h]

theorem countP_le_enqueue (e : QEntry) (q : List QEntry) {c : Cls} (hn : c ≠ .notice) (hr : c ≠ .recoverable) :
    q.countP (fun x => x.msg.cls == c) ≤ (enqueue e q).1.countP (fun x => x.msg.cls == c) := by
  by_cases hfull : generalUsed q < 56
  · simp [enqueue_room e hfull]
  · obtain ⟨-, x, h⟩ | h | h | h := enqueue_full e (Nat.not_lt.1 hfull)
    · simp [h]
    · rw [h]
    · exact h.countP_le hn
    · exact h.countP_le hr

theorem length_enqueue_le (e : QEntry) {q : List QEntry} (hfull : 56 ≤ generalUsed q) (hq : q.length ≤ 64) : (enqueue e q).1.length ≤ 64 := by
  obtain ⟨hlt, x, h⟩ | h | h | h := enqueue_full e hfull
  · rw [h, length_place]; omega
  · rwa [h]
  · rwa [h.length]
  · rwa [h.length]

/-- Settles O53: the queue by room and class, each outcome from the equation of `enqueue` for that class. -/
theorem queueKeepsTheHigherClasses : Obligations.QueueKeepsTheHigherClasses := by
  intro e q
  refine ⟨place_end, ?_, enqueue_room e, ?_, ?_, ?_, fun c => countP_le_enqueue e q, length_enqueue_le e⟩
  · rintro a x b rfl ha hx
    exact place_before ha hx
  · intro hfull hc
    rw [enqueue_notice hfull hc]
    by_cases hn : Holds q .notice
    · obtain ⟨a, x, b, hq, ha, hd, -⟩ := oldest_of_holds hn
      rw [if_pos (any_isCls.2 hn)]
      exact ⟨rfl, fun h => absurd hn h, fun _ => ⟨a, x, b, hq, ha, by simp [hd]⟩⟩
    · rw [if_neg (by rwa [any_isCls])]
      exact ⟨rfl, fun _ => rfl, fun h => absurd h hn⟩
  · intro hfull hc
    rw [enqueue_recoverable hfull hc]
    by_cases hn : Holds q .notice
    · obtain ⟨a, x, b, hq, ha, hd, -⟩ := oldest_of_holds hn
      rw [if_pos (any_isCls.2 hn)]
      exact ⟨fun _ => ⟨rfl, a, x, b, hq, ha, by simp [hd]⟩, fun h => absurd hn h, fun h => absurd hn h, fun h => absurd hn h⟩
    rw [if_neg (by rwa [any_isCls])]
    by_cases hr : Holds q .recoverable
    · obtain ⟨a, x, b, hq, hb, hd⟩ := newest_of_holds hr
      rw [if_pos (any_isCls.2 hr)]
      exact ⟨fun h => absurd h hn, fun _ => rfl, fun _ _ => ⟨a, x, b, hq, hb, by rw [hd]⟩, fun _ h => absurd hr h⟩
    · rw [if_neg (by rwa [any_isCls])]
      exact ⟨fun h => absurd h hn, fun _ => rfl, fun _ h => absurd h hr, fun _ _ => rfl⟩
  · intro hfull hc
    rw [enqueue_high hfull hc]
    refine ⟨fun hlt => if_pos hlt, fun hge hn => ?_, fun hge hn hr => ?_, fun hge hn hr => ?_⟩
    · obtain ⟨a, x, b, hq, ha, hd, hf⟩ := oldest_of_holds hn
      rw [if_neg (Nat.not_lt.2 hge), if_pos (any_isCls.2 hn)]
      exact ⟨rfl, a, x, b, hq, ha, by simp [hd, hf, inPlace]⟩
    · obtain ⟨a, x, b, hq, ha, hd, hf⟩ := oldest_of_holds hr
      rw [if_neg (Nat.not_lt.2 hge), if_neg (by rwa [any_isCls]), if_pos (any_isCls.2 hr)]
      exact ⟨rfl, a, x, b, hq, ha, by simp [hd, hf, inPlace]⟩
    · rw [if_neg (Nat.not_lt.2 hge), if_neg (by rwa [any_isCls]), if_neg (by rwa [any_isCls])]

end Sys2Proof.Proofs
end

section
/-! Lists of the state by index: one element changed, what it reads, and that the others stay. -/

namespace Sys2Proof.Proofs
open Sys2Proof Sys2Proof.Machine Sys2Proof.Safety

section
variable {α : Type} (f : α → α)

@[simp] theorem length_modAt (i : Nat) (l : List α) : (modAt f i l).length = l.length := by
  induction l generalizing i with
  | nil => cases i <;> rfl
  | cons x l ih => cases i <;> simp [modAt, ih]

@[simp] theorem length_setAt (i : Nat) (x : α) (l : List α) : (setAt i x l).length = l.length := length_modAt _ i l

theorem getD_modAt_same {i : Nat} {l : List α} (h : i < l.length) (d : α) : (modAt f i l).getD i d = f (l.getD i d) := by
  induction l generalizing i with
  | nil => simp at h
  | cons x l ih =>
    cases i with
    | zero => rfl
    | succ i => simpa [modAt] using ih (Nat.lt_of_succ_lt_succ h)

theorem getD_modAt_other {i j : Nat} (h : j ≠ i) (l : List α) (d : α) : (modAt f i l).getD j d = l.getD j d := by
  induction l generalizing i j with
  | nil => cases i <;> rfl
  | cons x l ih =>
    cases i with
    | zero =>
      obtain ⟨j, rfl⟩ := Nat.exists_eq_succ_of_ne_zero h
      rfl
    | succ i =>
      cases j with
      | zero => rfl
      | succ j => simpa [modAt] using ih (fun e => h (by rw [e]))

theorem getD_modAt_out {i : Nat} {l : List α} (h : l.length ≤ i) (d : α) : (modAt f i l).getD i d = d := by
  simp [List.getD_eq_getElem?_getD, List.getElem?_eq_none (by simpa using h : (modAt f i l).length ≤ i)]

theorem mem_modAt {P : α → Prop} {i : Nat} {l : List α} (hf : ∀ x ∈ l, P x → P (f x)) (h : ∀ x ∈ l, P x) : ∀ x ∈ modAt f i l, P x := by
  induction l generalizing i with
  | nil => cases i <;> simp [modAt]
  | cons y l ih =>
    obtain ⟨hfy, hfl⟩ := List.forall_mem_cons.1 hf
    obtain ⟨hy, hl⟩ := List.forall_mem_cons.1 h
    cases i with
    | zero => exact List.forall_mem_cons.2 ⟨hfy hy, hl⟩
    | succ i => exact List.forall_mem_cons.2 ⟨hy, ih hfl hl⟩

end

end Sys2Proof.Proofs
end

section
/-! The floors and the confirmation of the active bank (R509, R510, R512). -/

namespace Sys2Proof.Proofs
open Sys2Proof Sys2Proof.Machine Sys2Proof.Safety

theorem floorOf_raiseTo_same {k : Nat} {s : State} (v : Nat) (h : k < s.enc.counters.length) : floorOf (raiseTo k v s) k = max v (floorOf s k) :=
  getD_modAt_same _ h 0

theorem floorOf_raiseTo_other {j k : Nat} (h : j ≠ k) (v : Nat) (s : State) : floorOf (raiseTo k v s) j = floorOf s j :=
  getD_modAt_other _ h _ 0

theorem raiseFloor_none {k : Nat} {s : State} (h : regionHeader k (regionOf (activeBank s) k) = none) : raiseFloor k s = s := by
  simp [raiseFloor, h]

theorem raiseFloor_some {k : Nat} {s : State} {hd : Header} (h : regionHeader k (regionOf (activeBank s) k) = some hd) :
    raiseFloor k s = raiseTo k hd.secVer s := by
  simp [raiseFloor, h]

theorem floorOf_raiseFloor_other {j k : Nat} (h : j ≠ k) (s : State) : floorOf (raiseFloor k s) j = floorOf s j := by
  cases hd : regionHeader k (regionOf (activeBank s) k) with
  | none => rw [raiseFloor_none hd]
  | some x => rw [raiseFloor_some hd, floorOf_raiseTo_other h]

theorem floorOf_le_raiseFloor (k j : Nat) (s : State) : floorOf s j ≤ floorOf (raiseFloor k s) j := by
  by_cases hj : j = k
  · subst hj
    cases hd : regionHeader j (regionOf (activeBank s) j) with
    | none => rw [raiseFloor_none hd]
    | some x =>
      rw [raiseFloor_some hd]
      by_cases hlen : j < s.enc.counters.length
      · rw [floorOf_raiseTo_same _ hlen]; exact Nat.le_max_right ..
      · simp [floorOf, List.getD_eq_getElem?_getD, List.getElem?_eq_none (Nat.not_lt.1 hlen)]
  · rw [floorOf_raiseFloor_other hj]

@[simp] theorem bootWrite_enc (f : BankSel → BankSel) (s : State) : (bootWrite f s).enc = s.enc := by simp [bootWrite]

@[simp] theorem confirmActive_enc (s : State) : (confirmActive s).enc = s.enc := by
  unfold confirmActive; split <;> simp

theorem floorOf_congr {s t : State} (h : s.enc = t.enc) (j : Nat) : floorOf s j = floorOf t j := by
  rw [floorOf, floorOf, h]

/-- The confirmation touches the floors by its raises alone. -/
theorem floorOf_le_autoConfirm (s : State) (j : Nat) : floorOf s j ≤ floorOf (autoConfirm s) j := by
  unfold autoConfirm
  extract_lets s1 s2
  have h1 : floorOf s j = floorOf s1 j := floorOf_congr (by unfold s1; split <;> simp) j
  have h2 : floorOf s1 j ≤ floorOf s2 j := calc
    floorOf s1 j ≤ floorOf (raiseFloor 0 s1) j := floorOf_le_raiseFloor ..
    _ ≤ floorOf (raiseFloor 1 (raiseFloor 0 s1)) j := floorOf_le_raiseFloor ..
    _ ≤ floorOf s2 j := floorOf_le_raiseFloor ..
  rw [h1]
  split
  · split
    · exact h2
    · exact Nat.le_refl _
  · exact Nat.le_refl _

@[simp] theorem setConfirmed_active (n : Nat) (v : Bool) (r : BankSel) : (setConfirmed n v r).active = r.active := by
  unfold setConfirmed; split <;> rfl

theorem confirmed_setConfirmed (n : Nat) (v : Bool) (r : BankSel) : confirmed (setConfirmed n v r) n = v := by
  unfold confirmed setConfirmed; split <;> rfl

theorem confirmActive_done {s : State} (h : confirmed s.boot.sel s.boot.sel.active = true) : confirmActive s = s := by
  simp [confirmActive, h]

theorem confirmActive_confirmed (s : State) :
    confirmed (confirmActive s).boot.sel s.boot.sel.active = true ∧ (confirmActive s).boot.sel.active = s.boot.sel.active := by
  by_cases h : confirmed s.boot.sel s.boot.sel.active = true
  · rw [confirmActive_done h]; exact ⟨h, rfl⟩
  · rw [confirmActive, if_neg h]
    simp only [bootWrite, Laws.bump_keeps, setConfirmed_active, and_true]
    exact confirmed_setConfirmed ..

/-- Settles O40: a raise takes the maximum, and the confirmation raises or leaves each floor. -/
theorem floorsNeverFall : Obligations.FloorsNeverFall := by
  intro k p hk hlen
  refine ⟨fun h hd => ?_, raiseFloor_none, fun j hj => floorOf_raiseFloor_other hj p, floorOf_le_autoConfirm p, confirmActive_done, fun _ => confirmActive_confirmed p⟩
  rw [raiseFloor_some hd, floorOf_raiseTo_same _ (by omega), Nat.max_comm]

end Sys2Proof.Proofs
end

section
/-! What a reported condition can change at all: a state apart from the parts that the reactions of R350 to R365 touch. -/

namespace Sys2Proof.Proofs
open Sys2Proof Sys2Proof.Machine

/-- The state with every part that a rill message or its reaction may change at its reset value: what two states share that differ by such a message alone. -/
def unreacted (s : State) : State :=
  { s with
    outs := { s.outs with chans := [] }, nvm := { s.nvm with life := [], tick := 0 }, ao := { s.ao with rillCopies := [], grave := none, recovery := [], severeStarts := [], severeAt := none },
    fab := { s.fab with queue := [], dropped := 0, seq := [], held := [] }, mill := { s.mill with on := false, ports := [] }, hap := { s.hap with playing := none, testing := none, bridge := false },
    core := { s.core with halted := false }, boot := { s.boot with runSecs := 0 }, resetDue := none, wakeDue := none }

section Outputs
variable (s : State)

@[simp] theorem unreacted_bump (c i n : Nat) : unreacted (bump c i n s) = unreacted s := by
  unfold bump; split <;> rfl

@[simp] theorem unreacted_takeHold (p : Nat → Bool) : unreacted (takeHold s p) = unreacted s := rfl

@[simp] theorem unreacted_countSwitchOns (old new : List Chan) : unreacted (countSwitchOns old new s) = unreacted s :=
  foldl_keeps (part := unreacted) (fun s e => by split <;> simp) _ s

@[simp] theorem unreacted_applyDrives : unreacted (applyDrives s) = unreacted s := by
  unfold applyDrives
  rw [unreacted_countSwitchOns]
  rfl

@[simp] theorem unreacted_failsafeStop : unreacted (failsafeStop s) = unreacted s := by unfold failsafeStop; split <;> rfl
@[simp] theorem unreacted_hapticOff : unreacted (hapticOff s) = unreacted s := rfl

end Outputs

section Messages
variable (s : State)

@[simp] theorem unreacted_callReset (c : Cause) : unreacted (callReset c s) = unreacted s := by unfold callReset; (repeat' split) <;> rfl
@[simp] theorem unreacted_callWake (n : Nat) : unreacted (callWake n s) = unreacted s := rfl
@[simp] theorem unreacted_keepCopy (m : Rill) (n : Nat) : unreacted (keepCopy m n s) = unreacted s := rfl
@[simp] theorem unreacted_queueMsg (m : Rill) : unreacted (queueMsg m s).1 = unreacted s := rfl
@[simp] theorem unreacted_nextSeq (src : Nat) : unreacted (nextSeq src s).2 = unreacted s := rfl
@[simp] theorem unreacted_bumpRecovery (src : Nat) : unreacted (bumpRecovery src s) = unreacted s := rfl

theorem unreacted_severeAt (x : Option Nat) : unreacted { s with ao := { s.ao with severeAt := x } } = unreacted s := rfl
theorem unreacted_runSecs (n : Nat) : unreacted { s with boot := { s.boot with runSecs := n } } = unreacted s := rfl
theorem unreacted_severeStarts (l : List Nat) : unreacted { s with ao := { s.ao with severeStarts := l } } = unreacted s := rfl

@[simp] theorem unreacted_severeReact (m : Rill) : unreacted (severeReact m s) = unreacted s := by
  unfold severeReact
  dsimp only
  (repeat' split) <;> simp only [unreacted_callReset, unreacted_applyDrives, unreacted_severeAt, unreacted_takeHold]

@[simp] theorem unreacted_severeArrive (m : Rill) : unreacted (severeArrive m s).1 = unreacted s := by
  unfold severeArrive
  dsimp only
  (repeat' split) <;> simp only [unreacted_severeReact, unreacted_severeStarts, unreacted_bumpRecovery, unreacted_runSecs]

@[simp] theorem unreacted_graveReact (m : Rill) (n : Nat) : unreacted (graveReact m n s) = unreacted s := by
  unfold graveReact
  split
  · rfl
  · simp only [unreacted_callReset, unreacted_applyDrives, unreacted_hapticOff, unreacted_failsafeStop]
    rfl

@[simp] theorem unreacted_escalate (m : Rill) : unreacted (escalate m s) = unreacted s := by simp [escalate]

@[simp] theorem unreacted_queueLost : unreacted (queueLost s) = unreacted s := by
  unfold queueLost
  extract_lets q e s1 r
  split <;> simp [r, s1, q]

@[simp] theorem unreacted_arrive (m : Rill) : unreacted (arrive m s) = unreacted s := by
  unfold arrive
  extract_lets q s1 s2 r s3
  have h1 : unreacted s1 = unreacted s := by simp only [s1, q]; split <;> simp
  have h2 : unreacted s2 = unreacted s := by simp only [s2]; split <;> simp [h1]
  have h3 : unreacted s3 = unreacted s := by simp only [s3, r]; (repeat' split) <;> simp [h2]
  split <;> simp [h3]

@[simp] theorem unreacted_issueAt (src kind island detail : Nat) : unreacted (issueAt src kind island detail s) = unreacted s := by simp [issueAt]

@[simp] theorem unreacted_report (src kind island detail : Nat) : unreacted (report src kind island detail s) = unreacted s := by
  unfold report
  split
  · simp
  · rfl

@[simp] theorem unreacted_issue (src kind detail : Nat) : unreacted (issue src kind detail s) = unreacted s := by simp [issue]

/-- A message leaves the stations, and what the record of each holds. -/
@[simp] theorem issue_stn (src kind detail : Nat) : (issue src kind detail s).mill.stn = s.mill.stn :=
  congrArg (fun t => t.mill.stn) (unreacted_issue s src kind detail)

end Messages

end Sys2Proof.Proofs
end

section
/-! The stations of a port at its input deadline: the record of a JOIN, and the rows of R223. -/

namespace Sys2Proof.Proofs
open Sys2Proof Sys2Proof.Machine Sys2Proof.Safety

section Frames
variable (s : State)

@[simp] theorem putEvent_stn (t : Transport) (id code priv : Nat) (b : Bytes) : (putEvent t id code priv b s).mill.stn = s.mill.stn := by
  unfold putEvent; (repeat' split) <;> simp

@[simp] theorem eventTo_stn (t : Transport) (id code priv : Nat) (b : Bytes) : (eventTo t id code priv b s).mill.stn = s.mill.stn := by
  unfold eventTo; (repeat' split) <;> simp

@[simp] theorem event_stn (code priv : Nat) (b : Bytes) : (event code priv b s).mill.stn = s.mill.stn := by
  unfold event emitEvent
  split
  · rfl
  · exact foldl_keeps (part := (·.mill.stn)) (fun s e => by split <;> simp) _ s

@[simp] theorem levelChanged_stn (src : Nat) : (levelChanged src s).mill.stn = s.mill.stn := by
  unfold levelChanged; dsimp only; (repeat' split) <;> rfl

@[simp] theorem applyDrives_stn : (applyDrives s).mill.stn = s.mill.stn := congrArg (fun t => t.mill.stn) (unreacted_applyDrives s)
@[simp] theorem motorRun_stn (p : Nat) (f : Bool) (d : Nat) : (motorRun p f d s).mill.stn = s.mill.stn := by simp [motorRun, putDefault]
@[simp] theorem motorStop_stn (p : Nat) : (motorStop p s).mill.stn = s.mill.stn := by simp [motorStop, putDefault]
@[simp] theorem wiperRun_stn (p : WipePhase) (d : Nat) : (wiperRun p d s).mill.stn = s.mill.stn := by unfold wiperRun; split <;> simp
@[simp] theorem wiperHalt_stn (p : WipePhase) : (wiperHalt p s).mill.stn = s.mill.stn := by unfold wiperHalt; split <;> simp

@[simp] theorem wiperRest_stn : (wiperRest s).mill.stn = s.mill.stn := by
  unfold wiperRest; dsimp only; (repeat' split) <;> simp [putDefault]

@[simp] theorem setIgn_stn (src : Nat) (v : Ign) : (setIgn src v s).mill.stn = s.mill.stn := by
  unfold setIgn; (repeat' split) <;> simp

@[simp] theorem loseIgn_stn : (loseIgn s).mill.stn = s.mill.stn := by
  unfold loseIgn; split <;> simp

@[simp] theorem setLock_stn (src : Nat) (v : LockState) : (setLock src v s).mill.stn = s.mill.stn := by
  unfold setLock; split <;> simp

@[simp] theorem readIgn_stn (src : Nat) (v : Option Nat) : (readIgn src v s).mill.stn = s.mill.stn := by
  unfold readIgn; dsimp only; split <;> simp

@[simp] theorem readLock_stn (src : Nat) (v : Option Nat) : (readLock src v s).mill.stn = s.mill.stn := by
  unfold readLock; dsimp only; split <;> simp

@[simp] theorem feedStation_stn (a : Nat) (d : Bytes) : (feedStation a d s).mill.stn = s.mill.stn := by
  unfold feedStation; dsimp only; (repeat' split) <;> simp

@[simp] theorem loseStation_stn (a : Nat) : (loseStation a s).mill.stn = s.mill.stn := by
  unfold loseStation; dsimp only; (repeat' split) <;> simp

end Frames

section Stations
variable {s : State} {a : Nat}

theorem getStn_congr {s t : State} (h : s.mill.stn = t.mill.stn) (a : Nat) : getStn s a = getStn t a := by rw [getStn, getStn, h]

theorem getStn_modStn (h : a < s.mill.stn.length) (f : Station → Station) : getStn (modStn a f s) a = f (getStn s a) := getD_modAt_same f h _

@[simp] theorem length_modStn (b : Nat) (f : Station → Station) : (modStn b f s).mill.stn.length = s.mill.stn.length := length_modAt f b _

/-- The stations after one has taken a state (R224). -/
theorem setStn_stn (p : Nat) {new : StnState} (h : (getStn s a).st ≠ new) :
    (setStn p a new s).mill.stn = modAt (fun x => { x with st := new }) a s.mill.stn := by
  unfold setStn
  rw [if_neg (by simpa using h)]
  dsimp only
  (repeat' split) <;> simp [modStn]

theorem getStn_setStn (h : a < s.mill.stn.length) (p : Nat) (new : StnState) : getStn (setStn p a new s) a = { getStn s a with st := new } := by
  by_cases hn : (getStn s a).st = new
  · subst hn
    simp [setStn]
  · rw [getStn, setStn_stn p hn]
    exact getD_modAt_same _ h _

@[simp] theorem length_setStn (p b : Nat) (new : StnState) : (setStn p b new s).mill.stn.length = s.mill.stn.length := by
  by_cases hn : (getStn s b).st = new
  · simp [setStn, hn]
  · rw [setStn_stn p hn, length_modAt]

@[simp] theorem getStn_feedStation (b : Nat) (d : Bytes) : getStn (feedStation b d s) a = getStn s a := getStn_congr (by simp) a
@[simp] theorem getStn_issue (src kind detail : Nat) : getStn (issue src kind detail s) a = getStn s a := getStn_congr (by simp) a
@[simp] theorem getStn_bump (c i n : Nat) : getStn (bump c i n s) a = getStn s a := getStn_congr (by simp) a
@[simp] theorem getStn_modEngine (p : Nat) (f : Engine → Engine) : getStn (modEngine p f s) a = getStn s a := rfl

theorem getStn_countMiss (h : a < s.mill.stn.length) : getStn (countMiss a s) a = { getStn s a with missed := satInc 0xFFFF (getStn s a).missed } := by
  rw [countMiss, getStn_bump, getStn_modStn h]

@[simp] theorem length_countMiss (b : Nat) : (countMiss b s).mill.stn.length = s.mill.stn.length := by simp [countMiss]

end Stations

/-- The state that the rows of R223 give a station that no JOIN record moves. -/
def rowState (x : Station) : StnState :=
  if x.got.isSome then
    match x.st with
    | .lost => .joining
    | .joining => if 1 ≤ x.fresh then .active else .joining
    | .stale => .active
    | st => st
  else
    match x.st with
    | .joining => if 2 ≤ x.missRow then .lost else .joining
    | .active => .stale
    | .stale => if 2 ≤ x.missRow then .lost else .stale
    | .refused => if 191 ≤ x.silent then .lost else .refused
    | st => st

/-- The rows of R223: they give the state, and leave the serial and the answer. -/
theorem inputRows_station {s : State} {a : Nat} (h : a < s.mill.stn.length) (p : Nat) :
    (getStn (inputRows p a s) a).st = rowState (getStn s a) ∧ (getStn (inputRows p a s) a).serial = (getStn s a).serial ∧
    (getStn (inputRows p a s) a).answer = (getStn s a).answer := by
  unfold inputRows rowState
  cases hg : (getStn s a).got with
  | some d =>
    cases hs : (getStn s a).st <;> dsimp only <;> (repeat' split) <;> simp_all [getStn_modStn, getStn_setStn] 
  | none =>
    cases hs : (getStn s a).st <;> dsimp only <;> (repeat' split) <;> simp_all [getStn_modStn, getStn_setStn, getStn_countMiss]

section Joins
variable {s : State} {p a : Nat}

/-- Another serial than the admitted station's (R222). -/
def OtherSerial (x : Station) (j : JoinRec) : Prop := (x.st = .active ∨ x.st = .stale ∨ x.st = .joining) ∧ ∃ n, x.serial = some n ∧ n ≠ j.serial

theorem otherSerial_iff (x : Station) (j : JoinRec) : otherSerial x j = true ↔ OtherSerial x j := by
  cases hx : x.serial <;> simp [otherSerial, OtherSerial, hx, or_assoc]

theorem inSnapshot_iff (x : Station) : inSnapshot x = true ↔ x.st = .active ∨ x.st = .stale := by
  simp [inSnapshot]

theorem getStn_refuseJoin (h : a < s.mill.stn.length) (r : Nat) : getStn (refuseJoin p a r s) a = { getStn s a with answer := some r } := by
  rw [refuseJoin, getStn_issue, getStn_modStn h]

@[simp] theorem length_refuseJoin (b r : Nat) : (refuseJoin p b r s).mill.stn.length = s.mill.stn.length := by simp [refuseJoin]

variable (hport : onPort s p a = true)
include hport

theorem evalStation_silent (hj : (getStn s a).join = none) : evalStation p s a = inputRows p a s := by
  simp [evalStation, hport, hj]

variable {j : JoinRec} (hj : (getStn s a).join = some j)
include hj

theorem evalStation_other (ho : OtherSerial (getStn s a) j) : evalStation p s a = inputRows p a (refuseJoin p a 5 s) := by
  simp [evalStation, hport, hj, (otherSerial_iff ..).2 ho]

variable (ho : ¬ OtherSerial (getStn s a) j)
include ho

theorem evalStation_admitted (hr : joinReason s a j = 0) : evalStation p s a = admitStation p a j s := by
  simp [evalStation, hport, hj, hr, otherSerial_iff, ho]

theorem evalStation_refused (hr : joinReason s a j ≠ 0) :
    evalStation p s a = if inSnapshot (getStn s a) then inputRows p a (refuseJoin p a (joinReason s a j) (modStn a (fun y => { y with silent := 0 }) s))
      else setStn p a .refused (refuseJoin p a (joinReason s a j) (modStn a (fun y => { y with silent := 0 }) s)) := by
  unfold evalStation
  rw [if_neg (by simp [hport])]
  simp only [hj]
  rw [if_neg (by rwa [otherSerial_iff])]

end Joins

/-- A JOIN record heard on another port leaves an ACTIVE or STALE station as it is. -/
theorem getStn_evalStray {p : Nat} {s : State} {e : Nat × JoinRec} (h : inSnapshot (getStn s e.1) = true) : getStn (evalStray p s e) e.1 = getStn s e.1 := by
  unfold evalStray
  dsimp only
  split
  · rw [if_pos (by simp [h])]; simp
  · simp

/-- The rows of R223 read the state, the record, and the two counts alone. -/
theorem rowState_refused (x : Station) (r : Nat) : rowState { x with answer := some r } = rowState x := rfl

theorem rowState_live {x : Station} (h : x.st = .active ∨ x.st = .stale) (r : Nat) : rowState { x with silent := 0, answer := some r } = rowState x := by
  rcases h with h | h <;> simp [rowState, h]

/-- Settles O47: the JOIN record first, and where it moves nothing, the rows. -/
theorem stationsFollowTheTable : Obligations.StationsFollowTheTable := by
  refine ⟨fun p s e => getStn_evalStray, fun p a s ha hport => ?_⟩
  dsimp only
  refine ⟨fun j hj ho hr => ?_, fun j hj ho => ?_, fun j hj ho hr => ?_, fun hrows => ?_⟩
  · rw [evalStation_admitted hport hj ho hr, admitStation, getStn_setStn (by simpa using ha), getStn_modStn ha]
    exact ⟨rfl, rfl, rfl⟩
  · obtain ⟨-, hserial, hanswer⟩ := inputRows_station (s := refuseJoin p a 5 s) (a := a) (by simpa using ha) p
    rw [getStn_refuseJoin ha] at hserial hanswer
    rw [evalStation_other hport hj ho]
    exact ⟨hanswer, hserial⟩
  · rw [evalStation_refused hport hj ho hr]
    split
    next hin =>
      obtain ⟨-, -, hanswer⟩ := inputRows_station (s := refuseJoin p a (joinReason s a j) (modStn a (fun y => { y with silent := 0 }) s)) (a := a) (by simpa using ha) p
      rw [getStn_refuseJoin (by simpa using ha)] at hanswer
      exact ⟨hanswer, fun h1 h2 => absurd ((inSnapshot_iff _).1 hin) (by simp [h1, h2])⟩
    next =>
      rw [getStn_setStn (by simpa using ha), getStn_refuseJoin (by simpa using ha)]
      exact ⟨rfl, fun _ _ => rfl⟩
  · have hst : (getStn (evalStation p s a) a).st = rowState (getStn s a) := by
      rcases hrows with hj | ⟨j, hj, ho | ⟨hr, hlive⟩⟩
      · rw [evalStation_silent hport hj]
        exact (inputRows_station ha p).1
      · rw [evalStation_other hport hj ho, (inputRows_station (by simpa using ha) p).1, getStn_refuseJoin ha, rowState_refused]
      · by_cases ho : OtherSerial (getStn s a) j
        · rw [evalStation_other hport hj ho, (inputRows_station (by simpa using ha) p).1, getStn_refuseJoin ha, rowState_refused]
        · rw [evalStation_refused hport hj ho hr, if_pos ((inSnapshot_iff _).2 hlive), (inputRows_station (by simpa using ha) p).1,
            getStn_refuseJoin (by simpa using ha), getStn_modStn ha]
          exact rowState_live hlive _
    rw [hst]
    constructor
    · intro d hd
      refine ⟨?_, ?_, ?_, ?_, ?_, ?_, ?_⟩ <;> intro h <;> simp +contextual [rowState, hd, h]
    · intro hd
      refine ⟨?_, ?_, ?_, ?_, ?_, ?_, ?_, ?_, ?_⟩ <;> intro h <;> simp +contextual [rowState, hd, h]

end Sys2Proof.Proofs
end

section
/-! A device reset: what it cuts, what its table keeps and what it clears (R307, R312, R442, R450, R506). -/

namespace Sys2Proof.Proofs
open Sys2Proof Sys2Proof.Machine Sys2Proof.Safety

section Keys
variable (s : State)

/-- The state without the keys, the counters and the free values: what a cut of key updates and floor raises may change. -/
def apartFromKeys : State := { s with freeCtr := 0, enc := { s.enc with slots := [], updating := [], counters := [], raising := [] } }

theorem apartFromKeys_keyCut (u : KeyUpdate) : apartFromKeys (keyCut s u) = apartFromKeys s := by
  unfold keyCut; dsimp only; (repeat' split) <;> rfl

theorem apartFromKeys_raiseCut (u : RaiseRun) : apartFromKeys (raiseCut s u) = apartFromKeys s := by
  unfold raiseCut; dsimp only; split <;> rfl

theorem apartFromKeys_keysCut : apartFromKeys (keysCut s) = apartFromKeys s := by
  unfold keysCut
  dsimp only
  rw [foldl_keeps (part := apartFromKeys) apartFromKeys_raiseCut, foldl_keeps (part := apartFromKeys) apartFromKeys_keyCut]

theorem raiseCut_slots (u : RaiseRun) : (raiseCut s u).enc.slots = s.enc.slots := by
  unfold raiseCut; dsimp only; split <;> rfl

theorem keyCut_counters (u : KeyUpdate) : (keyCut s u).enc.counters = s.enc.counters ∧ (keyCut s u).enc.raising = s.enc.raising := by
  unfold keyCut; dsimp only; (repeat' split) <;> exact ⟨rfl, rfl⟩

variable {s}

/-- With no key update in progress every slot stays. -/
theorem keysCut_slots (h : s.enc.updating = []) : (keysCut s).enc.slots = s.enc.slots := by
  unfold keysCut
  simp only [h]
  exact foldl_keeps (part := (·.enc.slots)) raiseCut_slots _ s

/-- With no floor raise in progress every counter stays. -/
theorem keysCut_counters (h : s.enc.raising = []) : (keysCut s).enc.counters = s.enc.counters := by
  have hr := foldl_keeps (part := (·.enc.raising)) (fun s u => (keyCut_counters s u).2) (s.enc.updating.filter (fun u => !u.cut)) s
  have hc := foldl_keeps (part := (·.enc.counters)) (fun s u => (keyCut_counters s u).1) (s.enc.updating.filter (fun u => !u.cut)) s
  unfold keysCut
  dsimp only at hr hc ⊢
  rw [hr, h]
  exact hc

end Keys

section Nvm
variable (s : State)

/-- The state without the data NVM and the free values: what a cut of NVM operations may change. -/
def apartFromNvm : State := { s with freeCtr := 0, nvm := {} }

@[simp] theorem apartFromNvm_lineCut (torn : Bool) : apartFromNvm (lineCut torn s).2 = apartFromNvm s := by
  unfold lineCut; split <;> rfl

@[simp] theorem apartFromNvm_poisonAt (c : Bool) (off : Nat) : apartFromNvm (poisonAt c off s) = apartFromNvm s := by
  unfold poisonAt; split <;> rfl

@[simp] theorem apartFromNvm_putCopy (n : Nat) (c : TwillCopy) : apartFromNvm (putCopy n c s) = apartFromNvm s := rfl
@[simp] theorem apartFromNvm_modRaw (a : Nat) (f : RawArea → RawArea) : apartFromNvm (modRaw a f s) = apartFromNvm s := rfl
@[simp] theorem apartFromNvm_bump (c i n : Nat) : apartFromNvm (bump c i n s) = apartFromNvm s := by unfold bump; split <;> rfl
@[simp] theorem apartFromNvm_eraseSector (n : Nat) : apartFromNvm (eraseSector n s) = apartFromNvm s := apartFromNvm_bump ..

@[simp] theorem apartFromNvm_eraseSectors (n k : Nat) : apartFromNvm (eraseSectors n k s) = apartFromNvm s := by
  induction k generalizing n s with
  | zero => rfl
  | succ k ih => rw [eraseSectors, ih, apartFromNvm_eraseSector]

@[simp] theorem apartFromNvm_erasedLines (l : List (Option Bytes)) : apartFromNvm (erasedLines l s).2 = apartFromNvm s := by
  induction l generalizing s with
  | nil => rfl
  | cons x l ih => rw [erasedLines, ih]; rfl

theorem apartFromNvm_set (n : Nvm) : apartFromNvm { s with nvm := n } = apartFromNvm s := rfl

theorem apartFromNvm_opCut (torn : Bool) (o : NvmOp) : apartFromNvm (opCut torn s o) = apartFromNvm s := by
  unfold opCut
  dsimp only
  (repeat' split) <;> simp only [apartFromNvm_set, apartFromNvm_modRaw, apartFromNvm_lineCut, apartFromNvm_poisonAt, apartFromNvm_erasedLines]

@[simp] theorem apartFromNvm_commitCut (torn : Bool) : apartFromNvm (commitCut torn s) = apartFromNvm s := by
  unfold commitCut
  dsimp only
  (repeat' split) <;> simp only [apartFromNvm_set, apartFromNvm_putCopy, apartFromNvm_lineCut, apartFromNvm_poisonAt, apartFromNvm_eraseSectors]

theorem apartFromNvm_nvmCut (torn : Bool) : apartFromNvm (nvmCut torn s) = apartFromNvm s := by
  unfold nvmCut
  dsimp only
  rw [apartFromNvm_set, apartFromNvm_commitCut, foldl_keeps (part := apartFromNvm) (fun s o => apartFromNvm_opCut s torn o)]

@[simp] theorem eraseSectors_journal (n k : Nat) : (eraseSectors n k s).nvm.journal = s.nvm.journal := by
  induction k generalizing n s with
  | zero => rfl
  | succ k ih =>
    rw [eraseSectors, ih, eraseSector]
    unfold bump; split <;> rfl

@[simp] theorem poisonAt_journal (c : Bool) (off : Nat) : (poisonAt c off s).nvm.journal = s.nvm.journal := by
  unfold poisonAt; split <;> rfl

@[simp] theorem lineCut_nvm (torn : Bool) : (lineCut torn s).2.nvm = s.nvm := by
  unfold lineCut; split <;> rfl

@[simp] theorem commitCut_journal (torn : Bool) : (commitCut torn s).nvm.journal = s.nvm.journal := by
  unfold commitCut
  dsimp only
  (repeat' split) <;> simp [putCopy]

variable {s}

/-- With no operation in progress the journal stays. -/
theorem nvmCut_journal (torn : Bool) (h : s.nvm.ops = []) : (nvmCut torn s).nvm.journal = s.nvm.journal := by
  simp [nvmCut, h]

end Nvm

section Copy
variable (s : State)

/-- The state without the record, the banks and the free values: what a cut of a copy may change. -/
def apartFromBanks : State := { s with freeCtr := 0, boot := { s.boot with sel := {}, bankA := {}, bankB := {} } }

theorem apartFromBanks_copyCut : apartFromBanks (copyCut s) = apartFromBanks s := by
  unfold copyCut setBank; dsimp only; (repeat' split) <;> rfl

theorem copyCut_none {s : State} (h : s.boot.copy = none) : copyCut s = s := by
  simp [copyCut, h]

end Copy

/-- The cuts that come first in a device reset: of keys and raises, of NVM operations, of a copy (R307, R312, R450, R506). -/
def afterCuts (c : Cause) (s : State) : State := copyCut (nvmCut (weakCause c) (keysCut s))

section Reset
variable (c : Cause) (s : State)

/-- What each cut leaves, a part at a time: a part outside the keys, the NVM and the banks is the same before and after. -/
theorem afterCuts_part {β : Type} (f : State → β) (hk : ∀ s, f s = f (apartFromKeys s)) (hn : ∀ s, f s = f (apartFromNvm s)) (hb : ∀ s, f s = f (apartFromBanks s)) :
    f (afterCuts c s) = f s := by
  rw [afterCuts, hb, apartFromBanks_copyCut, ← hb, hn, apartFromNvm_nvmCut, ← hn, hk, apartFromKeys_keysCut, ← hk]

theorem copyCut_enc : (copyCut s).enc = s.enc := congrArg (·.enc) (apartFromBanks_copyCut s)
theorem copyCut_nvm : (copyCut s).nvm = s.nvm := congrArg (·.nvm) (apartFromBanks_copyCut s)
theorem nvmCut_enc (torn : Bool) : (nvmCut torn s).enc = s.enc := congrArg (·.enc) (apartFromNvm_nvmCut s torn)
theorem nvmCut_boot (torn : Bool) : (nvmCut torn s).boot = s.boot := congrArg (·.boot) (apartFromNvm_nvmCut s torn)
theorem keysCut_nvm : (keysCut s).nvm = s.nvm := congrArg (·.nvm) (apartFromKeys_keysCut s)
theorem keysCut_boot : (keysCut s).boot = s.boot := congrArg (·.boot) (apartFromKeys_keysCut s)

theorem resetActs_state (ps : Option (List Nat)) (i : Nat) (l : List Actuator) : ∃ n, (resetActs ps i l s).2 = { s with freeCtr := n } := by
  induction l generalizing i s with
  | nil => exact ⟨s.freeCtr, rfl⟩
  | cons a l ih =>
    have hx : ∃ n, (resetAct (ps.map (fun l => l.getD i 0)) a s).2 = { s with freeCtr := n } := by
      unfold resetAct
      split
      · exact ⟨s.freeCtr, rfl⟩
      · exact ⟨s.freeCtr + 1, rfl⟩
    obtain ⟨n, hn⟩ := hx
    obtain ⟨k, hk⟩ := ih (resetAct (ps.map (fun l => l.getD i 0)) a s).2 (i + 1)
    exact ⟨k, by simp only [resetActs]; rw [hk, hn]⟩

theorem placeActs_frame (ps : Option (List Nat)) (old : List Actuator) :
    ∃ n acts, placeActs ps old s = { s with freeCtr := n, outs := { s.outs with acts := acts }, nvm := { s.nvm with positions := none } } := by
  obtain ⟨n, hn⟩ := resetActs_state s ps 0 old
  exact ⟨n, (resetActs ps 0 old s).1, by simp only [placeActs]; rw [hn]⟩

theorem weakCause_iff : weakCause c = true ↔ c = .por ∨ c = .bor ∨ c = .lpbo := by
  simp [weakCause, or_assoc]

end Reset

section Tables
variable (c : Cause) (s : State)

/-- The column of a cause in the table of AO, row by row (R442). -/
theorem resetAo_rows (a : Ao) : let b := resetAo c a
    b.rtc = a.rtc ∧ b.rtcSet = a.rtcSet ∧ b.life = a.life ∧ b.sticky = a.sticky ∧ b.alarmed = a.alarmed ∧ b.tamperPending = a.tamperPending ∧ b.epoch = a.epoch ∧
    b.history = ((causeCode c, a.life) :: a.history).take 8 := by
  unfold resetAo addHistory
  dsimp only
  (repeat' split) <;> simp

theorem resetAo_por (a : Ao) : let b := resetAo .por a
    b.refusals = List.replicate 9 0 ∧ b.grave = none ∧ b.recovery = [] ∧ b.severeStarts = [] ∧ b.aborts = [] ∧ b.rillCopies = [] := by
  simp [resetAo, addHistory, weakCause]

theorem resetAo_kept {c : Cause} (h : c ≠ .por) (a : Ao) : let b := resetAo c a
    b.refusals = a.refusals ∧ b.grave = a.grave ∧ b.recovery = a.recovery ∧ b.severeStarts = a.severeStarts ∧ b.aborts = a.aborts ∧ b.rillCopies = a.rillCopies := by
  unfold resetAo addHistory
  rw [if_neg (by simpa using h)]
  dsimp only
  split <;> simp

theorem resetAo_weak {c : Cause} (h : weakCause c = true) (a : Ao) : let b := resetAo c a
    b.severeAt = none ∧ b.tdxReplays = 0 ∧ b.tdxSecond = 0 := by
  simp [resetAo, addHistory, h]

theorem resetAo_strong {c : Cause} (h : weakCause c = false) (a : Ao) : let b := resetAo c a
    b.severeAt = a.severeAt ∧ b.tdxReplays = a.tdxReplays ∧ b.tdxSecond = a.tdxSecond := by
  unfold resetAo addHistory
  rw [h]
  split <;> simp

/-- Placing the actuators changes them, the positions of S2 and the free values alone. -/
@[simp] theorem placeActs_keeps (ps : Option (List Nat)) (old : List Actuator) : let q := placeActs ps old s
    q.ao = s.ao ∧ q.fab = s.fab ∧ q.mbx = s.mbx ∧ q.win = s.win ∧ q.core = s.core ∧ q.tag = s.tag ∧ q.mill = s.mill ∧ q.scan = s.scan ∧ q.enc = s.enc ∧
    q.boot = s.boot ∧ q.otp = s.otp ∧ q.pending = s.pending ∧ q.outs.chans = s.outs.chans ∧ q.outs.claims = s.outs.claims ∧
    q.nvm.journal = s.nvm.journal ∧ q.nvm.ops = s.nvm.ops ∧ q.nvm.commit = s.nvm.commit ∧ q.nvm.staging = s.nvm.staging := by
  obtain ⟨n, acts, h⟩ := placeActs_frame s ps old
  simp [h]

theorem deviceReset_ao : (deviceReset c s).ao = resetAo c s.ao := by
  have h : (afterCuts c s).ao = s.ao := afterCuts_part c s (·.ao) (fun _ => rfl) (fun _ => rfl) (fun _ => rfl)
  simp only [deviceReset, placeActs_keeps]
  exact congrArg (resetAo c) h

theorem deviceReset_enc : (deviceReset c s).enc = resetEnc (afterCuts c s).enc := by
  simp only [deviceReset, placeActs_keeps]; rfl

theorem deviceReset_boot : (deviceReset c s).boot = resetBoot c (afterCuts c s).now (afterCuts c s).boot := by
  simp only [deviceReset, placeActs_keeps]; rfl

theorem deviceReset_tag : (deviceReset c s).tag = resetTag (insPending (afterCuts c s)) (afterCuts c s).tag := by
  simp only [deviceReset, placeActs_keeps]; rfl

/-- The data NVM after a device reset: nothing in progress or staged, the journal as the cuts left it. -/
theorem deviceReset_nvm : let n := (deviceReset c s).nvm
    n.journal = (afterCuts c s).nvm.journal ∧ n.ops = [] ∧ n.commit = none ∧ n.staging = none := by
  simp only [deviceReset, placeActs_keeps]
  exact ⟨rfl, rfl, rfl, rfl⟩

/-- What a device reset clears: the fabric's queue, the mailboxes, the core, the outputs and the stations. -/
theorem deviceReset_clear : let q := deviceReset c s
    q.fab.queue = [] ∧ q.fab.dropped = 0 ∧ q.mbx.sessions = [] ∧ q.win = {} ∧ q.core = {} ∧ q.outs.chans = ({} : Outs).chans ∧ q.outs.claims = [] ∧ q.mill = {} := by
  simp only [deviceReset, placeActs_keeps, and_self]

/-- No switch input counts as closed after a reset, whatever its cause. -/
theorem deviceReset_switches : ∀ x ∈ (deviceReset c s).scan.sw, x.closed = false := by
  simp only [deviceReset, placeActs_keeps]
  intro x hx
  split at hx
  · exact (by decide : ∀ x ∈ ({} : Scan).sw, x.closed = false) x hx
  · dsimp only at hx
    split at hx
    · obtain ⟨w, -, rfl⟩ := List.mem_map.1 hx
      rfl
    · rw [List.eq_of_mem_replicate hx]

theorem afterCuts_log : (afterCuts c s).enc.log = s.enc.log ∧ (afterCuts c s).enc.overflow = s.enc.overflow ∧ (afterCuts c s).tag = s.tag ∧
    (afterCuts c s).boot.flash = s.boot.flash ∧ (afterCuts c s).otp = s.otp ∧ (afterCuts c s).pending = s.pending :=
  ⟨afterCuts_part c s (·.enc.log) (fun _ => rfl) (fun _ => rfl) (fun _ => rfl), afterCuts_part c s (·.enc.overflow) (fun _ => rfl) (fun _ => rfl) (fun _ => rfl),
    afterCuts_part c s (·.tag) (fun _ => rfl) (fun _ => rfl) (fun _ => rfl), afterCuts_part c s (·.boot.flash) (fun _ => rfl) (fun _ => rfl) (fun _ => rfl),
    afterCuts_part c s (·.otp) (fun _ => rfl) (fun _ => rfl) (fun _ => rfl), afterCuts_part c s (·.pending) (fun _ => rfl) (fun _ => rfl) (fun _ => rfl)⟩

theorem deviceReset_fixed : (deviceReset c s).otp = s.otp ∧ (deviceReset c s).pending = s.pending := by
  obtain ⟨-, -, -, -, hotp, hpending⟩ := afterCuts_log c s
  simp only [deviceReset, placeActs_keeps]
  exact ⟨hotp, hpending⟩

theorem afterCuts_slots (h : s.enc.updating = []) : (afterCuts c s).enc.slots = s.enc.slots := by
  rw [afterCuts, copyCut_enc, nvmCut_enc, keysCut_slots h]

theorem afterCuts_counters (h : s.enc.raising = []) : (afterCuts c s).enc.counters = s.enc.counters := by
  rw [afterCuts, copyCut_enc, nvmCut_enc, keysCut_counters h]

theorem afterCuts_journal (h : s.nvm.ops = []) : (afterCuts c s).nvm.journal = s.nvm.journal := by
  rw [afterCuts, copyCut_nvm, nvmCut_journal _ (by rwa [keysCut_nvm]), keysCut_nvm]

theorem afterCuts_boot (h : s.boot.copy = none) : (afterCuts c s).boot = s.boot := by
  have hb : (nvmCut (weakCause c) (keysCut s)).boot = s.boot := by rw [nvmCut_boot, keysCut_boot]
  rw [afterCuts, copyCut_none (by rwa [hb]), hb]

end Tables

/-- Settles O60: the cuts by their frames, AO by the rows of its table, the rest by the reset state itself. -/
theorem deviceResetKeepsAndClears : Obligations.DeviceResetKeepsAndClears := by
  intro c s q strong weak
  have hao : q.ao = resetAo c s.ao := deviceReset_ao c s
  obtain ⟨hrtc, hset, hlife, hsticky, halarmed, hpending, hepoch, hhist⟩ := resetAo_rows c s.ao
  obtain ⟨hqueue, hdropped, hsess, hwin, hcore, hchans, hclaims, hmill⟩ := deviceReset_clear c s
  obtain ⟨hjournal, hops, hcommit, hstaging⟩ := deviceReset_nvm c s
  obtain ⟨hlog, hover, htag, hflash, -, -⟩ := afterCuts_log c s
  obtain ⟨hotp, hpend⟩ := deviceReset_fixed c s
  have henc : q.enc = resetEnc (afterCuts c s).enc := deviceReset_enc c s
  have hboot : q.boot = resetBoot c (afterCuts c s).now (afterCuts c s).boot := deviceReset_boot c s
  have htagq : q.tag = resetTag (insPending (afterCuts c s)) (afterCuts c s).tag := deviceReset_tag c s
  have hweak : (decide weak : Bool) = weakCause c := Bool.eq_iff_iff.2 (by rw [decide_eq_true_iff, weakCause_iff])
  have hcut : copyCut (nvmCut (decide weak) (keysCut s)) = afterCuts c s := by rw [hweak, afterCuts]
  have hnot (h : ¬ weak) : weakCause c = false := by rw [← hweak]; exact decide_eq_false h
  refine ⟨by rw [hao, hrtc], by rw [hao, hset], by rw [hao, hlife], by rw [hao, hsticky], by rw [hao, halarmed], by rw [hao, hpending], by rw [hao, hepoch],
    fun h => ?_, fun h => hao ▸ resetAo_kept h s.ao, fun h => hao ▸ resetAo_weak ((weakCause_iff c).2 h) s.ao, fun h => hao ▸ resetAo_strong (hnot h) s.ao, by rw [hao, hhist],
    hqueue, hdropped, hsess, hwin, by rw [hcore], by rw [hcore], by rw [htagq]; rfl, ?_, hclaims, ?_, deviceReset_switches c s,
    by rw [henc]; exact hlog, by rw [henc]; exact hover, by rw [htagq, htag]; rfl, ?_, ?_, ?_, ?_, ?_, by rw [henc]; rfl, by rw [henc]; rfl, hops, hcommit, hstaging, by rw [hboot]; rfl,
    by rw [hboot]; exact hflash, hotp, hpend⟩
  · rw [hao, show c = .por from h]
    exact resetAo_por s.ao
  · rw [hchans]
    decide
  · rw [hmill]
    intro x hx
    rw [List.eq_of_mem_replicate hx]
  · show let r := copyCut (nvmCut (decide weak) (keysCut s)); _
    rw [hcut, henc, hboot]
    exact ⟨rfl, rfl, hjournal, rfl, rfl, rfl⟩
  · intro h
    rw [henc]
    exact afterCuts_slots c s h
  · intro h
    rw [henc]
    exact afterCuts_counters c s h
  · intro h
    rw [hjournal, afterCuts_journal c s h]
  · intro h
    rw [hboot, afterCuts_boot c s h]
    exact ⟨rfl, rfl, rfl⟩

end Sys2Proof.Proofs
end

section
/-! The SYSC instruction and the syscalls of threads, waits, time and messages (R545, R546, R551, R552). -/

namespace Sys2Proof.Proofs
open Sys2Proof Sys2Proof.Machine Sys2Proof.Safety

section Served
variable {c : Instr} {s p : State} {f : Sys} {st : Nat} {res : List Nat} {w : Waiting} {due : Option Nat}

/-- The whole of a served syscall, from what it answers over the state after the trap entry and return (R551). -/
theorem does_of_syscall {x : SysRes} (hexec : exec c s = .next (settle (coreStep (syscall f) s))) (h : SyscallServed s)
    (hf : f (argOf s 0) (argOf s 1) (argOf s 2) (argOf s 3) (inSyscall s) = x) : Does c s (foldWindow 0 0 (sysEnd x)) :=
  does_of_eq hexec (by rw [Laws.core_syscall h f, hf])

theorem returns_of (hexec : exec c s = .next (settle (coreStep (syscall f) s))) (h : SyscallServed s)
    (hf : f (argOf s 0) (argOf s 1) (argOf s 2) (argOf s 3) (inSyscall s) = .ret st res p) : Returns c s st res p := by
  have hd := does_of_syscall hexec h hf
  rwa [sysEnd] at hd

theorem waits_of (hexec : exec c s = .next (settle (coreStep (syscall f) s))) (h : SyscallServed s)
    (hf : f (argOf s 0) (argOf s 1) (argOf s 2) (argOf s 3) (inSyscall s) = .block w due p) : Waits c s w due p := by
  have hd := does_of_syscall hexec h hf
  rwa [sysEnd] at hd

theorem ends_of (hexec : exec c s = .next (settle (coreStep (syscall f) s))) (h : SyscallServed s)
    (hf : f (argOf s 0) (argOf s 1) (argOf s 2) (argOf s 3) (inSyscall s) = .over p) : Does c s (foldWindow 0 0 p) := by
  have hd := does_of_syscall hexec h hf
  rwa [sysEnd] at hd

end Served

section Frame
variable (s : State)

/-- The state in which a syscall is served differs from the one before it in the core and in the thread's share alone. -/
theorem inSyscall_frame : inSyscall s = { s with core := (inSyscall s).core, ext := { s.ext with share := (inSyscall s).ext.share } } := by
  unfold inSyscall atInstr
  rw [Laws.closeWindow_frame, Laws.openWindow_frame]
  rfl

@[simp] theorem inSyscall_now : (inSyscall s).now = s.now := by rw [inSyscall_frame]
@[simp] theorem inSyscall_freeCtr : (inSyscall s).freeCtr = s.freeCtr := by rw [inSyscall_frame]
@[simp] theorem inSyscall_ao : (inSyscall s).ao = s.ao := by rw [inSyscall_frame]
@[simp] theorem inSyscall_mode : (inSyscall s).mode = s.mode := by rw [inSyscall_frame]
@[simp] theorem inSyscall_pwr : (inSyscall s).pwr = s.pwr := by rw [inSyscall_frame]
@[simp] theorem inSyscall_outs : (inSyscall s).outs = s.outs := by rw [inSyscall_frame]
@[simp] theorem inSyscall_enc : (inSyscall s).enc = s.enc := by rw [inSyscall_frame]
@[simp] theorem inSyscall_nvm : (inSyscall s).nvm = s.nvm := by rw [inSyscall_frame]
@[simp] theorem inSyscall_threads : (inSyscall s).ext.threads = s.ext.threads := by rw [inSyscall_frame]
@[simp] theorem inSyscall_msgs : (inSyscall s).ext.msgs = s.ext.msgs := by rw [inSyscall_frame]
@[simp] theorem inSyscall_fault : (inSyscall s).ext.fault = s.ext.fault := by rw [inSyscall_frame]
@[simp] theorem inSyscall_rx : (inSyscall s).ext.rx = s.ext.rx := by rw [inSyscall_frame]
@[simp] theorem inSyscall_filters : (inSyscall s).ext.filters = s.ext.filters := by rw [inSyscall_frame]
@[simp] theorem inSyscall_sectors : (inSyscall s).ext.sectors = s.ext.sectors := by rw [inSyscall_frame]
@[simp] theorem inSyscall_thread (n : Nat) : getThread (inSyscall s) n = getThread s n := by rw [getThread, getThread, inSyscall_threads]

end Frame

section Sysc
variable {s : State}

theorem sysTable_unlisted {n : Nat} (h : n ∉ [1, 2, 3, 4, 5, 6, 7, 8, 0x10, 0x11, 0x20, 0x21, 0x22, 0x23, 0x30, 0x31, 0x32, 0x33, 0x34, 0x40, 0x41, 0x48, 0x49, 0x4A,
    0x50, 0x51, 0x52, 0x53, 0x60, 0x61, 0x62, 0x63, 0x64, 0x68, 0x69]) (a b c d : Nat) (s : State) : sysTable n a b c d s = .ret stUnsupported [] s := by
  unfold sysTable
  split
  iterate 35 next => simp at h
  rfl

/-- SYSC in supervisor mode is the trap with EPC at the next instruction (R551). -/
theorem syscall_supervisor (f : Sys) (hu : s.core.r.psr.u = false) (htw : s.core.r.psr.tw = false) (htdx : s.core.r.psr.tdx = false) (hr : s.core.r.res < 7) :
    syscall f (atInstr s) = .ok (enterTrap 0x08 (s.core.r.pc + 4) 0 (closeWindow (atInstr s)), 0, 0) := by
  unfold syscall
  dsimp only
  rw [Laws.serial_compared (fun h => absurd h (by simp [htdx])), show slideIn (atInstr s).core.r.pc (closeWindow (atInstr s)) =
    some (modRegs (fun r => { r with cwp := (r.cwp + 1) % 8, res := r.res + 1 }) (closeWindow (atInstr s))) by simp [slideIn, roomIn, slide, hr]]
  dsimp only
  rw [if_neg (by simp [htw]), if_pos (by simp [hu]), Laws.atInstr_r]

/-- Settles O17: the table by its numbers, its default, and the trap in supervisor mode. -/
theorem syscNumbersAreTheSyscalls : Obligations.SyscNumbersAreTheSyscalls := by
  refine fun s => ⟨?_, fun n h hn => returns_of (f := sysTable n.toNat) rfl h (sysTable_unlisted hn _ _ _ _ _),
    fun n hf hu htw htdx hr => does_of_ok (f := syscall (sysTable n.toNat)) rfl hf (syscall_supervisor _ hu htw htdx hr) rfl⟩
  simp only [List.forall_mem_cons]
  exact ⟨rfl, rfl, rfl, rfl, rfl, rfl, rfl, rfl, rfl, rfl, rfl, rfl, rfl, rfl, rfl, rfl, rfl, rfl, rfl, rfl, rfl, rfl, rfl, rfl, rfl, rfl, rfl, rfl, rfl, rfl, rfl, rfl, rfl, rfl, rfl,
    List.forall_mem_nil _⟩

end Sysc

end Sys2Proof.Proofs
end

section
/-! The syscalls of threads, waits, time and messages (R545, R546, R551, R552). -/

namespace Sys2Proof.Proofs
open Sys2Proof Sys2Proof.Machine Sys2Proof.Safety

section Calls
variable {p : State} {a b c d : Nat}

theorem sysThread_ok {n : Nat} (hprio : c ≤ 3) (hbuf : bufWrite b 0 = true) (htop : b % 8 = 0) (hn : [1, 2, 3].find? (fun n => !(getThread p n).live) = some n) :
    sysThread a b c d p = .ret stOk [n] (modThread n (fun _ => { live := true, prio := c, regs := freshRegs (BitVec.ofNat 32 a) (BitVec.ofNat 32 d) (BitVec.ofNat 32 b) (saveBase n p).1 })
      { p with freeCtr := p.freeCtr + 1 }) := by
  unfold sysThread
  rw [if_neg (by simp [hbuf, htop]; omega)]
  simp only [hn]
  rfl

theorem sysYield_to {n : Nat} (hn : pickThread (modRegs (putResults stOk []) p) p.ext.cur = some n) :
    sysYield a b c d p = .over (switchTo n (modRegs (putResults stOk []) p)) := by
  have hcur : (modRegs (putResults stOk []) p).ext.cur = p.ext.cur := rfl
  simp only [sysYield, hcur, hn]

theorem sysDue_eq (n : Nat) (p : State) : sysDue n p = if n = 0xFFFFFFFF then none else some (p.now + 1000 * n) := by
  simp only [sysDue, ms, beq_iff_eq]
  split <;> simp [Nat.mul_comm]

theorem sysWait_pending (h : pendingEvents p a ≠ 0) :
    sysWait a b c d p = .ret stOk [pendingEvents p a] (modThread p.ext.cur (fun t => { t with events := t.events ^^^ (t.events &&& pendingEvents p a) }) p) := by
  simp [sysWait, h]

theorem sysWait_none (h : pendingEvents p a = 0) : sysWait a b c d p = if b = 0 then .ret stTimeout [] p else .block (.events a) (sysDue b p) p := by
  simp [sysWait, h, sret]

theorem sysMsgWait_message {m : ExtMsg} (hbuf : bufWrite a b = true) (hm : (untaken p).head? = some m) (hlen : m.data.length ≤ b) :
    sysMsgWait a b c d p = .ret stOk [m.data.length, m.id] (takeMsg a m p) := by
  simp [sysMsgWait, hbuf, hm, Nat.not_lt.2 hlen]

theorem sysMsgWait_none (hbuf : bufWrite a b = true) (hm : (untaken p).head? = none) (hc : c ≠ 0) :
    sysMsgWait a b c d p = .block (.msg a b) (sysDue c p) p := by
  simp [sysMsgWait, hbuf, hm, hc]

theorem sysMsgReply_ok {m : ExtMsg} (hn : c ≤ 992) (hbuf : bufRead b c = true) (hm : p.ext.msgs.find? (fun m => m.id == a) = some m) :
    sysMsgReply a b c d p = .ret stOk [] (complete m.t m.sess m.seq stOk (loadBytes p b c) { p with ext := { p.ext with msgs := p.ext.msgs.filter (fun x => x.id != a) } }) := by
  simp [sysMsgReply, hbuf, hm, Nat.not_lt.2 hn, sret]

theorem sysTdx_ok {v : Nat} (ha : a = v) (hv : v < 2) :
    sysTdx a b c d p = .ret stOk [] (modRegs (fun r => { r with psr := { r.psr with tdx := decide (v = 1) } }) p) := by
  subst ha
  rw [sysTdx, if_neg (by omega), sret]
  rfl

end Calls

/-- Settles O18: each syscall by what its function answers over the state after the trap entry. -/
theorem syscallsOfThreads : Obligations.SyscallsOfThreads := by
  intro s h p a me pend
  have hcur : p.ext.cur = me := Laws.inSyscall_cur s
  have hpend : pendingEvents p (a 0) = pend := by simp only [pendingEvents, hcur, p, inSyscall_thread, pend, me]
  have hdue (n : Nat) : sysDue n p = if n = 0xFFFFFFFF then none else some (s.now + 1000 * n) := by rw [sysDue_eq, inSyscall_now]
  have hmsgs : untaken p = s.ext.msgs.filter (fun m => !m.taken) := by rw [untaken, inSyscall_msgs]
  refine ⟨fun hme => ?exit, fun hme => ?stop, fun n hprio hbuf htop hn => ?thread, fun n hn => ?yield, fun hus => ?sleep, fun hp => ?event, fun hp ht => ?timeout, fun hp ht => ?wait,
    ?time, ?fault, fun v hv ha => ?tdx, fun m hbuf hm hlen => ?msg, fun hbuf hm ht => ?msgWait, fun m hlen hbuf hm => ?reply⟩
  case exit => exact ends_of (f := sysExit) rfl h (by simp only [sysExit, threadExit, Laws.inSyscall_cur]; rw [if_neg (by simpa using hme)])
  case stop => exact ends_of (f := sysExit) rfl h (by simp only [sysExit, threadExit, Laws.inSyscall_cur]; rw [if_pos (by simpa using hme)])
  case thread =>
    refine ⟨(saveBase n p).1, returns_of (f := sysThread) rfl h ?_⟩
    rw [sysThread_ok hprio hbuf htop (by simpa only [inSyscall_thread] using hn), inSyscall_freeCtr]
  case yield => exact ends_of (f := sysYield) rfl h (sysYield_to (by rwa [Laws.inSyscall_cur]))
  case sleep => exact waits_of (f := sysSleep) rfl h (by simp [sysSleep, hus, a, p])
  case event => exact ⟨_, returns_of (f := sysWait) rfl h (by rw [sysWait_pending (by rwa [hpend]), hpend, hcur]), rfl⟩
  case timeout => exact returns_of (f := sysWait) rfl h (by rw [sysWait_none (hpend.trans hp), if_pos ht])
  case wait => exact waits_of (f := sysWait) rfl h (by rw [sysWait_none (hpend.trans hp), if_neg ht, hdue])
  case time => exact returns_of (f := sysTime) rfl h (by simp [sysTime, utcStamp, p])
  case fault => exact returns_of (f := sysLastfault) rfl h (by simp [sysLastfault, p])
  case tdx => exact returns_of (f := sysTdx) rfl h (sysTdx_ok ha hv)
  case msg => exact returns_of (f := sysMsgWait) rfl h (sysMsgWait_message hbuf (by rwa [hmsgs]) hlen)
  case msgWait => exact waits_of (f := sysMsgWait) rfl h (by rw [sysMsgWait_none hbuf (by rwa [hmsgs]) ht, hdue])
  case reply => exact returns_of (f := sysMsgReply) rfl h (by rw [sysMsgReply_ok hlen hbuf (by rwa [inSyscall_msgs]), inSyscall_msgs])

end Sys2Proof.Proofs
end

section
/-! The syscalls of inputs, outputs, stations and CAN (R551, R552). -/

namespace Sys2Proof.Proofs
open Sys2Proof Sys2Proof.Machine Sys2Proof.Safety

section Calls
variable {p : State} {a b c d : Nat}

theorem sysBody_ok {buf size : Nat} {body : Bytes} (h : bufWrite buf size = true) : sysBody buf size body p = .ret stOk [] (storeMem buf body p) := by
  rw [sysBody, if_pos h, sret]

theorem sysMode_open {code : Nat} (h : modeRefused code [] p = false) (k : SysRes) : sysMode code p k = k := by
  simp [sysMode, h]

theorem freqOk_of {f : Nat} (h : f = 0 ∨ 100 ≤ f ∧ f ≤ 2000) : freqOk f = true := by
  simpa [freqOk] using h

theorem sysWatch_ok (h : a < 2 ^ 28) : sysWatch a b c d p = .ret stOk [] { p with ext := { p.ext with watchSw := a, watchKeys := b + 4294967296 * c } } := by
  rw [sysWatch, if_neg (Nat.not_le.2 h), sret]

theorem sysOutClaim_ok (ha : objectAssigned p a = true) (h1 : 1 ≤ b) (h15 : b ≤ 15) (hm : modeRefused 0x1003 [] p = false) :
    sysOutClaim a b c d p = .block (.claim a) none { p with outs := { p.outs with claims := p.outs.claims ++ [{ owner := .ext, object := a, prio := b, thread := p.ext.cur }] } } := by
  rw [sysOutClaim, if_neg (by simp [ha]; omega), sysMode_open hm]

theorem sysOutRelease_all (ha : a = 0xFFFF) : sysOutRelease a b c d p = .ret stOk [(heldBy p .ext).length] (releaseList (heldBy p .ext) p) := by
  rw [sysOutRelease, if_pos (by simpa using ha)]

theorem sysOutRelease_one (ha : a ≠ 0xFFFF) (ho : objectAssigned p a = true) :
    sysOutRelease a b c d p = if owns p .ext a then .ret stOk [1] (releaseObject a p) else .ret stOk [0] p := by
  rw [sysOutRelease, if_neg (by simpa using ha), if_neg (by simp [ho])]

theorem sysOutSet_ok (ho : isChannel a = true) (hm : modeAllowed a b = true) (hd : c ≤ 10000) (hf : d = 0 ∨ 100 ≤ d ∧ d ≤ 2000) (hmode : modeRefused 0x1002 [] p = false) :
    sysOutSet a b c d p = if owns p .ext a then .ret stOk [] (outRequest a b c d p) else .ret stNotOwner [] p := by
  rw [sysOutSet, if_neg (by simp [ho, hm, freqOk_of hf]; omega), sysMode_open hmode, sret, sret]

theorem sysHapPlay_ok (ha : a ≤ 63) (h1 : 1 ≤ b) (h100 : b ≤ 100) (hm : modeRefused 0x1B01 [] p = false) :
    sysHapPlay a b c d p = .ret (hapPlay a b p).1 [] (hapPlay a b p).2 := by
  rw [sysHapPlay, if_neg (by simp; omega), sysMode_open hm, sret]

theorem sysStnGet_ok {x : TwStation} (hx : stationCfg p a = some x) (hb : bufWrite b 74 = true) : sysStnGet a b c d p = .ret stOk [] (storeMem b (stnGetBody p x) p) := by
  simp only [sysStnGet, hx]
  exact sysBody_ok hb

theorem sysStnWrite_ok {x : TwStation} (hx : stationCfg p a = some x) (h1 : 1 ≤ d) (h64 : d ≤ 64) (hbuf : bufRead c d = true) (hlen : b + d ≤ x.olen)
    (hm : modeRefused 0x2003 [] p = false) (hin : inSnapshot (getStn p x.addr) = true) (hown : owns p .ext (0x100 + x.addr) = true) :
    sysStnWrite a b c d p = .ret stOk [firstCycle p x.port] (imagePut x b (loadBytes p c d) p) := by
  simp only [sysStnWrite, hx]
  rw [if_neg (by simp [hbuf]; omega), sysMode_open hm, if_neg (by simp [hin]), if_neg (by simp [hown])]

theorem sysCanFilter_none (ha : a ≤ 7) (hb : b = 0xFF) : sysCanFilter a b c d p = .ret stOk [] { p with ext := { p.ext with filters := setAt a none p.ext.filters } } := by
  rw [sysCanFilter, if_neg (Nat.not_lt.2 ha), if_pos (by simpa using hb), sret]

theorem sysCanFilter_some (ha : a ≤ 7) (hb : b ≤ 1) (hc : canIdOk c = true) :
    sysCanFilter a b c d p = .ret stOk [] { p with ext := { p.ext with filters := setAt a (some (b, c % 536870912, c.testBit 31, d)) p.ext.filters } } := by
  rw [sysCanFilter, if_neg (Nat.not_lt.2 ha), if_neg (by simp; omega), if_neg (by simp [hc]; omega), sret]

theorem sysCanRecv_frame (hbuf : bufWrite a 72 = true) (hrx : p.ext.rx ≠ []) : sysCanRecv a b c d p = .ret stOk [] (takeCan a p) := by
  rw [sysCanRecv, if_neg (by simp [hbuf]), if_pos (by simpa using hrx), sret]

theorem sysCanRecv_none (hbuf : bufWrite a 72 = true) (hrx : p.ext.rx = []) (hb : b ≠ 0) : sysCanRecv a b c d p = .block (.canRecv a) (sysDue b p) p := by
  rw [sysCanRecv, if_neg (by simp [hbuf]), if_neg (by simp [hrx]), if_neg (by simpa using hb)]

theorem sysCanSend_ok (hbuf : bufRead c (d % 256) = true) (hs : sendOk p a b (d / 256) (loadBytes p c (d % 256)) = true) (hact : canActive p a = true) :
    sysCanSend a b c d p = .block .canSend none
      (canQueue a { frame := sendFrameOf b (d / 256) (loadBytes p c (d % 256)), origin := .ext p.ext.cur, dueAt := p.now + 20000 } p) := by
  rw [sysCanSend, if_neg (by simp [hbuf, hs]), if_neg (by simp [hact])]
  rfl

end Calls

/-- Settles O19: each syscall by what its function answers over the state after the trap entry. -/
theorem syscallsOfInputsAndOutputs : Obligations.SyscallsOfInputsAndOutputs := by
  intro s h p a open_ Reads
  have hcur : p.ext.cur = s.ext.cur := Laws.inSyscall_cur s
  have hdue (n : Nat) : sysDue n p = if n = 0xFFFFFFFF then none else some (s.now + 1000 * n) := by rw [sysDue_eq, inSyscall_now]
  refine ⟨fun hb => ?inGet, fun hb => ?keyGet, ?modeGet, fun ha => ?watch, fun ho h1 h15 hm => ?claim, fun ha ho hown => ?release, fun ha ho hown => ?notHeld, fun ha => ?all,
    fun ho hm hd hf hmode => ⟨fun hown => ?set, fun hown => ?notOwner⟩, fun ho hb => ?outGet, fun ha h1 h100 hm => ?play,
    fun x hx => ⟨fun hb => ?stnGet, fun h1 h64 hbuf hlen hm hin hown => ?stnWrite⟩, fun ha hb => ?noFilter, fun ha hb hc => ?filter, fun hbuf hrx => ?recv, fun hbuf hrx hb => ?wait,
    fun hbuf hsend hact => ?send⟩
  case inGet => exact returns_of (f := sysInGet) rfl h (sysBody_ok hb)
  case keyGet => exact returns_of (f := sysKeyGet) rfl h (sysBody_ok hb)
  case modeGet => exact returns_of (f := sysModeGet) rfl h (by simp [sysModeGet, p])
  case watch => exact returns_of (f := sysWatch) rfl h (sysWatch_ok ha)
  case claim => exact waits_of (f := sysOutClaim) rfl h (by rw [sysOutClaim_ok ho h1 h15 hm, hcur, inSyscall_outs])
  case release => exact returns_of (f := sysOutRelease) rfl h (by rw [sysOutRelease_one ha ho, if_pos hown])
  case notHeld => exact returns_of (f := sysOutRelease) rfl h (by rw [sysOutRelease_one ha ho, if_neg (by simp [hown])])
  case all => exact returns_of (f := sysOutRelease) rfl h (sysOutRelease_all ha)
  case set => exact returns_of (f := sysOutSet) rfl h (by rw [sysOutSet_ok ho hm hd hf hmode, if_pos hown])
  case notOwner => exact returns_of (f := sysOutSet) rfl h (by rw [sysOutSet_ok ho hm hd hf hmode, if_neg (by simp [hown])])
  case outGet => exact returns_of (f := sysOutGet) rfl h (by rw [sysOutGet, if_pos ho, sysBody_ok hb])
  case play => exact returns_of (f := sysHapPlay) rfl h (sysHapPlay_ok ha h1 h100 hm)
  case stnGet => exact returns_of (f := sysStnGet) rfl h (sysStnGet_ok hx hb)
  case stnWrite => exact returns_of (f := sysStnWrite) rfl h (sysStnWrite_ok hx h1 h64 hbuf hlen hm hin hown)
  case noFilter => exact returns_of (f := sysCanFilter) rfl h (by rw [sysCanFilter_none ha hb, inSyscall_filters])
  case filter => exact returns_of (f := sysCanFilter) rfl h (by rw [sysCanFilter_some ha hb hc, inSyscall_filters])
  case recv => exact returns_of (f := sysCanRecv) rfl h (sysCanRecv_frame hbuf (by rwa [inSyscall_rx]))
  case wait => exact waits_of (f := sysCanRecv) rfl h (by rw [sysCanRecv_none hbuf (by rwa [inSyscall_rx]) hb, hdue])
  case send => exact waits_of (f := sysCanSend) rfl h (by rw [sysCanSend_ok hbuf hsend hact, hcur, inSyscall_now])

end Sys2Proof.Proofs
end

section
/-! The syscalls of data NVM, of the enclave's services and of its counters (R451 to R455, R551 to R554). -/

namespace Sys2Proof.Proofs
open Sys2Proof Sys2Proof.Machine Sys2Proof.Safety

section Draws
variable (n : Nat) (s : State)

/-- Free bytes drawn: as many as asked for, each a free value. -/
theorem drawBytes_frame : (drawBytes n s).1.length = n ∧ (drawBytes n s).2 = { s with freeCtr := s.freeCtr + n } := by
  induction n generalizing s with
  | zero => exact ⟨rfl, rfl⟩
  | succ n ih =>
    obtain ⟨hlen, hs⟩ := ih (draw s).2
    refine ⟨by simp [drawBytes, hlen], ?_⟩
    simp only [drawBytes, hs]
    simp [draw, Nat.add_assoc, Nat.add_comm 1]

end Draws

section Calls
variable {p : State} {a b c d : Nat}

theorem sysStill_open (h : p.pwr.shutdown = none) (k : SysRes) : sysStill p k = k := by
  simp [sysStill, h]

theorem sysEnc_available (hseg : p.enc.segregated = false) (hav : p.enc.avail = true) (k : SysRes) : sysEnc p k = k := by
  simp [sysEnc, hseg, hav]

@[simp] theorem bump_atomic (x i n : Nat) : (bump x i n p).nvm.atomic = p.nvm.atomic := by
  unfold bump; split <;> rfl

theorem sysNdRead_ok (ha : a ≤ 12) (hbuf : bufWrite c d = true) (hlen : b + d ≤ if areaAtomic p a then 1920 else 4096) :
    sysNdRead a b c d p = .ret stOk [] (storeMem c (slice (areaBytes p a) b d) (readPoisons a b d p)) := by
  rw [sysNdRead, if_neg (by simp only [hbuf, Bool.or_eq_true, decide_eq_true_eq]; simp; omega), sret]

theorem sysNdWrite_ok (ha : a ≤ 12) (hat : areaAtomic p a = true) (hb : b ≤ 7) (hbuf : bufRead c 240 = true) (hblank : hasBlankLine (loadBytes p c 240) = false)
    (hsd : p.pwr.shutdown = none) :
    sysNdWrite a b c d p = if p.ao.life / 3600 + 64 ≤ (getPage p a b).writes then .ret stEndurance [] p else
      .ret stOk [] (nvmOp 320 (.page a b (getPage p a b)) { bump 0x51 5 1 p with nvm := { (bump 0x51 5 1 p).nvm with atomic := modAt (modAt (fun x =>
        { data := some (loadBytes p c 240), stamp := x.stamp + 1, writes := x.writes + 1, eraseAt := some (p.now + 1000000) }) b) a p.nvm.atomic } }) := by
  have hnow : (bump 0x51 5 1 p).now + sec 1 = p.now + 1000000 := by rw [(Laws.bump_keeps ..).1]; rfl
  simp only [sysNdWrite]
  rw [if_neg (by simp [hat, hbuf, hblank]; omega), sysStill_open hsd, bump_atomic, hnow]
  rfl

theorem sysNdAppend_ok (ha : a ≤ 12) (hat : areaAtomic p a = false) (h16 : 16 ≤ c) (h256 : c ≤ 256) (hmod : c % 16 = 0) (hbuf : bufRead b c = true)
    (hblank : hasBlankLine (loadBytes p b c) = false) (hsd : p.pwr.shutdown = none) :
    sysNdAppend a b c d p = if 256 < (getRaw (eraseCut a p) a).lines.length + c / 16 then .ret stState [] (eraseCut a p) else
      .ret stOk [16 * (getRaw (eraseCut a p) a).lines.length] (nvmOp (c / 16 * 20) (.append a (getRaw (eraseCut a p) a).lines.length)
        { eraseCut a p with nvm := { (eraseCut a p).nvm with raw := modAt (fun x => { x with lines := x.lines ++ (linesOf (loadBytes p b c)).map some }) a (eraseCut a p).nvm.raw } }) := by
  simp only [sysNdAppend]
  rw [if_neg (by simp [hat, hbuf, hblank]; omega), sysStill_open hsd]
  rfl

theorem sysNdErase_ok (ha : a ≤ 12) (hat : areaAtomic p a = false) (hsd : p.pwr.shutdown = none) :
    sysNdErase a b c d p = if p.ao.life / 7200 + 64 ≤ (getRaw p a).erases then .ret stEndurance [] p else
      .ret stOk [] (nvmOp 40000 (.erase a (getRaw p a).lines) { eraseSector (113 + a) (bump 0x51 4 1 p) with
        nvm := { (eraseSector (113 + a) (bump 0x51 4 1 p)).nvm with raw := modAt (fun x => { lines := [], erases := x.erases + 1 }) a (eraseSector (113 + a) (bump 0x51 4 1 p)).nvm.raw } }) := by
  simp only [sysNdErase]
  rw [if_neg (by simp [hat]; omega), sysStill_open hsd]
  rfl

section Enclave
variable (hseg : p.enc.segregated = false) (hav : p.enc.avail = true)
include hseg hav

theorem sysSha256_ok (hb : b ≤ 4096) (hbuf : bufRead a b = true) (hout : bufWrite c 32 = true) :
    sysSha256 a b c d p = .ret stOk [] (storeMem c (padTo 32 0 (sha256 (loadBytes p a b))) p) := by
  rw [sysSha256, if_neg (by simp [hbuf, hout]; omega), sysEnc_available hseg hav, sret]

theorem sysRandom_ok (h1 : 1 ≤ b) (h256 : b ≤ 256) (hbuf : bufWrite a b = true) :
    sysRandom a b c d p = .ret stOk [] (storeMem a (drawBytes b p).1 { p with freeCtr := p.freeCtr + b, enc := { p.enc with drbg := (p.enc.drbg + 1) % 65536 } }) := by
  rw [sysRandom, if_neg (by simp [hbuf]; omega), sysEnc_available hseg hav]
  simp only [randomBytes, drbgRequest, (drawBytes_frame b p).2, sret]

theorem sysCmac_ok {k : Bytes} (hk : extKey p a = some k) (hc : c ≤ 4096) (hbuf : bufRead b c = true) (hout : bufWrite d 16 = true) :
    sysCmac a b c d p = .ret stOk [] (storeMem d (padTo 16 0 (cmac k (loadBytes p b c))) p) := by
  rw [sysCmac, if_neg (by simp [hbuf, hout]; omega), sysEnc_available hseg hav]
  simp only [hk, sret]

theorem sysGcmSeal_ok {k : Bytes} (hk : extKey p a = some k) (hok : gcmOk p b false = true) : let g := gcmDesc p b
    sysGcmSeal a b c d p = .ret stOk [] (storeMem g.tag (padTo 16 0 (Config.gcmSeal k g.iv (loadBytes p g.aad g.aadLen) (loadBytes p g.inp g.inpLen)).2)
      (storeMem g.out (padTo g.inpLen 0 (Config.gcmSeal k g.iv (loadBytes p g.aad g.aadLen) (loadBytes p g.inp g.inpLen)).1) p)) := by
  intro g
  rw [sysGcmSeal, if_neg (by simp [hok]), sysEnc_available hseg hav]
  simp only [hk, sret]
  rfl

theorem sysGcmOpen_ok {k : Bytes} (hk : extKey p a = some k) (hok : gcmOk p b true = true) : let g := gcmDesc p b
    sysGcmOpen a b c d p = match Config.gcmOpen k g.iv (loadBytes p g.aad g.aadLen) (loadBytes p g.inp g.inpLen) (loadBytes p g.tag 16) with
      | some x => .ret stOk [] (storeMem g.out (padTo g.inpLen 0 x) p)
      | none => .ret stVerify [] p := by
  intro g
  rw [sysGcmOpen, if_neg (by simp [hok]), sysEnc_available hseg hav]
  simp only [hk, sret]
  rfl

theorem sysCtrGet_ok (h4 : 4 ≤ a) (h7 : a ≤ 7) : sysCtrGet a b c d p = .ret stOk [p.enc.counters.getD a 0] p := by
  rw [sysCtrGet, if_neg (by simp; omega), sysEnc_available hseg hav]

theorem sysCtrRaise_ok (h4 : 4 ≤ a) (h7 : a ≤ 7) (hv : ¬ (b = 0xFFFFFFFF ∧ p.enc.counters.getD a 0 = 0xFFFFFFFF)) (hsd : p.pwr.shutdown = none) :
    sysCtrRaise a b c d p = .ret stOk [max b (p.enc.counters.getD a 0)] { p with enc := { p.enc with counters := modAt (fun x => max b x) a p.enc.counters } } := by
  rw [sysCtrRaise, if_neg (by simp only [Bool.or_eq_true, Bool.and_eq_true, decide_eq_true_eq, beq_iff_eq]; omega), sysStill_open hsd, sysEnc_available hseg hav]

end Enclave

end Calls

/-- Settles O20: each syscall by what its function answers over the state after the trap entry. -/
theorem syscallsOfDataAndKeys : Obligations.SyscallsOfDataAndKeys := by
  intro s h hsd hseg hav p a page area
  have hsd' : p.pwr.shutdown = none := by rwa [inSyscall_pwr]
  have hseg' : p.enc.segregated = false := by rwa [inSyscall_enc]
  have hav' : p.enc.avail = true := by rwa [inSyscall_enc]
  have hat (n : Nat) : areaAtomic p n = areaAtomic s n := by rw [areaAtomic, areaAtomic, inSyscall_sectors]
  have hpage : getPage p (a 0) (a 1) = page := by simp only [getPage, p, inSyscall_nvm, page]
  have harea : getRaw p (a 0) = area := by simp only [getRaw, p, inSyscall_nvm, area]
  refine ⟨fun ha hbuf hlen => ?read, fun ha ht hb hbuf hblank => ⟨fun hw => ?write, fun hw => ?worn⟩, fun ha ht h16 h256 hmod hbuf hblank => ?append,
    fun ha ht => ⟨fun he => ?erase, fun he => ?erased⟩, fun hb hbuf hout => ?sha, fun h1 h256 hbuf => ?random, fun k hk => ⟨fun hc hbuf hout => ?cmac, fun hok => ?gcm, fun hok => ⟨fun x hx => ?opened, fun hx => ?wrong⟩⟩,
    fun h4 h7 => ?counter, fun h4 h7 hv => ?raise⟩
  case read => exact returns_of (f := sysNdRead) rfl h (sysNdRead_ok ha hbuf (by rwa [hat]))
  case write =>
    refine returns_of (f := sysNdWrite) rfl h ?_
    rw [sysNdWrite_ok ha (by rwa [hat]) hb hbuf hblank hsd', hpage, if_neg (by rw [inSyscall_ao]; exact Nat.not_le.2 hw), inSyscall_now, inSyscall_nvm]
  case worn =>
    refine returns_of (f := sysNdWrite) rfl h ?_
    rw [sysNdWrite_ok ha (by rwa [hat]) hb hbuf hblank hsd', hpage, if_pos (by rwa [inSyscall_ao])]
  case append =>
    intro q k
    have hq : q = eraseCut (a 0) p := by
      simp only [q, eraseCut, harea]
      rw [inSyscall_nvm]
    have hcall := sysNdAppend_ok (d := argOf s 3) ha (by rwa [hat]) h16 h256 hmod hbuf hblank hsd'
    rw [← hq] at hcall
    exact ⟨fun hk => returns_of (f := sysNdAppend) rfl h (by rw [hcall, if_neg (Nat.not_lt.2 hk)]), fun hk => returns_of (f := sysNdAppend) rfl h (by rw [hcall, if_pos hk])⟩
  case erase =>
    intro q
    refine returns_of (f := sysNdErase) rfl h ?_
    rw [sysNdErase_ok ha (by rwa [hat]) hsd', harea, if_neg (by rw [inSyscall_ao]; exact Nat.not_le.2 he)]
  case erased =>
    refine returns_of (f := sysNdErase) rfl h ?_
    rw [sysNdErase_ok ha (by rwa [hat]) hsd', harea, if_pos (by rwa [inSyscall_ao])]
  case sha => exact returns_of (f := sysSha256) rfl h (sysSha256_ok hseg' hav' hb hbuf hout)
  case random => exact ⟨_, _, (drawBytes_frame _ p).1, rfl, returns_of (f := sysRandom) rfl h (by rw [sysRandom_ok hseg' hav' h1 h256 hbuf, inSyscall_freeCtr, inSyscall_enc])⟩
  case cmac => exact returns_of (f := sysCmac) rfl h (sysCmac_ok hseg' hav' hk hc hbuf hout)
  case gcm => exact returns_of (f := sysGcmSeal) rfl h (sysGcmSeal_ok hseg' hav' hk hok)
  case opened => exact returns_of (f := sysGcmOpen) rfl h ((sysGcmOpen_ok hseg' hav' hk hok).trans (by rw [hx]))
  case wrong => exact returns_of (f := sysGcmOpen) rfl h ((sysGcmOpen_ok hseg' hav' hk hok).trans (by rw [hx]))
  case counter => exact returns_of (f := sysCtrGet) rfl h (by rw [sysCtrGet_ok hseg' hav' h4 h7, inSyscall_enc])
  case raise => exact returns_of (f := sysCtrRaise) rfl h (by rw [sysCtrRaise_ok hseg' hav' h4 h7 (by rwa [inSyscall_enc]) hsd', inSyscall_enc])

end Sys2Proof.Proofs
end

section
/-! The checks of a request in their order: length, slot, session, MAC, sequence number (R51 steps 5 to 10, R53 to R57). -/

namespace Sys2Proof.Proofs
open Sys2Proof Sys2Proof.Machine Sys2Proof.Safety

section Outer
variable {code : Nat} {r : Req} {q : State}

theorem request_lost (h : (getPort q r.transport).served = false) : request code r q = lostRequest r.transport q := by
  rw [request, if_pos (by simp [h])]

theorem lostRequest_silent {t : Transport} (h : t ≠ .spi) : lostRequest t q = q := by
  rw [lostRequest, if_neg (by simpa using h)]

theorem lostRequest_spi : lostRequest .spi q = if isOn q .svc = true then winErr 0x06 q else wakeEvent 0x38 (winErr 0x06 q) := by
  rw [lostRequest, if_pos (by rfl)]

variable (hserved : (getPort q r.transport).served = true)
include hserved

theorem request_long (h : 1000 < r.payload.length) : request code r q = respondPlain code stLength [] r q := by
  rw [request, if_neg (by simp [hserved]), if_pos h]

variable (hlen : r.payload.length ≤ 1000)
include hlen

theorem request_busy (h : 8 ≤ (getPort q r.transport).slots.length) : request code r q = respondPlain code stBusy [] r q := by
  rw [request, if_neg (by simp [hserved]), if_neg (Nat.not_lt.2 hlen), if_pos h]

theorem request_checked (h : (getPort q r.transport).slots.length < 8) : request code r q = checkSession code r q := by
  rw [request, if_neg (by simp [hserved]), if_neg (Nat.not_lt.2 hlen), if_neg (Nat.not_le.2 h)]

end Outer

section Session
variable {code : Nat} {r : Req} {q : State} {x : Session}

/-- Without its enclave an authenticated request is answered ST_AUTH, whatever its session. -/
theorem checkSession_noEnclave (ha : r.auth = true) (he : encServes q = false) : checkSession code r q = respondPlain code stAuth [] r q := by
  have hno : sessionCheck r q = .error stAuth ∨ ∃ x, sessionCheck r q = .ok x := by
    unfold sessionCheck
    simp only [ha, he, Bool.not_false, Bool.and_self, if_true]
    (repeat' split) <;> simp
  rcases hno with h | ⟨x, h⟩ <;> simp only [checkSession, h]
  rw [if_pos (by simp [ha, he])]

theorem checkSession_error {st : Nat} (h : sessionCheck r q = .error st) : checkSession code r q = respondPlain code st [] r q := by
  simp only [checkSession, h]

variable (hserves : r.auth = false ∨ encServes q = true)
include hserves

theorem auth_served : (r.auth && !encServes q) = false := by
  rcases hserves with h | h <;> simp [h]

theorem sessionCheck_mismatch (h : r.auth ≠ (r.session != 0)) : sessionCheck r q = .error stSession := by
  rw [sessionCheck, auth_served hserves, if_pos (by simpa using h)]
  rfl

variable (hkind : r.auth = (r.session != 0))
include hkind

theorem sessionCheck_unknown (h : findSession q r.transport r.session = none) : sessionCheck r q = .error stSession := by
  rw [sessionCheck, auth_served hserves, if_neg (by simpa using hkind)]
  simp only [h]
  rfl

variable (hx : findSession q r.transport r.session = some x)
include hx

theorem sessionCheck_unproven (hid : x.id ≠ 0) (hp : x.proven = false) : sessionCheck r q = .error stSession := by
  rw [sessionCheck, auth_served hserves, if_neg (by simpa using hkind)]
  simp only [hx]
  rw [if_pos (by simp [hid, hp])]
  rfl

omit hserves in
theorem sessionCheck_ok (hp : x.id = 0 ∨ x.proven = true) : sessionCheck r q = .ok x := by
  rw [sessionCheck, if_neg (by simpa using hkind)]
  simp only [hx]
  rw [if_neg (by rcases hp with h | h <;> simp [h])]

variable (hp : x.id = 0 ∨ x.proven = true)
include hp

theorem checkSession_badMac (ha : r.auth = true) (hm : macOk code r x = false) : checkSession code r q = respondPlain code stAuth [] r (macFailure x q) := by
  simp only [checkSession, sessionCheck_ok hkind hx hp]
  rw [if_neg (by simp [auth_served hserves]), if_pos (by simp [ha, hm])]

theorem checkSession_classify (hm : r.auth = true → macOk code r x = true) : checkSession code r q = classify code r x q := by
  have hmac : ¬ (r.auth && !macOk code r x) = true := by simpa using hm
  simp only [checkSession, sessionCheck_ok hkind hx hp]
  rw [if_neg (by simp [auth_served hserves]), if_neg hmac]

end Session

section Sequence
variable {code : Nat} {r : Req} {x : Session} {s : State}

theorem macFailure_counted (h : x.macFails < 7) : macFailure x s = modSession x.transport x.id (fun y => { y with macFails := y.macFails + 1 }) s := by
  rw [macFailure, if_neg (Nat.not_le.2 h)]

theorem macFailure_eighth (h : 7 ≤ x.macFails) : macFailure x s = issue 0x38 0x01 0 (closeSession x.transport x.id s) := by
  rw [macFailure, if_pos h]

theorem classify_otherCode {k : CacheEntry} (hc : seqClass x r.seq = .known k) (hcode : k.code ≠ code) : classify code r x s = respondPlain code stSequence [] r (macGood r s) := by
  simp [classify, hc, hcode]

theorem classify_counterEnd (hc : seqClass x r.seq = .fresh) (hctr : 0xFFFFFFFF < ctrAfter x r.seq) :
    classify code r x s = respondPlain code stSession [] r (closeSession r.transport r.session s) := by
  simp only [classify, hc, if_pos hctr]

end Sequence

/-- Every row of the mailbox has a row in the table of privileges, lanes and lengths (R71). -/
theorem cmdRow_isSome : ∀ e ∈ mailboxRows, (cmdRow e.1).isSome = true := by
  intro e he
  unfold mailboxRows at he
  fin_cases he <;> rfl

/-- Settles O28: the checks one after another, each refused request by its step, and what is left to the sequence number by its class. -/
theorem requestsAreCheckedInOrder : Obligations.RequestsAreCheckedInOrder := by
  intro e he s r q port ok R good
  have does {y : State} (h : request e.1 r q = y) : Does (e.2 r) s y := by
    rw [Does, exec_mailboxRow he, requestAt, h]
  have checked (hg : good) {y : State} (h : checkSession e.1 r q = y) : Does (e.2 r) s y := by
    obtain ⟨hserved, hlen, hslots⟩ := hg
    exact does ((request_checked hserved hlen hslots).trans h)
  refine ⟨does rfl, cmdRow_isSome e he, fun hs ht => does ((request_lost hs).trans (lostRequest_silent ht)), fun hs ht => does ?_, fun hs hl => does (request_long hs hl),
    fun hs hl hb => does (request_busy hs hl hb), fun hg ha henc => checked hg (checkSession_noEnclave ha henc), fun hg henc => ⟨fun hk => ?_, fun hk hx => ?_, fun x hk hx => ⟨fun hid hp => ?_, fun hp => ⟨?_, ?_, fun hm => ?_⟩⟩⟩⟩
  · rw [request_lost hs, ht, lostRequest_spi]
  · exact checked hg (checkSession_error (sessionCheck_mismatch henc hk))
  · exact checked hg (checkSession_error (sessionCheck_unknown henc hk hx))
  · exact checked hg (checkSession_error (sessionCheck_unproven henc hk hx hid hp))
  · intro ha hm hn
    exact checked hg (by rw [checkSession_badMac henc hk hx hp ha hm, macFailure_counted hn])
  · intro ha hm hn
    exact checked hg (by rw [checkSession_badMac henc hk hx hp ha hm, macFailure_eighth hn])
  · have classified {y : State} (h : classify e.1 r x q = y) : Does (e.2 r) s y := checked hg ((checkSession_classify henc hk hx hp hm).trans h)
    exact ⟨fun k hc hcode => classified (classify_otherCode hc hcode), fun k hc hcode hr => classified (classify_running hc hcode hr),
      fun k f hc hcode hr => classified (classify_answered hc hcode hr), fun hc h0 => classified (classify_stale_auth hc h0), fun hc hctr => classified (classify_counterEnd hc hctr)⟩

end Sys2Proof.Proofs
end

section
/-! The end of a request: its response frame, the session that keeps it, and its slot (R41, R50, R54, R57, R61, R64). -/

namespace Sys2Proof.Proofs
open Sys2Proof Sys2Proof.Machine Sys2Proof.Safety

section Sending
variable (t : Transport) (f : Frame) (s : State)

/-- A reset called for leaves everything else. -/
@[simp] theorem callReset_keeps (c : Cause) : let q := callReset c s
    q.mbx = s.mbx ∧ q.ao = s.ao ∧ q.outs = s.outs ∧ q.mode = s.mode ∧ q.pwr = s.pwr ∧ q.nvm = s.nvm ∧ q.enc = s.enc ∧ q.mill = s.mill ∧ q.bus = s.bus := by
  unfold callReset; (repeat' split) <;> simp

/-- A delivery touches the abort records, the resets that waited for it, and a reset it calls for. -/
@[simp] theorem delivered_keeps : let q := delivered f s
    q.mbx.sessions = s.mbx.sessions ∧ q.mbx.spi = s.mbx.spi ∧ q.mbx.can = s.mbx.can ∧ q.mbx.eth = s.mbx.eth ∧ q.outs = s.outs ∧ q.mode = s.mode ∧ q.pwr = s.pwr ∧
    q.nvm = s.nvm ∧ q.enc = s.enc ∧ q.core = s.core ∧ q.mill = s.mill ∧ q.bus = s.bus ∧ q.boot = s.boot := by
  unfold delivered
  split
  · simp
  · dsimp only
    split <;> simp

/-- A frame sent leaves the sessions, every slot, and all but the mailbox, the abort records and the host window. -/
@[simp] theorem sendFrame_keeps : let q := sendFrame t f s
    q.mbx.sessions = s.mbx.sessions ∧ q.mbx.spi.slots = s.mbx.spi.slots ∧ q.mbx.can.slots = s.mbx.can.slots ∧ q.mbx.eth.slots = s.mbx.eth.slots ∧
    q.outs = s.outs ∧ q.mode = s.mode ∧ q.pwr = s.pwr ∧ q.nvm = s.nvm ∧ q.enc = s.enc ∧ q.core = s.core ∧ q.mill = s.mill ∧ q.bus = s.bus ∧ q.boot = s.boot := by
  unfold sendFrame pushFrame
  cases t <;> dsimp only <;> (repeat' split) <;> simp [modPort]

theorem sendFrame_slots (u : Transport) : (getPort (sendFrame t f s) u).slots = (getPort s u).slots := by
  cases u <;> simp [getPort]

theorem sendFrame_ao (h : t ≠ .eth) : (sendFrame t f s).ao = s.ao := by
  unfold sendFrame
  rw [if_neg (by simp [h])]
  simp

theorem sendFrame_spi : (sendFrame .spi f s).mbx.spi.out = s.mbx.spi.out ++ [f] := by
  simp only [sendFrame, pushFrame]
  (repeat' split) <;> simp_all [modPort]

theorem sendFrame_can : (sendFrame .can f s).mbx.can.out = s.mbx.can.out ++ [f] := by
  simp [sendFrame, pushFrame, modPort]

/-- The datagram that has just left is the newest of those that stay visible. -/
theorem sendFrame_eth (h : reachable s f.dest.ip = true) :
    (sendFrame .eth f s).mbx.eth.out.getLast? = some { f with vlan := s.nvm.tw.uplink.vlan, pcp := s.nvm.tw.uplink.pcp } := by
  simp only [sendFrame, pushFrame, h]
  simp only [beq_self_eq_true, Bool.and_self, if_true, delivered_keeps, modPort]
  rw [List.getLast?_drop]
  simp

end Sending

section Ends
variable (code st : Nat) (body : Bytes) (r : Req) (p : State)

/-- The frame that answers a request: with a MAC of the session's present counter under K_dh where the request's session is open (R50, R61). -/
def answerFrame : Frame :=
  let f := { responseFrame code st body r with accId := recordOf p r.transport r.session r.seq }
  match findSession p r.transport r.session with
  | some x => if r.session = 0 then f else { f with auth := true, mac := frameMac x { f with auth := true } }
  | none => f

/-- A session that keeps a response in its cache (R57). -/
def keepsResponse (f : Frame) (x : Session) : Session :=
  { x with cache := x.cache.map (fun e => if e.seq == r.seq && e.resp.isNone then { e with resp := some f } else e) }

/-- The state whose session keeps the response. -/
def cached : State := cacheResponse r (responseFrame code st body r) p

theorem findSession_cached : findSession (cached code st body r p) r.transport r.session = (findSession p r.transport r.session).map (fun x => if x.transport == r.transport && x.id == r.session then keepsResponse r (responseFrame code st body r) x else x) :=
  Laws.findSession_map p _ _ (keepsResponse r (responseFrame code st body r)) (fun _ => ⟨rfl, rfl⟩) _ _

theorem respond_cached : respond code st body r (cached code st body r p) = sendFrame r.transport (answerFrame code st body r p) (cached code st body r p) := by
  unfold respond answerFrame
  rw [findSession_cached]
  cases findSession p r.transport r.session with
  | none => rfl
  | some x =>
    dsimp only [Option.map_some]
    have hmac (g : Frame) : frameMac (if x.transport == r.transport && x.id == r.session then keepsResponse r (responseFrame code st body r) x else x) g = frameMac x g := by
      split <;> rfl
    simp only [hmac, beq_iff_eq]
    split <;> rfl

theorem finish_free (h : r.transport ≠ .spi ∨ recordOf p r.transport r.session r.seq = none ∨ p.mbx.spi.out.length < 40) :
    finish code st body r p = freeSlot r.transport r.session r.seq (sendFrame r.transport (answerFrame code st body r p) (cached code st body r p)) := by
  rw [← respond_cached]
  unfold finish
  dsimp only
  split
  next n hn =>
    rw [if_neg]
    · rfl
    · rcases h with h | h | h
      · simp [h]
      · simp [h] at hn
      · simp; omega
  next => rfl

theorem finish_hold {k : Nat} (ht : r.transport = .spi) (hk : recordOf p r.transport r.session r.seq = some k) (h40 : 40 ≤ p.mbx.spi.out.length) :
    finish code st body r p = holdSlot k r.session r.seq (sendFrame r.transport (answerFrame code st body r p) (cached code st body r p)) := by
  rw [← respond_cached]
  unfold finish
  simp only [hk]
  rw [if_pos (by simp [ht, h40])]
  rfl

/-- The state in which the response has been handed over and its slot is still in use. -/
def handedOver : State := sendFrame r.transport (answerFrame code st body r p) (cached code st body r p)

theorem freeSlot_keeps (t : Transport) (sess seq : Nat) (s : State) : let q := freeSlot t sess seq s
    q.mbx.spi.out = s.mbx.spi.out ∧ q.mbx.can.out = s.mbx.can.out ∧ q.mbx.eth.out = s.mbx.eth.out ∧ q.mbx.sessions = s.mbx.sessions ∧ q.ao = s.ao ∧
    q.outs = s.outs ∧ q.mode = s.mode ∧ q.pwr = s.pwr ∧ q.nvm = s.nvm ∧ q.enc = s.enc ∧ q.core = s.core ∧ q.mill = s.mill ∧ q.bus = s.bus ∧ q.boot = s.boot := by
  unfold freeSlot
  cases t <;> dsimp only <;> split <;> simp [modPort]

theorem freeSlot_slots (t : Transport) (sess seq : Nat) (s : State) : (getPort (freeSlot t sess seq s) t).slots = dropSlot sess seq (getPort s t).slots := by
  unfold freeSlot
  cases t <;> dsimp only <;> split <;> simp [modPort, getPort]

/-- The slot of a request that ends is freed or held; nothing else changes once the response has been handed over. -/
theorem finish_keeps : let q := finish code st body r p; let s := handedOver code st body r p
    q.mbx.spi.out = s.mbx.spi.out ∧ q.mbx.can.out = s.mbx.can.out ∧ q.mbx.eth.out = s.mbx.eth.out ∧ q.mbx.sessions = s.mbx.sessions ∧ q.ao = s.ao ∧
    q.outs = s.outs ∧ q.mode = s.mode ∧ q.pwr = s.pwr ∧ q.nvm = s.nvm ∧ q.enc = s.enc ∧ q.core = s.core ∧ q.mill = s.mill ∧ q.bus = s.bus ∧ q.boot = s.boot := by
  by_cases h : r.transport ≠ .spi ∨ recordOf p r.transport r.session r.seq = none ∨ p.mbx.spi.out.length < 40
  · rw [finish_free code st body r p h]
    exact freeSlot_keeps ..
  · simp only [not_or, not_not, not_lt] at h
    obtain ⟨ht, hn, h40⟩ := h
    obtain ⟨k, hk⟩ := Option.ne_none_iff_exists'.1 hn
    rw [finish_hold code st body r p ht hk h40]
    exact ⟨rfl, rfl, rfl, rfl, rfl, rfl, rfl, rfl, rfl, rfl, rfl, rfl, rfl, rfl⟩

/-- The response stands last in what its transport sends. -/
theorem finish_sent : let q := finish code st body r p; let f := answerFrame code st body r p
    (r.transport = .spi → q.mbx.spi.out = p.mbx.spi.out ++ [f]) ∧ (r.transport = .can → q.mbx.can.out = p.mbx.can.out ++ [f]) ∧
    (r.transport = .eth → reachable p f.dest.ip = true → q.mbx.eth.out.getLast? = some { f with vlan := p.nvm.tw.uplink.vlan, pcp := p.nvm.tw.uplink.pcp }) := by
  intro q f
  obtain ⟨hspi, hcan, heth, -⟩ := finish_keeps code st body r p
  refine ⟨fun ht => ?_, fun ht => ?_, fun ht hr => ?_⟩
  · rw [hspi, handedOver, ht, sendFrame_spi]; rfl
  · rw [hcan, handedOver, ht, sendFrame_can]; rfl
  · rw [heth, handedOver, ht, sendFrame_eth _ _ (by exact hr)]; rfl

end Ends

/-- Settles O32: the frame handed over, the session's cache, and the slot freed or held. -/
theorem responsesAnswerTheirRequest : Obligations.ResponsesAnswerTheirRequest := by
  intro code st body r p n f0 f q tagged
  obtain ⟨-, -, -, hsessions, hao, houts, hmode, hpwr, hnvm, henc, hcore, hmill, hbus, hboot⟩ := finish_keeps code st body r p
  obtain ⟨ksessions, kspi, -, -, kouts, kmode, kpwr, knvm, kenc, kcore, kmill, kbus, kboot⟩ := sendFrame_keeps r.transport (answerFrame code st body r p) (cached code st body r p)
  have sent := finish_sent code st body r p
  have hslots : (getPort (handedOver code st body r p) r.transport).slots = (getPort p r.transport).slots := sendFrame_slots ..
  refine ⟨fun x hx h0 => ?_, fun h => ?_, fun x hx ht hid => ?_, fun h => ?_, fun k ht hn h40 => ?_, fun ht => ?_, houts.trans kouts, hmode.trans kmode, hpwr.trans kpwr, hnvm.trans knvm,
    henc.trans kenc, hcore.trans kcore, hmill.trans kmill, hbus.trans kbus, hboot.trans kboot⟩
  · have hf : answerFrame code st body r p = { f with auth := true, mac := frameMac x { f with auth := true } } := by
      unfold answerFrame
      simp only [hx]
      rw [if_neg h0]
      rfl
    rw [hf] at sent
    exact sent
  · have hf : answerFrame code st body r p = f := by
      unfold answerFrame
      rcases h with h | h
      · split
        · rw [if_pos h]; rfl
        · rfl
      · simp only [h]; rfl
    rw [hf] at sent
    exact sent
  · refine ⟨keepsResponse r f0 x, ?_, rfl⟩
    rw [show q.mbx.sessions = _ from hsessions, handedOver, ksessions]
    exact List.mem_map.2 ⟨x, hx, by rw [if_pos (by simp [ht, hid])]; rfl⟩
  · rw [show q = _ from finish_free code st body r p h, freeSlot_slots]
    exact congrArg _ hslots
  · rw [show q = _ from finish_hold code st body r p ht hn h40]
    exact congrArg (List.map _) (kspi : (handedOver code st body r p).mbx.spi.slots = p.mbx.spi.slots)
  · rw [show q.ao = _ from hao, handedOver, sendFrame_ao _ _ _ ht]
    rfl

end Sys2Proof.Proofs
end

section
/-! The commands that a mode or a shutdown refuses (R99, R100, R419). -/

namespace Sys2Proof.Proofs
open Sys2Proof Sys2Proof.Machine Sys2Proof.Safety

/-- The command does not act: a refusal with its status alone, over the state as it is. -/
def Refuses (q : Reply) (s : State) : Prop := ∃ st ∈ [stState, stRange, stPriv, stPayload, stAuth, stCompat, stDenied], q = deny st s

section Shapes
variable {code : Nat} {r : Req} {s t : State} {k : Reply}

theorem refuses_deny {st : Nat} (h : st ∈ [stState, stRange, stPriv, stPayload, stAuth, stCompat, stDenied]) : Refuses (deny st s) s := ⟨st, h, rfl⟩

theorem refuses_ite {c : Prop} [Decidable c] {a b : Reply} (ha : c → Refuses a s) (hb : ¬ c → Refuses b s) : Refuses (if c then a else b) s := by
  split
  · exact ha ‹_›
  · exact hb ‹_›

theorem refuses_inMode (h : modeRefused code r.payload s = true ∨ shutdownRefused code s = true) : Refuses (inMode code r s k) s := by
  rw [inMode, if_pos (by simpa using h)]
  exact refuses_deny (by decide)

/-- The first check of most commands is of their fields' ranges. -/
theorem refuses_range {c : Prop} [Decidable c] (h : modeRefused code r.payload s = true ∨ shutdownRefused code s = true) :
    Refuses (if c then deny stRange s else inMode code r s k) s :=
  refuses_ite (fun _ => refuses_deny (by decide)) (fun _ => refuses_inMode h)

theorem refuses_withEnc (h : Refuses k s) : Refuses (withEnc s k) s := by
  unfold withEnc encStatus
  by_cases hseg : s.enc.segregated = true
  · rw [if_pos hseg]
    exact refuses_deny (by decide)
  rw [if_neg hseg]
  by_cases hav : s.enc.avail = true
  · rwa [if_pos hav]
  · rw [if_neg hav]
    exact refuses_deny (by decide)

end Shapes

section Rows
variable {r : Req} {s : State}

/-- A command of the mailbox that a mode or a shutdown refuses. -/
def IsRefused (code : Nat) (r : Req) (s : State) : Prop := modeRefused code r.payload s = true ∨ shutdownRefused code s = true

/-- A refusal by range or privilege comes first; then the mode decides. -/
theorem refuses_first {c : Prop} [Decidable c] {st : Nat} {k : Reply} (hst : st ∈ [stState, stRange, stPriv, stPayload, stAuth, stCompat, stDenied])
    (hk : Refuses k s) : Refuses (if c then deny st s else k) s :=
  refuses_ite (fun _ => refuses_deny hst) fun _ => hk

theorem hSysReset_refuses (h : IsRefused 0x0103 r s) : Refuses (hSysReset r s) s := by
  unfold hSysReset
  refine refuses_first (by decide) (refuses_ite (fun _ => refuses_inMode h) fun _ => ?_)
  split
  · exact refuses_deny (by decide)
  · exact refuses_inMode h

theorem hLampSet_refuses (h : IsRefused 0x1102 r s) : Refuses (hLampSet r s) s := by
  unfold hLampSet
  dsimp only
  split
  · exact refuses_deny (by decide)
  · exact refuses_range h

theorem hLampScene_refuses (h : IsRefused 0x1103 r s) : Refuses (hLampScene r s) s := by
  unfold hLampScene
  split
  · exact refuses_deny (by decide)
  · exact refuses_inMode h

theorem hStnWrite_refuses (h : IsRefused 0x2003 r s) : Refuses (hStnWrite r s) s := by
  unfold hStnWrite
  split
  · exact refuses_deny (by decide)
  · exact refuses_range h

theorem hStnCycle_refuses (h : IsRefused 0x2004 r s) : Refuses (hStnCycle r s) s := by
  unfold hStnCycle
  split
  · exact refuses_deny (by decide)
  · exact refuses_range h

theorem hRlsCal_refuses (h : IsRefused 0x1A02 r s) : Refuses (hRlsCal r s) s := by
  unfold hRlsCal
  dsimp only
  split
  · exact refuses_deny (by decide)
  · exact refuses_inMode h

theorem hEncKeyupd_refuses (h : IsRefused 0x3206 r s) : Refuses (hEncKeyupd r s) s := by
  unfold hEncKeyupd
  refine refuses_withEnc ?_
  split
  · exact refuses_deny (by decide)
  · exact refuses_first (by decide) (refuses_first (by decide) (refuses_range h))

/-- The UPD commands refuse over a state that has read the SFDP tables (R501). -/
theorem isRefused_readSfdp {code : Nat} (h : IsRefused code r s) : IsRefused code r (readSfdp s) := h

end Rows

/-- The state in which a command's refusal stands: an UPD command has read the SFDP tables (R501). -/
def afterSfdp (code : Nat) (s : State) : State := if 0x6001 ≤ code ∧ code ≤ 0x6005 then readSfdp s else s

/-- The codes that a mode or a shutdown can refuse (R99, R100, R419). -/
def refusable : List Nat := [0x0103, 0x1002, 0x1003, 0x1102, 0x1103, 0x1202, 0x1203, 0x1302, 0x1304, 0x1A02, 0x1B01, 0x2003, 0x2004, 0x3002, 0x3102, 0x3206, 0x3304,
  0x4003, 0x5002, 0x5003, 0x5004, 0x5104, 0x6002, 0x6003, 0x6004, 0x6005, 0x6102]

theorem mem_refusable {code : Nat} {r : Req} {s : State} (h : IsRefused code r s) : code ∈ refusable := by
  simp only [IsRefused, modeRefused, shutdownRefused, drivingCode, Bool.or_eq_true, Bool.and_eq_true, List.contains_iff_mem, beq_iff_eq] at h
  rcases h with (((((⟨h, -⟩ | ⟨rfl, -⟩) | ⟨⟨rfl, -⟩, -⟩) | ⟨rfl | ⟨rfl, -⟩, -⟩) | ⟨h, -⟩) | ⟨h, -⟩) | ⟨-, h⟩
  · exact (by decide : [0x1003, 0x1002, 0x1102, 0x1103, 0x1202, 0x1203, 0x1302, 0x1B01, 0x2003] ⊆ refusable) h
  · decide
  · decide
  · decide
  · decide
  · exact (by decide : [0x5002, 0x5003, 0x5004, 0x2004] ⊆ refusable) h
  · exact (by decide : [0x1304, 0x1A02, 0x3304, 0x4003, 0x6102, 0x5104, 0x3102] ⊆ refusable) h
  · exact (by decide : [0x5002, 0x5003, 0x5004, 0x3206, 0x6002, 0x6003, 0x6005, 0x5104, 0x4003, 0x3002] ⊆ refusable) h

/-- A refused command never acts: its handler answers a status alone. -/
theorem handle_refused (r : Req) (s : State) : ∀ code ∈ refusable, IsRefused code r s → Refuses (handle code r s) (afterSfdp code s) := by
  unfold refusable
  simp only [List.forall_mem_cons]
  refine ⟨hSysReset_refuses, fun h => (refuses_range h : Refuses (hOutSet r s) s), fun h => (refuses_range h : Refuses (hOutClaim r s) s), hLampSet_refuses, hLampScene_refuses,
    fun h => (refuses_range h : Refuses (hWipeSet r s) s), fun h => (refuses_range h : Refuses (hWipeWash r s) s),
    fun h => (refuses_first (by decide) (refuses_first (by decide) (refuses_inMode h)) : Refuses (hMotnMove r s) s),
    fun h => (refuses_range h : Refuses (hMotnLearn r s) s), hRlsCal_refuses, fun h => (refuses_range h : Refuses (hHapPlay r s) s), hStnWrite_refuses, hStnCycle_refuses,
    fun h => (refuses_range h : Refuses (hTagEnable r s) s), fun h => (refuses_inMode h : Refuses (hInsApdu r s) s), hEncKeyupd_refuses, fun h => (refuses_range h : Refuses (hTmpTest r s) s),
    fun h => (refuses_inMode h : Refuses (hFltClear r s) s), fun h => (refuses_range h : Refuses (hCfgBegin r s) s), fun h => (refuses_inMode h : Refuses (hCfgData r s) s),
    fun h => (refuses_inMode h : Refuses (hCfgCommit r s) s), fun h => (refuses_range h : Refuses (hLifeAck r s) s),
    fun h => (refuses_range (isRefused_readSfdp h) : Refuses (hUpdWrite r s) (readSfdp s)), fun h => (refuses_range (isRefused_readSfdp h) : Refuses (hUpdStage r s) (readSfdp s)),
    fun h => (refuses_inMode (isRefused_readSfdp h) : Refuses (hUpdActivate r s) (readSfdp s)), fun h => (refuses_range (isRefused_readSfdp h) : Refuses (hUpdConfirm r s) (readSfdp s)),
    fun h => (refuses_range h : Refuses (hExtCtrl r s) s), List.forall_mem_nil _⟩

/-- The driving commands are refused in PARKED and TRANSPORT, and under the Grave latch and the soft safe pattern (R99, R100). -/
theorem modeRefused_driving {code : Nat} (h : code ∈ [0x1003, 0x1002, 0x1102, 0x1103, 0x1202, 0x1203, 0x1302, 0x1B01, 0x2003]) (b : Bytes) {p : State}
    (hp : p.mode.mode = .parked ∨ p.mode.mode = .transport ∨ p.ao.grave.isSome = true ∨ p.ao.severeAt.isSome = true) : modeRefused code b p = true := by
  have hc : drivingCode code = true := by simpa [drivingCode] using h
  have hm : (p.mode.mode == .parked || p.mode.mode == .transport || p.ao.grave.isSome || p.ao.severeAt.isSome) = true := by
    rcases hp with h | h | h | h <;> simp [h]
  simp [modeRefused, hc, hm]

/-- What a row answers at once, over what its operand offers (R61, R62). -/
theorem answers_of_requestAt {c : Instr} {code : Nat} {r : Req} {s s' : State} {row : CmdRow} {st : Nat} {b : Bytes} {p : State}
    (hexec : exec c s = .next (settle (requestAt code r s'))) (h : Served code row.lo row.hi r s') (hrow : cmdRow code = some row)
    (hq : handle code r (serving code r s') = .done st b p) : Answers c code r s st b p := by
  obtain ⟨hready, hlo, hhi⟩ := h
  rw [Answers, Does, hexec, Laws.requestAt_ready hready hrow hlo hhi hq]

/-- Settles O31: a refused command is one of those that can be, and each of these answers a status alone. -/
theorem modesRefuseCommands : Obligations.ModesRefuseCommands := by
  intro e he s r row p p1
  refine ⟨fun hrow hserved href => ?_, fun hc hp => modeRefused_driving hc _ hp⟩
  obtain ⟨st, hst, hq⟩ := handle_refused r p e.1 (mem_refusable href) href
  exact ⟨st, hst, answers_of_requestAt (exec_mailboxRow he r s) hserved hrow hq⟩

end Sys2Proof.Proofs
end

section
/-! Timed work of extension code, of the diagnostic session, of configuration staging, of the data NVM and of the banks; the clocks (R95, R97, R102, R452, R481, R487, R488, R510, R513, R545, R546, R549, R552). -/

namespace Sys2Proof.Proofs
open Sys2Proof Sys2Proof.Machine Sys2Proof.Safety

section Steps
variable {p : State}

theorem extMsgTimeoutStep_some {id : Nat} {m : ExtMsg} (hm : p.ext.msgs.find? (fun m => m.id == id) = some m) :
    extMsgTimeoutStep id p = if m.dueAt ≤ p.now then
      complete m.t m.sess m.seq stTimeout [] { p with ext := { p.ext with msgs := p.ext.msgs.filter (fun x => x.id != id) } } else p := by
  simp only [extMsgTimeoutStep, hm]

theorem stagingIdleStep_some {g : Staging} (hg : p.nvm.staging = some g) : stagingIdleStep p = if g.idleAt ≤ p.now then setStaging none p else p := by
  simp only [stagingIdleStep, hg]

theorem extMayStart_stopped (hr : smisaRuns p = true) (hst : p.ext.st = .stopped) (hm : p.mode.mode ≠ .transport) : extMayStart p = true := by
  simp [extMayStart, hr, hst, hm]

theorem extMayStart_other (hst : p.ext.st ≠ .stopped) : extMayStart p = false := by
  simp [extMayStart, hst]

section Slice
variable (hr : smisaRuns p = true) (hst : p.ext.st = .running) (hu : p.core.r.psr.u = true) (hf : p.ext.frozen = false)
include hr hst hu hf

theorem timeSliceStep_next {n : Nat} (hn : pickThread p p.ext.cur = some n) (hprio : (getThread p n).prio = (getThread p p.ext.cur).prio) : timeSliceStep p = switchTo n p := by
  unfold timeSliceStep
  rw [if_pos (by simp [hr, hst, hu, hf])]
  simp only [hn]
  rw [if_pos (by simp [hprio])]

theorem timeSliceStep_alone (hn : pickThread p p.ext.cur = none) : timeSliceStep p = p := by
  unfold timeSliceStep
  rw [if_pos (by simp [hr, hst, hu, hf])]
  simp only [hn]

end Slice

section Waits
variable {n : Nat} (hst : p.ext.st = .running) (hf : p.ext.frozen = false) (hl : (getThread p n).live = true) (hd : due (getThread p n).dueAt p = true)
include hst hf hl hd

theorem syscallTimeoutStep_sleep (hw : (getThread p n).wait = some .sleep) : syscallTimeoutStep n p = threadReturn n stOk [] p := by
  simp [syscallTimeoutStep, hst, hf, hl, hd, hw]

theorem syscallTimeoutStep_wait {w : Waiting} (hw : (getThread p n).wait = some w) (hne : w ≠ .sleep) : syscallTimeoutStep n p = threadReturn n stTimeout [] p := by
  cases w <;> first | exact absurd rfl hne | simp [syscallTimeoutStep, hst, hf, hl, hd, hw]

end Waits

/-- What a former copy of a page becomes when its erase is due, at its time (R452). -/
theorem eraseFormer_eq (now : Nat) : eraseFormer now = fun (x : APage) => match x.eraseAt with
    | some k => if k ≤ now then { x with eraseAt := none } else x
    | none => x := by
  funext x
  unfold eraseFormer
  cases x.eraseAt <;> rfl

end Steps

section Clock
variable (p : State)

theorem clockSecond_life : (clockSecond p).ao.life = min 0xFFFFFFFF (p.ao.life + 1) := by
  simp only [clockSecond, rtcSecond]
  (repeat' split) <;> rfl

theorem clockSecond_unset (h : p.ao.rtcSet = false) : (clockSecond p).ao.rtc = p.ao.rtc := by
  simp [clockSecond, h]

variable {p} (h : p.ao.rtcSet = true)
include h

theorem clockSecond_set : (clockSecond p).ao = rtcSecond { p.ao with life := min 0xFFFFFFFF (p.ao.life + 1) } := by
  simp [clockSecond, h]

theorem clockSecond_even (hlo : -10000000 < p.ao.trimAcc + p.ao.trim) (hhi : p.ao.trimAcc + p.ao.trim < 10000000) :
    (clockSecond p).ao.rtc = (p.ao.rtc + 1) % 4294967296 ∧ (clockSecond p).ao.trimAcc = p.ao.trimAcc + p.ao.trim := by
  rw [clockSecond_set h, rtcSecond]
  dsimp only
  rw [if_neg (by omega), if_neg (by omega)]
  exact ⟨rfl, rfl⟩

theorem clockSecond_gain (hacc : 10000000 ≤ p.ao.trimAcc + p.ao.trim) :
    (clockSecond p).ao.rtc = (p.ao.rtc + 2) % 4294967296 ∧ (clockSecond p).ao.trimAcc = p.ao.trimAcc + p.ao.trim - 10000000 := by
  rw [clockSecond_set h, rtcSecond]
  dsimp only
  rw [if_pos hacc]
  exact ⟨rfl, rfl⟩

theorem clockSecond_lose (hacc : p.ao.trimAcc + p.ao.trim ≤ -10000000) :
    (clockSecond p).ao.rtc = p.ao.rtc ∧ (clockSecond p).ao.trimAcc = p.ao.trimAcc + p.ao.trim + 10000000 := by
  rw [clockSecond_set h, rtcSecond]
  dsimp only
  rw [if_neg (by omega), if_pos hacc]
  exact ⟨rfl, rfl⟩

end Clock

/-- Settles O39: each step by the one condition it checks, and the clocks by what the trim gathers. -/
theorem timersAndClocks : Obligations.TimersAndClocks := by
  refine ⟨?events, ?clock⟩
  case clock =>
    intro p q acc
    exact ⟨clockSecond_life p, clockSecond_unset p, clockSecond_even, clockSecond_gain, clockSecond_lose, rfl⟩
  intro s t p
  refine ⟨fun id m hm => ⟨fun hd => ?_, fun hd => ?_⟩, fun hx hd => ?_, fun hx => ?_, fun g hg => ⟨fun hd => ?_, fun hd => ?_⟩,
    fun hr hst hm => ⟨fun hs => ?_, fun hd => ?_, fun hd => ?_⟩, fun hst => ⟨?_, ?_⟩, fun hr hst hu hf => ⟨fun n hn hprio => ?_, fun hn => ?_⟩, fun hst => ?_, does_of_eq rfl rfl,
    fun n hst hf hl hd => ⟨fun hw => ?_, fun w hw hne => ?_⟩, fun n hd => ?_, fun hr hd => ?_, fun hd => ?_, fun hn => ?_, fun hn => ?_, fun hr => ?_, fun hr => ?_,
    fun hr h1 h2 h3 h4 => ?_, fun hd => ?_, fun hr hd => ?_, fun hd => ?_, fun hr => ?_, fun hr => ?_⟩
  · exact does_of_eq rfl (by rw [extMsgTimeoutStep_some hm, if_pos hd])
  · exact does_of_eq rfl (by rw [extMsgTimeoutStep_some hm, if_neg (Nat.not_le.2 hd)])
  · exact does_of_eq (x := s3TimeoutStep p) rfl (if_pos (by simp [hx, hd]))
  · exact does_of_eq (x := s3TimeoutStep p) rfl (if_neg (by rcases hx with hx | hx <;> simp [hx]))
  · exact does_of_eq rfl ((stagingIdleStep_some hg).trans (if_pos hd))
  · exact does_of_eq rfl ((stagingIdleStep_some hg).trans (if_neg (Nat.not_le.2 hd)))
  · exact does_of_eq (x := extensionStartStep p) rfl (if_pos (by simp [extMayStart_stopped hr hst hm, hs]))
  · exact does_of_eq (x := extensionRestartStep p) rfl (if_pos (by simp [extMayStart_stopped hr hst hm, hd]))
  · exact does_of_eq (x := extensionRestartStep p) rfl (if_neg (by simp [hd]))
  · exact does_of_eq (x := extensionStartStep p) rfl (if_neg (by simp [extMayStart_other hst]))
  · exact does_of_eq (x := extensionRestartStep p) rfl (if_neg (by simp [extMayStart_other hst]))
  · exact does_of_eq rfl (timeSliceStep_next hr hst hu hf hn hprio)
  · exact does_of_eq rfl (timeSliceStep_alone hr hst hu hf hn)
  · exact does_of_eq (x := timeSliceStep p) rfl (if_neg (by simp [hst]))
  · exact does_of_eq rfl (syscallTimeoutStep_sleep hst hf hl hd hw)
  · exact does_of_eq rfl (syscallTimeoutStep_wait hst hf hl hd hw hne)
  · exact does_of_eq (x := syscallTimeoutStep n p) rfl (if_neg (by simp [hd]))
  · exact does_of_eq (x := journalStep p) rfl (if_pos (by simp [hr, hd]))
  · exact does_of_eq (x := journalStep p) rfl (if_neg (by rcases hd with hd | hd <;> simp [hd]))
  · intro late
    have hlate : eraseFormer p.now = late := eraseFormer_eq p.now
    exact does_of_eq (x := formerEraseStep p) rfl (by rw [formerEraseStep, if_pos hn, hlate])
  · exact does_of_eq (x := formerEraseStep p) rfl (if_neg (by simp [hn]))
  · exact does_of_eq (x := lifeSecondStep p) rfl (if_neg (by simp [hr]))
  · exact does_of_eq (x := lifeSecondStep p) rfl (if_pos hr)
  · exact does_of_eq (x := autoConfirmStep p) rfl (if_pos (by simp [hr, h1, h2, h3, h4]))
  · exact does_of_eq (x := autoConfirmStep p) rfl (if_neg (by rcases hd with hd | hd | hd <;> simp [hd]))
  · exact does_of_eq (x := floorRetryStep p) rfl (if_pos (by simp [hr, hd]))
  · exact does_of_eq (x := floorRetryStep p) rfl (if_neg (by simp [hd]))
  · exact does_of_eq (x := bankCheckStep p) rfl (if_pos hr)
  · exact does_of_eq (x := bankCheckStep p) rfl (if_neg (by simp [hr]))

end Sys2Proof.Proofs
end

section
/-! A mailbox row that is served at its time: its answer, from what its handler answers over the state it is served in (R51, R61, R62). -/

namespace Sys2Proof.Proofs
open Sys2Proof Sys2Proof.Machine Sys2Proof.Safety

section Rows
variable {c : Instr} {code st : Nat} {r : Req} {s s' : State} {row : CmdRow} {b : Bytes} {p : State} {k : State → State}

theorem answers_of (hexec : exec c s = .next (settle (requestAt code r s'))) (hrow : cmdRow code = some row) (h : Served code row.lo row.hi r s')
    (hq : handle code r (serving code r s') = .done st b p) : Answers c code r s st b p := by
  obtain ⟨hready, hlo, hhi⟩ := h
  rw [Answers, Does, hexec, Laws.requestAt_ready hready hrow hlo hhi hq]

theorem pends_of (hexec : exec c s = .next (settle (requestAt code r s'))) (hrow : cmdRow code = some row) (h : Served code row.lo row.hi r s')
    (hq : handle code r (serving code r s') = .later p) : Pends c s p := by
  obtain ⟨hready, hlo, hhi⟩ := h
  rw [Pends, Does, hexec, Laws.requestAt_ready hready hrow hlo hhi hq]

theorem answersThen_of (hexec : exec c s = .next (settle (requestAt code r s'))) (hrow : cmdRow code = some row) (h : Served code row.lo row.hi r s')
    (hq : handle code r (serving code r s') = .thenDo st b p k) : AnswersThen c code r s st b p k := by
  obtain ⟨hready, hlo, hhi⟩ := h
  rw [AnswersThen, Does, hexec, Laws.requestAt_ready hready hrow hlo hhi hq]

theorem inMode_allowed (h : Allowed code r p) (k : Reply) : inMode code r p k = k := by
  obtain ⟨hm, hs⟩ := h
  simp [inMode, hm, hs]

end Rows

section Serving
variable (code : Nat) (r : Req) (s : State)

@[simp] theorem domSt_serving (d : Domain) : domSt (serving code r s) d = domSt s d := by simp [domSt]
@[simp] theorem isOn_serving (d : Domain) : isOn (serving code r s) d = isOn s d := by simp [isOn]
@[simp] theorem utcStamp_serving : utcStamp (serving code r s) = utcStamp s := by simp [utcStamp]
@[simp] theorem tw_serving : tw (serving code r s) = tw s := by simp [tw]

/-- A request being served has its abort record (R64). -/
theorem recordOf_serving : ∃ n, recordOf (serving code r s) r.transport r.session r.seq = some n := by
  have hmem : ∃ a ∈ (serving code r s).ao.aborts, a.transport = r.transport ∧ a.session = r.session ∧ a.seq = r.seq := by
    have haborts : (serving code r s).ao = (noteAccepted code r ((findSession (advance r.time s) r.transport r.session).getD {}) true (advance r.time s)).ao := by
      unfold serving taken
      rw [Laws.renewLeases_frame]
      cases r.transport <;> rfl
    rw [haborts]
    unfold noteAccepted
    dsimp only
    exact ⟨_, List.mem_append_right _ (List.mem_singleton_self _), rfl, rfl, rfl⟩
  obtain ⟨a, ha, ht, hs, hq⟩ := hmem
  have hsome : ((serving code r s).ao.aborts.find? (fun a => a.transport == r.transport && a.session == r.session && a.seq == r.seq)).isSome = true := by
    rw [List.find?_isSome]
    exact ⟨a, ha, by simp [ht, hs, hq]⟩
  obtain ⟨x, hx⟩ := Option.isSome_iff_exists.1 hsome
  exact ⟨x.id, by rw [recordOf, hx]; rfl⟩

end Serving

end Sys2Proof.Proofs
end

section
/-! The SYS, MODE and PWR commands (R68, R79 to R84, R402 to R410, R440). -/

namespace Sys2Proof.Proofs
open Sys2Proof Sys2Proof.Machine Sys2Proof.Safety

section Handlers
variable {r : Req} {p : State}

theorem resetAfterReply_some {n : Nat} (h : recordOf p r.transport r.session r.seq = some n) (c : Cause) :
    resetAfterReply r c p = { p with mbx := { p.mbx with resetAfter := p.mbx.resetAfter ++ [(n, c)] } } := by
  simp only [resetAfterReply, h]

theorem hSysReset_device (h : Allowed 0x0103 r p) (h0 : byte r.payload 0 = 0) : hSysReset r p = okay [] (resetAfterReply r .cmd p) := by
  simp only [hSysReset, h0]
  rw [if_neg (by omega), if_pos (by rfl), inMode_allowed h]

theorem hSysReset_domain {d : Domain} (h : Allowed 0x0103 r p) (h0 : byte r.payload 0 = 1) (hd : domOf (byte r.payload 1) = some d) :
    hSysReset r p = okay [] (resetAfterReply r (.dom d) p) := by
  simp only [hSysReset, h0, hd]
  rw [if_neg (by omega), if_neg (by decide), inMode_allowed h]

theorem hSysSettime_ok (h : Allowed 0x0105 r p) (hlo : (-2000 : Int) ≤ sext 16 (field r.payload 4 2)) (hhi : sext 16 (field r.payload 4 2) ≤ 2000)
    (hg : ¬ (p.nvm.tw.uplink.gptp = true ∧ p.bus.up.gptp.valid = true)) (ht : p.nvm.trim = sext 16 (field r.payload 4 2)) :
    hSysSettime r p = okay [] { p with ao := { p.ao with rtc := field r.payload 0 4, rtcSet := true, rtcSource := 1, trim := sext 16 (field r.payload 4 2), trimAcc := 0 } } := by
  simp only [hSysSettime]
  rw [if_neg (by simp; omega), inMode_allowed h, if_neg (by simpa [tw] using hg), if_neg (by simp [ht]), setTime, if_pos (by simp [ht])]

section Mode
variable (hs : inService p r = true)
include hs

theorem hModeSet_enter (h5 : byte r.payload 0 = 5) (hm : p.mode.mode ∈ [.parked, .approach, .accessory]) (ho : modeOpen p = true) :
    hModeSet r p = modeAnswer (takeMode .service { p with mode := { p.mode with serviceSess := some (r.transport, r.session), serviceAt := p.now } }) := by
  simp only [hModeSet, h5, hs]
  rw [if_neg (by omega), if_neg (by decide), if_pos (by rfl)]
  simp only [List.mem_cons, List.not_mem_nil, or_false] at hm
  rcases hm with hm | hm | hm <;> simp only [setService, hm, if_pos ho]

theorem hModeSet_run (h5 : byte r.payload 0 = 5) (hm : p.mode.mode = .run) : hModeSet r p = deny stState p := by
  simp only [hModeSet, h5, hs]
  rw [if_neg (by omega), if_neg (by decide), if_pos (by rfl)]
  simp only [setService, hm]

theorem hModeSet_end (h1 : 1 ≤ byte r.payload 0) (h5 : byte r.payload 0 ≤ 5) (hm : p.mode.mode = .service) (ho : modeOpen p = true) :
    hModeSet r p = modeAnswer (takeMode (ignMode p) p) := by
  simp only [hModeSet, hs]
  rw [if_neg (by omega), if_neg (by decide)]
  split
  · simp only [setService, hm, endService, if_pos ho]
  · rw [if_neg (by simp; omega), if_pos (by simp [hm]), endService, if_pos ho]

theorem hModeSet_transport (h0 : byte r.payload 0 = 0) (hm : p.mode.mode = .service) (hp : parkRefuser p 2 = none) :
    hModeSet r p = .thenDo stOk [0] p (parkEntry 2 1) := by
  simp only [hModeSet, h0, hs]
  rw [if_neg (by omega), if_neg (by decide), if_neg (by decide), if_pos (by rfl), setTransport, if_neg (by simp [hm])]
  simp only [hp]

end Mode

theorem hModeHold_ok (h : Allowed 0x0203 r p) (hn : field r.payload 0 2 ≤ 3600) :
    hModeHold r p = okay [] { p with mode := { p.mode with hold := if field r.payload 0 2 = 0 then none else some (p.now + 1000000 * field r.payload 0 2, r.transport, r.session) } } := by
  simp only [hModeHold]
  rw [if_neg (Nat.not_lt.2 hn), inMode_allowed h]
  simp [sec, Nat.mul_comm]

/-- PWR.SET once its domain, its state and the mode pass (R402 to R406). -/
theorem hPwrSet_ok {d : Domain} (h : Allowed 0x0302 r p) (hd : domOf (byte r.payload 0) = some d) (ho : overrideOk d (byte r.payload 1) = true) (hr : noRfd p d = false) :
    let st := byte r.payload 1
    hPwrSet r p = if stRank (askedState p d st) < stRank (domSt p d) then
        match refuserOf p d with
        | some c => .done stBusy [b8 c] (countRefusal c p)
        | none => .thenDo stOk [0] (setOverride d (if st == 0xFF then none else some (stOf st)) p) (lowerDomain d (askedState p d st))
      else okay [0] (raiseDomain d (if askedState p d st == .ret then .ret else domSt p d) (setOverride d (if st == 0xFF then none else some (stOf st)) p)) := by
  simp only [hPwrSet, hd]
  rw [if_neg (by simp [hr]), if_neg (by simp [ho]), inMode_allowed h] <;> rfl

end Handlers

/-- Settles O21: each command by what its handler answers over the state it is served in. -/
theorem systemModeAndPowerCommands : Obligations.SystemModeAndPowerCommands := by
  intro s r P b
  refine ⟨fun h => ?info, fun h => ?status, fun h => ?reset, fun h => ?gettime, fun h => ?settime, fun h => ?log, fun h => ?wake, fun h => ?mode, fun h => ?set, fun h => ?hold,
    fun h => ?domains, fun h => ?power, fun h => ?refusals⟩
  case info =>
    intro p
    refine answers_of rfl rfl h (show hSysInfo r p = _ from ?_)
    simp [hSysInfo, okay, p, P]
  case status =>
    intro p
    refine answers_of rfl rfl h (show hSysStatus r p = _ from ?_)
    simp [hSysStatus, okay, p, P]
  case reset =>
    intro p hallowed
    obtain ⟨n, hn⟩ := recordOf_serving 0x0103 r s
    refine ⟨n, hn, fun h0 => ?_, fun d h0 hd => ?_⟩
    · exact answers_of rfl rfl h (show hSysReset r p = _ by rw [hSysReset_device hallowed h0, resetAfterReply_some hn, okay])
    · exact answers_of rfl rfl h (show hSysReset r p = _ by rw [hSysReset_domain hallowed h0 hd, resetAfterReply_some hn, okay])
  case gettime =>
    intro p
    refine answers_of rfl rfl h (show hSysGettime r p = _ from ?_)
    simp [hSysGettime, okay, p, P, utcStamp]
  case settime =>
    intro p trim hlo hhi hallowed hg ht
    refine answers_of rfl rfl h (show hSysSettime r p = _ from hSysSettime_ok hallowed hlo hhi ?_ ?_)
    · simpa [p, P] using hg
    · simpa [p, P] using ht
  case log =>
    refine answers_of rfl rfl h (show hSysResetlog r _ = _ from ?_)
    simp [hSysResetlog, okay, P, historyBytes]
  case wake =>
    refine answers_of rfl rfl h (show hSysWake r _ = _ from ?_)
    simp [hSysWake, okay, P]
  case mode =>
    refine answers_of rfl rfl h (show hModeGet r _ = _ from ?_)
    simp [hModeGet, okay, P]
  case set =>
    intro p hs
    have hmode : p.mode.mode = s.mode.mode := by simp [p, P]
    refine ⟨fun h5 hm ho => ⟨_, rfl, ?_⟩, fun h5 hm => ?_, fun h1 h5 hm ho => ⟨_, rfl, ?_⟩, fun h0 hm hp => ?_⟩
    · exact answers_of rfl rfl h (show hModeSet r p = _ from hModeSet_enter hs h5 (by rwa [hmode]) ho)
    · exact answers_of rfl rfl h (show hModeSet r p = _ from hModeSet_run hs h5 (by rwa [hmode]))
    · exact answers_of rfl rfl h (show hModeSet r p = _ from hModeSet_end hs h1 h5 (by rwa [hmode]) ho)
    · exact answersThen_of rfl rfl h (show hModeSet r p = _ from hModeSet_transport hs h0 (by rwa [hmode]) hp)
  case hold =>
    intro p n hn hallowed
    exact answers_of rfl rfl h (show hModeHold r p = _ from hModeHold_ok hallowed hn)
  case domains =>
    refine answers_of rfl rfl h (show hPwrGet r _ = _ from ?_)
    simp only [hPwrGet, okay, P, Laws.serving_pwr_dom, Laws.serving_pwr_override, Reply.done.injEq, true_and, and_true, List.append_cancel_right_eq]
    exact List.map_congr_left fun d _ => by cases d <;> rfl
  case power =>
    intro p d hd ho hr hallowed to_ q
    have hset := hPwrSet_ok hallowed hd ho hr
    have hto : askedState p d (byte r.payload 1) = to_ := by simp [askedState, to_, b]
    have hdom : domSt p d = domSt s d := domSt_serving 0x0302 r s d
    have hq : setOverride d (if byte r.payload 1 == 0xFF then none else some (stOf (byte r.payload 1))) p = q := by simp [q, b]
    dsimp only at hset
    rw [hto, hdom, hq] at hset
    refine ⟨fun hle => ?_, fun hlt hn => ?_, fun c hlt hc => ?_⟩
    · refine answers_of rfl rfl h (show hPwrSet r p = _ by rw [hset, if_neg (Nat.not_lt.2 hle), okay]; simp)
    · exact answersThen_of rfl rfl h (show hPwrSet r p = _ by rw [hset, if_pos hlt, hn])
    · exact answers_of rfl rfl h (show hPwrSet r p = _ by rw [hset, if_pos hlt, hc])
  case refusals =>
    refine answers_of rfl rfl h (show hPwrRefusals r _ = _ from ?_)
    simp [hPwrRefusals, okay, P]

end Sys2Proof.Proofs
end

section
/-! The OUT, LAMP and WIPE commands, for the owner alone (R72 to R78, R85 to R88, R134, R136, R137, R596, R597). -/

namespace Sys2Proof.Proofs
open Sys2Proof Sys2Proof.Machine Sys2Proof.Safety

section Handlers
variable {r : Req} {p : State}

theorem outGetBody_eq (p : State) (o : Nat) : outGetBody p o = [b8 (ownerCode (getOwn p o).owner), b8 (getOwn p o).prio] ++
    (if o < 56 then [b8 (getChan p o).req.mode] ++ be 2 (reqDuty (getChan p o).req) ++ be 2 (getChan p o).drive.duty ++
      be 2 (if hasSense o then (getChan p o).current else 0xFFFF) ++ be 2 (faultFlags p o)
     else [0xFF] ++ be 2 0xFFFF ++ be 2 0xFFFF ++ be 2 0xFFFF ++ be 2 0) := by
  unfold outGetBody isChannel
  by_cases ho : o < 56
  · simp [ho]
  · simp [ho]

theorem outRequest_eq (o m duty freq : Nat) (p : State) : outRequest o m duty freq p = applyDrives (modChan o (fun c =>
    { c with req := { mode := m, duty := if m = 2 then duty else if m = 1 then 10000 else 0, freq := if freq = 0 then c.req.freq else freq } }) p) := by
  simp [outRequest]

theorem hOutSet_ok (h : Allowed 0x1002 r p) (ho : isChannel (field r.payload 0 2) = true) (hm : modeAllowed (field r.payload 0 2) (byte r.payload 2) = true)
    (hd : field r.payload 3 2 ≤ 10000) (hf : field r.payload 5 2 = 0 ∨ 100 ≤ field r.payload 5 2 ∧ field r.payload 5 2 ≤ 2000) :
    hOutSet r p = if owns p (requester p r) (field r.payload 0 2) then okay [] (outRequest (field r.payload 0 2) (byte r.payload 2) (field r.payload 3 2) (field r.payload 5 2) p)
      else deny stNotOwner p := by
  simp only [hOutSet]
  rw [if_neg (by simp [ho, hm, freqOk_of hf]; omega), inMode_allowed h]
  cases owns p (requester p r) (field r.payload 0 2) <;> rfl

theorem hOutClaim_ok (h : Allowed 0x1003 r p) (ho : objectAssigned p (field r.payload 0 2) = true) (h1 : 1 ≤ byte r.payload 2) (h15 : byte r.payload 2 ≤ 15) :
    hOutClaim r p = .later { p with outs := { p.outs with claims := p.outs.claims ++
      [{ owner := requester p r, object := field r.payload 0 2, prio := byte r.payload 2, sess := some (r.transport, r.session), req := some r }] } } := by
  simp only [hOutClaim]
  rw [if_neg (by simp [ho]; omega), inMode_allowed h]

theorem hOutRelease_one (ha : objectAssigned p (field r.payload 0 2) = true) (hne : field r.payload 0 2 ≠ 0xFFFF) :
    hOutRelease r p = if requester p r != .dflt && owns p (requester p r) (field r.payload 0 2) then okay [1] (releaseObject (field r.payload 0 2) p) else okay [0] p := by
  simp only [hOutRelease]
  rw [if_neg (by simpa using hne), if_neg (by simp [ha])]

theorem hOutClear_ok (h : Allowed 0x1006 r p) (ho : isChannel (field r.payload 0 2) = true) :
    hOutClear r p = if (getChan p (field r.payload 0 2)).latched = false then deny stState p
      else if owns p (requester p r) (field r.payload 0 2) = false then deny stNotOwner p else okay [] (clearLatch (field r.payload 0 2) p) := by
  simp only [hOutClear]
  rw [if_neg (by simp [ho]), inMode_allowed h]
  simp

theorem hLampSet_ok {c : TwLamp} (h : Allowed 0x1102 r p) (hc : lampCfg p (byte r.payload 0) = some c) (hq : byte r.payload 1 ≤ 2) (hf : field r.payload 3 2 ≤ 10000) :
    hLampSet r p = if serviceOwns p c.ch then okay [] (lampRequest (byte r.payload 0) (byte r.payload 1) (byte r.payload 2) (field r.payload 3 2) p) else deny stNotOwner p := by
  simp only [hLampSet, hc]
  rw [if_neg (by simp; omega), inMode_allowed h]
  cases serviceOwns p c.ch <;> rfl

theorem hLampScene_ok {c : TwScene} (h : Allowed 0x1103 r p) (hc : (tw p).scenes.find? (fun x => x.scene == byte r.payload 0) = some c) :
    hLampScene r p = if serviceOwns p (c.entries.flatMap (fun e => ((lampCfg p e.1).map (fun l => l.ch)).getD [])) then okay [] (sceneApply c p) else deny stNotOwner p := by
  simp only [hLampScene, hc]
  rw [inMode_allowed h]
  cases serviceOwns p (c.entries.flatMap (fun e => ((lampCfg p e.1).map (fun l => l.ch)).getD [])) <;> rfl

section Wiper
variable {c : TwWiper} (hc : (tw p).wiper = some c)
include hc

theorem hWipeSet_ok (h : Allowed 0x1202 r p) (h0 : byte r.payload 0 ≤ 6) (h1 : byte r.payload 1 ≤ 3) (h2 : 2 ≤ byte r.payload 2) (h30 : byte r.payload 2 ≤ 30) :
    hWipeSet r p = if serviceOwns p [(pairChannels c.pair).1, (pairChannels c.pair).2] then okay [] (wiperSet (byte r.payload 0) (byte r.payload 1) (byte r.payload 2) p)
      else deny stNotOwner p := by
  have hch : wiperChannels p false = [(pairChannels c.pair).1, (pairChannels c.pair).2] := by simp [wiperChannels, hc]
  simp only [hWipeSet, hch]
  rw [if_neg (by simp [hc]; omega), inMode_allowed h]
  cases serviceOwns p [(pairChannels c.pair).1, (pairChannels c.pair).2] <;> rfl

theorem wiperChannels_wash : wiperChannels p true = [(pairChannels c.pair).1, (pairChannels c.pair).2] ++ (if c.washer = 0xFF then [] else [c.washer]) := by
  by_cases hw : c.washer = 0xFF <;> simp [wiperChannels, hc, hw]

theorem hWipeWash_ok (h : Allowed 0x1203 r p) (h200 : 200 ≤ field r.payload 0 2) (h5000 : field r.payload 0 2 ≤ 5000) :
    hWipeWash r p = if serviceOwns p (wiperChannels p true) then okay [] (washBegin (1000 * field r.payload 0 2) p) else deny stNotOwner p := by
  simp only [hWipeWash]
  rw [if_neg (by simp [hc]; omega), inMode_allowed h, ms, Nat.mul_comm]
  cases serviceOwns p (wiperChannels p true) <;> rfl

end Wiper

end Handlers

/-- Settles O22: each command by what its handler answers over the state it is served in. -/
theorem outputLampAndWiperCommands : Obligations.OutputLampAndWiperCommands := by
  intro s r P b f me
  refine ⟨fun h => ?get, fun h => ?set, fun h => ?claim, fun h => ?release, fun h => ?keep, fun h => ?clear, fun h => ?owners, fun h => ?stations, fun c h => ?lamp,
    fun c h => ?lampSet, fun c h => ?scene, fun h => ?wiper, fun c h => ?wiperSet, fun c h => ?wash⟩
  case get =>
    intro p ho
    refine answers_of rfl rfl h (show hOutGet r p = _ from ?_)
    rw [hOutGet, if_neg (by simpa using ho), okay, outGetBody_eq]
  case set =>
    intro p ho hm hd hf hallowed
    have hset := hOutSet_ok hallowed ho hm hd hf
    rw [outRequest_eq] at hset
    refine ⟨fun hown => ?_, fun hown => ?_⟩
    · exact answers_of rfl rfl h (show hOutSet r p = _ from hset.trans (if_pos hown))
    · exact answers_of rfl rfl h (show hOutSet r p = _ from hset.trans (if_neg (by simpa using hown)))
  case claim =>
    intro p ho h1 h15 hallowed
    exact pends_of rfl rfl h (show hOutClaim r p = _ from hOutClaim_ok hallowed ho h1 h15)
  case release =>
    intro p
    refine ⟨fun hall => ?_, fun ho hne => ⟨fun hme hown => ?_, fun hown => ?_⟩⟩
    · exact answers_of rfl rfl h (show hOutRelease r p = _ from if_pos (by simpa using hall))
    · exact answers_of rfl rfl h (show hOutRelease r p = _ from (hOutRelease_one ho hne).trans (if_pos (by simpa using ⟨hme, hown⟩)))
    · change owns p (requester p r) (field r.payload 0 2) = false at hown
      exact answers_of rfl rfl h (show hOutRelease r p = _ from (hOutRelease_one ho hne).trans (if_neg (by simp [hown])))
  case keep => exact answers_of rfl rfl h rfl
  case clear =>
    intro p ho hallowed
    have hclear := hOutClear_ok hallowed ho
    refine ⟨fun hl => ?_, fun hl hown => ?_, fun hl hown => ?_⟩
    · exact answers_of rfl rfl h (show hOutClear r p = _ from hclear.trans (if_pos hl))
    · exact answers_of rfl rfl h (show hOutClear r p = _ from hclear.trans ((if_neg (fun hn => absurd (hl.symm.trans hn) (by decide))).trans (if_pos hown)))
    · exact answers_of rfl rfl h (show hOutClear r p = _ from hclear.trans ((if_neg (fun hn => absurd (hl.symm.trans hn) (by decide))).trans (if_neg (by simpa using hown))))
  case owners => exact answers_of rfl rfl h rfl
  case stations => exact answers_of rfl rfl h rfl
  case lamp =>
    intro p hc
    exact answers_of rfl rfl h (show hLampGet r p = _ by simp only [hLampGet]; rw [hc]; rfl)
  case lampSet =>
    intro p hc hq hf hallowed
    have hset := hLampSet_ok hallowed hc hq hf
    refine ⟨fun hown => ?_, fun hown => ?_⟩
    · exact answers_of rfl rfl h (show hLampSet r p = _ from hset.trans (if_pos hown))
    · exact answers_of rfl rfl h (show hLampSet r p = _ from hset.trans (if_neg (by simpa using hown)))
  case scene =>
    intro p hc hallowed chs
    have hset := hLampScene_ok hallowed hc
    refine ⟨fun hown => ?_, fun hown => ?_⟩
    · exact answers_of rfl rfl h (show hLampScene r p = _ from hset.trans (if_pos hown))
    · exact answers_of rfl rfl h (show hLampScene r p = _ from hset.trans (if_neg (by simpa using hown)))
  case wiper => exact answers_of rfl rfl h rfl
  case wiperSet =>
    intro p hc h0 h1 h2 h30 hallowed chs
    have hset := hWipeSet_ok hc hallowed h0 h1 h2 h30
    refine ⟨fun hown => ?_, fun hown => ?_⟩
    · exact answers_of rfl rfl h (show hWipeSet r p = _ from hset.trans (if_pos hown))
    · exact answers_of rfl rfl h (show hWipeSet r p = _ from hset.trans (if_neg (by simpa using hown)))
  case wash =>
    intro p hc h200 h5000 hallowed chs
    have hset := hWipeWash_ok hc hallowed h200 h5000
    rw [wiperChannels_wash hc] at hset
    refine ⟨fun hown => ?_, fun hown => ?_⟩
    · exact answers_of rfl rfl h (show hWipeWash r p = _ from hset.trans (if_pos hown))
    · exact answers_of rfl rfl h (show hWipeWash r p = _ from hset.trans (if_neg (fun hn => absurd (hown.symm.trans hn) (by decide))))

end Sys2Proof.Proofs
end

section
/-! The MOTN, HAP, IN, KEY and RLS commands (R89, R90, R140, R149, R153, R161, R173, R184, R187, R191, R196). -/

namespace Sys2Proof.Proofs
open Sys2Proof Sys2Proof.Machine Sys2Proof.Safety

section Motion
variable {r : Req} {p : State} {c : TwMotion} (hn : byte r.payload 0 ≤ 3) (hc : motionCfg p (byte r.payload 0) = some c)

theorem actChannels_some {n : Nat} (hc : motionCfg p n = some c) : actChannels p n = [(pairChannels c.pair).1, (pairChannels c.pair).2] := by
  simp only [actChannels, hc]

include hn hc

theorem motion_inRange : ¬ (decide (3 < byte r.payload 0) || (motionCfg p (byte r.payload 0)).isNone) = true := by
  simp [hc]; omega

theorem hMotnGet_ok : hMotnGet r p = okay (be 2 (getAct p (byte r.payload 0)).pos ++ [b8 (getAct p (byte r.payload 0)).state] ++ be 2 (getAct p (byte r.payload 0)).pinches) p := by
  rw [hMotnGet, if_neg (motion_inRange hn hc)]

section Move
variable (ht : field r.payload 1 2 ≤ 1000) (hm : byte r.payload 3 ≤ 2)
include ht hm

theorem move_inRange : ¬ (decide (3 < byte r.payload 0) || (motionCfg p (byte r.payload 0)).isNone || decide (1000 < field r.payload 1 2) || decide (2 < byte r.payload 3)) = true := by
  simp [hc]; omega

theorem hMotnMove_priv (h2 : byte r.payload 3 = 2) (hs : serviceReq p r = false) : hMotnMove r p = deny stPriv p := by
  simp only [hMotnMove]
  rw [if_neg (move_inRange hn hc ht hm), if_pos (by simp [h2, hs])]

theorem hMotnMove_ok (hs : byte r.payload 3 = 2 → serviceReq p r = true) (h : Allowed 0x1302 r p) :
    hMotnMove r p = if byte r.payload 3 ≠ 2 ∧ (getAct p (byte r.payload 0)).travel = 0 then deny stState p
      else if (getAct p (byte r.payload 0)).learn ≠ 0 then deny stState p
      else if serviceOwns p [(pairChannels c.pair).1, (pairChannels c.pair).2] = true then okay [] (actMove (byte r.payload 0) (field r.payload 1 2) (byte r.payload 3) p)
      else deny stNotOwner p := by
  have hpriv : ¬ (byte r.payload 3 == 2 && !serviceReq p r) = true := by simpa using hs
  simp only [hMotnMove]
  rw [if_neg (move_inRange hn hc ht hm), if_neg hpriv, inMode_allowed h, actChannels_some hc]
  cases serviceOwns p [(pairChannels c.pair).1, (pairChannels c.pair).2] <;> simp

end Move

theorem hMotnStop_one : hMotnStop r p = okay [] (actStop (byte r.payload 0) p) := by
  simp only [hMotnStop]
  rw [if_neg (by simp; omega), if_neg (motion_inRange hn hc)]

theorem hMotnLearn_ok (h : Allowed 0x1304 r p) :
    hMotnLearn r p = if (getAct p (byte r.payload 0)).learn ≠ 0 then deny stBusy p
      else if serviceOwns p [(pairChannels c.pair).1, (pairChannels c.pair).2] = false then deny stNotOwner p
      else if snapOk p (4 + byte r.payload 0) = false then deny stEndurance p else .later (learnStart (byte r.payload 0) (some r) p) := by
  simp only [hMotnLearn]
  rw [if_neg (motion_inRange hn hc), inMode_allowed h, actChannels_some hc]
  simp

end Motion

section Others
variable {r : Req} {p : State}

theorem hHapPlay_ok (h0 : byte r.payload 0 ≤ 63) (h1 : 1 ≤ byte r.payload 1) (h100 : byte r.payload 1 ≤ 100) (h : Allowed 0x1B01 r p) :
    hHapPlay r p = .done (hapPlay (byte r.payload 0) (byte r.payload 1) p).1 [] (hapPlay (byte r.payload 0) (byte r.payload 1) p).2 := by
  simp only [hHapPlay]
  rw [if_neg (by omega), inMode_allowed h]

theorem hapPlay_none {n amp : Nat} (h : (tw p).haptic.isNone = true) : hapPlay n amp p = (stState, p) := if_pos h

theorem hapPlay_some {n amp : Nat} (h : (tw p).haptic.isSome = true) :
    hapPlay n amp p = (if p.hap.missing || p.hap.shorted then stState else stOk, hapTrigger 2 n amp p) := by
  rw [hapPlay, if_neg (by simpa using Option.isSome_iff_ne_none.1 h)]
  split <;> rfl

end Others

section Calibration
variable {r : Req} {p : State} {c : TwScreen} {m : CalMeas} {x0 x1 y0 y1 : Nat}

/-- The measurements that a calibration takes: each signal at half its reference at least (R173). -/
def GoodMeas (c : TwScreen) (m : CalMeas) (x0 x1 y0 y1 : Nat) : Prop :=
  m.a0 = some x0 ∧ m.a1 = some x1 ∧ m.b0 = some y0 ∧ m.b1 = some y1 ∧ c.sref0 ≤ 2 * x0 ∧ c.sref1 ≤ 2 * x1 ∧ c.sref0 ≤ 2 * y0 ∧ c.sref1 ≤ 2 * y1

theorem calSignals_good (h : GoodMeas c m x0 x1 y0 y1) : calSignals c m = some (y0, y1) := by
  obtain ⟨ha0, ha1, hb0, hb1, h0, h1, h2, h3⟩ := h
  simp [calSignals, calOk, ha0, ha1, hb0, hb1, h0, h1, h2, h3]

theorem calSignals_missing (h : m.a0 = none ∨ m.a1 = none ∨ m.b0 = none ∨ m.b1 = none) : calSignals c m = none := by
  unfold calSignals
  split
  next ha0 ha1 hb0 hb1 => simp [ha0, ha1, hb0, hb1] at h
  next => rfl

theorem calSignals_weak (ha0 : m.a0 = some x0) (ha1 : m.a1 = some x1) (hb0 : m.b0 = some y0) (hb1 : m.b1 = some y1) (h : ¬ GoodMeas c m x0 x1 y0 y1) : calSignals c m = none := by
  simp only [calSignals, ha0, ha1, hb0, hb1]
  rw [if_neg]
  simp only [calOk, Bool.and_eq_true, decide_eq_true_eq]
  rintro ⟨⟨⟨h0, h1⟩, h2⟩, h3⟩
  exact h ⟨ha0, ha1, hb0, hb1, h0, h1, h2, h3⟩

variable (hc : (tw p).screens.find? (fun z => z.record == byte r.payload 0) = some c) (h : Allowed 0x1A02 r p)
include hc h

theorem hRlsCal_none (hx : (if isOn p .ana then calSignals c p.env.cal else none) = none) : hRlsCal r p = deny stState p := by
  simp only [hRlsCal, hc]
  rw [inMode_allowed h]
  simp only [hx]

theorem hRlsCal_some {a b : Nat} (hx : (if isOn p .ana then calSignals c p.env.cal else none) = some (a, b)) :
    hRlsCal r p = if snapOk p 0 = false then deny stEndurance p else okay [] (modMon 5 (fun z => if z.armed then z else { z with armAt := some (p.now + 100) })
      (modRls (fun z => { z with dry0 := some a, dry1 := some b, mountRef := some p.env.cal.msns, ref0 := a, ref1 := b,
                                 sig0 := some a, sig1 := some b, msns := some p.env.cal.msns, fail0 := false, fail1 := false }) (snapCount 0 p))) := by
  simp only [hRlsCal, hc]
  rw [inMode_allowed h]
  simp only [hx]
  cases snapOk p 0 <;> rfl

end Calibration

/-- Settles O23: each command by what its handler answers over the state it is served in. -/
theorem motionHapticAndInputCommands : Obligations.MotionHapticAndInputCommands := by
  intro s r P b f
  refine ⟨fun c h => ?get, fun c h => ?move, fun c h => ?stop, fun c h => ?learn, fun h => ?play, fun h => ?arm, fun h => answers_of rfl rfl h rfl, fun h => answers_of rfl rfl h rfl,
    fun h => ?watch, fun h => answers_of rfl rfl h rfl, fun h => answers_of rfl rfl h rfl, ?cal⟩
  case get =>
    intro p hn hc
    exact answers_of rfl rfl h (show hMotnGet r p = _ from hMotnGet_ok hn hc)
  case move =>
    intro p hn hc ht hm chs
    refine ⟨fun h2 hs => ?_, fun hs hallowed => ?_⟩
    · exact answers_of rfl rfl h (show hMotnMove r p = _ from hMotnMove_priv hn hc ht hm h2 hs)
    have hmove := hMotnMove_ok hn hc ht hm hs hallowed
    refine ⟨fun h2 h0 => ?_, fun htravel hl => ⟨fun hown => ?_, fun hown => ?_⟩⟩
    · exact answers_of rfl rfl h (show hMotnMove r p = _ from hmove.trans (if_pos ⟨h2, h0⟩))
    all_goals
      have hnot : ¬ (byte r.payload 3 ≠ 2 ∧ (getAct p (byte r.payload 0)).travel = 0) := fun hn => htravel.elim hn.1 fun ht => ht hn.2
      have hlearn : ¬ (getAct p (byte r.payload 0)).learn ≠ 0 := not_not.2 hl
      rw [if_neg hnot, if_neg hlearn] at hmove
    · exact answers_of rfl rfl h (show hMotnMove r p = _ from hmove.trans (if_pos hown))
    · exact answers_of rfl rfl h (show hMotnMove r p = _ from hmove.trans (if_neg (by simpa using hown)))
  case stop =>
    intro p
    refine ⟨fun hall => ?_, fun hn hc => ?_⟩
    · exact answers_of rfl rfl h (show hMotnStop r p = _ from if_pos (by simpa using hall))
    · exact answers_of rfl rfl h (show hMotnStop r p = _ from hMotnStop_one hn hc)
  case learn =>
    intro p hn hc hallowed chs
    have hlearn := hMotnLearn_ok hn hc hallowed
    refine ⟨fun hl => ?_, fun hl hown => ?_, fun hl hown hsnap => ?_, fun hl hown hsnap => ?_⟩
    · exact answers_of rfl rfl h (show hMotnLearn r p = _ from hlearn.trans (if_pos hl))
    all_goals rw [if_neg (not_not.2 (show (getAct p (byte r.payload 0)).learn = 0 from hl))] at hlearn
    · exact answers_of rfl rfl h (show hMotnLearn r p = _ from hlearn.trans (if_pos hown))
    all_goals rw [if_neg (fun hn => absurd ((show serviceOwns p [(pairChannels c.pair).1, (pairChannels c.pair).2] = true from hown).symm.trans hn) (by decide))] at hlearn
    · exact answers_of rfl rfl h (show hMotnLearn r p = _ from hlearn.trans (if_pos hsnap))
    · exact pends_of rfl rfl h (show hMotnLearn r p = _ from hlearn.trans (if_neg (fun hn => absurd (hsnap.symm.trans hn) (by decide))))
  case play =>
    intro p h0 h1 h100 hallowed
    have hplay := hHapPlay_ok h0 h1 h100 hallowed
    refine ⟨fun hx => ?_, fun hx => ?_⟩
    · exact answers_of rfl rfl h (show hHapPlay r p = _ by rw [hplay, hapPlay_none hx])
    · exact answers_of rfl rfl h (show hHapPlay r p = _ by rw [hplay, hapPlay_some hx])
  case arm =>
    intro p hn
    exact answers_of rfl rfl h (show hHapArm r p = _ from if_neg (Nat.not_lt.2 hn))
  case watch =>
    intro p m hm
    exact answers_of rfl rfl h (show hInWatch r p = _ from if_neg (Nat.not_le.2 hm))
  case cal =>
    intro c m x0 x1 y0 y1 s' h p good hc hallowed
    have hcal : p.env.cal = m := by simp [p, s']
    refine ⟨fun hon => ?_, fun hx => ?_, fun ha0 ha1 hb0 hb1 hx => ?_, fun hon hx hs => ?_, fun hon hx hs => ?_⟩
    · exact answers_of rfl rfl h (show hRlsCal r p = _ from hRlsCal_none hc hallowed (by rw [hon]; rfl))
    · exact answers_of rfl rfl h (show hRlsCal r p = _ from hRlsCal_none hc hallowed (by rw [hcal, calSignals_missing hx, ite_self]))
    · exact answers_of rfl rfl h (show hRlsCal r p = _ from hRlsCal_none hc hallowed (by rw [hcal, calSignals_weak ha0 ha1 hb0 hb1 hx, ite_self]))
    all_goals have hok := hRlsCal_some (a := y0) (b := y1) hc hallowed (by rw [if_pos hon, hcal, calSignals_good hx])
    · exact answers_of rfl rfl h (show hRlsCal r p = _ from hok.trans (if_pos hs))
    · intro q
      rw [hcal] at hok
      exact answers_of rfl rfl h (show hRlsCal r p = _ from hok.trans (if_neg (fun hn => absurd (hs.symm.trans hn) (by decide))))

end Sys2Proof.Proofs
end

section
/-! The STN, BUS, TAG and INS commands (R91, R92, R218, R219, R224, R243, R248, R254, R263, R264, R286). -/

namespace Sys2Proof.Proofs
open Sys2Proof Sys2Proof.Machine Sys2Proof.Safety

section Handlers
variable {r : Req} {p : State}

theorem withEnc_available (h : encStatus p = none) (k : Reply) : withEnc p k = k := by
  simp only [withEnc, h]

theorem hStnGet_ok {c : TwStation} (hc : stationCfg p (byte r.payload 0) = some c) : hStnGet r p = okay (stnGetBody p c) p := by
  simp only [hStnGet, hc]

theorem hStnWrite_ok {c : TwStation} (hc : stationCfg p (byte r.payload 0) = some c) (hlen : byte r.payload 1 + (r.payload.drop 2).length ≤ c.olen) (h : Allowed 0x2003 r p) :
    hStnWrite r p = if inSnapshot (getStn p c.addr) = false then deny stState p
      else if owns p (requester p r) (0x100 + c.addr) = false then deny stNotOwner p
      else okay (be 2 (firstCycle p c.port)) (imagePut c (byte r.payload 1) (r.payload.drop 2) p) := by
  simp only [hStnWrite, hc]
  rw [if_neg (Nat.not_lt.2 hlen), inMode_allowed h]
  simp

theorem hStnCycle_ok {c : TwPort} (hc : portCfg p (byte r.payload 0) = some c) (h6 : byte r.payload 1 ≤ 6) (hb : budgetOk (tw p) c (byte r.payload 1) = true) (h : Allowed 0x2004 r p) :
    hStnCycle r p = okay [] (modEngine c.port (fun e => { e with nextCode := some (byte r.payload 1) }) p) := by
  simp only [hStnCycle, hc]
  rw [if_neg (by simp [hb]; omega), inMode_allowed h]

theorem hBusGet_can (h : byte r.payload 0 < 2) :
    hBusGet r p = okay ([b8 (getCan p (byte r.payload 0)).state, b8 (getCan p (byte r.payload 0)).tec, b8 (getCan p (byte r.payload 0)).rec_] ++ be 2 (getCan p (byte r.payload 0)).busOff) p := by
  simp only [hBusGet]
  rw [if_neg (by omega), if_pos h]

theorem hBusGet_lin (h2 : 2 ≤ byte r.payload 0) (h5 : byte r.payload 0 ≤ 5) :
    hBusGet r p = okay ([b8 (getLin p (byte r.payload 0 - 2)).state, 0, 0] ++ be 2 (getLin p (byte r.payload 0 - 2)).errors) p := by
  simp only [hBusGet]
  rw [if_neg (by omega), if_neg (by omega)]

theorem hBusRoute_ok (h63 : byte r.payload 0 ≤ 63) (hok : routeOk (r.payload.drop 1) = true) (hres : routeReserved (tw p).transports (readRoute (r.payload.drop 1)) = false) :
    hBusRoute r p = okay [] (modUp (fun u => { u with routes := setAt (byte r.payload 0) (readRoute (r.payload.drop 1)) (padRoutes u.routes) }) p) := by
  simp only [hBusRoute]
  rw [if_neg (by simp only [hok, hres, Bool.not_true, Bool.or_false, decide_eq_true_eq]; omega)]

theorem hBusSend_ok (hs : sendOk p (byte r.payload 0) (field r.payload 1 4) (byte r.payload 5) (r.payload.drop 6) = true) (h : Allowed 0x2103 r p) :
    hBusSend r p = if canActive p (byte r.payload 0) = false then deny stState p else .later (canQueue (byte r.payload 0)
      { frame := sendFrameOf (field r.payload 1 4) (byte r.payload 5) (r.payload.drop 6), origin := .busSend r.transport r.session r.seq, dueAt := p.now + 20000 } p) := by
  simp only [hBusSend]
  rw [if_neg (by rw [hs]; decide), inMode_allowed h]
  cases canActive p (byte r.payload 0) <;> rfl

theorem hBusLinsched_ok (h2 : 2 ≤ byte r.payload 0) (h5 : byte r.payload 0 ≤ 5) (h15 : byte r.payload 1 ≤ 15) (hf : schedFilled p (byte r.payload 0 - 2) (byte r.payload 1) = true)
    (h : Allowed 0x2104 r p) :
    hBusLinsched r p = if (getLin p (byte r.payload 0 - 2)).state = 1 ∨ (getLin p (byte r.payload 0 - 2)).startAt.isSome = true then
        okay [] (modLin (byte r.payload 0 - 2) (fun x => { x with next := some (byte r.payload 1) }) p)
      else deny stState p := by
  simp only [hBusLinsched]
  rw [if_neg (by simp [hf]; omega), inMode_allowed h]
  simp

theorem hTagEnable_ok (h1 : byte r.payload 0 ≤ 1) (h : Allowed 0x3002 r p) (he : encStatus p = none) :
    hTagEnable r p = okay [b8 (tagEval { p with tag := { p.tag with enableFlag := byte r.payload 0 == 1 } }).tag.state] (tagEval { p with tag := { p.tag with enableFlag := byte r.payload 0 == 1 } }) := by
  simp only [hTagEnable]
  rw [if_neg (Nat.not_lt.2 h1), inMode_allowed h, withEnc_available he]
  rfl

theorem hTagTxnlog_ok (h1 : 1 ≤ byte r.payload 4) (h40 : byte r.payload 4 ≤ 40) (hne : p.tag.log ≠ []) (hold : (p.tag.log.getLast?.getD {}).txn ≤ field r.payload 0 4)
    (hnew : field r.payload 0 4 + byte r.payload 4 ≤ p.tag.lastTxn + 1) (he : encStatus p = none) :
    hTagTxnlog r p = okay ((p.tag.log.reverse.filter (fun x => decide (field r.payload 0 4 ≤ x.txn) && decide (x.txn < field r.payload 0 4 + byte r.payload 4))).flatMap txnBytes) p := by
  simp only [hTagTxnlog]
  rw [if_neg, withEnc_available he]
  simp [hne]
  omega

theorem hInsGet_none (h : p.tag.sess = none) :
    hInsGet r p = okay ([b8 (bit p.env.insDet), b8 p.tag.ins] ++ (drawBytes 10 p).1) { p with freeCtr := p.freeCtr + 10 } := by
  simp only [hInsGet, h, (drawBytes_frame 10 p).2]

theorem hInsGet_open {x : InsSession} (h : p.tag.sess = some x) (hc : x.contract.txnCeiling ≠ 0) :
    hInsGet r p = okay ([b8 (bit p.env.insDet), b8 p.tag.ins] ++ be 4 x.contract.notAfter ++
      be 4 (x.contract.txnCeiling - ((getRec p x.serial).committed - bit (getRec p x.serial).reserved)) ++ be 2 (getRec p x.serial).insertions) p := by
  simp [hInsGet, h, hc]

theorem hInsGet_unlimited {x : InsSession} (h : p.tag.sess = some x) (hc : x.contract.txnCeiling = 0) :
    hInsGet r p = okay ([b8 (bit p.env.insDet), b8 p.tag.ins] ++ be 4 x.contract.notAfter ++ (drawBytes 4 p).1 ++ be 2 (getRec p x.serial).insertions) { p with freeCtr := p.freeCtr + 4 } := by
  simp only [hInsGet, h, hc, (drawBytes_frame 4 p).2]
  rfl

theorem hInsApdu_ok (h : Allowed 0x3102 r p) (he : encStatus p = none) :
    hInsApdu r p = if p.env.insDet = false ∨ p.tag.accept.isSome = true then deny stState p
      else if p.tag.apdu.isSome = true then deny stBusy p
      else .later (sendApdu { p with tag := { p.tag with apdu := some (r.transport, r.session, r.seq, r.payload), apduAt := p.now + 2000000, apduRuns := false } }) := by
  simp only [hInsApdu]
  rw [inMode_allowed h, withEnc_available he]
  simp [modTag, sec]

end Handlers

/-- Settles O24: each command by what its handler answers over the state it is served in. -/
theorem stationBusAndTagCommands : Obligations.StationBusAndTagCommands := by
  intro s r P b
  refine ⟨fun h => answers_of rfl rfl h rfl, fun c h => ?get, fun c h => ?write, fun c h => ?cycle, fun h => ?bus, fun h => ?route, fun h => ?send, fun h => ?lin,
    fun h => answers_of rfl rfl h rfl, fun h => ?enable, fun h => ?log, fun h => ?ins, fun h => ?apdu⟩
  case get =>
    intro p hc x
    exact answers_of rfl rfl h (show hStnGet r p = _ from hStnGet_ok hc)
  case write =>
    intro p d hc hlen hallowed
    have hw := hStnWrite_ok hc hlen hallowed
    refine ⟨fun hin => ?_, fun hin hown => ?_, fun hin hown => ?_⟩
    · exact answers_of rfl rfl h (show hStnWrite r p = _ from hw.trans (if_pos hin))
    all_goals rw [if_neg (fun hn => absurd (hin.symm.trans hn) (by decide))] at hw
    · exact answers_of rfl rfl h (show hStnWrite r p = _ from hw.trans (if_pos hown))
    · exact answers_of rfl rfl h (show hStnWrite r p = _ from hw.trans (if_neg (fun hn => absurd (hown.symm.trans hn) (by decide))))
  case cycle =>
    intro p hc h6 hb hallowed
    exact answers_of rfl rfl h (show hStnCycle r p = _ from hStnCycle_ok hc h6 hb hallowed)
  case bus =>
    intro p
    exact ⟨fun h2 => answers_of rfl rfl h (show hBusGet r p = _ from hBusGet_can h2), fun h2 h5 => answers_of rfl rfl h (show hBusGet r p = _ from hBusGet_lin h2 h5)⟩
  case route =>
    intro p e h63 hok hres
    exact answers_of rfl rfl h (show hBusRoute r p = _ from hBusRoute_ok h63 hok hres)
  case send =>
    intro p v d hs hallowed
    have hsend := hBusSend_ok hs hallowed
    refine ⟨fun ha => ?_, fun ha => ?_⟩
    · exact answers_of rfl rfl h (show hBusSend r p = _ from hsend.trans (if_pos ha))
    · exact pends_of rfl rfl h (show hBusSend r p = _ from hsend.trans (if_neg (fun hn => absurd (ha.symm.trans hn) (by decide))))
  case lin =>
    intro p n h2 h5 h15 hf hallowed
    have hl := hBusLinsched_ok h2 h5 h15 hf hallowed
    refine ⟨fun hs => ?_, fun hs ha => ?_⟩
    · exact answers_of rfl rfl h (show hBusLinsched r p = _ from hl.trans (if_pos hs))
    · exact answers_of rfl rfl h (show hBusLinsched r p = _ from hl.trans (if_neg (fun hn => hn.elim hs (fun hsome => absurd hsome (by rw [show (getLin p (byte r.payload 0 - 2)).startAt = none from ha]; decide)))))
  case enable =>
    intro p h1 hallowed he
    exact ⟨_, rfl, answers_of rfl rfl h (show hTagEnable r p = _ from hTagEnable_ok h1 hallowed he)⟩
  case log =>
    intro p n c h1 h40 hne hold hnew he
    exact answers_of rfl rfl h (show hTagTxnlog r p = _ from hTagTxnlog_ok h1 h40 hne hold hnew he)
  case ins =>
    intro p hd
    refine ⟨fun x hx hc => ?_, fun x hx hc => ⟨_, (drawBytes_frame 4 p).1, ?_⟩, fun hx => ⟨_, (drawBytes_frame 10 p).1, ?_⟩⟩
    · exact answers_of rfl rfl h (show hInsGet r p = _ from hInsGet_open hx hc)
    · exact answers_of rfl rfl h (show hInsGet r p = _ from hInsGet_unlimited hx hc)
    · exact answers_of rfl rfl h (show hInsGet r p = _ from hInsGet_none hx)
  case apdu =>
    intro p hallowed he
    have ha := hInsApdu_ok hallowed he
    refine ⟨fun hx => ?_, fun hdet hacc hbusy => ?_, fun hdet hacc hfree => ?_⟩
    · exact answers_of rfl rfl h (show hInsApdu r p = _ from ha.trans (if_pos hx))
    all_goals rw [if_neg (by simp [hdet, hacc])] at ha
    · exact answers_of rfl rfl h (show hInsApdu r p = _ from ha.trans (if_pos hbusy))
    · exact pends_of rfl rfl h (show hInsApdu r p = _ from ha.trans (if_neg (by simp [hfree])))

end Sys2Proof.Proofs
end

section
/-! The ENC and TMP commands (R94, R301 to R309, R320, R334 to R340). -/

namespace Sys2Proof.Proofs
open Sys2Proof Sys2Proof.Machine Sys2Proof.Safety

section Handlers
variable {r : Req} {p : State}

theorem withBasic_available (h : p.enc.avail = true) (k : Reply) : withBasic p k = k := by
  simp only [withBasic, h, if_true]

theorem withIdentity_good (h : p.enc.certFault = false ∧ dikLost p = false) (k : Reply) : withIdentity p k = k := by
  simp [withIdentity, h.1, h.2]

theorem hEncCert_ok (ha : p.enc.avail = true) (hi : p.enc.certFault = false ∧ dikLost p = false) (ho : field r.payload 0 2 < p.enc.cert.length) :
    hEncCert r p = okay (be 2 p.enc.cert.length ++ slice p.enc.cert (field r.payload 0 2) 960) p := by
  simp only [hEncCert]
  rw [if_neg (Nat.not_le.2 ho), withBasic_available ha, withIdentity_good hi]

/-- The session a served ENC.OPEN makes of its identifier, secret value and nonce (R55, R94). -/
def openedSession (r : Req) (p : State) (id d : Nat) (nD : Bytes) : Session :=
  let qH := slice r.payload 1 65
  let nH := slice r.payload 66 16
  let k := Config.hkdf (nH ++ nD) (Config.ecdh d qH) ([0x44, 0x4D, 0x53, 0x4B, 0x2D, 0x4D, 0x42, 0x58] ++ be 4 id) 48
  { id := id, transport := r.transport, sought := byte r.payload 0, proven := false, kHd := slice k 0 16, kDh := slice k 16 16, kW := slice k 32 16, qH := qH, nH := nH,
    qD := Config.ecPublic d, nD := nD, proveAt := p.now + 10000000, idleAt := p.now + 1000000 * (tw p).transports.idleS }

theorem hEncOpen_served (h1 : 1 ≤ byte r.payload 0) (h4 : byte r.payload 0 ≤ 4) (hq : Config.pointOk (slice r.payload 1 65) = true) (hs : r.session = 0) (he : encStatus p = none)
    (hi : p.enc.certFault = false ∧ dikLost p = false) :
    ∃ (id d : Nat) (nD : Bytes), nD.length = 16 ∧
      hEncOpen r p = if decide (2 ≤ authCount p (fun x => x.transport == r.transport)) || decide (6 ≤ authCount p (fun _ => true)) then deny stBusy p
        else okay (be 4 id ++ padTo 65 0 (Config.ecPublic d) ++ nD ++ padTo 64 0 (Config.dikSign (openTranscript p (byte r.payload 0) id (slice r.payload 1 65) (slice r.payload 66 16) (Config.ecPublic d) nD)))
          { p with freeCtr := p.freeCtr + 18, enc := { p.enc with drbg := (p.enc.drbg + 3) % 65536 }, mbx := { p.mbx with sessions := p.mbx.sessions ++ [openedSession r p id d nD] } } := by
  refine ⟨freshId p 8 ((random p).1 % 4294967296), (random (random p).2).1, (randomBytes 16 (random (random p).2).2).1, (drawBytes_frame _ _).1, ?_⟩
  have hd : (randomBytes 16 (random (random p).2).2).2 = { p with freeCtr := p.freeCtr + 18, enc := { p.enc with drbg := (p.enc.drbg + 3) % 65536 } } := by
    simp only [randomBytes, (drawBytes_frame _ _).2, random, draw, drbgRequest]
    congr 2
    omega
  simp only [hEncOpen]
  rw [if_neg (by simp [hq]; omega), if_neg (by simp [hs]), withEnc_available he, withIdentity_good hi, hd]
  simp only [openedSession, sec, Nat.mul_comm _ 1000000]

theorem authCount_transport : authCount p (fun x => x.transport == r.transport) = (p.mbx.sessions.filter (fun x => x.id != 0 && x.transport == r.transport)).length := rfl

theorem authCount_all : authCount p (fun _ => true) = (p.mbx.sessions.filter (fun x => x.id != 0)).length := by
  simp [authCount]

theorem hEncProve_served {x : Session} (hl : r.payload.length = 70 + field r.payload 4 2) (hn : field r.payload 4 2 ≤ 900) (hs : r.session = 0) (he : encStatus p = none)
    (hx : findSession p r.transport (field r.payload 0 4) = some x) (hid : x.id ≠ 0) (hp : x.proven = false) :
    hEncProve r p = match proveOk p x (slice r.payload 6 (field r.payload 4 2)) (slice r.payload (6 + field r.payload 4 2) 64) with
      | none => .done stVerify [] (closeSession r.transport (field r.payload 0 4) p)
      | some a => okay [b8 (min x.sought (anchorCeiling a))] (modSession r.transport (field r.payload 0 4)
          (fun y => { y with proven := true, priv := min x.sought (anchorCeiling a), anchor := some a, idleAt := p.now + sec (tw p).transports.idleS }) p) := by
  simp only [hEncProve, hx]
  rw [if_neg (by simpa using hl), if_neg (by simpa using hn), if_neg (by simp [hs]), withEnc_available he, if_neg (by simpa using hid), if_neg (by simp [hp])] <;> rfl

theorem proveOk_good {x : Session} {cert sig : Bytes} {c : Config.Cert} {a : Nat} (hc : Config.parseCert cert = some c) (ha : anchorOf p c = some a) (h256 : c.p256 = true)
    (hds : c.digitalSignature = true) (hv : certValid p c = true) (hsig : Config.ecdsaOk c.key (proveTranscript x) sig = true) : proveOk p x cert sig = some a := by
  simp [proveOk, hc, ha, h256, hds, hv, hsig]

theorem proveOk_bad {x : Session} {cert sig : Bytes}
    (h : ∀ c, Config.parseCert cert = some c → anchorOf p c = none ∨ c.p256 = false ∨ c.digitalSignature = false ∨ certValid p c = false ∨ Config.ecdsaOk c.key (proveTranscript x) sig = false) :
    proveOk p x cert sig = none := by
  unfold proveOk
  cases hc : Config.parseCert cert with
  | none => rfl
  | some c =>
    rcases h c hc with h | h | h | h | h
    · simp [h]
    all_goals cases anchorOf p c <;> simp [h]

theorem hEncAttest_ok (ha : p.enc.avail = true) (hi : p.enc.certFault = false ∧ dikLost p = false) :
    hEncAttest r p = okay (statement p r.payload ++ padTo 64 0 (Config.dikSign (statement p r.payload))) p := by
  simp only [hEncAttest]
  rw [withBasic_available ha, withIdentity_good hi]

theorem getSlot_modSlot_g (n : Nat) {f : KeySlot → KeySlot} (hf : ∀ k, (f k).g = k.g) : (getSlot (modSlot n f p) n).g = (getSlot p n).g := by
  by_cases h : n < p.enc.slots.length
  · exact (congrArg KeySlot.g (getD_modAt_same (f := f) h {})).trans (hf _)
  · have hle := Nat.not_lt.1 h
    exact congrArg KeySlot.g ((getD_modAt_out (f := f) hle {}).trans (by simp [getSlot, hle] : ({} : KeySlot) = getSlot p n))

theorem getSlot_countUpdate_g (n : Nat) : (getSlot (countUpdate n p) n).g = (getSlot p n).g :=
  getSlot_modSlot_g n (p := { p with enc := { p.enc with dayUpdates := updatesToday p + 1, dayNo := keyDay p } }) (fun _ => rfl)

/-- A served ENC.KEYUPD up to its own checks, once its session is known. -/
theorem hEncKeyupd_served {x : Session} (he : encStatus p = none) (hx : findSession p r.transport r.session = some x) (h31 : byte r.payload 0 ≤ 31) :
    hEncKeyupd r p = if x.anchor != some 3 || byte r.payload 0 == 0 || slotReserved (byte r.payload 0) then deny stDenied p
      else if !wrapOk (byte r.payload 0) r.payload then deny stRange p
      else inMode 0x3206 r p (
        if p.enc.updating.any (fun u => u.slot == byte r.payload 0) then deny stBusy p
        else if decide (64 ≤ updatesToday p) || decide (4096 ≤ (getSlot p (byte r.payload 0)).updates) || (getSlot p (byte r.payload 0)).g == 0xFFFFFFFF then deny stEndurance p
        else match Config.gcmOpen x.kW (slice r.payload 5 12) ([b8 (byte r.payload 0)] ++ be 4 x.id ++ be 4 (getSlot p (byte r.payload 0)).g) (slice r.payload 17 (algLen (byte r.payload 1)))
            (r.payload.drop (17 + algLen (byte r.payload 1))) with
          | none => .done stVerify [] (countUpdate (byte r.payload 0) p)
          | some key => keyUpdate (byte r.payload 0) { alg := byte r.payload 1, usage := byte r.payload 2, key := key } r (countUpdate (byte r.payload 0) p)) := by
  simp only [hEncKeyupd, hx]
  rw [withEnc_available he, if_neg (Nat.not_lt.2 h31)] <;> rfl

theorem keyUpdate_done {n : Nat} {c : Cell} (h : p.env.keyRun = .done) : keyUpdate n c r p = okay (be 4 ((getSlot p n).g + 1)) (modSlot n (commitKey c) p) := by
  simp only [keyUpdate, h]

theorem keyUpdate_mismatch {n : Nat} {c : Cell} (h : p.env.keyRun = .mismatch) : keyUpdate n c r p = deny stInternal p := by
  simp only [keyUpdate, h]

theorem keyUpdate_runs {n : Nat} {c : Cell} (h : p.env.keyRun = .runs) : keyUpdate n c r p =
    .later { p with enc := { p.enc with updating := p.enc.updating ++ [{ slot := n, cell := c, g := (getSlot p n).g, req := r, startAt := p.now }] } } := by
  simp only [keyUpdate, h]

theorem hEncKeyinfo_ok (h31 : byte r.payload 0 ≤ 31) (ha : p.enc.avail = true) :
    hEncKeyinfo r p = okay (be 4 (getSlot p (byte r.payload 0)).g ++ [b8 (slotAlg (getSlot p (byte r.payload 0)))]) p := by
  simp only [hEncKeyinfo]
  rw [if_neg (Nat.not_lt.2 h31), withBasic_available ha]

theorem hEncCounter_ok (h7 : byte r.payload 0 ≤ 7) (ha : p.enc.avail = true) :
    hEncCounter r p = okay (be 4 (if byte r.payload 0 = 3 then 0 else p.enc.counters.getD (byte r.payload 0) 0)) p := by
  simp only [hEncCounter]
  rw [if_neg (Nat.not_lt.2 h7), withBasic_available ha]
  simp

theorem hTmpLog_ok (hn : field r.payload 0 2 ≤ 1023) (h1 : 1 ≤ byte r.payload 2) (h60 : byte r.payload 2 ≤ 60) (hsum : field r.payload 0 2 + byte r.payload 2 ≤ 1024) (he : encStatus p = none) :
    hTmpLog r p = okay ((List.range' (field r.payload 0 2) (byte r.payload 2)).flatMap (logEntry p)) p := by
  simp only [hTmpLog]
  rw [if_neg (by simp; omega), withEnc_available he]

theorem hTmpExport_built (he : encStatus p = none) (hi : p.enc.certFault = false ∧ dikLost p = false) (ho : field r.payload 0 4 = 0) :
    hTmpExport r p = okay (be 4 (buildExport p).length ++ (buildExport p).take 960) { p with enc := { p.enc with export_ := some (r.transport, r.session, buildExport p) } } := by
  simp only [hTmpExport]
  rw [withEnc_available he, withIdentity_good hi, if_pos (by simpa using ho)]

theorem hTmpExport_next (he : encStatus p = none) (hi : p.enc.certFault = false ∧ dikLost p = false) (ho : field r.payload 0 4 ≠ 0) {e : Bytes}
    (hx : p.enc.export_ = some (r.transport, r.session, e)) (hlt : field r.payload 0 4 < e.length) :
    hTmpExport r p = okay (be 4 e.length ++ slice e (field r.payload 0 4) 960) p := by
  simp only [hTmpExport, hx]
  rw [withEnc_available he, withIdentity_good hi, if_neg (by simpa using ho), if_neg (by simp), if_neg (Nat.not_le.2 hlt)]

theorem hTmpExport_other (he : encStatus p = none) (hi : p.enc.certFault = false ∧ dikLost p = false) (ho : field r.payload 0 4 ≠ 0)
    (hx : ∀ e, p.enc.export_ ≠ some (r.transport, r.session, e)) : hTmpExport r p = deny stState p := by
  simp only [hTmpExport]
  rw [withEnc_available he, withIdentity_good hi, if_neg (by simpa using ho)]
  rcases h : p.enc.export_ with _ | ⟨t, i, e⟩
  · rfl
  · refine if_pos ?_
    by_contra hn
    obtain ⟨ht, hi⟩ : t = r.transport ∧ i = r.session := by simpa using hn
    exact hx e (by rw [h, ht, hi])

theorem hTmpTest_ok (h1 : 1 ≤ byte r.payload 0) (h5 : byte r.payload 0 ≤ 5) (hn1 : 1 ≤ byte r.payload 1) (h15 : byte r.payload 1 ≤ 15) (h : Allowed 0x3304 r p) (he : encStatus p = none)
    {found : Nat} (hf : p.env.found = found) :
    hTmpTest r p = let hits := if (getMon p (byte r.payload 0)).armed && monitorRuns p (byte r.payload 0) && (tamperRule p (byte r.payload 0)).response != 0 then min (byte r.payload 1) found else 0
      okay [b8 hits] (if hits < byte r.payload 1 then issue 0x33 0x04 0 (addPending (byte r.payload 0) 3 hits p) else addPending (byte r.payload 0) 3 hits p) := by
  subst hf
  simp only [hTmpTest]
  rw [if_neg (by simp; omega), inMode_allowed h, withEnc_available he]

end Handlers

@[simp] theorem serving_ao_sticky (code : Nat) (r : Req) (s : State) : (serving code r s).ao.sticky = s.ao.sticky := by
  obtain ⟨_, _, _, _, _, _, _, _, e⟩ := Laws.serving_frame code r s
  rw [e]

/-- Settles O25: each command by what its handler answers over the state it is served in. -/
theorem enclaveAndTamperCommands : Obligations.EnclaveAndTamperCommands := by
  intro s r P b idOk
  refine ⟨fun h => ?cert, fun h => ?openS, fun x h => ?prove, fun h => ?close, fun h => ?attest, ?upd, fun h => ?info, fun h => ?counter,
    fun h => answers_of rfl rfl h ?flags, fun h => ?log, fun h => ?exp, ?test⟩
  case cert =>
    intro p o ha hi ho
    exact answers_of rfl rfl h (show hEncCert r p = _ from hEncCert_ok ha hi ho)
  case openS =>
    intro p qH nH h1 h4 hq hs he hi
    obtain ⟨id, d, nD, hnD, ho⟩ := hEncOpen_served h1 h4 hq hs he hi
    rw [authCount_transport, authCount_all] at ho
    refine ⟨fun hbusy => ?_, fun h2 h6 => ⟨id, d, nD, hnD, ?_⟩⟩
    · exact answers_of rfl rfl h (show hEncOpen r p = _ from ho.trans (if_pos (by simpa using hbusy)))
    · exact answers_of rfl rfl h (show hEncOpen r p = _ from ho.trans (if_neg (by simpa [Nat.not_le] using (⟨h2, h6⟩ : _ < 2 ∧ _ < 6))))
  case prove =>
    intro p id n t2 hl hn hs he hx hid hp
    have hserved := hEncProve_served hl hn hs he hx hid hp
    refine ⟨?_, fun hbad => ?_⟩
    · intro c a hc ha h256 hds hv hsig g
      rw [proveOk_good hc ha h256 hds hv hsig] at hserved
      simp only [anchorCeiling, sec, beq_iff_eq, Nat.mul_comm _ 1000000] at hserved
      exact answers_of rfl rfl h (show hEncProve r p = _ from hserved)
    · rw [proveOk_bad hbad] at hserved
      exact answers_of rfl rfl h (show hEncProve r p = _ from hserved)
  case close =>
    refine ⟨fun hz => ?_, fun hz => ?_⟩
    · exact answers_of rfl rfl h (show hEncClose r (P 0x3204) = _ from if_pos (by simpa using hz))
    · exact answersThen_of rfl rfl h (show hEncClose r (P 0x3204) = _ from if_neg (by simpa using hz))
  case attest =>
    intro p ha hi
    exact answers_of rfl rfl h (show hEncAttest r p = _ from hEncAttest_ok ha hi)
  case upd =>
    intro x run s' h p Ans k n q he hx h31
    have hserved := hEncKeyupd_served he hx h31
    refine ⟨fun hden => ?_, fun hanchor hz hres hwrap hallowed => ?_⟩
    · exact answers_of rfl rfl h (show hEncKeyupd r p = _ from hserved.trans (if_pos (by simpa [or_assoc] using hden)))
    rw [if_neg (by simpa [hanchor] using (⟨hz, hres⟩ : byte r.payload 0 ≠ 0 ∧ slotReserved (byte r.payload 0) = false)), if_neg (by rw [hwrap]; decide), inMode_allowed hallowed] at hserved
    refine ⟨fun hbusy => ?_, fun hfree hend => ?_, fun hfree hday hupd hg => ?_⟩
    · exact answers_of rfl rfl h (show hEncKeyupd r p = _ from hserved.trans (if_pos (by simpa using hbusy)))
    all_goals rw [if_neg (by simpa using hfree)] at hserved
    · exact answers_of rfl rfl h (show hEncKeyupd r p = _ from hserved.trans (if_pos (by simpa [or_assoc] using hend)))
    rw [if_neg (by simpa [Nat.not_le] using (⟨⟨hday, hupd⟩, hg⟩ : (updatesToday p < 64 ∧ k.updates < 4096) ∧ k.g ≠ 0xFFFFFFFF))] at hserved
    intro opened
    have hrun : (countUpdate (b 0) p).env.keyRun = run := by
      change p.env.keyRun = run
      rw [Laws.serving_env]
    refine ⟨fun hnone => ?_, fun key hkey => ?_⟩
    · rw [show Config.gcmOpen _ _ _ _ _ = none from hnone] at hserved
      exact answers_of rfl rfl h (show hEncKeyupd r p = _ from hserved)
    intro c
    rw [show Config.gcmOpen _ _ _ _ _ = some key from hkey] at hserved
    refine ⟨fun hr => ?_, fun hr => ?_, fun hr => ?_⟩
    · refine answers_of rfl rfl h (show hEncKeyupd r p = _ from hserved.trans ?_)
      exact (keyUpdate_done (hrun.trans hr)).trans (by rw [getSlot_countUpdate_g]; rfl)
    · exact answers_of rfl rfl h (show hEncKeyupd r p = _ from hserved.trans (keyUpdate_mismatch (hrun.trans hr)))
    · refine pends_of rfl rfl h (show hEncKeyupd r p = _ from hserved.trans ?_)
      exact (keyUpdate_runs (hrun.trans hr)).trans (by rw [getSlot_countUpdate_g]; rfl)
  case info =>
    intro p h31 ha
    exact answers_of rfl rfl h (show hEncKeyinfo r p = _ from hEncKeyinfo_ok h31 ha)
  case counter =>
    intro p h7 ha
    exact answers_of rfl rfl h (show hEncCounter r p = _ from hEncCounter_ok h7 ha)
  case flags => exact (congrArg (fun n => okay (be 2 n) (P 0x3301)) (serving_ao_sticky 0x3301 r s) : hTmpFlags r (P 0x3301) = _)
  case log =>
    intro p n hn h1 h60 hsum he
    exact answers_of rfl rfl h (show hTmpLog r p = _ from hTmpLog_ok hn h1 h60 hsum he)
  case exp =>
    intro p o he hi
    refine ⟨fun ho => ?_, fun e ho hx hlt => ?_, fun ho hx => ?_⟩
    · exact answers_of rfl rfl h (show hTmpExport r p = _ from hTmpExport_built he hi ho)
    · exact answers_of rfl rfl h (show hTmpExport r p = _ from hTmpExport_next he hi ho hx hlt)
    · exact answers_of rfl rfl h (show hTmpExport r p = _ from hTmpExport_other he hi ho hx)
  case test =>
    intro found s' h p h1 h5 hn1 h15 hallowed he hits
    have hf : p.env.found = found := by
      change (serving 0x3304 r s').env.found = found
      rw [Laws.serving_env]
    exact answers_of rfl rfl h (show hTmpTest r p = _ from hTmpTest_ok h1 h5 hn1 h15 hallowed he hf)

end Sys2Proof.Proofs
end

section
/-! The FLT, TDX, CFG and LIFE commands (R95, R358, R364, R388, R455, R474, R477, R479, R490, R491). -/

namespace Sys2Proof.Proofs
open Sys2Proof Sys2Proof.Machine Sys2Proof.Safety

section Handlers
variable {r : Req} {p : State}

theorem hFltRead_ok (h1 : 1 ≤ byte r.payload 0) (h80 : byte r.payload 0 ≤ 80) :
    hFltRead r p = okay ((p.fab.history.take (byte r.payload 0)).flatMap (fun e => rillBytes e.msg ++ be 4 e.stamp) ++ be 2 p.fab.dropped) p := by
  simp only [hFltRead]
  rw [if_neg (by simp; omega)]

theorem hFltCounters_ok (h1 : 1 ≤ byte r.payload 1) (h200 : byte r.payload 1 ≤ 200) (hsum : byte r.payload 0 + byte r.payload 1 ≤ 256) :
    hFltCounters r p = okay ((List.range' (byte r.payload 0) (byte r.payload 1)).map (fun i => b8 (lookupN i p.ao.recovery))) p := by
  simp only [hFltCounters]
  rw [if_neg (by simp; omega)]

theorem hFltClear_all (h : Allowed 0x4003 r p) (hb : byte r.payload 0 = 0xFF) :
    hFltClear r p = okay [] { p with ao := { p.ao with recovery := [], severeStarts := [] }, fab := { p.fab with dropped := 0 } } := by
  simp only [hFltClear]
  rw [inMode_allowed h, if_pos (by simpa using hb)]

theorem hFltClear_one (h : Allowed 0x4003 r p) (hb : byte r.payload 0 ≠ 0xFF) :
    hFltClear r p = okay [] { p with ao := { p.ao with recovery := p.ao.recovery.filter (fun e => e.1 != byte r.payload 0) } } := by
  simp only [hFltClear]
  rw [inMode_allowed h, if_neg (by simpa using hb)]

theorem hCfgInfo_active {n q l c : Nat} (hn : p.nvm.active = some n) (hs : (copyOf p n).stamp = some (q, l, c)) :
    hCfgInfo r p = okay ([b8 n] ++ be 4 q ++ be 4 c ++ [b8 (bit (twillSigned (copyOf p n).image))] ++ ([b8 (min 255 (commitsToday p))] ++ be 2 (min 0xFFFF (lifeCtr p 0x50 13)))) p := by
  simp only [hCfgInfo, activeCopy, hn, Option.map_some, copySeq, hs, Option.getD_some]

theorem hCfgInfo_none (hn : p.nvm.active = none) :
    hCfgInfo r p = okay ([0xFF] ++ (drawBytes 9 p).1 ++ ([b8 (min 255 (commitsToday p))] ++ be 2 (min 0xFFFF (lifeCtr p 0x50 13)))) { p with freeCtr := p.freeCtr + 9 } := by
  simp only [hCfgInfo, hn, (drawBytes_frame 9 p).2]

theorem myStaging_eq_some {g : Staging} : myStaging p r = some g ↔ p.nvm.staging = some g ∧ g.owner = requester p r := by
  unfold myStaging
  cases p.nvm.staging with
  | none => simp
  | some x =>
    by_cases h : x.owner = requester p r <;> simp [h] <;> rintro rfl <;> simp [h]

theorem hCfgBegin_ok (h64 : 64 ≤ field r.payload 0 4) (hmax : field r.payload 0 4 ≤ 61440) (h : Allowed 0x5002 r p) :
    hCfgBegin r p = if p.nvm.staging.isSome && (myStaging p r).isNone then deny stBusy p
      else okay [] { p with nvm := { p.nvm with staging := some { owner := requester p r, t := r.transport, sess := r.session, length := field r.payload 0 4, idleAt := p.now + 30000000 } } } := by
  simp only [hCfgBegin]
  rw [if_neg (by simp; omega), inMode_allowed h]
  rfl

theorem hCfgData_none (h : Allowed 0x5003 r p) (hg : myStaging p r = none) : hCfgData r p = deny stState p := by
  simp only [hCfgData, hg]
  rw [inMode_allowed h]

theorem hCfgData_some {g : Staging} (h : Allowed 0x5003 r p) (hg : myStaging p r = some g) (hfit : field r.payload 0 4 + (r.payload.drop 4).length ≤ g.length) :
    hCfgData r p = okay [] { p with nvm := { p.nvm with staging := some { g with data := (field r.payload 0 4, r.payload.drop 4) :: g.data, idleAt := p.now + 30000000 } } } := by
  simp only [hCfgData, hg]
  rw [inMode_allowed h, if_neg (Nat.not_lt.2 hfit)]
  rfl

theorem hCfgCommit_none (h : Allowed 0x5004 r p) (hg : myStaging p r = none) : hCfgCommit r p = deny stState p := by
  simp only [hCfgCommit, hg]
  rw [inMode_allowed h]

theorem hCfgCommit_partial {g : Staging} (h : Allowed 0x5004 r p) (hg : myStaging p r = some g) (hs : stagedBytes g = none) : hCfgCommit r p = deny stState p := by
  simp only [hCfgCommit, hg, hs]
  rw [inMode_allowed h]

/-- CFG.COMMIT of a staged image whose every byte stands: its checks in their order. -/
theorem hCfgCommit_full {g : Staging} {img : Bytes} (h : Allowed 0x5004 r p) (hg : myStaging p r = some g) (hs : stagedBytes g = some img) :
    hCfgCommit r p = if crc32 img ≠ field r.payload 0 4 then deny stVerify p
      else if signatureNeeded p img = true ∧ p.enc.segregated = true then deny stCompat p
      else if signatureNeeded p img = true ∧ ¬(p.enc.avail = true ∧ signatureGood p img = true) then deny stVerify p
      else if commitOk p = false then deny stEndurance p
      else commitStart img (field r.payload 0 4) r p := by
  simp only [hCfgCommit, hg, hs]
  rw [inMode_allowed h]
  simp only [bne_iff_ne, Bool.and_eq_true, Bool.not_eq_true', Bool.and_eq_false_iff, not_and_or, Bool.not_eq_true]

theorem commitStart_runs {img : Bytes} {crc : Nat} (h : p.env.commitRuns = true) :
    commitStart img crc r p = .later { flushLife false (countCommit p) with
      nvm := { (flushLife false (countCommit p)).nvm with commit := some { target := commitTarget p, img := img, crc := crc, seq := commitSeq p, req := r, startAt := p.now } } } := by
  simp only [commitStart, h, if_true]

theorem commitStart_done {img : Bytes} {crc : Nat} (h : p.env.commitRuns = false) : commitStart img crc r p = okay (be 4 (commitSeq p)) (commitImage img crc p) := by
  simp [commitStart, h]

theorem hCfgRead_ok {c : TwillCopy} (h1 : 1 ≤ field r.payload 4 2) (h992 : field r.payload 4 2 ≤ 992) (hc : activeCopy p = some c)
    (hfit : field r.payload 0 4 + field r.payload 4 2 ≤ c.image.length) : hCfgRead r p = okay (slice c.image (field r.payload 0 4) (field r.payload 4 2)) p := by
  simp only [hCfgRead, hc]
  rw [if_neg (by simp; omega), if_neg (Nat.not_lt.2 hfit)]

theorem hCfgAbort_none (hg : myStaging p r = none) : hCfgAbort r p = deny stState p := by
  simp only [hCfgAbort, hg]

theorem hCfgAbort_some (hg : (myStaging p r).isSome = true) : hCfgAbort r p = okay [] { p with nvm := { p.nvm with staging := none } } := by
  obtain ⟨g, hg⟩ := Option.isSome_iff_exists.1 hg
  simp only [hCfgAbort, hg, setStaging]

theorem counterBytes_eq {cls : Nat} : counterBytes p cls = fun j => be 8 (if cls = 0x31 then txnsUsed p j else lifeCtr p cls j) := by
  funext j
  simp [counterBytes]

theorem hLifeCounter_ok {lo hi : Nat} (hr : classRange (byte r.payload 0) = some (lo, hi)) (h1 : 1 ≤ byte r.payload 3) (h120 : byte r.payload 3 ≤ 120) (hlo : lo ≤ field r.payload 1 2)
    (hhi : field r.payload 1 2 + byte r.payload 3 ≤ hi + 1) (he : byte r.payload 0 = 0x31 → encStatus p = none) :
    hLifeCounter r p = okay ((List.range' (field r.payload 1 2) (byte r.payload 3)).flatMap (fun j => be 8 (if byte r.payload 0 = 0x31 then txnsUsed p j else lifeCtr p (byte r.payload 0) j))) p := by
  have hav : (if byte r.payload 0 == 0x31 then encStatus p else none) = none := by
    by_cases h31 : byte r.payload 0 = 0x31
    · rw [if_pos (by simpa using h31), he h31]
    · exact if_neg (by simpa using h31)
  simp only [hLifeCounter, hr, hav]
  rw [if_neg (by simp; omega), counterBytes_eq]

/-- LIFE.ACK of a raised notice: done where its pages have writes left (R490). -/
theorem hLifeAck_ok (hn : p.nvm.notices.any (fun n => n.code == field r.payload 0 2 && n.object == field r.payload 2 2) = true) (h : Allowed 0x5104 r p) :
    hLifeAck r p = let page := 1 + min 89 (p.nvm.notices.findIdx (fun n => n.code == field r.payload 0 2 && n.object == field r.payload 2 2)) / 30
      if snapOk p page = false ∨ ((ackCounter (field r.payload 0 2) (field r.payload 2 2)).isSome = true ∧ snapOk p 8 = false) then deny stEndurance p
      else okay [] (ackNotice (field r.payload 0 2) (field r.payload 2 2) page p) := by
  simp only [hLifeAck]
  rw [if_neg (by rw [hn]; decide), inMode_allowed h]
  simp only [Bool.or_eq_true, Bool.not_eq_true', Bool.and_eq_true]

end Handlers

/-- Settles O26: each command by what its handler answers over the state it is served in. -/
theorem faultConfigurationAndLifeCommands : Obligations.FaultConfigurationAndLifeCommands := by
  intro s r P b
  refine ⟨fun h => ?read, fun h => ?counters, fun h => ?clear, fun h => ?tdx, fun h => ?info, fun h => ?begin, fun h => ?data, ?commit, fun c h => ?cread, fun h => ?abort,
    fun h => ?clock, fun lo hi h => ?ctr, fun h => ?notices, fun h => ?ack⟩
  case read =>
    intro p h1 h80
    exact answers_of rfl rfl h (show hFltRead r p = _ from hFltRead_ok h1 h80)
  case counters =>
    intro p h1 h200 hsum
    refine answers_of rfl rfl h (show hFltCounters r p = _ from (hFltCounters_ok h1 h200 hsum).trans ?_)
    rw [show p.ao.recovery = s.ao.recovery from Laws.serving_ao_recovery _ _ _]
    rfl
  case clear =>
    intro p hallowed
    refine ⟨fun hb => ?_, fun hb => ?_⟩
    · exact answers_of rfl rfl h (show hFltClear r p = _ from hFltClear_all hallowed hb)
    · exact answers_of rfl rfl h (show hFltClear r p = _ from hFltClear_one hallowed hb)
  case tdx =>
    intro p
    refine answers_of rfl rfl h (show hTdxStatus r p = _ from ?_)
    rw [hTdxStatus, show p.ao.tdxReplays = s.ao.tdxReplays from Laws.serving_ao_tdxReplays _ _ _, show p.ao.tdxSecond = s.ao.tdxSecond from Laws.serving_ao_tdxSecond _ _ _]
    rfl
  case info =>
    intro p tail
    refine ⟨fun n q l c hn hs => ?_, fun hn => ⟨_, (drawBytes_frame 9 p).1, ?_⟩⟩
    · exact answers_of rfl rfl h (show hCfgInfo r p = _ from hCfgInfo_active hn hs)
    · exact answers_of rfl rfl h (show hCfgInfo r p = _ from hCfgInfo_none hn)
  case begin =>
    intro p n h64 hmax hallowed
    have hb := hCfgBegin_ok h64 hmax hallowed
    refine ⟨fun g hg hown => ?_, fun hmine => ?_⟩
    · refine answers_of rfl rfl h (show hCfgBegin r p = _ from hb.trans (if_pos ?_))
      have hnone : myStaging p r = none := Option.eq_none_iff_forall_ne_some.2 fun x hx => by
        obtain ⟨hx, ho⟩ := myStaging_eq_some.1 hx
        exact hown (Option.some.inj (hg.symm.trans hx) ▸ ho)
      simp [hg, hnone]
    · refine answers_of rfl rfl h (show hCfgBegin r p = _ from hb.trans (if_neg ?_))
      cases hg : p.nvm.staging with
      | none => simp
      | some g => simp [myStaging_eq_some.2 ⟨hg, hmine g hg⟩]
  case data =>
    intro p o d hallowed
    refine ⟨fun hg => ?_, fun g hg hfit => ?_⟩
    · exact answers_of rfl rfl h (show hCfgData r p = _ from hCfgData_none hallowed hg)
    · exact answers_of rfl rfl h (show hCfgData r p = _ from hCfgData_some hallowed hg hfit)
  case commit =>
    intro runs s' h p crc Ans hallowed
    have hruns : p.env.commitRuns = runs := by
      change (serving 0x5004 r s').env.commitRuns = runs
      rw [Laws.serving_env]
    refine ⟨fun hg => ?_, fun g hg hs => ?_, fun g img hg hs => ?_⟩
    · exact answers_of rfl rfl h (show hCfgCommit r p = _ from hCfgCommit_none hallowed hg)
    · exact answers_of rfl rfl h (show hCfgCommit r p = _ from hCfgCommit_partial hallowed hg hs)
    have hc := hCfgCommit_full hallowed hg hs
    refine ⟨fun hcrc => ?_, fun hcrc hneed hseg => ?_, fun hcrc hneed hseg hbad => ?_, fun hcrc hsig => ?_⟩
    · exact answers_of rfl rfl h (show hCfgCommit r p = _ from hc.trans (if_pos hcrc))
    all_goals rw [if_neg (not_not.2 hcrc)] at hc
    · exact answers_of rfl rfl h (show hCfgCommit r p = _ from hc.trans (if_pos ⟨hneed, hseg⟩))
    · rw [if_neg (by simp [hseg])] at hc
      exact answers_of rfl rfl h (show hCfgCommit r p = _ from hc.trans (if_pos ⟨hneed, fun hg => by simp [hg] at hbad⟩))
    · rw [if_neg (fun hn => absurd ((hsig hn.1).1.symm.trans hn.2) (by decide)), if_neg (fun hn => hn.2 (hsig hn.1).2)] at hc
      refine ⟨fun hok => ?_, fun hok hr => ?_, fun hok hr => ?_⟩
      · exact answers_of rfl rfl h (show hCfgCommit r p = _ from hc.trans (if_pos hok))
      all_goals rw [if_neg (fun hn => absurd (hok.symm.trans hn) (by decide))] at hc
      · exact answers_of rfl rfl h (show hCfgCommit r p = _ from hc.trans (commitStart_done (hruns.trans hr)))
      · intro q
        refine pends_of rfl rfl h (show hCfgCommit r p = _ from hc.trans ?_)
        rw [commitStart_runs (hruns.trans hr)]
  case cread =>
    intro p o n h1 h992 hc hfit
    exact answers_of rfl rfl h (show hCfgRead r p = _ from hCfgRead_ok h1 h992 hc hfit)
  case abort =>
    intro p
    refine ⟨fun hg => ?_, fun hg => ?_⟩
    · exact answers_of rfl rfl h (show hCfgAbort r p = _ from hCfgAbort_none hg)
    · exact answers_of rfl rfl h (show hCfgAbort r p = _ from hCfgAbort_some hg)
  case clock =>
    refine answers_of rfl rfl h (show hLifeClock r (P 0x5101) = _ from ?_)
    rw [hLifeClock, utcStamp_serving, Laws.serving_ao_life, Laws.serving_ao_rtcSet]
    rfl
  case ctr =>
    intro p i n hr h1 h120 hlo hhi he
    exact answers_of rfl rfl h (show hLifeCounter r p = _ from hLifeCounter_ok hr h1 h120 hlo hhi he)
  case notices =>
    refine answers_of rfl rfl h (show hLifeNotices r (P 0x5103) = _ from ?_)
    rw [hLifeNotices, Laws.serving_nvm]
    rfl
  case ack =>
    intro p code obj page hn hallowed
    have ha := hLifeAck_ok hn hallowed
    refine ⟨fun hpage hctr => ?_, fun hend => ?_⟩
    · refine answers_of rfl rfl h (show hLifeAck r p = _ from ha.trans (if_neg ?_))
      rintro (hp | ⟨hsome, hp⟩)
      · exact absurd (hpage.symm.trans hp) (by decide)
      · exact absurd ((hctr hsome).symm.trans hp) (by decide)
    · exact answers_of rfl rfl h (show hLifeAck r p = _ from ha.trans (if_pos hend))

end Sys2Proof.Proofs
end

section
/-! The UPD, EXT and DIAG commands (R96, R97, R102, R501 to R503, R509, R513, R545, R548). -/

namespace Sys2Proof.Proofs
open Sys2Proof Sys2Proof.Machine Sys2Proof.Safety

section Handlers
variable {r : Req} {p : State}

theorem readSfdp_serving (code : Nat) (r : Req) (s : State) : readSfdp (serving code r s) = { serving code r s with boot := { s.boot with sfdp := true } } := by
  rw [readSfdp, Laws.serving_boot]

theorem hUpdWrite_ok (hfit : field r.payload 0 4 + (r.payload.drop 4).length ≤ min 16777216 p.otp.extFlashSize) (h : Allowed 0x6002 r (readSfdp p)) :
    hUpdWrite r p = if p.otp.extFlashOk = false then deny stState (readSfdp p) else okay [] (flashWrite (field r.payload 0 4) (r.payload.drop 4) (readSfdp p)) := by
  simp only [hUpdWrite]
  rw [if_neg (Nat.not_lt.2 hfit), inMode_allowed h]
  simp

theorem flashWrite_eq (a : Nat) (d : Bytes) : flashWrite a d p =
    { p with boot := { p.boot with flash := memStore 0xFF (if a % 4096 = 0 then memClear p.boot.flash a 4096 else p.boot.flash) a
                                              (norProgram (memLoad 0xFF (if a % 4096 = 0 then memClear p.boot.flash a 4096 else p.boot.flash) a d.length) d) } } := by
  simp [flashWrite]

/-- UPD.STAGE of an image whose place and length fit: its checks in their order. -/
theorem hUpdStage_fits (hk : byte r.payload 0 ≤ 2) (ha : field r.payload 1 4 % 4096 = 0) (hend : field r.payload 1 4 + field r.payload 5 4 ≤ min 16777216 p.otp.extFlashSize)
    (h512 : 512 ≤ field r.payload 5 4) (hreg : field r.payload 5 4 ≤ regionSize (byte r.payload 0)) (h : Allowed 0x6003 r (readSfdp p)) (hok : p.otp.extFlashOk = true)
    (hlen : field r.payload 5 4 = 512 + (readHeader (flashRead (readSfdp p) (field r.payload 1 4) 512)).length) :
    hUpdStage r p =
      if contentOk p.otp (byte r.payload 0) (flashRead (readSfdp p) (field r.payload 1 4) 512) (flashRead (readSfdp p) (field r.payload 1 4 + 512) (field r.payload 5 4 - 512)) = false then
        deny stVerify (readSfdp p)
      else if revsOk (flashRead (readSfdp p) (field r.payload 1 4) 512) = false then deny stCompat (readSfdp p)
      else if (readHeader (flashRead (readSfdp p) (field r.payload 1 4) 512)).secVer < floorOf p (byte r.payload 0) then deny stDenied (readSfdp p)
      else if stageCompat (readSfdp p) (byte r.payload 0) (readHeader (flashRead (readSfdp p) (field r.payload 1 4) 512)) = false then deny stCompat (readSfdp p)
      else if bootWriteOk (readSfdp p) = false then deny stEndurance (readSfdp p)
      else okay [] (bootWrite (fun x => { x with staged := setAt (byte r.payload 0) true x.staged, stage := setAt (byte r.payload 0) (field r.payload 1 4, field r.payload 5 4) x.stage }) (readSfdp p)) := by
  simp only [hUpdStage]
  rw [if_neg (by simp [ha]; omega), inMode_allowed h, if_neg (by simp [hok]), if_neg (by simpa using hlen)]
  simp only [Bool.not_eq_true']

theorem hUpdActivate_ok (h : Allowed 0x6004 r (readSfdp p)) :
    hUpdActivate r p = if p.boot.sel.staged.any (fun x => x) = false then deny stState (readSfdp p)
      else if p.boot.sel.pending = true then okay [] (resetAfterReply r .cmd (readSfdp p))
      else if bootWriteOk (readSfdp p) = false then deny stEndurance (readSfdp p)
      else okay [] (resetAfterReply r .cmd (bootWrite (fun b => { b with pending := true }) (readSfdp p))) := by
  simp only [hUpdActivate, Bool.not_eq_true']
  exact inMode_allowed h _

theorem hUpdConfirm_ok (hk : byte r.payload 0 ≤ 2) (h : Allowed 0x6005 r (readSfdp p)) (hw : confirmed p.boot.sel p.boot.sel.active = true ∨ bootWriteOk (readSfdp p) = true) :
    hUpdConfirm r p = match regionHeader (byte r.payload 0) (regionOf (activeBank (readSfdp p)) (byte r.payload 0)) with
      | none => okay (be 4 (floorOf (readSfdp p) (byte r.payload 0))) (confirmActive (readSfdp p))
      | some hd => if hd.secVer = 0xFFFFFFFF ∧ floorOf (readSfdp p) (byte r.payload 0) = 0xFFFFFFFF then deny stRange (readSfdp p)
        else if p.env.raiseRuns = true then .later { confirmActive (readSfdp p) with
          enc := { (confirmActive (readSfdp p)).enc with raising := (confirmActive (readSfdp p)).enc.raising ++ [{ kind := byte r.payload 0, value := hd.secVer, req := r, startAt := (confirmActive (readSfdp p)).now }] } }
        else okay (be 4 (floorOf (raiseFloor (byte r.payload 0) (confirmActive (readSfdp p))) (byte r.payload 0))) (raiseFloor (byte r.payload 0) (confirmActive (readSfdp p))) := by
  have hneg : ¬((!confirmed (readSfdp p).boot.sel (readSfdp p).boot.sel.active && !bootWriteOk (readSfdp p)) = true) := by
    rcases hw with hw | hw
    · simp [show confirmed (readSfdp p).boot.sel (readSfdp p).boot.sel.active = true from hw]
    · simp [hw]
  simp only [hUpdConfirm, Bool.and_eq_true, beq_iff_eq]
  rw [if_neg (Nat.not_lt.2 hk), inMode_allowed h, if_neg (by simpa using hneg)] <;> rfl

theorem hExtInfo_some {hd : Header} (h : regionHeader 2 (activeBank p).ext = some hd) : hExtInfo r p = okay (b8 (extCode p.ext.st) :: be 2 (apiLevel p) ++ be 4 hd.imageVer) p := by
  simp only [hExtInfo, h]

theorem hExtInfo_none (h : regionHeader 2 (activeBank p).ext = none) :
    hExtInfo r p = okay (b8 (extCode p.ext.st) :: be 2 (apiLevel p) ++ (drawBytes 4 p).1) { p with freeCtr := p.freeCtr + 4 } := by
  simp only [hExtInfo, h, (drawBytes_frame 4 p).2]

theorem hExtCtrl_stop (hb : byte r.payload 0 = 0) (h : Allowed 0x6102 r p) :
    hExtCtrl r p = let q := if p.ext.st = .running then stopExtension p else p
      okay [b8 (extCode q.ext.st)] { q with ext := { q.ext with startAt := none, restartAt := none } } := by
  simp only [hExtCtrl, hb]
  rw [if_neg (by decide), inMode_allowed h]
  simp

theorem hExtCtrl_start (hb : byte r.payload 0 = 1) (h : Allowed 0x6102 r p) :
    hExtCtrl r p = match p.ext.st with
      | .running => okay [2] { p with ext := { p.ext with restarts := 0 } }
      | .stopped => okay [2] (extStart false { p with ext := { p.ext with restarts := 0 } })
      | _ => deny stState p := by
  simp only [hExtCtrl, hb]
  rw [if_neg (by decide), inMode_allowed h, if_neg (by decide)] <;> rfl

theorem hExtMsg_eq : hExtMsg r p = if p.ext.st ≠ .running then deny stState p
    else if 4 ≤ (p.ext.msgs.filter (fun m => !m.taken)).length then deny stBusy p
    else .later (raiseExt 0 { p with work := true, ext := { p.ext with nextMsg := (p.ext.nextMsg + 1) % 4294967296, msgs := p.ext.msgs ++
      [{ id := p.ext.nextMsg, t := r.transport, sess := r.session, seq := r.seq, data := r.payload, dueAt := p.now + 1000000 }] } }) := by
  simp only [hExtMsg, untaken, sec, bne_iff_ne, Nat.reduceMul]
  rfl

end Handlers

section Diagnostics
variable {r : Req} {p : State} {b : Bytes}

theorem diagServe_unlisted (h : byte b 0 ∉ [0x10, 0x11, 0x14, 0x19, 0x22, 0x2E, 0x2F, 0x31, 0x3E, 0x85]) : diagServe r b p = ([0x7F, b8 (byte b 0), 0x11], p) := by
  unfold diagServe
  split
  case h_11 => rfl
  all_goals next heq => exact absurd (by rw [heq]; decide) h

theorem diagServe_clear (hb : byte b 0 = 0x14) (hx : p.nvm.diag.extended = false) : diagServe r b p = ([0x7F, 0x14, 0x22], p) := by
  simp only [diagServe, hb, diagClear, hx]
  rfl

theorem diagServe_reset_run (h : p.mode.mode = .run) : diagServe r [0x11, 0x01] p = ([0x7F, 0x11, 0x22], p) := by
  change (if p.mode.mode == .run then nrc 0x11 0x22 p else _) = _
  rw [h]
  rfl

theorem diagServe_reset {n : Nat} (h : p.mode.mode ≠ .run) (hn : recordOf p r.transport r.session r.seq = some n) :
    diagServe r [0x11, 0x01] p = ([0x51, 0x01], { p with mbx := { p.mbx with resetAfter := p.mbx.resetAfter ++ [(n, .cmd)] } }) := by
  change (if p.mode.mode == .run then nrc 0x11 0x22 p else positive 1 [0x51, 1] (resetAfterReply r .cmd p)) = _
  rw [if_neg (by simpa using h), resetAfterReply_some hn]
  rfl

theorem diagServe_extended_refused (h : p.mode.mode ≠ .service) : diagServe r [0x10, 0x03] p = ([0x7F, 0x10, 0x22], p) := by
  change (if p.mode.mode == .service && decide (3 ≤ reqPriv p r) then _ else nrc 0x10 0x22 p) = _
  rw [if_neg (by simp [h])]
  rfl

/-- ReadDataByIdentifier of one identifier that has a value. -/
theorem diagRead_one {did : Nat} {hi lo : Byte} {v : Bytes} (hlen : b.length % 2 = 1) (hl : didList b = [did]) (hv : didValue p did = some v) (hbe : be 2 did = [hi, lo]) :
    diagRead b p = ([0x62, hi, lo] ++ v, p) := by
  simp [diagRead, hlen, hl, hv, hbe]

theorem diagServe_serial : diagServe r [0x22, 0xF1, 0x8C] p = ([0x62, 0xF1, 0x8C] ++ serialAscii p.otp.serial, p) :=
  (show diagServe r [0x22, 0xF1, 0x8C] p = diagRead [0x22, 0xF1, 0x8C] p from rfl).trans
    (diagRead_one (did := 0xF18C) (hi := 0xF1) (lo := 0x8C) rfl (by decide) (by simp only [didValue]) (by decide))

theorem diagServe_part : diagServe r [0x22, 0xF1, 0x91] p = ([0x62, 0xF1, 0x91] ++ partAscii p.otp.part, p) :=
  (show diagServe r [0x22, 0xF1, 0x91] p = diagRead [0x22, 0xF1, 0x91] p from rfl).trans
    (diagRead_one (did := 0xF191) (hi := 0xF1) (lo := 0x91) rfl (by decide) (by simp only [didValue]) (by decide))

theorem diagServe_write_refused (did : Nat) (v : Bytes) (h : reqPriv p r < 3) : diagServe r ([0x2E] ++ be 2 did ++ v) p = ([0x7F, 0x2E, 0x33], p) := by
  change diagWrite r ([0x2E] ++ be 2 did ++ v) p = _
  simp only [diagWrite]
  rw [if_pos h]
  rfl

end Diagnostics

/-- Settles O27: each command by what its handler answers over the state it is served in, and each diagnostic service by its bytes. -/
theorem updateExtensionAndDiagnosticCommands : Obligations.UpdateExtensionAndDiagnosticCommands := by
  refine ⟨fun s r => ?rows, fun p r => ⟨fun b hb => diagServe_unlisted hb, rfl, rfl, diagServe_serial, diagServe_part, fun b hb hx => diagServe_clear hb hx, diagServe_reset_run,
    fun n hm hn => diagServe_reset hm hn, diagServe_extended_refused, fun did v hp => diagServe_write_refused did v hp⟩⟩
  intro P U b
  have hU : ∀ code, readSfdp (serving code r s) = U code := fun code => readSfdp_serving code r s
  refine ⟨fun h => ?info, fun h => ?write, fun h => ?stage, fun h => ?activate, ?confirm, fun h => ?xinfo, fun h => ?xctrl, fun h => ?xmsg, fun h => ?diag⟩
  case info =>
    intro p
    refine answers_of rfl rfl h (show hUpdInfo r (P 0x6001) = _ from ?_)
    simp only [hUpdInfo, pendingByte, P, hU, Laws.serving_boot]
    have hsame : ∀ n, bankInfo p n = bankInfo (serving 0x6001 r s) n := fun n => by
      change bankInfo (U 0x6001) n = _
      rw [← hU]
      rfl
    rw [hsame, hsame]
    rfl
  case write =>
    intro p a d hfit hallowed
    have hw := hUpdWrite_ok (p := serving 0x6002 r s) (by rw [Laws.serving_otp]; exact hfit) (by rw [hU]; exact hallowed)
    rw [hU, Laws.serving_otp] at hw
    refine ⟨fun hok => ?_, fun hok => ?_⟩
    · exact answers_of rfl rfl h (show hUpdWrite r (serving 0x6002 r s) = _ from hw.trans (if_pos hok))
    · intro m
      rw [if_neg (fun hn => absurd (hok.symm.trans hn) (by decide)), flashWrite_eq] at hw
      exact answers_of rfl rfl h (show hUpdWrite r (serving 0x6002 r s) = _ from hw)
  case stage =>
    intro p k a n hd hdr hk ha hend h512 hreg hallowed hok hlen
    have hw := hUpdStage_fits (p := serving 0x6003 r s) hk ha (by rw [Laws.serving_otp]; exact hend) h512 hreg (by rw [hU]; exact hallowed) (by rw [Laws.serving_otp]; exact hok) (by rw [hU]; exact hlen)
    rw [hU, Laws.serving_otp] at hw
    refine ⟨fun hc => ?_, fun hc hrevs => ?_⟩
    · exact answers_of rfl rfl h (show hUpdStage r (serving 0x6003 r s) = _ from hw.trans (if_pos hc))
    rw [if_neg (fun hn => absurd (hc.symm.trans hn) (by decide)), if_neg (fun hn => absurd (hrevs.symm.trans hn) (by decide))] at hw
    refine ⟨fun hlow => ?_, fun hge hcompat => ?_, fun hge hcompat hend => ?_, fun hge hcompat hend => ?_⟩
    · exact answers_of rfl rfl h (show hUpdStage r (serving 0x6003 r s) = _ from hw.trans (if_pos hlow))
    all_goals rw [if_neg (show ¬(readHeader (flashRead (U 0x6003) (field r.payload 1 4) 512)).secVer < floorOf (serving 0x6003 r s) (byte r.payload 0) from Nat.not_lt.2 hge)] at hw
    · exact answers_of rfl rfl h (show hUpdStage r (serving 0x6003 r s) = _ from hw.trans (if_pos hcompat))
    all_goals rw [if_neg (fun hn => absurd (hcompat.symm.trans hn) (by decide))] at hw
    · exact answers_of rfl rfl h (show hUpdStage r (serving 0x6003 r s) = _ from hw.trans (if_pos hend))
    · exact answers_of rfl rfl h (show hUpdStage r (serving 0x6003 r s) = _ from hw.trans (if_neg (fun hn => absurd (hend.symm.trans hn) (by decide))))
  case activate =>
    intro p
    obtain ⟨n, hn⟩ := recordOf_serving 0x6004 r s
    refine ⟨n, hn, ?_⟩
    intro later hallowed
    have ha := hUpdActivate_ok (p := serving 0x6004 r s) (by rw [hU]; exact hallowed)
    rw [hU, Laws.serving_boot, resetAfterReply_some (show recordOf (U 0x6004) _ _ _ = some n from hn)] at ha
    refine ⟨fun hs => ?_, fun hs hp hw => ?_, fun hs hp => ?_⟩
    · exact answers_of rfl rfl h (show hUpdActivate r (serving 0x6004 r s) = _ from ha.trans (if_pos hs))
    all_goals rw [if_neg (fun hn => absurd (hs.symm.trans hn) (by decide))] at ha
    · rw [if_neg (fun hn => absurd (hp.symm.trans hn) (by decide)), if_neg (fun hn => absurd (hw.symm.trans hn) (by decide)),
        resetAfterReply_some (show recordOf (bootWrite _ (U 0x6004)) _ _ _ = some n from hn)] at ha
      exact answers_of rfl rfl h (show hUpdActivate r (serving 0x6004 r s) = _ from ha)
    · exact answers_of rfl rfl h (show hUpdActivate r (serving 0x6004 r s) = _ from ha.trans (if_pos hp))
  case confirm =>
    intro runs s' h p0 p hk hallowed hw Ans q hd
    have hp : readSfdp (serving 0x6005 r s') = p := rfl
    have hc := hUpdConfirm_ok (p := serving 0x6005 r s') hk hallowed (by rw [Laws.serving_boot]; exact hw)
    rw [Laws.serving_env, hp] at hc
    refine ⟨fun hnone => ?_, fun hdr hsome h1 h2 => ?_, fun hdr hsome hne => ?_⟩
    · rw [show regionHeader _ (regionOf (activeBank p) _) = none from hnone] at hc
      exact answers_of rfl rfl h (show hUpdConfirm r p0 = _ from hc)
    all_goals
      rw [show regionHeader _ (regionOf (activeBank p) _) = some hdr from hsome] at hc
      dsimp only at hc
    · exact answers_of rfl rfl h (show hUpdConfirm r p0 = _ from hc.trans (if_pos ⟨h1, h2⟩))
    · rw [if_neg hne] at hc
      refine ⟨fun hr => ?_, fun hr => ?_⟩
      · exact answers_of rfl rfl h (show hUpdConfirm r p0 = _ from hc.trans (if_neg (fun hn => absurd (hr.symm.trans hn) (by decide))))
      · exact pends_of rfl rfl h (show hUpdConfirm r p0 = _ from hc.trans (if_pos hr))
  case xinfo =>
    intro p
    have hst : p.ext = s.ext := Laws.serving_ext _ _ _
    refine ⟨fun hdr hh => ?_, fun hh => ⟨_, (drawBytes_frame 4 p).1, ?_⟩⟩
    · exact answers_of rfl rfl h (show hExtInfo r p = _ from by rw [hExtInfo_some hh, hst]; rfl)
    · exact answers_of rfl rfl h (show hExtInfo r p = _ from by rw [hExtInfo_none hh, hst]; rfl)
  case xctrl =>
    intro p hallowed
    have hst : p.ext = s.ext := Laws.serving_ext _ _ _
    refine ⟨fun hb => ⟨_, rfl, ?_⟩, fun hb hrun => ?_, fun hb hstop => ?_, fun hb hrun hstop => ?_⟩
    · rw [← hst]
      exact answers_of rfl rfl h (show hExtCtrl r p = _ from hExtCtrl_stop hb hallowed)
    all_goals
      have hc := hExtCtrl_start hb hallowed
      rw [hst] at hc
    · rw [hrun] at hc
      exact answers_of rfl rfl h (show hExtCtrl r p = _ from hst ▸ hc)
    · rw [hstop] at hc
      exact answers_of rfl rfl h (show hExtCtrl r p = _ from hst ▸ hc)
    · refine answers_of rfl rfl h (show hExtCtrl r p = _ from hc.trans ?_)
      cases hs : s.ext.st with
      | running => exact absurd hs hrun
      | stopped => exact absurd hs hstop
      | none => rfl
      | refused => rfl
  case xmsg =>
    intro p
    rw [show s.ext = p.ext from (Laws.serving_ext _ _ _).symm]
    intro waiting
    have hm : hExtMsg r p = _ := hExtMsg_eq
    refine ⟨fun hrun => ?_, fun hrun hfull => ?_, fun hrun hroom => ?_⟩
    · exact answers_of rfl rfl h (show hExtMsg r p = _ from hm.trans (if_pos hrun))
    all_goals rw [if_neg (not_not.2 hrun)] at hm
    · exact answers_of rfl rfl h (show hExtMsg r p = _ from hm.trans (if_pos hfull))
    · rw [if_neg (Nat.not_le.2 hroom)] at hm
      intro m
      exact pends_of rfl rfl h (show hExtMsg r p = _ from hm)
  case diag =>
    intro p p1
    refine ⟨fun hc => ⟨_, rfl, ?_⟩, fun hc => ?_⟩
    · exact answers_of rfl rfl h (show hDiagReq r p = _ from if_neg (fun hn => absurd (hc.symm.trans hn) (by decide)))
    · exact pends_of rfl rfl h (show hDiagReq r p = _ from if_pos hc)

end Sys2Proof.Proofs
end

section
/-! The SPI host window (R37 to R43, R49, R51, R52). -/

namespace Sys2Proof.Proofs
open Sys2Proof Sys2Proof.Machine Sys2Proof.Safety

section Window
variable {p : State} {off n : Nat} {b : Bytes}

/-- The state after the status byte, which every assertion shifts out first (R37). -/
def shifted (p : State) : State := shiftOut [statByte p] p

theorem winRead_none (h : off ∉ [0x00, 0x04, 0x08, 0x0C, 0x10, 0x14, 0x18, 0x1C]) : winRead p off = none := by
  unfold winRead
  split
  case h_9 => rfl
  all_goals exact absurd (by decide) h

theorem registerWriteStep_scratch (hlive : winLive p = true) (h4 : 4 ≤ b.length) :
    registerWriteStep 0x1C b p = spiEdge { shifted p with win := { (shifted p).win with scratch := BitVec.ofNat 32 (field b 0 4) } } := by
  simp only [registerWriteStep, hlive]
  rw [if_neg (by decide), if_neg (by simp [winRead]), if_neg (Nat.not_lt.2 h4)]
  rfl

theorem registerWriteStep_readOnly (hlive : winLive p = true) (h : off ∈ [0x00, 0x04, 0x10]) : registerWriteStep off b p = spiEdge (shifted p) := by
  have hoff : off = 0x00 ∨ off = 0x04 ∨ off = 0x10 := by simpa using h
  have hread : ∀ x, (winRead x off).isSome = true := fun x => by rcases hoff with rfl | rfl | rfl <;> rfl
  have hwrite : ∀ v x, winWrite off v x = if (winRead x off).isSome then x else winErr 0x05 x := fun v x => by rcases hoff with rfl | rfl | rfl <;> rfl
  have hnone : ¬(winRead p off).isNone = true := fun hn => absurd (hread p) (by rw [Option.isNone_iff_eq_none.1 hn]; decide)
  simp only [registerWriteStep, hlive]
  rw [if_neg (by decide), if_neg hnone, hwrite, if_pos (hread _), ite_self]
  rfl

theorem registerWriteStep_unmapped (hlive : winLive p = true) (h : off ∉ [0x00, 0x04, 0x08, 0x0C, 0x10, 0x14, 0x18, 0x1C]) :
    registerWriteStep off b p = spiEdge (winErr 0x05 (shifted p)) := by
  simp only [registerWriteStep, hlive]
  rw [if_neg (by decide), if_pos (by rw [winRead_none h]; rfl)]
  rfl

theorem opcodeStep_unknown {o : Nat} (hlive : winLive p = true) (h : o ∉ [0x02, 0x03, 0x20, 0x21]) : opcodeStep o off n p = spiEdge (winErr 0x03 (shifted p)) := by
  simp only [opcodeStep, hlive]
  rw [if_neg (by decide)]
  split
  case h_5 => rfl
  all_goals exact absurd (by decide) h

theorem readOut_eq (v : Nat) : readOut v n p = shiftOut (statByte p :: ((drawBytes 2 p).1 ++ be 4 v).take n) { p with freeCtr := p.freeCtr + 2 } := by
  simp only [readOut, (drawBytes_frame 2 p).2]

theorem opcodeStep_read {v : Nat} (hlive : winLive p = true) (h : winRead p off = some v) : opcodeStep 0x03 off n p = spiEdge (readOut v n p) := by
  simp [opcodeStep, hlive, h]

theorem opcodeStep_read_unmapped (hlive : winLive p = true) (h : winRead p off = none) (h1 : 1 ≤ n) : opcodeStep 0x03 off n p = spiEdge (winErr 0x05 (readOut 0 n p)) := by
  simp [opcodeStep, hlive, h, h1]

theorem frameRead_empty (h : p.mbx.spi.out = []) : frameRead n p = winErr 0x07 (shiftOut (statByte p :: List.replicate n 0) p) := by
  simp only [frameRead, h]

theorem frameRead_part {f : Frame} {l : List Frame} (h : p.mbx.spi.out = f :: l) (hn : n < (frameBytes f).length) : frameRead n p = shiftOut (statByte p :: (frameBytes f).take n) p := by
  simp only [frameRead, h]
  rw [if_pos hn]

theorem frameRead_whole {f : Frame} {l : List Frame} (h : p.mbx.spi.out = f :: l) (hn : n = (frameBytes f).length) :
    frameRead n p = delivered f (popRx (shiftOut (statByte p :: frameBytes f) p)) := by
  subst hn
  simp only [frameRead, h]
  rw [if_neg (lt_irrefl _), if_neg (lt_irrefl _)]
  simp [padTo]

theorem frameRead_over {f : Frame} {l : List Frame} (h : p.mbx.spi.out = f :: l) (hn : (frameBytes f).length < n) :
    frameRead n p = delivered f (winErr 0x04 (popRx (shiftOut (statByte p :: padTo n 0 (frameBytes f)) p))) := by
  simp only [frameRead, h]
  rw [if_neg (Nat.not_lt.2 hn.le), if_pos hn]

theorem frameWrite_unserved (h : p.mbx.spi.served = false) : frameWrite b p = winErr 0x06 (shifted p) := by
  simp [frameWrite, h, shifted]

theorem frameWrite_served (h : p.mbx.spi.served = true) : frameWrite b p = frameIn .spi {} b (shifted p) := by
  simp [frameWrite, h, shifted]

/-- `frameIn` on SPI of a frame whose header is whole: the checks of the header and of the length in their order (R51). -/
theorem frameIn_spi_header (h16 : 16 ≤ b.length) (hcrc : crc16 (b.take 14) = field b 14 2) :
    frameIn .spi {} b p =
      if byte b 0 ≠ 3 then respondPlain (field b 2 2) stGeneration [3] (headerReq .spi {} b p) p
      else if 4 ≤ byte b 1 ∨ byte b 13 ≠ 0 then respondPlain (field b 2 2) stFraming [] (headerReq .spi {} b p) p
      else if 1000 < field b 6 2 then respondPlain (field b 2 2) stLength [] (headerReq .spi {} b p) p
      else if 8 ≤ p.mbx.spi.slots.length then respondPlain (field b 2 2) stBusy [] (headerReq .spi {} b p) p
      else if b.length < frameLen b then respondPlain (field b 2 2) stTruncated [] (headerReq .spi {} b p) p
      else if frameLen b < b.length then respondPlain (field b 2 2) stFraming [] (headerReq .spi {} b p) p
      else request (field b 2 2) { headerReq .spi {} b p with payload := slice b 16 (field b 6 2), mac := b.drop (16 + field b 6 2) } p := by
  simp only [frameIn]
  rw [if_neg (Nat.not_lt.2 h16)]
  simp only [headerCheck, hcrc, bne_self_eq_false, Bool.false_eq_true, if_false, bne_iff_ne, Bool.or_eq_true, decide_eq_true_eq, getPort]
  by_cases h0 : byte b 0 = 3
  · by_cases h1 : 4 ≤ byte b 1 ∨ byte b 13 ≠ 0
    · simp [h0, h1]
    · by_cases h2 : 1000 < field b 6 2
      · simp [h0, h1, h2]
      · by_cases h3 : 8 ≤ p.mbx.spi.slots.length
        · simp [h0, h1, h2, h3]
        · simp [h0, h1, h2, h3]
  · simp [h0]

theorem frameIn_spi_short (h : b.length < 16) : frameIn .spi {} b p = winErr 0x01 p := by
  simp [frameIn, h]

theorem frameIn_spi_crc (h16 : 16 ≤ b.length) (hcrc : crc16 (b.take 14) ≠ field b 14 2) : frameIn .spi {} b p = winErr 0x02 p := by
  simp [frameIn, Nat.not_lt.2 h16, headerCheck, hcrc]

end Window

section Queue
variable (f : List Frame → List Frame) (p : State)

theorem rxLeave_out : (rxLeave f p).mbx.spi.out = f p.mbx.spi.out := by
  simp only [rxLeave]
  split <;> split <;> rfl

theorem winIrq_bit0 (n : Nat) (h : p.win.irq.getLsbD 0 = true) : (winIrq n p).win.irq.getLsbD 0 = true := by
  simp [winIrq, h]

theorem rxLeave_raises (h : (f (p.mbx.spi.out.take 40)).length < min 40 (f p.mbx.spi.out).length) : (rxLeave f p).win.irq.getLsbD 0 = true := by
  simp only [rxLeave]
  rw [if_pos h]
  split
  · exact winIrq_bit0 _ _ (by simp [winIrq])
  · simp [winIrq]

end Queue

/-- Settles O33: each access by what its step makes of the state with the status byte shifted out. -/
theorem hostWindowAccesses : Obligations.HostWindowAccesses := by
  intro s t p q edge
  refine ⟨fun hoff => ?dead, fun hlive => ?live, fun f => ⟨rxLeave_out f p, rxLeave_raises f p⟩⟩
  case dead =>
    have hneg : ¬winLive p = true := fun h => absurd (hoff.symm.trans h) (by decide)
    refine ⟨fun off b => ?_, fun v => ⟨?_, ?_⟩, ?_, ?_, ?_, fun o f n => ?_, fun b => ?_, fun n => ?_, ?_⟩
    · exact does_of_eq (x := registerWriteStep off b p) rfl (if_pos (by simp [hoff]))
    · exact does_of_eq (x := irqWriteStep v p) rfl (if_neg hneg)
    · exact does_of_eq (x := irqEnWriteStep v p) rfl (if_neg hneg)
    · exact does_of_eq (x := evflushStep p) rfl (if_neg hneg)
    · exact does_of_eq (x := rxdropStep p) rfl (if_neg hneg)
    · exact does_of_eq (x := errWriteStep p) rfl (if_neg hneg)
    · exact does_of_eq (x := opcodeStep o f n p) rfl (if_pos (by simp [hoff]))
    · exact does_of_eq (x := frameWriteStep b p) rfl (if_neg hneg)
    · exact does_of_eq (x := frameReadStep n p) rfl (if_neg hneg)
    · exact does_of_eq (x := hspiWakeStep p) rfl (if_neg hneg)
  case live =>
    have hread : ∀ n x, frameRead n p = x → Does (.frameRead t n) s (edge x) := fun n x h => does_of_eq (x := frameReadStep n p) rfl ((if_pos hlive).trans (by rw [h]; rfl))
    have hwrite : ∀ b x, frameWrite b p = x → Does (.frameWrite t b) s (edge x) := fun b x h => does_of_eq (x := frameWriteStep b p) rfl ((if_pos hlive).trans (by rw [h]; rfl))
    refine ⟨fun b h4 => ?_, fun off b hro => ?_, fun off b hun => ?_, fun v => ?_, fun v => ?_, ?_, ?_, ?_, fun o f n ho => ?_, fun f n v hr => ⟨_, (drawBytes_frame 2 p).1, ?_⟩,
      fun f n hr h1 => ⟨_, (drawBytes_frame 2 p).1, ?_⟩, fun n he => hread n _ (frameRead_empty he), fun n f l hf => ?_, fun b hs => hwrite b _ (frameWrite_unserved hs), fun b hs => ?frame, fun hon => ?_, fun hoff => ?_⟩
    · exact does_of_eq (x := registerWriteStep 0x1C b p) rfl (registerWriteStep_scratch hlive h4)
    · exact does_of_eq (x := registerWriteStep off b p) rfl (registerWriteStep_readOnly hlive hro)
    · exact does_of_eq (x := registerWriteStep off b p) rfl (registerWriteStep_unmapped hlive hun)
    · exact does_of_eq (x := irqWriteStep v p) rfl (if_pos hlive)
    · exact does_of_eq (x := irqEnWriteStep v p) rfl (if_pos hlive)
    · exact does_of_eq (x := evflushStep p) rfl (if_pos hlive)
    · exact does_of_eq (x := rxdropStep p) rfl (if_pos hlive)
    · exact does_of_eq (x := errWriteStep p) rfl (if_pos hlive)
    · exact does_of_eq (x := opcodeStep o f n p) rfl (opcodeStep_unknown hlive ho)
    · exact does_of_eq (x := opcodeStep 0x03 f n p) rfl ((opcodeStep_read hlive hr).trans (by rw [readOut_eq]; rfl))
    · exact does_of_eq (x := opcodeStep 0x03 f n p) rfl ((opcodeStep_read_unmapped hlive hr h1).trans (by rw [readOut_eq]; rfl))
    · exact ⟨fun hn => hread n _ (frameRead_part hf hn), fun hn => hread n _ (frameRead_whole hf hn), fun hn => hread n _ (frameRead_over hf hn)⟩
    case frame =>
      intro r n
      have hin : ∀ x, frameIn .spi {} b q = x → Does (.frameWrite t b) s (edge x) := fun x h => hwrite b x ((frameWrite_served hs).trans h)
      refine ⟨fun h => hin _ (frameIn_spi_short h), fun h16 hcrc => hin _ (frameIn_spi_crc h16 hcrc), fun h16 hcrc => ?_⟩
      have hh := frameIn_spi_header (p := q) h16 hcrc
      refine ⟨fun h0 => hin _ (hh.trans (if_pos h0)), fun h0 h1 => ?_, fun h0 h1 h13 => ?_⟩
      all_goals rw [if_neg (not_not.2 h0)] at hh
      · exact hin _ (hh.trans (if_pos h1))
      rw [if_neg (fun h => h.elim (Nat.not_le.2 h1) (fun h => h h13))] at hh
      refine ⟨fun h2 => hin _ (hh.trans (if_pos h2)), fun h2 h8 => ?_, fun h2 h8 => ?_⟩
      all_goals rw [if_neg (Nat.not_lt.2 h2)] at hh
      · exact hin _ (hh.trans (if_pos h8))
      rw [if_neg (show ¬8 ≤ q.mbx.spi.slots.length from Nat.not_le.2 h8)] at hh
      refine ⟨fun hs => hin _ (hh.trans (if_pos hs)), fun hl => ?_, fun he => ?_⟩
      · rw [if_neg (Nat.not_lt.2 hl.le)] at hh
        exact hin _ (hh.trans (if_pos hl))
      · rw [if_neg (Nat.not_lt.2 he.ge), if_neg (Nat.not_lt.2 he.le)] at hh
        exact hin _ hh
    · exact does_of_eq (x := hspiWakeStep p) rfl ((if_pos hlive).trans (if_pos hon))
    · exact does_of_eq (x := hspiWakeStep p) rfl ((if_pos hlive).trans (if_neg (fun h => absurd (hoff.symm.trans h) (by decide))))

end Sys2Proof.Proofs
end

section
/-! CAN frames received and sent, segmented messages, datagrams, bus-off and selective wake (R44 to R46, R238 to R245, R255). -/

namespace Sys2Proof.Proofs
open Sys2Proof Sys2Proof.Machine Sys2Proof.Safety

section Receive
variable {p : State} {ch : Nat} {f : CanFrame} {d : Bytes}

/-- What a received frame that is not a remote one feeds before MBX-CAN looks at it (R239, R255). -/
def heardFrame (ch : Nat) (f : CanFrame) (p : State) : State := if smisaRuns p then extReceive ch f (routeCan ch f (feedCan ch f p)) else p

theorem canReceive_active (h1 : ch ≤ 1) (ha : canActive p ch = true) :
    canReceive ch f p = if f.remote = true then modCan ch (fun c => { c with remotes := (c.remotes + 1) % 65536 }) p
      else if isMbxFrame (heardFrame ch f p) ch f = true then isoReceive f.data (heardFrame ch f p) else heardFrame ch f p := by
  simp only [canReceive]
  rw [if_neg (by simp [ha]; omega)]
  rfl

theorem canReceive_mbx (h1 : ch ≤ 1) (ha : canActive p ch = true) (hr : f.remote = false) (hm : isMbxFrame (heardFrame ch f p) ch f = true) :
    canReceive ch f p = isoReceive f.data (heardFrame ch f p) :=
  (canReceive_active h1 ha).trans ((if_neg (by simp [hr])).trans (if_pos hm))

theorem mbxFrameStep_mbx {kind : Nat} (hk : byte f.data 0 / 16 = kind) (h1 : (tw p).transports.canCh ≤ 1) (ha : canActive p (tw p).transports.canCh = true) (hr : f.remote = false)
    (hm : isMbxFrame (heardFrame (tw p).transports.canCh f p) (tw p).transports.canCh f = true) :
    mbxFrameStep kind f p = isoReceive f.data (heardFrame (tw p).transports.canCh f p) :=
  (if_pos (by simpa using hk)).trans (canReceive_mbx h1 ha hr hm)

theorem isoReceive_first (hk : byte d 0 / 16 = 1) : isoReceive d p = isoFirstFrame d { p with mbx := { p.mbx with canRx := none } } := by
  simp only [isoReceive, hk]

theorem isoReceive_consecutive (hk : byte d 0 / 16 = 2) : isoReceive d p = isoConsecutive d p := by
  simp only [isoReceive, hk]

theorem isoReceive_flow (hk : byte d 0 / 16 = 3) : isoReceive d p = isoFlow d p := by
  simp only [isoReceive, hk]

theorem isoFirstFrame_refused (h : (byte d 0 % 16) * 256 + byte d 1 = 0 ∨ 1024 < (byte d 0 % 16) * 256 + byte d 1) : isoFirstFrame d p = sendFlow 2 p := by
  simp only [isoFirstFrame]
  rw [if_pos (by simpa using h)]

/-- A first frame whose length and header fit: its header is checked before the flow control (R45). -/
theorem isoFirstFrame_header (h16 : 16 ≤ (byte d 0 % 16) * 256 + byte d 1) (h1024 : (byte d 0 % 16) * 256 + byte d 1 ≤ 1024)
    (hlen : d.length ≤ (byte d 0 % 16) * 256 + byte d 1 + 1) (h18 : 18 ≤ d.length) :
    isoFirstFrame d p = match headerCheck .can (d.drop 2) p with
      | none => sendFlow 0 (isoBegin ((byte d 0 % 16) * 256 + byte d 1) (d.drop 2) p)
      | some none => sendFlow 2 p
      | some (some (st, body)) => respondPlain (field (d.drop 2) 2 2) st body (headerReq .can {} (d.drop 2) p) (sendFlow 2 p) := by
  simp only [isoFirstFrame]
  rw [if_neg (by simp; omega), if_neg (by simp; omega), if_neg (by simp; omega)] <;> rfl

theorem isoConsecutive_eq {x : CanRx} (hx : p.mbx.canRx = some x) :
    isoConsecutive d p = if byte d 0 % 16 ≠ x.nextSn then { p with mbx := { p.mbx with canRx := none } }
      else if x.ffDl ≤ ((x.bytes ++ d.drop 1).take x.ffDl).length then isoComplete ((x.bytes ++ d.drop 1).take x.ffDl) p
      else { p with mbx := { p.mbx with canRx := some { x with bytes := (x.bytes ++ d.drop 1).take x.ffDl, nextSn := (x.nextSn + 1) % 16, crAt := p.now + crUs p } } } := by
  simp only [isoConsecutive, hx, bne_iff_ne]

theorem isoFlow_eq {x : CanTx} (hx : p.mbx.canTx = some x) (hw : x.waitFc = true) :
    isoFlow d p = if byte d 0 % 16 = 0 then isoContinue { x with left := if byte d 1 = 0 then none else some (byte d 1) } p
      else if byte d 0 % 16 = 1 then { p with mbx := { p.mbx with canTx := some { x with fcAt := p.now + 1000000 } } }
      else isoAbandon p := by
  simp only [isoFlow, hx]
  rw [if_neg (by simp [hw])]
  simp only [beq_iff_eq]
  rfl

theorem crUs_eq : crUs p = 1000 * (tw p).transports.nCrMs := Nat.mul_comm _ _

end Receive

section Transmit
variable {p : State} {ch errs : Nat}

theorem nAsCheck_due {x : CanTx} (hx : p.mbx.canTx = some x) (hq : x.queued = true) (ha : x.asAt ≤ p.now) : nAsCheck p = isoAbandon p := by
  simp [nAsCheck, hx, hq, ha]

theorem nAsCheck_waits {x : CanTx} (hx : p.mbx.canTx = some x) (h : x.queued = false ∨ p.now < x.asAt) : nAsCheck p = p := by
  simp only [nAsCheck, hx]
  exact if_neg (by rcases h with h | h <;> simp [h])

/-- The frame at the head of a channel's queue is sent (R239, R243). -/
theorem canSentStep_head {e : CanTxEntry} {l : List CanTxEntry} (ha : canActive (nAsCheck p) ch = true) (hr : (getCan (nAsCheck p) ch).restricted = false) (hq : (getCan (nAsCheck p) ch).queue = e :: l) :
    canSentStep ch errs p =
      let q := canRefill ch (modCan ch (fun c => noteSent e.frame (canTxErrors errs { c with queue := l })) (nAsCheck p))
      match e.origin with
      | .mailbox => if byte e.frame.data 0 / 16 = 3 then q else isoAdvance (byte e.frame.data 0 / 16 < 2) q
      | _ => answerSend stOk q e := by
  simp only [canSentStep]
  rw [if_neg (by simp [ha, hr])]
  simp only [hq, beq_iff_eq]
  cases e.origin <;> rfl

theorem busOffStep_active (ha : canActive p ch = true) : busOffStep ch p =
    issue 0x21 0x01 0 (((getCan p ch).queue.filter isSend ++ (getCan p ch).waiting.filter isSend).foldl (answerSend stState)
      (canRefill ch (modCan ch (fun c => { c with state := 3, tec := 255, busOff := satInc 0xFFFF c.busOff, recoverAt := some (p.now + 1000 * ((((tw p).can.find? (fun x => x.ch == ch)).map (fun x => x.recoveryMs)).getD 100)), queue := c.queue.filter (fun e => !isRouted e && !isSend e), waiting := c.waiting.filter (fun e => !isSend e) }) p))) := by
  simp only [busOffStep]
  rw [if_neg (by simp [ha])]
  simp only [ms, Nat.mul_comm _ 1000]
  rfl

end Transmit

section Datagrams
variable {p : State} {d : Datagram}

theorem datagramOk_iff : datagramOk p d = true ↔ d.v6 = false ∧ d.fragmented = false ∧ d.data.length ≤ 1472 ∧ d.vlan = (tw p).uplink.vlan ∧ d.dst.ip = (tw p).uplink.ipv4 ∧
    d.dst.port = (tw p).transports.ethPort ∧ (d.data.length < 16 ∨ d.data.length < frameLen d.data + 16) := by
  simp only [datagramOk, Bool.and_eq_true, Bool.not_eq_true', decide_eq_true_eq, beq_iff_eq, Bool.and_eq_false_iff, decide_eq_false_iff_not, Nat.not_le, and_assoc]

end Datagrams

/-- Settles O34: each event by what its step makes of the state at its time. -/
theorem canAndSegmentedMessages : Obligations.CanAndSegmentedMessages := by
  intro s t p pass heard fa
  refine ⟨fun ch f errs h1 ha => ?received, fun ch f errs h => ?silent, ?mbx, fun x hx hdue => ?crt, fun x hx hw hdue => ?bst, fun x hx hq hdue => nAsCheck_due hx hq hdue, fun x hx h => nAsCheck_waits hx h,
    fun d => ?datagram, fun ch errs e l ha hr hq => ?sent, fun ch => ?late, fun ch ha => ?off, fun ch h3 hdue => ?recovery, fun f c hc hsense hw => ?wuf, fun n h4 hn => ?wake, fun n h4 hn => ?count⟩
  case received =>
    intro e hae
    have hstep : canReceivedStep ch f errs p = canReceive ch f e := if_pos (by simp [ha, h1])
    have heq := hstep.trans (canReceive_active h1 hae)
    refine ⟨fun hr => ?_, fun hr hm => ?_, fun hr hm => ?_⟩
    · exact does_of_eq (x := canReceivedStep ch f errs p) rfl (heq.trans (if_pos hr))
    all_goals rw [if_neg (fun h => absurd (hr.symm.trans h) (by decide))] at heq
    · exact does_of_eq (x := canReceivedStep ch f errs p) rfl (heq.trans (if_neg (fun h => absurd (hm.symm.trans h) (by decide))))
    · exact does_of_eq (x := canReceivedStep ch f errs p) rfl (heq.trans (if_pos hm))
  case silent =>
    exact does_of_eq (x := canReceivedStep ch f errs p) rfl (if_neg (by rcases h with h | h <;> simp [h]))
  case mbx =>
    intro ch f h1 ha hr hm h d n g
    have hstep : ∀ kind, byte d 0 / 16 = kind → mbxFrameStep kind f p = isoReceive d h := fun kind hk => mbxFrameStep_mbx hk h1 ha hr hm
    refine ⟨fun hk hn => ?_, fun hk h16 h1024 hlen h18 => ?_, fun x hk hx => ?_, fun x hk hx hw => ?_⟩
    · exact does_of_eq (x := mbxFrameStep 1 f p) rfl ((hstep 1 hk).trans ((isoReceive_first hk).trans (isoFirstFrame_refused hn)))
    · have hf := (hstep 1 hk).trans ((isoReceive_first hk).trans (isoFirstFrame_header h16 h1024 hlen h18))
      refine ⟨fun hc => ?_, fun hc => ?_, fun st body hc => ?_⟩
      all_goals rw [show headerCheck .can (d.drop 2) { h with mbx := { h.mbx with canRx := none } } = _ from hc] at hf
      · rw [isoBegin, crUs_eq] at hf
        exact does_of_eq (x := mbxFrameStep 1 f p) rfl hf
      · exact does_of_eq (x := mbxFrameStep 1 f p) rfl hf
      · exact does_of_eq (x := mbxFrameStep 1 f p) rfl hf
    · intro b
      have hf := (hstep 2 hk).trans ((isoReceive_consecutive hk).trans (isoConsecutive_eq hx))
      rw [crUs_eq] at hf
      refine ⟨fun hsn => ?_, fun hsn hl => ?_, fun hsn hl => ?_⟩
      · exact does_of_eq (x := mbxFrameStep 2 f p) rfl (hf.trans (if_pos hsn))
      all_goals rw [if_neg (not_not.2 hsn)] at hf
      · exact does_of_eq (x := mbxFrameStep 2 f p) rfl (hf.trans (if_pos hl))
      · exact does_of_eq (x := mbxFrameStep 2 f p) rfl (hf.trans (if_neg (Nat.not_le.2 hl)))
    · have hf := (hstep 3 hk).trans ((isoReceive_flow hk).trans (isoFlow_eq hx hw))
      refine ⟨fun h0 => ?_, fun h1 => ?_, fun h2 => ?_⟩
      · exact does_of_eq (x := mbxFrameStep 3 f p) rfl (hf.trans (if_pos h0))
      · exact does_of_eq (x := mbxFrameStep 3 f p) rfl (hf.trans ((if_neg (by omega)).trans (if_pos h1)))
      · exact does_of_eq (x := mbxFrameStep 3 f p) rfl (hf.trans ((if_neg (by omega)).trans (if_neg (by omega))))
  case crt =>
    refine does_of_eq (x := nCrStep p) rfl ?_
    simp only [nCrStep, hx]
    exact if_pos hdue
  case bst =>
    refine does_of_eq (x := nBsStep p) rfl ?_
    change (match fa.mbx.canTx with
      | some x => if x.waitFc && decide (x.fcAt ≤ fa.now) then isoAbandon fa else fa
      | none => fa) = _
    have hnow : fa.now = p.now := by
      simp only [fa, nAsCheck]
      split
      · split <;> rfl
      · rfl
    rw [hx, hnow]
    exact if_pos (by simp [hw, hdue])
  case datagram =>
    intro b ok
    have hok : ok ↔ (uplinkRuns p && p.bus.up.link && p.mbx.eth.served && datagramOk p d) = true := by
      simp only [Bool.and_eq_true, datagramOk_iff, and_assoc]
      exact Iff.rfl
    exact ⟨fun h => does_of_eq (x := datagramStep d p) rfl (if_pos (hok.1 h)), fun h => does_of_eq (x := datagramStep d p) rfl (if_neg (fun hn => h (hok.2 hn)))⟩
  case sent =>
    intro q
    have hs := canSentStep_head (errs := errs) ha hr hq
    refine ⟨fun tr i n ho => ?_, fun n ho => ?_, fun ho hpci => ?_, fun ho hpci => ?_⟩
    all_goals rw [ho] at hs
    · refine does_of_eq (x := canSentStep ch errs p) rfl (hs.trans ?_)
      simp only [answerSend, ho]
      rfl
    · refine does_of_eq (x := canSentStep ch errs p) rfl (hs.trans ?_)
      simp only [answerSend, ho]
      rfl
    · exact does_of_eq (x := canSentStep ch errs p) rfl (hs.trans (if_pos hpci))
    · exact does_of_eq (x := canSentStep ch errs p) rfl (hs.trans (if_neg hpci))
  case late => exact does_of_eq (x := sendTimeoutStep ch p) rfl rfl
  case off => exact does_of_eq (x := busOffStep ch p) rfl (busOffStep_active ha)
  case recovery => exact does_of_eq (x := busOffRecoveryStep ch p) rfl (if_pos (by simp [h3, hdue]))
  case wuf =>
    refine does_of_eq (x := wufStep f p) rfl ?_
    simp only [wufStep, hc]
    refine if_pos ?_
    rcases hsense with h | h
    · simp [wufSense, h, hw]
    · simp [h, hw]
  case wake =>
    exact does_of_eq (x := wakeErrorStep n p) rfl ((if_pos (by simp [h4])).trans (if_pos hn))
  case count =>
    exact does_of_eq (x := wakeErrorStep n p) rfl ((if_pos (by simp [h4])).trans (if_neg (Nat.not_lt.2 hn)))

end Sys2Proof.Proofs
end

section
/-! LIN slots and faults, the uplink's link, vehicle time, and the gateway's frames (R243, R247 to R252, R256, R257). -/

namespace Sys2Proof.Proofs
open Sys2Proof Sys2Proof.Machine Sys2Proof.Safety

section Lin
variable {p : State} {ch : Nat}

/-- Whether a LIN slot's response is whole: it stands, with its checksum (R247). -/
def respWhole (c : TwLin) (slot : TwLinSlot) (a : Option Bytes) : Bool := match a with
  | some b => linRespOk c slot b
  | none => false

theorem respWhole_iff {c : TwLin} {slot : TwLinSlot} {a : Option Bytes} : respWhole c slot a = true ↔ ∃ b, a = some b ∧ linRespOk c slot b = true := by
  cases a <;> simp [respWhole]

theorem linSlotStep_runs {c : TwLin} {k : TwLinSched} {a : Option Bytes} {col : Bool} (h1 : (getLin p ch).state = 1) (hc : linCfg p ch = some c) (hk : linSched p ch (getLin p ch).sched = some k) :
    linSlotStep ch a col p = linBegin ch (modLin ch (fun x => linNext k (col && (k.slots.getD (getLin p ch).slot {}).kind == 1)
      { x with errors := if slotError c (k.slots.getD (getLin p ch).slot {}) a.isSome (respWhole c (k.slots.getD (getLin p ch).slot {}) a || col) && !col then satInc 0xFFFF x.errors else x.errors }) p) := by
  simp only [linSlotStep, hc, hk]
  rw [if_neg (by simp [h1])]
  rfl

end Lin

section Time
variable {p : State}

theorem linkPollStep_up {sp : Nat} (hu : uplinkRuns p = true) (hsp : sp = 100 ∨ sp = 1000) :
    linkPollStep true sp true p = pdelaySend (modUp (fun u => { u with link := true, speed := sp }) p) := by
  simp only [linkPollStep, hu, if_true]
  rcases hsp with rfl | rfl <;> rfl

theorem pdelaySend_down (h : p.bus.up.link = false) : pdelaySend p = p := by
  simp [pdelaySend, h]

theorem linkPollStep_down {up full : Bool} {sp : Nat} (hu : uplinkRuns p = true) (h : up = false ∨ full = false ∨ (sp ≠ 100 ∧ sp ≠ 1000)) :
    linkPollStep up sp full p = modUp (fun u => { u with link := false }) p := by
  have hok : (up && full && (sp == 100 || sp == 1000)) = false := by
    rcases h with h | h | ⟨h, h'⟩
    · simp [h]
    · simp [h]
    · simp [h, h']
  simp only [linkPollStep, hu, if_true, hok]
  exact pdelaySend_down rfl

theorem gptpSyncStep_twoStep {n ns iv : Nat} (hu : uplinkRuns p = true) :
    gptpSyncStep 0 n true ns iv p = gptpJudge (modGptp (fun g => { g with syncAt := some p.now, interval := iv, twoStep := some (n, p.now) }) p) := by
  simp [gptpSyncStep, hu]

theorem gptpSyncStep_oneStep {n ns iv : Nat} (hu : uplinkRuns p = true) :
    gptpSyncStep 0 n false ns iv p = rtcFollow (gptpJudge (modGptp (fun g => { g with syncAt := some p.now, interval := iv, twoStep := none, time := some (ns + g.delay, p.now) }) p)) := by
  simp [gptpSyncStep, hu]

theorem gptpSyncStep_otherDomain {d n ns iv : Nat} {b : Bool} (hd : d ≠ 0) : gptpSyncStep d n b ns iv p = p := by
  simp [gptpSyncStep, hd]

theorem followUpStep_otherDomain {d n ns : Nat} (hd : d ≠ 0) : followUpStep d n ns p = p := by
  unfold followUpStep
  split
  · exact if_neg (by simp [hd])
  · rfl

theorem followUpStep_awaited {n ns at_ : Nat} (hu : uplinkRuns p = true) (h : p.bus.up.gptp.twoStep = some (n, at_)) :
    followUpStep 0 n ns p = rtcFollow (gptpJudge (modGptp (fun g => { g with twoStep := none, time := some (ns + g.delay, at_) }) p)) := by
  simp [followUpStep, h, hu]

theorem announceStep_otherDomain {d : Nat} {b : Bool} {o : Int} (hd : d ≠ 0) : announceStep d b o p = p := if_neg (by simp [hd])

/-- The rate ratio after a path-delay exchange (R251). -/
def pdelayRatio (p : State) (t3 t4 : Nat) : Option Nat := match p.bus.up.gptp.lastPd with
  | some (a, b) => if b < t4 then some ((t3 - a) * 1000000000 / (t4 - b)) else p.bus.up.gptp.ratio
  | none => p.bus.up.gptp.ratio

theorem pdelayStep_runs {t1 t2 t3 t4 : Nat} (k : Option Nat) (hu : uplinkRuns p = true) :
    pdelayStep k t1 t2 t3 t4 p = gptpJudge (modGptp (fun g => { g with ratio := pdelayRatio p t3 t4, lastPd := some (t3, t4), delay := ((t4 - t1) * (pdelayRatio p t3 t4).getD 1000000000 / 1000000000 - (t3 - t2)) / 2 })
      (match k with
        | some q => upSend (gptpFrame (.pdelayResp q)) p
        | none => p)) := by
  simp only [pdelayStep]
  rw [if_neg (by simp [hu])]
  cases k <;> rfl

end Time

section Gateway
variable {p : State}

theorem ntscfStep_stream {pdu : Bytes} {c : TwStream} (hu : uplinkRuns p = true) (h12 : 12 ≤ pdu.length) (h1500 : pdu.length ≤ 1500) (h0 : byte pdu 0 = 0x82) (h1 : byte pdu 1 / 16 % 8 = 0)
    (hc : (tw p).streams.find? (fun x => x.id == field pdu 4 8) = some c) :
    ntscfStep (tw p).uplink.vlan 0x22F0 pdu p = (acfList 375 ((pdu.drop 12).take (field pdu 1 2 % 2048))).foldl (routeEth c.stream)
      (modStream c.stream (fun x => { x with rxSeq := some (byte pdu 3), gaps :=
        if (match (getStream p c.stream).rxSeq with | some k => (k + 1) % 256 != byte pdu 3 | none => false) then satInc 0xFFFF x.gaps else x.gaps }) p) := by
  simp only [ntscfStep, hc]
  rw [if_neg (by simp [hu, h0, h1]; omega)] <;> rfl

theorem ntscfStep_other {v e : Nat} {pdu : Bytes} (h : v ≠ (tw p).uplink.vlan ∨ e ≠ 0x22F0 ∨ byte pdu 0 ≠ 0x82) : ntscfStep v e pdu p = p := by
  refine if_pos ?_
  rcases h with h | h | h <;> simp [h]

variable {n : Nat}

theorem getStream_modStream (h : n < p.bus.up.streams.length) (f : StreamSt → StreamSt) : getStream (modStream n f p) n = f (getStream p n) := getD_modAt_same f h _

theorem closeBatch_empty (h : (getStream p n).batch = []) : closeBatch n p = modStream n (fun x => { x with closeAt := none, batch := [] }) p := by
  simp [closeBatch, h]

theorem closeBatch_sends (h : (getStream p n).batch ≠ []) (hl : p.bus.up.link = true) (hu : uplinkRuns p = true) :
    closeBatch n p = upSend (ntscfFrame p n (getStream p n).seq (getStream p n).batch.flatten) (modStream n (fun x => { x with seq := (x.seq + 1) % 256 })
      (modStream n (fun x => { x with closeAt := none, batch := [] }) p)) := by
  simp [closeBatch, h, hl, hu]

theorem closeBatch_drops (h : (getStream p n).batch ≠ []) (hd : p.bus.up.link = false ∨ uplinkRuns p = false) :
    closeBatch n p = dropMsg n (getStream p n).batch.length (modStream n (fun x => { x with closeAt := none, batch := [] }) p) := by
  have hoff : ¬(p.bus.up.link && uplinkRuns p) = true := by rcases hd with hd | hd <;> simp [hd]
  simp only [closeBatch]
  rw [if_neg (by simpa using h), if_neg hoff]

theorem upSend_getLast? (f : UpOut) : (upSend f p).bus.up.sent.getLast? = some f := by
  simp only [upSend, modUp]
  rw [List.getLast?_drop, if_neg (by simp)]
  simp

theorem getStream_upSend (f : UpOut) : getStream (upSend f p) n = getStream p n := by
  simp only [getStream, upSend, modUp]

end Gateway

/-- Closing a stream's batch leaves it empty, with no time to close at (R256). -/
theorem closeBatch_closes {p : State} {n : Nat} (hn : n < p.bus.up.streams.length) : (getStream (closeBatch n p) n).batch = [] ∧ (getStream (closeBatch n p) n).closeAt = none := by
  by_cases hb : (getStream p n).batch = []
  · rw [closeBatch_empty hb, getStream_modStream hn]
    exact ⟨rfl, rfl⟩
  have hn1 : n < (modStream n (fun x => { x with closeAt := none, batch := [] }) p).bus.up.streams.length := by simpa [modStream, modUp] using hn
  by_cases hs : p.bus.up.link = true ∧ uplinkRuns p = true
  · rw [closeBatch_sends hb hs.1 hs.2, getStream_upSend, getStream_modStream hn1, getStream_modStream hn]
    exact ⟨rfl, rfl⟩
  · rw [closeBatch_drops hb (by simpa [Classical.or_iff_not_imp_left] using hs), dropMsg, getStream_modStream hn1, getStream_modStream hn]
    exact ⟨rfl, rfl⟩

/-- Settles O35: each event by what its step makes of the state at its time, and the closing of a batch. -/
theorem linAndUplinkEvents : Obligations.LinAndUplinkEvents := by
  refine ⟨fun s t => ?events, fun p n hn => ?batch⟩
  case events =>
    intro p
    refine ⟨fun ch c k a col h1 hc hk => ?slot, fun ch n h0 hn => ?fault, fun ch hd => ?start, fun sp hu hsp => ?up, fun up sp full hu h => ?down, fun hu => ?run, ?inv, fun n hd => ?close, fun n hd => ?wait⟩
    case slot =>
      intro slot whole
      refine ⟨slotError c slot a.isSome (respWhole c slot a || col) && !col, fun hw => ?_, fun hw => ?_, ?_⟩
      · rw [respWhole_iff.2 hw, Bool.true_or]
      · rw [Bool.eq_false_iff.2 (fun h => hw (respWhole_iff.1 h)), Bool.false_or]
      · exact does_of_eq (x := linSlotStep ch a col p) rfl (linSlotStep_runs h1 hc hk)
    case fault => exact does_of_eq (x := linFaultStep ch n p) rfl (if_pos (by simp [h0, hn]))
    case start => exact does_of_eq (x := linStartStep ch p) rfl (if_pos hd)
    case up => exact does_of_eq (x := linkPollStep true sp true p) rfl (linkPollStep_up hu hsp)
    case down => exact does_of_eq (x := linkPollStep up sp full p) rfl (linkPollStep_down hu h)
    case inv => exact does_of_eq (x := gptpInvalidStep p) rfl rfl
    case close => exact does_of_eq (x := batchCloseStep n p) rfl (if_pos hd)
    case wait => exact does_of_eq (x := batchCloseStep n p) rfl (if_neg (by rw [hd]; decide))
    case run =>
      refine ⟨fun n ns iv => ?_, fun n ns iv => ?_, fun d n b ns iv hd => ⟨?_, ?_, ?_⟩, fun n ns at_ h => ?_, fun t1 t2 t3 t4 => ?pdelay, fun o => ⟨?_, ?_⟩, fun a => ?_, fun a i n d hr hl => ?_,
        fun pdu c h12 h1500 h0 h1 hc => ?_, fun v e pdu h => ?_⟩
      · exact does_of_eq (x := gptpSyncStep 0 n true ns iv p) rfl (gptpSyncStep_twoStep hu)
      · exact does_of_eq (x := gptpSyncStep 0 n false ns iv p) rfl (gptpSyncStep_oneStep hu)
      · exact does_of_eq (x := gptpSyncStep d n b ns iv p) rfl (gptpSyncStep_otherDomain hd)
      · exact does_of_eq (x := followUpStep d n ns p) rfl (followUpStep_otherDomain hd)
      · exact does_of_eq (x := announceStep d b iv p) rfl (announceStep_otherDomain hd)
      · exact does_of_eq (x := followUpStep 0 n ns p) rfl (followUpStep_awaited hu h)
      case pdelay =>
        refine ⟨pdelayRatio p t3 t4, fun a b hl hb => ?_, fun hl => ?_, ?_⟩
        · simp only [pdelayRatio, hl, hb, if_true]
        · simp only [pdelayRatio, hl]
        · intro got
          exact ⟨does_of_eq (x := pdelayStep none t1 t2 t3 t4 p) rfl (pdelayStep_runs none hu), fun k => does_of_eq (x := pdelayStep (some k) t1 t2 t3 t4 p) rfl (pdelayStep_runs (some k) hu)⟩
      · exact does_of_eq (x := announceStep 0 true o p) rfl (if_pos (by simp [hu]))
      · exact does_of_eq (x := announceStep 0 false o p) rfl (if_neg (by simp))
      · exact does_of_eq (x := arpStep (tw p).uplink.vlan (tw p).uplink.ipv4 a p) rfl (if_pos (by simp [hu]))
      · exact does_of_eq (x := icmpStep (tw p).uplink.vlan (tw p).uplink.ipv4 a i n d p) rfl (if_pos (by simp [hu, hr, hl]))
      · exact does_of_eq (x := ntscfStep (tw p).uplink.vlan 0x22F0 pdu p) rfl (ntscfStep_stream hu h12 h1500 h0 h1 hc)
      · exact does_of_eq (x := ntscfStep v e pdu p) rfl (ntscfStep_other h)
  case batch =>
    intro b q
    obtain ⟨hbatch, hclose⟩ := closeBatch_closes hn
    have hn1 : n < (modStream n (fun x => { x with closeAt := none, batch := [] }) p).bus.up.streams.length := by simpa [modStream, modUp] using hn
    refine ⟨hbatch, hclose, fun hne hl hu => ?_, fun hne hd => ?_, fun he => ?_, ?_⟩
    · rw [show q = _ from closeBatch_sends hne hl hu]
      exact ⟨upSend_getLast? _, by rw [getStream_upSend, getStream_modStream hn1, getStream_modStream hn]⟩
    · rw [show q = _ from closeBatch_drops hne hd]
      exact ⟨by rw [dropMsg, getStream_modStream hn1, getStream_modStream hn], rfl⟩
    · rw [show q = _ from closeBatch_empty he]
      rfl
    · change (closeBatch n p).outs = p.outs ∧ (closeBatch n p).core = p.core ∧ (closeBatch n p).mill = p.mill
      unfold closeBatch
      dsimp only
      split
      · exact ⟨rfl, rfl, rfl⟩
      · split <;> exact ⟨rfl, rfl, rfl⟩

end Sys2Proof.Proofs
end

section
/-! The events a state holds back (R62): what neither reads nor changes them. -/

namespace Sys2Proof.Proofs
open Sys2Proof Sys2Proof.Machine Sys2Proof.Safety

/-- The state with other events held back. -/
def withHold (h : Option (List (Nat × Nat × Bytes))) (s : State) : State := { s with mbx := { s.mbx with hold := h } }

/-- A step that neither reads nor changes the events held back. -/
def HoldFree (f : State → State) : Prop := ∀ h s, f (withHold h s) = withHold h (f s)

theorem HoldFree.comp {f g : State → State} (hf : HoldFree f) (hg : HoldFree g) : HoldFree (fun s => f (g s)) := fun h s => (congrArg f (hg h s)).trans (hf h (g s))

theorem HoldFree.foldl {α : Type} {f : State → α → State} (hf : ∀ x, HoldFree (fun s => f s x)) (l : List α) : HoldFree (fun s => l.foldl f s) := by
  intro h s
  induction l generalizing s with
  | nil => rfl
  | cons x l ih => exact (congrArg (fun z => l.foldl f z) (hf x h s)).trans (ih (f s x))

theorem holdFree_ite {c : State → Prop} [∀ s, Decidable (c s)] (hc : ∀ h s, c (withHold h s) ↔ c s) {f g : State → State} (hf : HoldFree f) (hg : HoldFree g) :
    HoldFree (fun s => if c s then f s else g s) := by
  intro h s
  by_cases hs : c s
  · exact (if_pos ((hc h s).2 hs)).trans ((hf h s).trans (congrArg (withHold h) (if_pos hs).symm))
  · exact (if_neg (mt (hc h s).1 hs)).trans ((hg h s).trans (congrArg (withHold h) (if_neg hs).symm))

section Outputs

theorem holdFree_bump (a b n : Nat) : HoldFree (bump a b n) := fun _ _ => by unfold bump; split <;> rfl

theorem holdFree_countSwitchOns (old new : List Chan) : HoldFree (countSwitchOns old new) :=
  HoldFree.foldl (f := fun acc (e : (Chan × Chan) × Nat) => if e.1.1.drive.mode == 0 && e.1.2.drive.mode != 0 then bump 0x02 e.2 1 acc else acc)
    (fun x h s => by dsimp only; rw [holdFree_bump, apply_ite (withHold h)]) _

theorem holdFree_applyDrives : HoldFree applyDrives := fun h s =>
  holdFree_countSwitchOns s.outs.chans (stagger s (mapIdx (redrive false s) 0 s.outs.chans)) h { s with outs := { s.outs with chans := stagger s (mapIdx (redrive false s) 0 s.outs.chans) } }

theorem holdFree_outRequest (o m duty freq : Nat) : HoldFree (outRequest o m duty freq) := holdFree_applyDrives.comp (g := modChan o _) (fun _ _ => rfl)

theorem holdFree_modOwn (o : Nat) (f : Own → Own) : HoldFree (modOwn o f) := fun _ _ => by unfold modOwn; split <;> (try split) <;> rfl

end Outputs

section Responses

theorem holdFree_callReset (c : Cause) : HoldFree (callReset c) := by
  intro h s
  unfold callReset
  rw [show (withHold h s).resetDue = s.resetDue from rfl]
  cases s.resetDue with
  | none => rfl
  | some x => exact (apply_ite (withHold h) (resetRank c < resetRank x) { s with resetDue := some c } s).symm

theorem holdFree_delivered (f : Frame) : HoldFree (delivered f) := by
  intro h s
  unfold delivered
  cases f.accId with
  | none => rfl
  | some n =>
    dsimp only
    rw [show (withHold h s).mbx.resetAfter = s.mbx.resetAfter from rfl]
    cases s.mbx.resetAfter.find? (fun e => e.1 == n) with
    | none => rfl
    | some e => exact holdFree_callReset e.2 h { s with ao := { s.ao with aborts := s.ao.aborts.filter (fun a => a.id != n) }, mbx := { s.mbx with resetAfter := s.mbx.resetAfter.filter (fun x => x.1 != n) } }

theorem holdFree_pushFrame (t : Transport) (f : Frame) : HoldFree (pushFrame t f) := by
  intro h s
  cases t
  · simp only [pushFrame, apply_ite (withHold h)]
    rfl
  · rfl
  · simp only [pushFrame, apply_ite (withHold h)]
    rfl

theorem holdFree_sendFrame (t : Transport) (f : Frame) : HoldFree (sendFrame t f) := by
  intro h s
  simp only [sendFrame, holdFree_pushFrame t f h s, show reachable (withHold h s) = reachable s from rfl]
  split
  · exact holdFree_delivered f h _
  · rfl

theorem holdFree_respond (code st : Nat) (b : Bytes) (r : Req) : HoldFree (respond code st b r) := by
  intro h s
  unfold respond
  rw [show findSession (withHold h s) = findSession s from rfl, show recordOf (withHold h s) = recordOf s from rfl]
  dsimp only
  split
  · split
    · exact holdFree_sendFrame _ _ h s
    · exact holdFree_sendFrame _ _ h s
  · exact holdFree_sendFrame _ _ h s

theorem holdFree_modPort (t : Transport) (f : Port → Port) : HoldFree (modPort t f) := fun _ _ => by cases t <;> rfl

theorem getPort_withHold (h) (s : State) (t : Transport) : getPort (withHold h s) t = getPort s t := by cases t <;> rfl

theorem holdFree_freeSlot (t : Transport) (i q : Nat) : HoldFree (freeSlot t i q) := by
  intro h s
  simp only [freeSlot, getPort_withHold, holdFree_modPort t _ h s]
  split <;> rfl

theorem holdFree_finish (code st : Nat) (b : Bytes) (r : Req) : HoldFree (finish code st b r) := by
  intro h s
  simp only [finish]
  rw [show cacheResponse r (responseFrame code st b r) (withHold h s) = withHold h (cacheResponse r (responseFrame code st b r) s) from rfl, holdFree_respond,
    show recordOf (withHold h s) = recordOf s from rfl]
  split
  · refine holdFree_ite (c := fun _ => _) (fun _ _ => Iff.rfl) (f := holdSlot _ r.session r.seq) (fun _ _ => rfl) (holdFree_freeSlot _ _ _) h _
  · exact holdFree_freeSlot _ _ _ h _

theorem holdFree_complete (t : Transport) (i q st : Nat) (b : Bytes) : HoldFree (complete t i q st b) := by
  intro h s
  simp only [complete, getPort_withHold]
  split
  · exact holdFree_finish _ _ _ _ h s
  · rfl

end Responses

section Threads

theorem holdFree_closeWindow : HoldFree closeWindow := by
  intro h s
  simp only [closeWindow, apply_ite (withHold h)]
  rfl

theorem holdFree_switchTo (n : Nat) : HoldFree (switchTo n) :=
  holdFree_ite (c := fun s => (n == s.ext.cur && (getThread s n).live) = true) (fun _ _ => Iff.rfl) (f := fun s => s) (fun _ _ => rfl)
    (HoldFree.comp (f := fun q => let s3 := modRegs (fun _ => (getThread q n).regs) q
                                  { s3 with ext := { s3.ext with cur := n }, core := { s3.core with tdx := { s3.core.tdx with passed := none } } })
      (fun _ _ => rfl)
      (HoldFree.comp (f := fun q => if (getThread q q.ext.cur).live && q.core.r.psr.u then modThread q.ext.cur (fun t => { t with regs := q.core.r }) q else q)
        (holdFree_ite (f := fun q => modThread q.ext.cur (fun t => { t with regs := q.core.r }) q) (g := fun q => q) (fun _ _ => Iff.rfl) (fun _ _ => rfl) (fun _ _ => rfl))
        holdFree_closeWindow))

theorem holdFree_reschedule : HoldFree reschedule := by
  intro h s
  unfold reschedule
  rw [holdFree_closeWindow h s, show pickThread (withHold h s) = pickThread s from rfl, show (withHold h s).ext = s.ext from rfl]
  dsimp only
  cases pickThread s s.ext.cur with
  | none => exact (apply_ite (withHold h) ((!s.core.r.psr.u) = true) s s).symm
  | some n =>
    dsimp only
    rw [holdFree_switchTo]
    simp only [apply_ite (withHold h)]
    rfl

theorem holdFree_modThreadRegs (n : Nat) (f : Regs → Regs) : HoldFree (modThreadRegs n f) := by
  intro h s
  simp only [modThreadRegs, apply_ite (withHold h)]
  rfl

theorem holdFree_threadReturn (n st : Nat) (l : List Nat) : HoldFree (threadReturn n st l) :=
  holdFree_reschedule.comp (HoldFree.comp (f := modThread n _) (fun _ _ => rfl) (holdFree_modThreadRegs n _))

end Threads

section Claims

theorem holdFree_answerClaim (c : Claim) (st : Nat) (o : Owner) (n : Nat) : HoldFree (answerClaim c st o n) := by
  intro h s
  unfold answerClaim
  split
  · unfold answerDiag
    split
    · exact (congrArg _ (holdFree_outRequest _ _ _ _ h s)).trans (holdFree_complete _ _ _ _ _ h _)
    · exact holdFree_complete _ _ _ _ _ h s
  · exact holdFree_complete _ _ _ _ _ h s
  · exact holdFree_threadReturn _ _ _ h s

theorem getOwn_withHold (h) (s : State) (o : Nat) : getOwn (withHold h s) o = getOwn s o := rfl

theorem holdFree_grant (o : Owner) (n obj : Nat) (i : Option (Transport × Nat)) : HoldFree (grant o n obj i) := fun h s => holdFree_modOwn obj _ h s

/-- The answers to the claims on an object, once its owner is decided (R75). -/
theorem holdFree_answers (before held after : Own) (w : Option Owner) (cs : List Claim) :
    HoldFree (fun s => cs.foldl (fun acc c =>
      if c.owner == before.owner then answerClaim c 0x00 before.owner before.prio acc
      else if w == some c.owner then answerClaim c 0x00 held.owner held.prio acc
      else answerClaim c 0x0F after.owner after.prio acc) s) :=
  HoldFree.foldl (f := fun acc c =>
      if c.owner == before.owner then answerClaim c 0x00 before.owner before.prio acc
      else if w == some c.owner then answerClaim c 0x00 held.owner held.prio acc
      else answerClaim c 0x0F after.owner after.prio acc) (fun c h s => by
    dsimp only
    rw [holdFree_answerClaim, holdFree_answerClaim, holdFree_answerClaim, apply_ite (withHold h), apply_ite (withHold h)]) cs

theorem holdFree_decideObject (o : Nat) (cs : List Claim) : HoldFree (decideObject o cs) := by
  intro h s
  unfold decideObject
  dsimp only
  rw [getOwn_withHold]
  cases (joints cs []).find? (fun j => j.owner == (getOwn s o).owner) <;> cases bestJoint ((joints cs []).filter (fun j => j.owner != (getOwn s o).owner))
  case none.none => exact holdFree_answers (getOwn s o) (getOwn s o) (getOwn s o) none cs h s
  case some.none j => 
    simp only [holdFree_modOwn _ _ h]
    exact holdFree_answers (getOwn s o) _ _ none cs h _
  case none.some j =>
    dsimp only
    rw [getOwn_withHold]
    by_cases hp : (getOwn s o).prio < j.prio
    · simp only [if_pos hp, holdFree_grant _ _ _ _ h]
      exact holdFree_answers (getOwn s o) _ _ (some j.owner) cs h _
    · simp only [if_neg hp]
      exact holdFree_answers (getOwn s o) _ _ none cs h _
  case some.some i j =>
    simp only [holdFree_modOwn _ _ h, getOwn_withHold]
    by_cases hp : (getOwn (modOwn o (fun x => { x with prio := i.prio, sess := if i.owner == .ext then none else i.sess }) s) o).prio < j.prio
    · simp only [if_pos hp, holdFree_grant _ _ _ _ h]
      exact holdFree_answers (getOwn s o) _ _ (some j.owner) cs h _
    · simp only [if_neg hp]
      exact holdFree_answers (getOwn s o) _ _ none cs h _

/-- Of one claim, `arbitrationStep` decides its object, whether or not events are held back. -/
theorem arbitrationStep_one {c : Claim} {s : State} (hc : s.outs.claims = [c]) : arbitrationStep s = decideObject c.object [c] { s with outs := { s.outs with claims := [] } } := by
  have harb : ∀ x : State, x.outs.claims = [c] → arbitrate x = decideObject c.object [c] { x with outs := { x.outs with claims := [] } } := by
    intro x hx
    simp [arbitrate, hx, claimObjects]
  unfold arbitrationStep eventsAfter
  split
  · exact harb s hc
  · next hnone =>
    have hh : s.mbx.hold = none := by simpa using hnone
    have hs : withHold none { s with outs := { s.outs with claims := [] } } = { s with outs := { s.outs with claims := [] } } := by rw [withHold, ← hh]
    refine (congrArg releaseEvents (harb { s with mbx := { s.mbx with hold := some [] } } hc)).trans ?_
    change releaseEvents (decideObject c.object [c] (withHold (some []) { s with outs := { s.outs with claims := [] } })) = _
    rw [holdFree_decideObject]
    conv_rhs => rw [← hs, holdFree_decideObject]
    rfl

theorem arbitrationStep_none {s : State} (hc : s.outs.claims = []) : arbitrationStep s = s := by
  have harb : ∀ x : State, x.outs.claims = [] → arbitrate x = x := by
    intro x hx
    unfold arbitrate
    rw [hx]
    change { x with outs := { x.outs with claims := [] } } = x
    rw [← hx]
  unfold arbitrationStep eventsAfter
  split
  · exact harb s hc
  · next hnone =>
    have hh : s.mbx.hold = none := by simpa using hnone
    refine (congrArg releaseEvents (harb { s with mbx := { s.mbx with hold := some [] } } hc)).trans ?_
    change { s with mbx := { s.mbx with hold := none } } = s
    rw [← hh]

end Claims
end Sys2Proof.Proofs
end

section
/-! Sessions and claims that run out, the arbiter's step, the levels mode policy follows and its transitions (R17 to R22, R27, R60, R74, R83, R93, R154). -/

namespace Sys2Proof.Proofs
open Sys2Proof Sys2Proof.Machine Sys2Proof.Safety

section Timeouts
variable {p : State}

theorem sessionIdleStep_some {tr : Transport} {id : Nat} {x : Session} (hx : findSession p tr id = some x) (hid : x.id ≠ 0) :
    sessionIdleStep tr id p = if x.idleAt ≤ p.now then closeSession tr id p else p := by
  simp [sessionIdleStep, hx, hid]

theorem unprovenStep_some {tr : Transport} {id : Nat} {x : Session} (hx : findSession p tr id = some x) (hid : x.id ≠ 0) :
    unprovenStep tr id p = if x.proven = false ∧ x.proveAt ≤ p.now then closeSession tr id p else p := by
  simp [unprovenStep, hx, hid]

theorem holdExpiryStep_some {k : Nat} {x : Transport × Nat} (h : p.mode.hold = some (k, x)) :
    holdExpiryStep p = if k ≤ p.now then { p with mode := { p.mode with hold := none }, work := true } else p := by
  simp only [holdExpiryStep, h]

theorem loseIgn_first (h : p.mode.ignOffAt = none) :
    loseIgn p = issue 0x28 0x01 0 { p with mode := { p.mode with ignValid := false, ignTimeoutAt := none, ignOffAt := some (p.now + 600000000) } } := by
  simp only [loseIgn]
  rw [if_neg (by simp [h])]
  rfl

theorem triggerStep_ign {v : Option Ign} (hr : smisaRuns p = true) (hk : (tw p).mode.ign.kind ≠ 0xFF) :
    triggerStep (.ign v) p = match v with
      | some v => setIgn (sourceCode (tw p).mode.ign) v p
      | none => loseIgn p := by
  simp only [triggerStep]
  rw [if_neg (by simp [hr])]
  cases v <;> exact if_neg (by simpa using hk)

theorem triggerStep_lock {v : LockState} (hr : smisaRuns p = true) (hk : (tw p).mode.lock.kind ≠ 0xFF) : triggerStep (.lock v) p = setLock (sourceCode (tw p).mode.lock) v p := by
  simp only [triggerStep]
  rw [if_neg (by simp [hr])]
  exact if_neg (by simpa using hk)

theorem setIgn_change {src : Nat} {v : Ign} (h : p.mode.ign ≠ v) :
    setIgn src v p = levelChanged src (
      let q := { p with mode := { p.mode with ign := v, ignValid := true, ignTimeoutAt := sourceTimeout p, ignOffAt := none, crankSpent := p.mode.crankSpent && v == .crank } }
      if v = .off then wiperRest q else q) := by
  simp only [setIgn]
  rw [if_neg (by simpa using h)]
  simp only [beq_iff_eq]

theorem setLock_change {src : Nat} {v : LockState} (h : p.mode.lock ≠ v) :
    setLock src v p = levelChanged src { p with mode := { p.mode with lock := v, lockAt := if v = .locked then p.now else p.mode.lockAt } } := by
  simp only [setLock]
  rw [if_neg (by simpa using h)]
  simp only [beq_iff_eq]

theorem inactivityStep_service (hr : policyRuns p = true) (hm : p.mode.mode = .service) (h : p.mode.serviceAt + 1800000000 ≤ p.now) : inactivityStep p = enterMode (ignMode p) 0 p := by
  simp only [inactivityStep, leaveService]
  rw [hr, Bool.true_and, if_pos (decide_eq_true (by simpa [sec] using h)), if_pos (by simp [hm])]

theorem inactivityStep_waits (h : p.now < p.mode.serviceAt + 1800000000) : inactivityStep p = p :=
  if_neg (by simp [sec, Nat.not_le.2 h])

end Timeouts

section Policy
variable {p : State}

/-- A command that evaluates mode policy does so where policy runs and its own condition holds (R18). -/
theorem does_modeEval {s : State} {t : Nat} {c : Instr} (hc : c ∈ [Instr.modeEvaluation t, .approachLingerElapsed t, .approachTimeout t])
    (hm : c = .modeEvaluation t ∨ (advance t s).mode.mode = .approach) (hl : c = .approachLingerElapsed t → lingerOver (advance t s) = true)
    (ha : c = .approachTimeout t → approachOver (advance t s) = true) : Does c s (modeEval 0 (advance t s)) := by
  have hcases : c = .modeEvaluation t ∨ c = .approachLingerElapsed t ∨ c = .approachTimeout t := by simpa using hc
  rcases hcases with rfl | rfl | rfl
  · exact does_of_eq (x := modeEvalStep (advance t s)) rfl rfl
  · have hmode := hm.resolve_left (by simp)
    exact does_of_eq (x := lingerStep (advance t s)) rfl (if_pos (by rw [hmode, hl rfl]; rfl))
  · have hmode := hm.resolve_left (by simp)
    exact does_of_eq (x := approachStep (advance t s)) rfl (if_pos (by rw [hmode, ha rfl]; rfl))

theorem policyStep_run (h : p.mode.mode ∈ [.parked, .approach, .accessory]) (hi : policyIgn p = .run) : policyStep 0 p = enterMode .run 0 p := by
  have hm : p.mode.mode = .parked ∨ p.mode.mode = .approach ∨ p.mode.mode = .accessory := by simpa using h
  rcases hm with hm | hm | hm <;> simp [policyStep, hm, hi]

theorem policyStep_accessory (h : p.mode.mode ∈ [.parked, .approach, .run]) (hi : policyIgn p = .acc) : policyStep 0 p = enterMode .accessory 0 p := by
  have hm : p.mode.mode = .parked ∨ p.mode.mode = .approach ∨ p.mode.mode = .run := by simpa using h
  rcases hm with hm | hm | hm <;> simp [policyStep, hm, hi]

theorem policyStep_off (h : p.mode.mode = .accessory ∨ p.mode.mode = .run) (hi : policyIgn p = .off) : policyStep 0 p = enterMode .approach 0 p := by
  rcases h with hm | hm <;> simp [policyStep, hm, hi]

theorem policyStep_parked_off (h : p.mode.mode = .parked) (hi : policyIgn p = .off) :
    policyStep 0 p = if p.mode.lock = .unlocked ∨ p.mode.door = true ∨ p.mode.approachWake = true then enterMode .approach 0 p else p := by
  simp [policyStep, h, hi, or_assoc]

theorem policyStep_approach_off (h : p.mode.mode = .approach) (hi : policyIgn p = .off) :
    policyStep 0 p = if (p.mode.lock = .locked ∧ p.mode.door = false ∧ lingerOver p = true) ∨ ((p.mode.lock = .unlocked ∨ p.mode.lock = .none) ∧ approachOver p = true) then parkEntry 1 0 p else p := by
  by_cases hl : p.mode.lock = .locked ∧ p.mode.door = false ∧ lingerOver p = true
  · rw [if_pos (Or.inl hl)]
    simp [policyStep, h, hi, hl.1, hl.2.1, hl.2.2]
  · by_cases ha : (p.mode.lock = .unlocked ∨ p.mode.lock = .none) ∧ approachOver p = true
    · rw [if_pos (Or.inr ha)]
      simp only [policyStep, h, hi]
      rcases ha with ⟨hu | hu, ha⟩ <;> simp [hu, ha]
    · rw [if_neg (fun hn => hn.elim hl ha)]
      simp only [policyStep, h, hi]
      rw [if_neg (by decide), if_neg (by decide), if_neg (by simpa [and_assoc] using hl), if_neg (by simpa using ha)]

theorem policyStep_service (h : p.mode.mode = .service) : policyStep 0 p = if serviceOpen p = true then p else enterMode (ignMode p) 0 p := by
  simp only [policyStep, h]

end Policy

/-- Settles O36: each event by what its step makes of the state at its time; the arbiter's step by `arbitrationStep_one`. -/
theorem sessionsClaimsAndModes : Obligations.SessionsClaimsAndModes := by
  intro s t p evals
  refine ⟨fun tr id x hx hid => ?session, fun c hc => does_of_eq (x := arbitrationStep p) rfl (arbitrationStep_one hc), fun hc => does_of_eq (x := arbitrationStep p) rfl (arbitrationStep_none hc),
    fun o hown hdue => does_of_eq (x := leaseStep o p) rfl (if_pos (by simp [hown, hdue])), fun o h => does_of_eq (x := leaseStep o p) rfl (if_neg (by rcases h with h | h <;> simp [h])),
    fun k x hh hk => does_of_eq (x := holdExpiryStep p) rfl ((holdExpiryStep_some hh).trans (if_pos hk)),
    fun k x hh hk => does_of_eq (x := holdExpiryStep p) rfl ((holdExpiryStep_some hh).trans (if_neg (Nat.not_le.2 hk))), fun hr => ?levels, fun c hc hr hm => ?policy,
    fun hr => does_of_eq (x := modeEvalStep p) rfl (if_neg (by simp [hr])), fun hr hm h => does_of_eq (x := inactivityStep p) rfl (inactivityStep_service hr hm h),
    fun h => does_of_eq (x := inactivityStep p) rfl (inactivityStep_waits h), fun hc hd => does_of_eq (x := crankLimitStep p) rfl (if_pos (by simp [hc, hd])),
    fun h => does_of_eq (x := crankLimitStep p) rfl (if_neg (by rcases h with h | h <;> simp [h])), fun hm harm hlev hqual hreset hsup => ?wake0,
    fun hm => does_of_eq (x := wake0Step p) rfl (if_neg (by simp [hm]))⟩
  case session =>
    refine ⟨fun h => ?_, fun h => ?_, fun hp h => ?_, fun h => ?_⟩
    · exact does_of_eq (x := sessionIdleStep tr id p) rfl ((sessionIdleStep_some hx hid).trans (if_pos h))
    · exact does_of_eq (x := sessionIdleStep tr id p) rfl ((sessionIdleStep_some hx hid).trans (if_neg (Nat.not_le.2 h)))
    · exact does_of_eq (x := unprovenStep tr id p) rfl ((unprovenStep_some hx hid).trans (if_pos ⟨hp, h⟩))
    · refine does_of_eq (x := unprovenStep tr id p) rfl ((unprovenStep_some hx hid).trans (if_neg ?_))
      rintro ⟨hp, hd⟩
      exact h.elim (fun h => absurd (hp.symm.trans h) (by decide)) (fun h => Nat.not_le.2 h hd)
  case levels =>
    refine ⟨fun hk v hv => ?_, fun hk hn => ?_, fun hk v hv => ?_, fun hd hn => ?_, fun hd => ?_, fun hd hoff => ?_, fun hd => ?_⟩
    · exact does_of_eq (x := triggerStep (.ign (some v)) p) rfl ((triggerStep_ign hr hk).trans (setIgn_change hv))
    · exact does_of_eq (x := triggerStep (.ign none) p) rfl ((triggerStep_ign hr hk).trans (loseIgn_first hn))
    · exact does_of_eq (x := triggerStep (.lock v) p) rfl ((triggerStep_lock hr hk).trans (setLock_change hv))
    · exact does_of_eq (x := ignTimeoutStep p) rfl ((if_pos (by simp [hr, hd])).trans (loseIgn_first hn))
    · exact does_of_eq (x := ignTimeoutStep p) rfl (if_neg (by simp [hd]))
    · exact does_of_eq (x := ignInvalidStep p) rfl (if_pos (by simp [hr, hd, hoff]))
    · exact does_of_eq (x := ignInvalidStep p) rfl (if_neg (by simp [hd]))
  case policy =>
    intro after acc off linger idle hl ha
    have does : ∀ {q}, policyStep 0 p = q → Does c s (crankFollow q) := by
      intro q hq
      have hd := does_modeEval hc hm hl ha
      rwa [modeEval, if_pos hr, hq] at hd
    refine ⟨fun h hi => does (policyStep_run h hi), fun h hi => does (policyStep_accessory ?_ hi), fun h hi ho => does ((policyStep_parked_off h hi).trans (if_pos ho)),
      fun h hi hu hd hw => does ((policyStep_parked_off h hi).trans (if_neg ?_)), fun h hi ho => does ((policyStep_approach_off h hi).trans (if_pos ho)),
      fun h hi hnl hni => does ((policyStep_approach_off h hi).trans (if_neg (fun hn => hn.elim hnl hni))), fun h hi => does (policyStep_off (.inl h) hi), fun h hi => does (policyStep_accessory ?_ hi),
      fun h hi => does (policyStep_off (.inr h) hi), fun h ho => does ((policyStep_service h).trans (if_pos ho)), fun h ho => does ((policyStep_service h).trans (if_neg ?_))⟩
    · simp only [List.mem_cons, List.not_mem_nil, or_false] at h ⊢
      exact h.imp_right .inl
    · rintro (hn | hn | hn)
      · exact hu hn
      · exact absurd (hd.symm.trans hn) (by decide)
      · exact absurd (hw.symm.trans hn) (by decide)
    · rw [h]; decide
    · rw [ho]; decide
  case wake0 =>
    intro q still
    have hstep : wake0Step p = if p.pwr.shutdown.isSome && !heldTransport p then wakeEvent 0x01 q
        else if p.env.vbat < 5500 then { q with ao := { q.ao with wakeHeld := some 0x01 } } else callReset .transportExit q :=
      if_pos (by simp only [hm, harm, hlev, hqual, hreset, hsup]; decide)
    have hstill : still ↔ ¬(p.pwr.shutdown.isSome && !heldTransport p) = true := by
      simp only [still, Bool.and_eq_true, Bool.not_eq_true', not_and_or, Option.not_isSome_iff_eq_none, Bool.not_eq_false]
    refine ⟨fun h hv => ?_, fun h hv => ?_, fun h => ?_⟩
    · exact does_of_eq (x := wake0Step p) rfl (hstep.trans ((if_neg (hstill.1 h)).trans (if_neg (Nat.not_lt.2 hv))))
    · exact does_of_eq (x := wake0Step p) rfl (hstep.trans ((if_neg (hstill.1 h)).trans (if_pos hv)))
    · exact does_of_eq (x := wake0Step p) rfl (hstep.trans (if_pos (not_not.1 (mt hstill.2 h))))

end Sys2Proof.Proofs
end

section
/-! Supply, shutdown, wake, clock and reset events (R391 to R424, R431 to R439, R445). -/

namespace Sys2Proof.Proofs
open Sys2Proof Sys2Proof.Machine Sys2Proof.Safety

section Supply
variable {p : State} {mv : Nat}

/-- A new supply voltage changes the environment and, when it is low, the switch polls alone. -/
theorem setVbat_frame (mv : Nat) (p : State) : ∃ env scan, setVbat mv p = { p with env := env, scan := scan } := by
  unfold setVbat suspendPolls
  dsimp only
  split <;> exact ⟨_, _, rfl⟩

@[simp] theorem setVbat_pwr : (setVbat mv p).pwr = p.pwr := by obtain ⟨_, _, e⟩ := setVbat_frame mv p; rw [e]
@[simp] theorem setVbat_ao : (setVbat mv p).ao = p.ao := by obtain ⟨_, _, e⟩ := setVbat_frame mv p; rw [e]
@[simp] theorem setVbat_mode : (setVbat mv p).mode = p.mode := by obtain ⟨_, _, e⟩ := setVbat_frame mv p; rw [e]

theorem supplyTriggerStep_low (h : mv < 5500) (hm : p.mode.mode ≠ .transport) (ho : p.pwr.supplyOff = false) (hr : p.pwr.inReset = false) (hb : p.boot.runs = 1 ∨ p.boot.runs = 2) :
    supplyTriggerStep mv p = supplyShutdown (setVbat mv p) := by
  refine if_pos ?_
  rcases hb with hb | hb <;> simp [h, hm, ho, hr, hb]

theorem supplyTriggerStep_high (h : 5500 ≤ mv) : supplyTriggerStep mv p = setVbat mv p := if_neg (by simp [Nat.not_lt.2 h])

theorem supplyShutdown_none (h : p.pwr.shutdown = none) : supplyShutdown p = beginShutdown 0 2 p := by
  simp only [supplyShutdown, h]

theorem supplyShutdown_supply {d : Shutdown} (h : p.pwr.shutdown = some d) (ht : d.target = 0) : supplyShutdown p = p := by
  simp [supplyShutdown, h, ht]

theorem supplyShutdown_turns {d : Shutdown} (h : p.pwr.shutdown = some d) (ht : d.target ≠ 0) (h1 : d.step ≠ 1) :
    supplyShutdown p = { p with pwr := { p.pwr with shutdown := some { d with target := 0, wake := none, abort := false, supplyBack := false } } } := by
  simp [supplyShutdown, h, ht, h1]

theorem supplyReturnStep_back {d : Shutdown} (h : p.pwr.shutdown = some d) (ht : d.target = 0) (hv : 6000 ≤ mv) :
    supplyReturnStep mv p = if d.step < 3 then abortShutdown (setVbat mv p) else { setVbat mv p with pwr := { p.pwr with shutdown := some { d with supplyBack := true } } } := by
  simp [supplyReturnStep, h, ht, hv]

theorem supplyReturnStep_not (h : p.pwr.shutdown = none ∨ mv < 6000) : supplyReturnStep mv p = setVbat mv p := by
  simp only [supplyReturnStep, setVbat_pwr]
  cases hs : p.pwr.shutdown with
  | none => rfl
  | some d => exact if_neg (by have hv := h.resolve_left (by simp [hs]); simp [Nat.not_le.2 hv])

theorem wakeHeldStep_release {src : Nat} (h : p.ao.wakeHeld = some src) (hv : 6000 ≤ mv) :
    wakeHeldStep mv p = if p.pwr.shutdown.isNone && p.pwr.asleep then wakeEvent src { setVbat mv p with ao := { p.ao with wakeHeld := none } }
      else if p.mode.mode == .transport && (p.pwr.shutdown.isNone || heldTransport (setVbat mv p)) then callReset .transportExit { setVbat mv p with ao := { p.ao with wakeHeld := none } }
      else setVbat mv p := by
  simp only [wakeHeldStep, setVbat_ao, setVbat_pwr, setVbat_mode, h]
  exact if_neg (Nat.not_lt.2 hv)

theorem wakeHeldStep_not (h : p.ao.wakeHeld = none ∨ mv < 6000) : wakeHeldStep mv p = setVbat mv p := by
  simp only [wakeHeldStep, setVbat_ao]
  cases hs : p.ao.wakeHeld with
  | none => rfl
  | some src => exact if_pos (h.resolve_left (by simp [hs]))

end Supply

section Shutdowns
variable {p : State} {d : Shutdown}

theorem stepCompleteStep_some (h : p.pwr.shutdown = some d) : stepCompleteStep p = stepDone d p := by
  simp only [stepCompleteStep, h]

theorem stepDone_first (h : d.step = 1) : stepDone d p = if d.target ≠ 0 ∧ (p.mill.parking = true ∨ p.outs.wiper.phase = .parking) then p
    else { p with pwr := { p.pwr with shutdown := some { d with step := d.step + 1 } } } := by
  simp [stepDone, h]

theorem stepDone_last (h : 5 ≤ d.step) : stepDone d p = finishShutdown d p := by
  unfold stepDone
  split
  case h_5 => rfl
  all_goals omega

theorem parked_of_awakeOver (h : awakeOver p = true) : p.mode.mode = .parked := by
  simp only [awakeOver, Bool.and_eq_true, beq_iff_eq] at h
  exact h.1.2

theorem awakeExpiryStep_over (h : awakeOver p = true) : awakeExpiryStep p = if awakeOver (modeEval 0 p) = true then parkEntry 1 0 (modeEval 0 p) else modeEval 0 p := by
  simp only [awakeExpiryStep, h, if_true]

theorem policyShutdownStep_parked (h : p.mode.mode = .parked) : policyShutdownStep 1 p = awakeExpiryStep p := by
  simp [policyShutdownStep, h]

theorem policyShutdownStep_approach (h : p.mode.mode = .approach) : policyShutdownStep 1 p = modeEval 0 p := by
  simp [policyShutdownStep, h]

/-- The state after a refused entry is tried again (R405). -/
def entryTried (p : State) : State := match p.pwr.shutdown with
  | some d => if d.target = 2 ∧ 5 ≤ d.step then transportEnd d p else p
  | none => if p.pwr.inReset || p.pwr.supplyOff then p else retryEntries p

theorem entryRetryStep_eq : entryRetryStep p = if (entryTried p).pwr.parkRefused = true then
      (if (entryTried p).mode.mode = .approach then modeEval 0 (entryTried p) else if awakeOver (entryTried p) = true then parkEntry 1 0 (entryTried p) else entryTried p)
    else entryTried p := by
  unfold entryRetryStep entryTried
  cases p.pwr.shutdown <;> simp only [beq_iff_eq, Bool.and_eq_true, decide_eq_true_eq]

theorem domainOnStep_rises {d : Domain} (hd : d ∉ [Domain.svc, .mema, .memb, .nvm, .enc]) (ht : domTarget p d = .on) (hr : p.pwr.inReset = false) (ho : p.pwr.supplyOff = false) (hg : p.ao.grave = none)
    (hp : p.pwr.full = true ∨ p.pwr.lowPower = true) :
    domainOnStep d p = if cranking p = true ∧ p.pwr.override.getD (domCode d) none = none then p else raiseDomain d .on p := by
  have hmem : d ∉ [Domain.svc, .mema, .memb, .nvm] ∧ d ≠ .enc := by simpa [not_or, and_assoc] using hd
  have hc : [Domain.svc, .mema, .memb, .nvm].contains d = false := by simpa using hmem.1
  have hpow : (p.pwr.full || p.pwr.lowPower) = true := by simpa using hp
  simp only [domainOnStep, hc, ht, hr, ho, hg, hpow]
  simp [hmem.2]

theorem domainOnStep_not {d : Domain} (h : d ∈ [Domain.svc, .mema, .memb, .nvm] ∨ domTarget p d ≠ .on) : domainOnStep d p = p := by
  refine if_pos ?_
  rcases h with h | h
  · rw [List.contains_iff_mem.2 h]; simp only [Bool.true_or]
  · simp [h]

theorem armedSource_timer {k : Nat} (hw : (tw p).power.wakeIntS ≠ 0) (hk : p.pwr.asleepAt = some k) (h : k + 1000000 * (tw p).power.wakeIntS ≤ p.now) : armedSource p 0x60 = true := by
  have hdue : (decide (k + sec (tw p).power.wakeIntS ≤ p.now)) = true := decide_eq_true (by rw [sec, Nat.mul_comm]; exact h)
  simp only [armedSource, hk, hdue]
  simpa using hw

theorem armedSource_timer_off (hw : (tw p).power.wakeIntS = 0) : armedSource p 0x60 = false := by
  simp [armedSource, hw]

end Shutdowns

section Resets
variable {p : State}

theorem callReset_none (c : Cause) (h : p.resetDue = none) : callReset c p = { p with resetDue := some c } := by
  simp only [callReset, h]

theorem callReset_some {c x : Cause} (h : p.resetDue = some x) : callReset c p = if resetRank c < resetRank x then { p with resetDue := some c } else p := by
  simp only [callReset, h]

theorem resetRank_order (d : Domain) : [Cause.por, .bor, .lpbo, .pin, .wdt, .cfr, .cmd, .dom d, .encr].Pairwise (fun a b => resetRank a < resetRank b) := by
  cases d <;> decide

theorem clockCheck_failed : clockCheck { p with pwr := { p.pwr with xtalOk := false } } =
    if p.pwr.full && !p.pwr.fallback then enterFallback { p with pwr := { p.pwr with xtalOk := false } } else { p with pwr := { p.pwr with xtalOk := false } } := by
  simp only [clockCheck, Bool.not_false, Bool.true_and]

theorem wdtStep_fed {gap : Nat} (hon : isOn p .svc = true) (hb : p.boot.runs = 1 ∨ p.boot.runs = 2) (hg : p.pwr.wdtAt + gap ≤ p.now) :
    wdtStep gap p = if 4 * gap < 1000 * (tw p).power.wdtMs ∨ 1000 * (tw p).power.wdtMs < gap then callReset .wdt p else { p with pwr := { p.pwr with wdtAt := p.now } } := by
  have hgap : gap ≤ p.now - p.pwr.wdtAt := by omega
  have hruns : (p.boot.runs == 1 || p.boot.runs == 2) = true := by simpa using hb
  simp [wdtStep, hon, hruns, hgap, wdtFails, ms, Nat.mul_comm _ 1000]

theorem pinResetStep_low {n h : Nat} {csn : Bool} (hr : p.pwr.inReset = false) (hn : 1000 ≤ n) : pinResetStep false n csn h p = deviceReset .pin { p with env := { p.env with rstn := false } } := by
  simp only [pinResetStep, hr, Bool.false_or, decide_eq_true_eq, Bool.false_eq_true, if_false]
  rw [if_neg (by omega), if_pos hn]
  rfl

theorem pinResetStep_glitch {n h : Nat} {csn : Bool} (hn : n < 100) : pinResetStep false n csn h p = p := by
  simp [pinResetStep, hn]

theorem pinResetStep_release {n h : Nat} {csn : Bool} (hr : p.pwr.inReset = true) :
    pinResetStep true n csn h p = startDevice p.boot.cause (pinLevel p 0 && csn && decide (100 ≤ h)) { p with env := { p.env with rstn := true }, pwr := { p.pwr with inReset := false, wdtAt := p.now } } := by
  simp only [pinResetStep, hr, if_true, rescueRequest]

theorem aokFailStep_fails {us : Nat} (h : 250 ≤ us) (ho : p.ao.onAorc = false) :
    aokFailStep us p = if isOn p .svc = true then issueAt 0x09 0x02 0x01 0 { p with ao := { p.ao with onAorc := true, aokFailHeld := false } }
      else { p with ao := { p.ao with onAorc := true, aokFailHeld := true } } := by
  simp only [aokFailStep, ho, Nat.not_lt.2 h, decide_false, Bool.or_false, Bool.false_eq_true, if_false, aokReport, Bool.true_and]
  rfl

end Resets

/-- Settles O38: each event by what its step makes of the state at its time, and the order of the resets. -/
theorem powerWakeAndResetEvents : Obligations.PowerWakeAndResetEvents := by
  refine ⟨fun s t => ?events, fun c p => ⟨resetRank_order, callReset_none c, fun x hx h => (callReset_some hx).trans (if_pos h), fun x hx h => (callReset_some hx).trans (if_neg (Nat.not_lt.2 h))⟩⟩
  intro p at_
  refine ⟨fun mv hv hm ho hr hb => ?trigger, fun mv hv => does_of_eq (x := supplyTriggerStep mv p) rfl (supplyTriggerStep_high hv), fun mv d hs ht hv => ?back,
    fun mv h => does_of_eq (x := supplyReturnStep mv p) rfl (supplyReturnStep_not h), fun mv ho hv hr => does_of_eq (x := supplyRestartStep mv p) rfl (if_pos (by simp [ho, hv, hr])),
    fun mv h => does_of_eq (x := supplyRestartStep mv p) rfl (if_neg (by rcases h with h | h <;> simp [h])), fun d hd => ?steps,
    fun hn => does_of_eq (x := stepCompleteStep p) rfl (by simp only [stepCompleteStep, hn]), fun ha => ?awake, fun ha => does_of_eq (x := awakeExpiryStep p) rfl (if_neg (by rw [ha]; decide)),
    fun hm => does_of_eq (x := policyShutdownStep 1 p) rfl (policyShutdownStep_approach hm), ?retry, fun d hd ht hr ho hg hp => ?domain, fun d h => does_of_eq (x := domainOnStep d p) rfl (domainOnStep_not h),
    fun src hm ha => does_of_eq (x := wakeStep src p) rfl (if_pos (by simp [hm, ha])), fun src h => does_of_eq (x := wakeStep src p) rfl (if_neg (by rcases h with h | h <;> simp [h])),
    fun k hm hw hk h => does_of_eq (x := wakeStep 0x60 p) rfl (if_pos (by simp [hm, armedSource_timer hw hk h])), fun hw => does_of_eq (x := wakeStep 0x60 p) rfl (if_neg (by simp [armedSource_timer_off hw])),
    fun mv src hh hv hs ha => does_of_eq (x := wakeHeldStep mv p) rfl ((wakeHeldStep_release hh hv).trans (if_pos (by simp [hs, ha]))),
    fun mv src hh hv hm hs ha => does_of_eq (x := wakeHeldStep mv p) rfl ((wakeHeldStep_release hh hv).trans ((if_neg (by simp [ha])).trans (if_pos (by simp [hm, hs])))),
    fun mv h => does_of_eq (x := wakeHeldStep mv p) rfl (wakeHeldStep_not h), fun u v b c ok => ?por, fun hp => ?powered, fun hp => ?unpowered, fun mv us => ?dips, fun ua us => ?lpbo, fun n csn h hr => ?pin,
    fun n csn h hr => ?release, fun hon hb gap hg => ?wdt, fun hon gap => does_of_eq (x := wdtStep gap p) rfl (if_neg (by simp [hon])),
    fun d hp hr => does_of_eq (x := domResetStep d p) rfl (if_pos (by simp [hp, hr])), ?xtal, fun us hu ho => ?aok,
    fun us h => does_of_eq (x := aokFailStep us p) rfl (if_pos (by rcases h with h | h <;> simp [h])), does_of_eq (x := aokRetryStep true p) rfl rfl, does_of_eq (x := aokRetryStep false p) rfl rfl,
    fun hon => does_of_eq (x := aorcCalStep p) rfl (if_pos hon), fun hon => does_of_eq (x := aorcCalStep p) rfl (if_neg (by rw [hon]; decide))⟩
  case trigger =>
    have hstep := supplyTriggerStep_low hv hm ho hr hb
    refine ⟨fun hn => ?_, fun d hd ht => ?_, fun d hd ht h1 => ?_⟩
    · exact does_of_eq (x := supplyTriggerStep mv p) rfl (hstep.trans (supplyShutdown_none (by rw [setVbat_pwr, hn])))
    · exact does_of_eq (x := supplyTriggerStep mv p) rfl (hstep.trans (supplyShutdown_supply (by rw [setVbat_pwr, hd]) ht))
    · exact does_of_eq (x := supplyTriggerStep mv p) rfl (hstep.trans ((supplyShutdown_turns (by rw [setVbat_pwr, hd]) ht h1).trans (by rw [setVbat_pwr])))
  case back =>
    exact ⟨fun h3 => does_of_eq (x := supplyReturnStep mv p) rfl ((supplyReturnStep_back hs ht hv).trans (if_pos h3)),
      fun h3 => does_of_eq (x := supplyReturnStep mv p) rfl ((supplyReturnStep_back hs ht hv).trans (if_neg (Nat.not_lt.2 h3)))⟩
  case steps =>
    intro next
    have hstep : ∀ {x}, stepDone d p = x → Does (.shutdownStepComplete t) s x := fun h => does_of_eq (x := stepCompleteStep p) rfl ((stepCompleteStep_some hd).trans h)
    refine ⟨fun h1 h => hstep ((stepDone_first h1).trans (if_neg ?_)), fun h1 ht h => hstep ((stepDone_first h1).trans (if_pos ⟨ht, h⟩)), fun h2 => hstep ?_, fun h3 hm => hstep ?_, fun h3 hm => hstep ?_,
      fun h4 => hstep ?_, fun h5 => hstep (stepDone_last h5)⟩
    · rintro ⟨ht, hn | hn⟩
      · exact absurd (((h.resolve_left ht).1).symm.trans hn) (by decide)
      · exact (h.resolve_left ht).2 hn
    · simp only [stepDone, h2, flushDone, beq_iff_eq, next]
    · simp [stepDone, h3, hm, next]
    · simp [stepDone, h3, hm, next]
    · simp only [stepDone, h4, next]
  case awake =>
    intro q
    have hstep := awakeExpiryStep_over ha
    have hpol := (policyShutdownStep_parked (parked_of_awakeOver ha)).trans hstep
    exact ⟨fun hq => ⟨does_of_eq (x := awakeExpiryStep p) rfl (hstep.trans (if_pos hq)), does_of_eq (x := policyShutdownStep 1 p) rfl (hpol.trans (if_pos hq))⟩,
      fun hq => ⟨does_of_eq (x := awakeExpiryStep p) rfl (hstep.trans (if_neg (by rw [hq]; decide))), does_of_eq (x := policyShutdownStep 1 p) rfl (hpol.trans (if_neg (by rw [hq]; decide)))⟩⟩
  case retry =>
    intro tried
    have ht : tried = entryTried p := rfl
    rw [ht]
    refine ⟨fun hr => ?_, fun hr hm => ?_, fun hr hm ha => ?_⟩
    · exact does_of_eq (x := entryRetryStep p) rfl (entryRetryStep_eq.trans (if_neg (by rw [hr]; decide)))
    · exact does_of_eq (x := entryRetryStep p) rfl (entryRetryStep_eq.trans ((if_pos hr).trans (if_pos hm)))
    · exact does_of_eq (x := entryRetryStep p) rfl (entryRetryStep_eq.trans ((if_pos hr).trans ((if_neg hm).trans (if_pos ha))))
  case domain =>
    have hstep := domainOnStep_rises hd ht hr ho hg hp
    refine ⟨fun h => ?_, fun hc hn => ?_⟩
    · refine does_of_eq (x := domainOnStep d p) rfl (hstep.trans (if_neg ?_))
      rintro ⟨hc, hn⟩
      rcases h with h | h
      · exact absurd (h.symm.trans hc) (by decide)
      · rw [hn] at h; exact absurd h (by decide)
    · exact does_of_eq (x := domainOnStep d p) rfl (hstep.trans (if_pos ⟨hc, hn⟩))
  case por =>
    refine ⟨fun h => ?_, fun hu hv => ?_⟩
    · refine does_of_eq (x := porStep u v b c ok p) rfl ((if_pos (by simpa [powerCycled, aoLoss] using h)).trans ?_)
      simp only [aoLoss, decide_eq_true_eq]
    · exact does_of_eq (x := porStep u v b c ok p) rfl (if_neg (by simp [powerCycled, aoLoss, Nat.not_le.2 hu, Nat.not_le.2 hv]))
  case powered =>
    exact ⟨fun us h0 h => does_of_eq (x := borStep (.vbat us) p) rfl (if_pos (by simp [brownOut, hp, h0, h])), does_of_eq (x := regFaultStep p) rfl (if_pos hp)⟩
  case unpowered =>
    exact ⟨fun us => does_of_eq (x := borStep (.vbat us) p) rfl (if_neg (by simp [brownOut, hp])), does_of_eq (x := regFaultStep p) rfl (if_neg (by rw [hp]; decide))⟩
  case dips =>
    refine ⟨fun hf h1 => ⟨fun hv => ?_, fun hv => ?_⟩, fun h => ?_, fun h => ?_⟩
    · exact does_of_eq (x := borStep (.v33 mv us) p) rfl (if_pos (by simp only [brownOut, hf, hv, h1]; decide))
    · exact does_of_eq (x := borStep (.vcore mv us) p) rfl (if_pos (by simp only [brownOut, hf, hv, h1]; decide))
    · exact does_of_eq (x := borStep (.v33 mv us) p) rfl (if_neg (by rcases h with h | h | h <;> simp [brownOut, h, Nat.not_lt.2]))
    · exact does_of_eq (x := borStep (.vcore mv us) p) rfl (if_neg (by rcases h with h | h | h <;> simp [brownOut, h, Nat.not_lt.2]))
  case lpbo =>
    refine ⟨fun hl hua hus => ?_, fun h => ?_⟩
    · exact does_of_eq (x := lpboStep ua us p) rfl (if_pos (by simp [hl, hua, hus]))
    · exact does_of_eq (x := lpboStep ua us p) rfl (if_neg (by rcases h with h | h | h <;> simp [h]))
  case pin =>
    exact ⟨fun hn => does_of_eq (x := pinResetStep false n csn h p) rfl (pinResetStep_low hr hn), fun hn => does_of_eq (x := pinResetStep false n csn h p) rfl (pinResetStep_glitch hn)⟩
  case release => exact does_of_eq (x := pinResetStep true n csn h p) rfl (pinResetStep_release hr)
  case wdt =>
    intro period
    have hstep := wdtStep_fed hon hb hg
    exact ⟨fun h => does_of_eq (x := wdtStep gap p) rfl (hstep.trans (if_pos h)),
      fun h4 h => does_of_eq (x := wdtStep gap p) rfl (hstep.trans (if_neg (fun hn => hn.elim (Nat.not_lt.2 h4) (Nat.not_lt.2 h))))⟩
  case xtal =>
    intro q
    refine ⟨fun khz us hu h => ?_, fun khz us h => ?_, fun ns hn => ?_, fun ns hn => ?_⟩
    · exact does_of_eq (x := xtalFailStep (.freq khz us) p) rfl ((if_pos (by simpa [xtalFailed, hu] using h)).trans clockCheck_failed)
    · refine does_of_eq (x := xtalFailStep (.freq khz us) p) rfl (if_neg ?_)
      rcases h with h | ⟨h, h'⟩
      · simp [xtalFailed, Nat.not_le.2 h]
      · simp [xtalFailed, h, h']
    · exact does_of_eq (x := xtalFailStep (.noEdge ns) p) rfl ((if_pos (by simpa [xtalFailed] using hn)).trans clockCheck_failed)
    · exact does_of_eq (x := xtalFailStep (.noEdge ns) p) rfl (if_neg (by simp [xtalFailed, Nat.not_le.2 hn]))
  case aok =>
    have hstep := aokFailStep_fails hu ho
    exact ⟨fun hon => does_of_eq (x := aokFailStep us p) rfl (hstep.trans (if_pos hon)), fun hon => does_of_eq (x := aokFailStep us p) rfl (hstep.trans (if_neg (by rw [hon]; decide)))⟩

end Sys2Proof.Proofs
end

section
/-! Switch polls, wake pins, analog samples, key scans and the any-key sense (R145 to R168). -/

namespace Sys2Proof.Proofs
open Sys2Proof Sys2Proof.Machine Sys2Proof.Safety

section Polls
variable {p : State} {n mv : Nat} {rd : Bool}

theorem switchPollStep_polls (h : polls p = true) :
    switchPollStep n mv p = let x := pollSample n mv { noteSwitch n mv p with scan := { p.scan with suspended := false } }
      let s1 := if p.mode.mode = .parked then pollParked n x.2 x.1 else pollActive n x.2 x.1
      if n = 23 then inChange s1 else s1 := by
  have hp : polls (noteSwitch n mv p) = true := h
  simp only [switchPollStep, hp, beq_iff_eq]
  rfl

theorem switchPollStep_suspended (h : polls p = false) : switchPollStep n mv p = if p.env.vbat < 4500 then suspendPolls (noteSwitch n mv p) else noteSwitch n mv p := by
  have hp : polls (noteSwitch n mv p) = false := h
  simp only [switchPollStep, hp, Bool.not_false, if_true]
  rfl

theorem pollActive_same (h : rd = (getSw p n).closed) : pollActive n rd p = modSw n (fun w => { w with count := 0 }) p := by
  simp [pollActive, h]

theorem pollActive_differs (h : rd ≠ (getSw p n).closed) :
    pollActive n rd p = if (tw p).inputs.debounce ≤ (getSw p n).count + 1 then swChange n rd p else modSw n (fun w => { w with count := w.count + 1 }) p := by
  simp [pollActive, h]

theorem pollParked_same (h : rd = (getSw p n).closed) : pollParked n rd p = modSw n (fun w => { w with count := 0, burst := false }) p := by
  simp [pollParked, h]

theorem pollParked_differs (h : rd ≠ (getSw p n).closed) :
    pollParked n rd p = if (tw p).inputs.debounce ≤ (getSw p n).count + 1 then swConfirmed n rd p else modSw n (fun w => { w with count := w.count + 1, burst := true }) p := by
  simp [pollParked, h]

theorem confirmPollStep_burst (hp : polls p = true) (hm : p.mode.mode = .parked) (hb : (getSw p n).burst = true) :
    confirmPollStep n mv p = inChange (pollParked n (pollSample n mv (noteSwitch n mv p)).2 (pollSample n mv (noteSwitch n mv p)).1) :=
  if_pos (by rw [hp, hm, hb]; rfl)

theorem confirmPollStep_none (h : polls p = false ∨ p.mode.mode ≠ .parked ∨ (getSw p n).burst = false) : confirmPollStep n mv p = if p.env.vbat < 4500 then suspendPolls p else p :=
  if_neg (by rcases h with h | h | h <;> simp [h])

theorem switchStuckStep_eq : switchStuckStep n p =
    if (swCfg p n).stuckS ≠ 0 ∧ polls p = true ∧ (getSw p n).stuckRaised = false ∧ 1000000 * (swCfg p n).stuckS < stuckAdd (getSw p n) p.now ((getSw p n).closed && (getSw p n).reading) then
      issue 0x18 0x01 0 (modSw n (fun w => { w with stuckRaised := true }) p)
    else p := by
  simp [switchStuckStep, sec, Nat.mul_comm _ 1000000, and_assoc]

end Polls

section Pins
variable {p : State} {pin : Nat}

theorem wakeEdgeStep_eq (pin : Nat) (high : Bool) : wakeEdgeStep pin high p = modPin pin
    (fun x => { x with dueAt := some (p.now + 1000 * (tw p).inputs.pinFiltMs), qualAt := if p.mode.mode = .transport ∧ pin = 0 then some (p.now + (if high then 50000 else 1000)) else none })
    { p with env := { p.env with wakeLevel := setAt pin high p.env.wakeLevel } } := by
  simp [wakeEdgeStep, ms, Nat.mul_comm _ 1000]

theorem armWake0_other (h : pin ≠ 0 ∨ p.mode.mode ≠ .transport) : armWake0 pin p = p :=
  if_neg (by rcases h with h | h <;> simp [h])

/-- A filtered pin outside TRANSPORT: its level is taken, it arms at an inactive level and wakes when it goes active (R153, R154). -/
theorem wakeFilteredStep_due (hd : due (getPin p pin).dueAt p = true) (hm : p.mode.mode ≠ .transport) :
    wakeFilteredStep pin p = let q := modPin pin (fun x => { x with active := pinLevel p pin, dueAt := none, armed := x.armed || !(pinLevel p pin) }) p
      let c := inChange (if pinLevel p pin ≠ (getPin p pin).active then noteChange (24 + pin) q else q)
      if pinLevel p pin = true ∧ (getPin p pin).active = false ∧ (getPin p pin).armed = true ∧ tbit (tw p).inputs.pinEn pin = true then wakeEvent (pin + 1) c else c := by
  simp [wakeFilteredStep, armWake0_other (.inr hm), hd, hm, and_assoc]

theorem wakeFilteredStep_transport (hd : due (getPin p pin).dueAt p = true) (hm : p.mode.mode = .transport) (h0 : pin ≠ 0) :
    wakeFilteredStep pin p = inChange (if pinLevel p pin ≠ (getPin p pin).active then noteChange (24 + pin) (modPin pin (fun x => { x with active := pinLevel p pin, dueAt := none }) p)
      else modPin pin (fun x => { x with active := pinLevel p pin, dueAt := none }) p) := by
  simp [wakeFilteredStep, armWake0_other (.inl h0), hd, hm]

theorem wakeFilteredStep_waits (h : due (getPin (armWake0 pin p) pin).dueAt (armWake0 pin p) = false) : wakeFilteredStep pin p = armWake0 pin p := by
  simp [wakeFilteredStep, h]

end Pins

section Keys
variable {p : State} {n : Nat}

/-- How long a key has been held down (R167). -/
def heldFor (p : State) (n : Nat) : Nat := (getKey p n).heldUs + (match p.scan.keyAt with | some x => p.now - x | none => 0)

theorem keyStuckStep_eq : keyStuckStep n p =
    if (tw p).keys.stuckS ≠ 0 ∧ matrixScans p = true ∧ (getKey p n).pressed = true ∧ (getKey p n).stuck = false ∧ 1000000 * (tw p).keys.stuckS < heldFor p n then
      issue 0x19 0x02 0 { p with scan := { p.scan with keys := modAt (fun k => { k with stuck := true }) n p.scan.keys } }
    else p := by
  simp only [keyStuckStep, bne_iff_ne, Bool.and_eq_true, Bool.not_eq_true', decide_eq_true_eq, sec, Nat.mul_comm _ 1000000, and_assoc, ne_eq]
  rfl

theorem anyKeyStep_senses {rows : Nat} (hs : (tw p).keys.scanned = true) (hm : p.mode.mode = .parked) (hd : domSt p .scan ≠ .off) :
    anyKeyStep rows p =
      let q := { p with scan := { p.scan with keys := mapIdx (fun n k => { k with stuck := k.stuck && tbit rows (n / 8) }) 0 p.scan.keys } }
      let low := (List.range 8).map (fun r => tbit rows r && !rowStuck q r)
      if (List.range 8).any (fun r => low.getD r false && p.scan.senseLow.getD r false) = true then wakeEvent 0x30 { q with scan := { q.scan with senseLow := low } }
      else { q with scan := { q.scan with senseLow := low } } :=
  if_pos (by simp [hs, hm, hd])

variable {deb dt : Nat} {raw was : Bool} {k : KeySt}

theorem scanKey_live (deb dt : Nat) (raw : Bool) (k : KeySt) :
    scanKey false false raw deb dt k = let k1 := { k with raw := raw, heldUs := if k.pressed then k.heldUs + dt else 0, stuck := k.stuck && raw }
      if raw = k.pressed then { k1 with count := 0 } else if deb ≤ k.count + 1 then { k1 with pressed := raw, count := 0 } else { k1 with count := k.count + 1 } := by
  simp [scanKey]

end Keys

/-- Settles O41: each event by what its step makes of the state at its time, and one scan of a key. -/
theorem switchPinAndKeyEvents : Obligations.SwitchPinAndKeyEvents := by
  refine ⟨fun s t => ?events, fun deb dt raw was k => ?scan⟩
  case scan =>
    have hlive := scanKey_live deb dt raw k
    refine ⟨rfl, rfl, fun h => ?_, fun h hc => ?_, fun h hc => ?_, ?_⟩
    · rw [hlive, if_pos h]
      exact ⟨rfl, rfl⟩
    · rw [hlive, if_neg h, if_neg (Nat.not_le.2 hc)]
      exact ⟨rfl, rfl⟩
    · rw [hlive, if_neg h, if_pos hc]
      exact ⟨rfl, rfl⟩
    · unfold scanKey
      dsimp only
      repeat' split
      all_goals rfl
  intro p
  refine ⟨fun n mv => ?poll, fun n => ?stuck, fun pin high => does_of_eq (x := wakeEdgeStep pin high p) rfl (wakeEdgeStep_eq pin high), fun pin hd h => ?waits, fun hd hm => ?arms, fun pin hd hm => ?filtered,
    fun pin hd hm h0 => does_of_eq (x := wakeFilteredStep pin p) rfl (wakeFilteredStep_transport hd hm h0), fun l hon => does_of_eq (x := if isOn p .ana then anSamples 0 (l.take 8) p else p) rfl (if_pos hon),
    fun l hon => does_of_eq (x := if isOn p .ana then anSamples 0 (l.take 8) p else p) rfl (if_neg (by rw [hon]; decide)),
    fun rows idle hm => does_of_eq (x := if matrixScans p then scanMatrix rows idle p else p) rfl (if_pos hm),
    fun rows idle hm => does_of_eq (x := if matrixScans p then scanMatrix rows idle p else p) rfl (if_neg (by rw [hm]; decide)), fun n => ?held, fun rows hs hm hd => ?sense,
    fun rows h => does_of_eq (x := anyKeyStep rows p) rfl (if_neg (by rcases h with h | h | h <;> simp [h]))⟩
  case poll =>
    intro e q x w pass parked
    refine ⟨fun hp => ?_, fun hp hv => ?_, fun hp hv => ?_, ?_, fun h => ⟨fun hv => ?_, fun hv => ?_⟩⟩
    · have hstep := switchPollStep_polls (n := n) (mv := mv) hp
      have active : ∀ y, ¬parked → pollActive n x.2 x.1 = y → Does (.switchPoll t n mv) s (pass y) := fun y hm hy =>
        does_of_eq (x := switchPollStep n mv p) rfl (hstep.trans (congrArg pass ((if_neg hm).trans hy)))
      have inParked : ∀ y, parked → pollParked n x.2 x.1 = y → Does (.switchPoll t n mv) s (pass y) := fun y hm hy =>
        does_of_eq (x := switchPollStep n mv p) rfl (hstep.trans (congrArg pass ((if_pos hm).trans hy)))
      exact ⟨fun hx hm => active _ hm (pollActive_same hx), fun hx hc hm => active _ hm ((pollActive_differs hx).trans (if_neg (Nat.not_le.2 hc))),
        fun hx hc hm => active _ hm ((pollActive_differs hx).trans (if_pos hc)), fun hx hm => inParked _ hm (pollParked_same hx),
        fun hx hc hm => inParked _ hm ((pollParked_differs hx).trans (if_neg (Nat.not_le.2 hc))), fun hx hc hm => inParked _ hm ((pollParked_differs hx).trans (if_pos hc))⟩
    · exact does_of_eq (x := switchPollStep n mv p) rfl ((switchPollStep_suspended hp).trans (if_pos hv))
    · exact does_of_eq (x := switchPollStep n mv p) rfl ((switchPollStep_suspended hp).trans (if_neg (Nat.not_lt.2 hv)))
    · intro y
      exact fun hp hm hb => does_of_eq (x := confirmPollStep n mv p) rfl (confirmPollStep_burst hp hm hb)
    · exact does_of_eq (x := confirmPollStep n mv p) rfl ((confirmPollStep_none h).trans (if_neg (Nat.not_lt.2 hv)))
    · exact does_of_eq (x := confirmPollStep n mv p) rfl ((confirmPollStep_none h).trans (if_pos hv))
  case stuck =>
    intro w us stuckNow
    exact ⟨fun h => does_of_eq (x := switchStuckStep n p) rfl (switchStuckStep_eq.trans (if_pos h)), fun h => does_of_eq (x := switchStuckStep n p) rfl (switchStuckStep_eq.trans (if_neg h))⟩
  case waits =>
    have ha := armWake0_other h
    exact does_of_eq (x := wakeFilteredStep pin p) rfl ((wakeFilteredStep_waits (by rw [ha]; exact hd)).trans ha)
  case arms =>
    refine ⟨fun hl hq hd' => ?_, fun h => ?_⟩
    · have ha : armWake0 0 p = modPin 0 (fun x => { x with armed := true, qualAt := none }) p := if_pos (by rw [hm, hl, hq]; rfl)
      exact does_of_eq (x := wakeFilteredStep 0 p) rfl ((wakeFilteredStep_waits (by rw [ha]; exact hd')).trans ha)
    · have ha : armWake0 0 p = p := if_neg (by rcases h with h | h <;> rw [h] <;> simp)
      exact does_of_eq (x := wakeFilteredStep 0 p) rfl ((wakeFilteredStep_waits (by rw [ha]; exact hd)).trans ha)
  case filtered =>
    intro x a q
    have hstep := wakeFilteredStep_due hd hm
    refine ⟨fun ha => ?_, fun ha => ?_⟩
    · refine does_of_eq (x := wakeFilteredStep pin p) rfl (hstep.trans ?_)
      have hsame : pinLevel p pin = (getPin p pin).active := ha
      dsimp only
      rw [if_neg (not_not.2 hsame), if_neg]
      rintro ⟨h1, h0, -⟩
      exact absurd (h0.symm.trans (hsame.symm.trans h1)) (by decide)
    · intro c
      have hne : pinLevel p pin ≠ (getPin p pin).active := ha
      dsimp only at hstep
      rw [if_pos hne] at hstep
      refine ⟨fun h => ?_, fun h1 harm hen => ?_⟩
      · refine does_of_eq (x := wakeFilteredStep pin p) rfl (hstep.trans (if_neg ?_))
        rintro ⟨h1, h0, harm, hen⟩
        rcases h with h | h | h
        · exact absurd (h.symm.trans h1) (by decide)
        · exact absurd (h.symm.trans harm) (by decide)
        · exact absurd (h.symm.trans hen) (by decide)
      · exact does_of_eq (x := wakeFilteredStep pin p) rfl (hstep.trans (if_pos ⟨h1, by have h1' : pinLevel p pin = true := h1; rw [h1'] at hne; simpa using hne.symm, harm, hen⟩))
  case held =>
    intro k us stuckNow
    exact ⟨fun h => does_of_eq (x := keyStuckStep n p) rfl (keyStuckStep_eq.trans (if_pos h)), fun h => does_of_eq (x := keyStuckStep n p) rfl (keyStuckStep_eq.trans (if_neg h))⟩
  case sense =>
    intro q low twice
    have hstep := anyKeyStep_senses (rows := rows) hs hm hd
    exact ⟨fun h => does_of_eq (x := anyKeyStep rows p) rfl (hstep.trans (if_neg (fun hn => absurd (h.symm.trans hn) (by decide)))),
      fun h => does_of_eq (x := anyKeyStep rows p) rfl (hstep.trans (if_pos h))⟩

end Sys2Proof.Proofs
end

section
/-! Rain, light and mount measurements, their timers, and the haptic sequencer (R171 to R184, R188 to R204). -/

namespace Sys2Proof.Proofs
open Sys2Proof Sys2Proof.Machine Sys2Proof.Safety

/-! A reported condition may stop an effect, and never starts one (R363). -/
section Idle
variable {s : State}

theorem bump_hap (c i n : Nat) (s : State) : (bump c i n s).hap = s.hap := by unfold bump; split <;> rfl

theorem applyDrives_hap (s : State) : (applyDrives s).hap = s.hap := by
  unfold applyDrives
  refine foldl_keeps (part := (·.hap)) (fun s e => ?_) _ _
  split
  · exact bump_hap ..
  · rfl

theorem failsafeStop_hap (s : State) : (failsafeStop s).hap = s.hap := by unfold failsafeStop; split <;> rfl
theorem callReset_hap (c : Cause) (s : State) : (callReset c s).hap = s.hap := by unfold callReset; (repeat' split) <;> rfl

theorem severeReact_hap (m : Rill) (s : State) : (severeReact m s).hap = s.hap := by
  unfold severeReact
  dsimp only
  (repeat' split) <;> simp only [callReset_hap, applyDrives_hap] <;> rfl

theorem severeArrive_hap (m : Rill) (s : State) : (severeArrive m s).1.hap = s.hap := by
  unfold severeArrive
  dsimp only
  (repeat' split) <;> simp only [severeReact_hap] <;> rfl

theorem graveReact_idle (m : Rill) (n : Nat) (h : s.hap.playing = none) : (graveReact m n s).hap.playing = none := by
  unfold graveReact
  split
  · exact h
  · simp only [callReset_hap, applyDrives_hap]
    rfl

theorem escalate_idle (m : Rill) (h : s.hap.playing = none) : (escalate m s).hap.playing = none := graveReact_idle _ _ h

theorem queueLost_idle (h : s.hap.playing = none) : (queueLost s).hap.playing = none := by
  unfold queueLost
  extract_lets q e s1 r
  have h1 : s1.hap.playing = none := h
  have hr : r.1.hap.playing = none := by rw [show r.1.hap = s1.hap from severeArrive_hap _ _, h1]
  split
  · exact escalate_idle _ hr
  · exact hr

theorem arrive_idle (m : Rill) (h : s.hap.playing = none) : (arrive m s).hap.playing = none := by
  unfold arrive
  extract_lets q s1 s2 r s3
  have h1 : s1.hap.playing = none := by simp only [s1]; split <;> exact h
  have h2 : s2.hap.playing = none := by simp only [s2]; split <;> exact h1
  have hr : r.1.hap.playing = none := by rw [show r.1.hap = s2.hap from severeArrive_hap _ _, h2]
  have h3 : s3.hap.playing = none := by
    simp only [s3]
    cases m.cls with
    | notice => exact h2
    | recoverable => exact h2
    | severe =>
      dsimp only
      split
      · exact escalate_idle _ hr
      · exact hr
    | grave => exact graveReact_idle _ _ h2
  split
  · exact queueLost_idle h3
  · exact h3

theorem issue_idle (src kind detail : Nat) (h : s.hap.playing = none) : (issue src kind detail s).hap.playing = none := by
  unfold issue report
  split
  · exact arrive_idle _ h
  · exact h

end Idle

section Rain
variable {p : State}

theorem mountRead_none (h : p.rls.mountRef = none) (v : Nat) : mountRead v p = p := by
  simp only [mountRead, h]

theorem mountRead_some {v ref : Nat} (h : p.rls.mountRef = some ref) :
    mountRead v p = let low := if v * 100 < ref * 60 then p.rls.low + 1 else 0
      let high := if ref * 80 < v * 100 then p.rls.high + 1 else 0
      let q := { p with rls := { p.rls with low := min 3 low, high := min 3 high } }
      if p.rls.removed = false ∧ 3 ≤ low then mountChange true q else if p.rls.removed = true ∧ 3 ≤ high then mountChange false q else q := by
  simp only [mountRead, h, modRls, Bool.and_eq_true, Bool.not_eq_true', decide_eq_true_eq]

theorem intensityFallStep_due {k : Nat} {c : TwScreen} (hk : p.rls.fallAt = some k) (hc : screenCfg p = some c) (h : k + 2000000 ≤ p.now) (hi : p.rls.intensity ≠ 0) (hf : p.rls.failed = false) :
    ∃ f, intensityFallStep p = setIntensity (p.rls.intensity - 1) { p with rls := { p.rls with fallAt := f } } := by
  refine ⟨if p.rls.intensity - 1 != 0 && !reaches (meanCover p.rls.cover) (c.thr.getD (p.rls.intensity - 1 - 1) 0 - c.hyst) p.outs.wiper.sens then some p.now else none, ?_⟩
  simp only [intensityFallStep, hk, hc]
  exact if_pos ⟨h, hi, by rw [hf]; rfl⟩

theorem rainFailedStep_due {k : Nat} (hk : p.rls.failAt = some k) (h : k + 10000000 ≤ p.now) (hf : p.rls.failed = false) :
    rainFailedStep p = let q := issue 0x1A 0x01 0 { p with rls := { p.rls with failed := true, fallAt := none } }
      if q.rls.removed = true then q else setIntensity ((screenCfg q).getD {}).fallback q := by
  unfold rainFailedStep
  rw [hk]
  exact if_pos ⟨h, by rw [hf]; rfl⟩

theorem alsFailedStep_0 {k : Nat} (hk : p.rls.alsBad0 = some k) (h : k + 1000000 ≤ p.now) : alsFailedStep 0 p = lightEval { p with rls := { p.rls with alsFail0 := true } } := by
  have hk' : (if (0 : Nat) == 0 then p.rls.alsBad0 else p.rls.alsBad1) = some k := hk
  simp only [alsFailedStep, hk']
  exact if_pos h

theorem alsFailedStep_1 {k : Nat} (hk : p.rls.alsBad1 = some k) (h : k + 1000000 ≤ p.now) : alsFailedStep 1 p = lightEval { p with rls := { p.rls with alsFail1 := true } } := by
  have hk' : (if (1 : Nat) == 0 then p.rls.alsBad0 else p.rls.alsBad1) = some k := hk
  simp only [alsFailedStep, hk']
  exact if_pos h

theorem rainLightStep_up {k : Nat} (hk : p.rls.rlUp = some k) (h : k + 10000000 ≤ p.now) (hl : p.rls.rainLight = false) : rainLightStep p = refreshLamps { p with rls := { p.rls with rainLight := true } } := by
  refine if_pos ?_
  rw [hk, hl]
  exact (Bool.and_true _).trans (decide_eq_true h)

theorem rainLightStep_down {k : Nat} (hu : p.rls.rlUp = none) (hk : p.rls.rlDown = some k) (h : k + 1000000 * ((tw p).light.getD {}).lightS ≤ p.now) (hl : p.rls.rainLight = true) :
    rainLightStep p = refreshLamps { p with rls := { p.rls with rainLight := false } } := by
  refine (if_neg ?_).trans (if_pos ?_)
  · rw [hu]
    exact Bool.false_ne_true
  · rw [hk, hl]
    exact (Bool.and_true _).trans (decide_eq_true (by rw [sec, Nat.mul_comm]; exact h))

end Rain

section Haptic
variable {p : State} {c : TwHaptic}

theorem htrigStep_some {up : Bool} (hc : (tw p).haptic = some c) :
    htrigStep up p = if c.htrig = 3 ∨ (c.htrig = 1 ∧ up = true) ∨ (c.htrig = 2 ∧ up = false) then
        (if p.hap.armed = 0xFF then (if isOn p .ana = true ∧ p.ao.grave = none then hapIgnored p else p) else hapTrigger 0 p.hap.armed c.htrigAmp p)
      else p := by
  simp [htrigStep, hc, or_assoc]

theorem effectEndStep_playing {x : Play} {v : Nat} (hc : (tw p).haptic = some c) (hx : p.hap.playing = some x) :
    effectEndStep v p = if x.phase = .drive ∧ x.t0 + driveUs x.effect c.fRes ≤ p.now then
        hapTick { p with hap := { p.hap with bridge := false, playing := some { x with phase := .bemf, windowAt := x.t0 + driveUs x.effect c.fRes + 1000, bemf := v } } }
      else p := by
  simp only [effectEndStep, hc, hx, Bool.and_eq_true, beq_iff_eq, decide_eq_true_eq]
  rfl

theorem hapTick_bemf {x : Play} (hc : (tw p).haptic = some c) (hx : p.hap.playing = some x) (hv : 5000 ≤ p.env.vbat) (ht : p.hap.testing = none) :
    hapTick p = if x.phase = .bemf ∧ x.windowAt ≤ p.now then hapBrake c x.windowAt (bemfCheck c x p) else p := by
  have hs : hapStarved p = false := by simp [hapStarved, Nat.not_lt.2 hv]
  have hto : testOver p = false := by simp [testOver, ht]
  simp [hapTick, hc, hs, hto, hx, windowOver]

theorem hapTick_starved (hx : p.hap.playing.isSome = true) (hv : p.env.vbat < 5000) (hc : (tw p).haptic.isSome = true) (ht : p.hap.testing = none) : hapTick p = hapEnd p := by
  obtain ⟨c, hc⟩ := Option.isSome_iff_exists.1 hc
  have hs : hapStarved p = true := by simp [hapStarved, hx, hv]
  have hto : testOver (hapEnd p) = false := by simp [testOver, hapEnd, modHap, ht]
  simp only [hapTick, hc, hs, if_true, hto, Bool.false_eq_true, if_false]
  rfl

theorem coilResult_idle {r : Nat} {q : State} (h : q.hap.playing = none) : (coilResult r q).hap.playing = none := by
  have hnotice : ∀ old x, x.hap.playing = none → (coilNotice old x).hap.playing = none := by
    intro old x hx
    unfold coilNotice
    split
    · exact hx
    · exact issue_idle _ _ _ hx
  exact hnotice _ _ h

theorem hapTick_tested {e r : Nat} (hc : (tw p).haptic = some c) (hx : p.hap.playing = none) (ht : p.hap.testing = some (e, r)) (he : e ≤ p.now) :
    hapTick p = coilResult r { p with hap := { p.hap with testing := none, bridge := false } } := by
  have hs : hapStarved p = false := by simp [hapStarved, hx]
  have hto : testOver p = true := by simp [testOver, ht, he]
  have hend : testEnd p = { p with hap := { p.hap with testing := none, bridge := false } } := by simp [testEnd, ht, modHap, hx]
  simp only [hapTick, hc, hs, hto, hend, ht, if_true, Bool.false_eq_true, if_false, Option.getD_some]
  rw [coilResult_idle (q := { p with hap := { p.hap with testing := none, bridge := false } }) hx]

theorem brakeEndStep_playing {x : Play} (hx : (hapTick p).hap.playing = some x) : brakeEndStep p = if x.phase = .brake ∧ x.brakeAt ≤ (hapTick p).now then hapEnd (hapTick p) else hapTick p := by
  simp only [brakeEndStep, hx, Bool.and_eq_true, beq_iff_eq, decide_eq_true_eq]

theorem timeLimitStep_playing {x : Play} (hx : p.hap.playing = some x) :
    timeLimitStep p = if x.t0 + 60000 ≤ p.now then { p with hap := { p.hap with playing := none, bridge := false } } else p := by
  simp only [timeLimitStep, hx]
  rfl

/-- The state after the heat of a current is taken in (R197). -/
def heated (c : TwHaptic) (ma : Nat) (p : State) : State :=
  modHap (fun h => { h with q := p.hap.q * (c.tau * 1000 - 1) / (c.tau * 1000) + ma * ma * 65536 / 1000000 }) (hapTick p)

theorem i2tUpdate_some {ma : Nat} (hc : (tw p).haptic = some c) :
    i2tUpdate ma p = if c.qMax * 65536 ≤ (heated c ma p).hap.q then
        match (hapTick p).hap.playing with
        | some x => if x.phase == .drive then i2tNotice (hapBrake c (hapTick p).now (modHap (fun h => { h with blocked := true }) (heated c ma p)))
            else modHap (fun h => { h with blocked := true }) (heated c ma p)
        | none => modHap (fun h => { h with blocked := true }) (heated c ma p)
      else if (hapTick p).hap.blocked && decide ((heated c ma p).hap.q * 10 < c.qMax * 65536 * 8) then modHap (fun h => { h with blocked := false, noticed := false }) (heated c ma p)
      else heated c ma p := by
  unfold i2tUpdate
  rw [hc]
  rfl

theorem resistanceStep_free {mv ua : Nat} (hh : (tw (hapTick p)).haptic.isSome = true) (ha : isOn (hapTick p) .ana = true) (hp : (hapTick p).hap.playing = none) (ht : (hapTick p).hap.testing = none)
    (hg : (hapTick p).ao.grave = none) (hf : ∀ k, (hapTick p).hap.testAt = some k → k + 1000000 ≤ (hapTick p).now) :
    resistanceStep mv ua p = { hapTick p with hap := { (hapTick p).hap with bridge := true, testing := some ((hapTick p).now + 500, if ua = 0 then 0xFFFF else min 0xFFFF (mv * 100000 / ua)), testAt := some (hapTick p).now } } := by
  have hfree : (match (hapTick p).hap.testAt with
      | some k => decide (k + sec 1 ≤ (hapTick p).now)
      | none => true) = true := by
    cases hk : (hapTick p).hap.testAt with
    | none => rfl
    | some k => simpa [sec] using hf k hk
  refine (if_pos ?_).trans ?_
  · rw [hh, ha, hp, ht, hg]
    exact hfree
  · simp only [modHap, resistance, beq_iff_eq]

theorem resistanceStep_not {mv ua : Nat} (h : (tw (hapTick p)).haptic = none ∨ (hapTick p).hap.playing.isSome = true ∨ ¬∀ k, (hapTick p).hap.testAt = some k → k + 1000000 ≤ (hapTick p).now) :
    resistanceStep mv ua p = hapTick p := by
  refine if_neg ?_
  rcases h with h | h | h
  · simp [h]
  · simp [Option.isSome_iff_ne_none.1 h]
  · push Not at h
    obtain ⟨k, hk, hlt⟩ := h
    simp [hk, sec, Nat.not_le.2 hlt]

@[simp] theorem setVbat_hap (mv : Nat) (p : State) : (setVbat mv p).hap = p.hap := by obtain ⟨_, _, e⟩ := setVbat_frame mv p; rw [e]

theorem hapticLowStep_eq (mv : Nat) (p : State) : hapticLowStep mv p = if mv < 5000 ∧ p.hap.playing.isSome = true then hapEnd (setVbat mv p) else setVbat mv p := by
  simp only [hapticLowStep, setVbat_hap]

end Haptic

/-- Settles O42: each event by what its step makes of the state at its time. -/
theorem rainLightAndHapticEvents : Obligations.RainLightAndHapticEvents := by
  intro s t p ana
  have measured : ∀ {c : Instr} {x : State}, exec c s = .next (settle (if isOn p .ana then x else p)) → ana → Does c s x := fun hc h => does_of_eq hc (if_pos h)
  have unmeasured : ∀ {c : Instr} {x : State}, exec c s = .next (settle (if isOn p .ana then x else p)) → isOn p .ana = false → Does c s p := fun hc h => does_of_eq hc (if_neg (by rw [h]; decide))
  refine ⟨fun a ok b ok' h => measured (x := rainBurst _ _ p) rfl h, fun a ok b ok' h => measured (x := alsTake a ok b ok' p) rfl h, fun v h hm => ?mount0, fun v ref h hm => ?mount,
    fun hoff => ⟨fun a ok b ok' => ⟨unmeasured (x := rainBurst _ _ p) rfl hoff, unmeasured (x := alsTake a ok b ok' p) rfl hoff⟩, fun v => ⟨unmeasured (x := mountRead v { p with rls := { p.rls with msns := some v } }) rfl hoff, unmeasured (x := i2tUpdate v p) rfl hoff⟩⟩,
    fun k c hk hc h hi hf => ?fall, fun hk => ?nofall, fun k hk h hf => ?failed, fun hk => does_of_eq (x := rainFailedStep p) rfl (by simp only [rainFailedStep, hk]),
    does_of_eq (x := lightEval p) rfl rfl, fun k hk h => does_of_eq (x := alsFailedStep 0 p) rfl (alsFailedStep_0 hk h), fun k hk h => does_of_eq (x := alsFailedStep 1 p) rfl (alsFailedStep_1 hk h),
    fun hk => does_of_eq (x := alsFailedStep 0 p) rfl (by simp [alsFailedStep, hk]), fun hk => does_of_eq (x := alsFailedStep 1 p) rfl (by simp [alsFailedStep, hk]),
    fun k hk h hl => does_of_eq (x := rainLightStep p) rfl (rainLightStep_up hk h hl), fun k hu hk h hl => does_of_eq (x := rainLightStep p) rfl (rainLightStep_down hu hk h hl),
    fun hu hd => does_of_eq (x := rainLightStep p) rfl (by simp [rainLightStep, hu, hd]), fun c up hc => ?htrig, fun c x v hc hx => ?ends, fun c x hc hx hv ht => ?tick,
    fun hx hv hc ht => hapTick_starved hx hv hc ht, ?brake, fun x hx => ?limit, fun hx => ?idle, fun c ma h hc => ?i2t, ?resist, fun c e r hc hx ht he => hapTick_tested hc hx ht he,
    fun mv hv hx => does_of_eq (x := hapticLowStep mv p) rfl ((hapticLowStep_eq mv p).trans (if_pos ⟨hv, hx⟩)), fun mv h => ?low⟩
  case mount0 =>
    refine does_of_eq (measured (x := mountRead v { p with rls := { p.rls with msns := some v } }) rfl h) (mountRead_none (p := { p with rls := { p.rls with msns := some v } }) hm v)
  case mount =>
    intro low high q
    have does : ∀ {x}, mountRead v { p with rls := { p.rls with msns := some v } } = x → Does (.mountMeasurement t v) s x := fun hx =>
      does_of_eq (measured (x := mountRead v { p with rls := { p.rls with msns := some v } }) rfl h) hx
    have hread := mountRead_some (p := { p with rls := { p.rls with msns := some v } }) (v := v) hm
    refine ⟨fun hr hl => does (hread.trans ((if_neg (fun hn => Nat.not_le.2 hl hn.2)).trans (if_neg (fun hn => absurd (hr.symm.trans hn.1) (by decide))))), fun hr hl => does (hread.trans (if_pos ⟨hr, hl⟩)),
      fun hr hh => does (hread.trans ((if_neg (fun hn => absurd (hr.symm.trans hn.1) (by decide))).trans (if_neg (fun hn => Nat.not_le.2 hh hn.2)))),
      fun hr hh => does (hread.trans ((if_neg (fun hn => absurd (hr.symm.trans hn.1) (by decide))).trans (if_pos ⟨hr, hh⟩)))⟩
  case fall =>
    obtain ⟨f, hf⟩ := intensityFallStep_due hk hc h hi hf
    exact ⟨f, does_of_eq (x := intensityFallStep p) rfl hf⟩
  case nofall => exact does_of_eq (x := intensityFallStep p) rfl (by simp only [intensityFallStep, hk])
  case failed =>
    intro q
    have hstep := rainFailedStep_due hk h hf
    exact ⟨fun hr => does_of_eq (x := rainFailedStep p) rfl (hstep.trans (if_neg (fun hn => absurd (hr.symm.trans hn) (by decide)))), fun hr => does_of_eq (x := rainFailedStep p) rfl (hstep.trans (if_pos hr))⟩
  case htrig =>
    intro on
    have hstep := htrigStep_some (up := up) hc
    exact ⟨fun ho ha => does_of_eq (x := htrigStep up p) rfl (hstep.trans ((if_pos ho).trans (if_neg ha))),
      fun ho ha h hg => does_of_eq (x := htrigStep up p) rfl (hstep.trans ((if_pos ho).trans ((if_pos ha).trans (if_pos ⟨h, hg⟩)))), fun ho => does_of_eq (x := htrigStep up p) rfl (hstep.trans (if_neg ho))⟩
  case ends =>
    intro e
    have hstep := effectEndStep_playing (v := v) hc hx
    exact ⟨fun hp he => does_of_eq (x := effectEndStep v p) rfl (hstep.trans (if_pos ⟨hp, he⟩)),
      fun h => does_of_eq (x := effectEndStep v p) rfl (hstep.trans (if_neg (fun hn => h.elim (fun h => Nat.not_le.2 h hn.2) (fun h => h hn.1))))⟩
  case tick =>
    have hstep := hapTick_bemf hc hx hv ht
    exact ⟨fun hp hw => hstep.trans (if_pos ⟨hp, hw⟩), fun h => hstep.trans (if_neg (fun hn => h.elim (fun h => h hn.1) (fun h => Nat.not_le.2 h hn.2)))⟩
  case brake =>
    intro q
    refine ⟨fun x hx => ?_, fun hx => does_of_eq (x := brakeEndStep p) rfl (by simp only [brakeEndStep, show (hapTick p).hap.playing = none from hx]; rfl)⟩
    have hstep := brakeEndStep_playing (p := p) hx
    exact ⟨fun hp hb => does_of_eq (x := brakeEndStep p) rfl (hstep.trans (if_pos ⟨hp, hb⟩)),
      fun h => does_of_eq (x := brakeEndStep p) rfl (hstep.trans (if_neg (fun hn => h.elim (fun h => h hn.1) (fun h => Nat.not_le.2 h hn.2))))⟩
  case limit =>
    have hstep := timeLimitStep_playing hx
    exact ⟨fun h => does_of_eq (x := timeLimitStep p) rfl (hstep.trans (if_pos h)), fun h => does_of_eq (x := timeLimitStep p) rfl (hstep.trans (if_neg (Nat.not_le.2 h)))⟩
  case idle =>
    refine ⟨does_of_eq (x := timeLimitStep p) rfl (by simp only [timeLimitStep, hx]), fun v => does_of_eq (x := effectEndStep v p) rfl ?_⟩
    unfold effectEndStep
    rw [hx]
    cases (tw p).haptic <;> rfl
  case i2t =>
    intro q hp
    have does : ∀ {x}, i2tUpdate ma p = x → Does (.i2tUpdate t ma) s x := fun hx => does_of_eq (measured (x := i2tUpdate ma p) rfl h) hx
    have hstep := i2tUpdate_some (ma := ma) hc
    refine ⟨fun hq hb => does (hstep.trans ((if_neg (Nat.not_le.2 hq)).trans (if_neg ?_))), fun hq hx => does (hstep.trans ((if_pos hq).trans ?_)),
      fun x hq hx hd => does (hstep.trans ((if_pos hq).trans ?_)), fun hq hb => does (hstep.trans ((if_neg ?_).trans (if_pos ?_)))⟩
    · rw [show (hapTick p).hap.blocked = false from hb]
      exact Bool.false_ne_true
    · rw [show (hapTick p).hap.playing = none from hx]
      rfl
    · rw [show (hapTick p).hap.playing = some x from hx]
      exact if_pos (by rw [hd]; rfl)
    · have hq' : q * 10 < c.qMax * 65536 * 8 := hq
      exact Nat.not_le.2 (show q < c.qMax * 65536 by omega)
    · rw [show (hapTick p).hap.blocked = true from hb]
      exact (Bool.true_and _).trans (decide_eq_true hq)
  case resist =>
    intro h free
    exact ⟨fun mv ua hh ha hx ht hg hf => does_of_eq (x := resistanceStep mv ua p) rfl (resistanceStep_free hh ha hx ht hg hf), fun mv ua hn => does_of_eq (x := resistanceStep mv ua p) rfl (resistanceStep_not hn)⟩
  case low => exact does_of_eq (x := hapticLowStep mv p) rfl ((hapticLowStep_eq mv p).trans (if_neg (fun hn => h.elim (fun h => Nat.not_lt.2 h hn.1) (fun h => by simp [h] at hn))))

end Sys2Proof.Proofs
end

section
/-! Trips of a driving channel, the restart interval, cooling and the restart count (R103 to R111, R479). -/

namespace Sys2Proof.Proofs
open Sys2Proof Sys2Proof.Machine Sys2Proof.Safety

theorem modAt_modAt {α : Type} (f g : α → α) (i : Nat) (l : List α) : modAt f i (modAt g i l) = modAt (fun x => f (g x)) i l := by
  induction l generalizing i with
  | nil => cases i <;> rfl
  | cons x l ih => cases i with
    | zero => rfl
    | succ i => exact congrArg (x :: ·) (ih i)

theorem modChan_modChan (f g : Chan → Chan) (o : Nat) (p : State) : modChan o f (modChan o g p) = modChan o (fun c => f (g c)) p := by
  simp only [modChan, modAt_modAt]

theorem hasSense_iff {o : Nat} : hasSense o = true ↔ o < 28 := decide_eq_true_iff

theorem hasSense_eq_false {o : Nat} : hasSense o = false ↔ 28 ≤ o := by
  rw [← Bool.not_eq_true, hasSense_iff, Nat.not_lt]

section Events
variable {p : State} {o : Nat}

theorem restart_cooled : restart o (modChan o (fun c => { c with hot := false }) p) = applyDrives (modChan o (fun c => { c with hot := false, retryAt := none, restarts := c.restarts - 1 }) p) := by
  rw [restart, modChan_modChan]

theorem restartStep_due {temp : Int} (hc : isChannel o = true) (hd : due (getChan (noteTemp o temp p) o).retryAt (noteTemp o temp p) = true) :
    restartStep o temp p = if (getChan (noteTemp o temp p) o).hot = true ∧ 155 ≤ temp then noteTemp o temp p else restart o (modChan o (fun c => { c with hot := false }) (noteTemp o temp p)) := by
  simp [restartStep, hc, hd]

theorem cooledStep_cools {temp : Int} (hc : isChannel o = true) (hh : (getChan (noteTemp o temp p) o).hot = true) (ht : temp < 155) :
    cooledStep o temp p = let c := modChan o (fun c => { c with hot := false }) (noteTemp o temp p)
      if due (getChan c o).retryAt c = true then restart o c else applyDrives c := by
  simp [cooledStep, hc, hh, ht]

theorem restoreStep_clean {k : Nat} (hk : (getChan p o).cleanAt = some k) :
    restoreStep o p = if k + 5000000 ≤ p.now then modChan o (fun c => { c with restarts := (chanCfg p o).restart }) p else p := by
  simp only [restoreStep, hk]
  rfl

end Events

/-- Settles O43: each event by what its step makes of the state at its time. -/
theorem tripsAndRestarts : Obligations.TripsAndRestarts := by
  intro s t o p trips again measured
  refine ⟨fun us hd ho hi hh => ?hold, fun us h => ?nohold, fun hd ho => ?trip, fun h => ?notrip, fun hd hg => ?boot, fun h => ?noboot, fun temp => ?temp, restart_cooled,
    fun k hk h => does_of_eq (x := restoreStep o p) rfl ((restoreStep_clean hk).trans (if_pos h)), fun k hk h => does_of_eq (x := restoreStep o p) rfl ((restoreStep_clean hk).trans (if_neg (Nat.not_le.2 h))),
    fun hk => does_of_eq (x := restoreStep o p) rfl (by simp only [restoreStep, hk]), fun hd => does_of_eq (x := inrushEndStep o p) rfl (if_pos hd),
    fun hd => does_of_eq (x := inrushEndStep o p) rfl (if_neg (by rw [hd]; decide))⟩
  case hold => exact does_of_eq (x := limitHoldStep o us p) rfl (if_pos (by rw [hd, hasSense_iff.2 ho, hi]; exact decide_eq_true hh))
  case nohold =>
    refine does_of_eq (x := limitHoldStep o us p) rfl (if_neg ?_)
    rcases h with h | h | h | h
    · simp [h]
    · simp [hasSense_eq_false.2 h]
    · simp [h]
    · simp [Nat.not_le.2 h]
  case trip => exact does_of_eq (x := overcurrentStep o p) rfl (if_pos (by rw [hd, hasSense_eq_false.2 ho]; rfl))
  case notrip =>
    refine does_of_eq (x := overcurrentStep o p) rfl (if_neg ?_)
    rcases h with h | h
    · simp [h]
    · simp [hasSense_iff.2 h]
  case boot => exact does_of_eq (x := bootstrapStep o p) rfl (if_pos (by rw [hd, hg]; rfl))
  case noboot => exact does_of_eq (x := bootstrapStep o p) rfl (if_neg (by rcases h with h | h <;> simp [h]))
  case temp =>
    intro q
    refine ⟨fun hd ht => ?_, fun h => ?_, fun hc hd hh ht => ?_, fun hc hd h => ?_, fun h => ?_, fun hc hh ht => ?_, fun h => ?_⟩
    · exact does_of_eq (x := thermalStep o temp p) rfl (if_pos (by rw [show drives (noteTemp o temp p) o = true from hd]; exact decide_eq_true ht))
    · refine does_of_eq (x := thermalStep o temp p) rfl (if_neg ?_)
      rcases h with h | h
      · rw [show drives (noteTemp o temp p) o = false from h]; simp
      · simp [not_le.2 h]
    · exact does_of_eq (x := restartStep o temp p) rfl ((restartStep_due hc hd).trans (if_pos ⟨hh, ht⟩))
    · refine does_of_eq (x := restartStep o temp p) rfl ((restartStep_due hc hd).trans (if_neg ?_))
      rintro ⟨hh, ht⟩
      exact h.elim (fun h => absurd (h.symm.trans hh) (by decide)) (fun h => not_le.2 h ht)
    · refine does_of_eq (x := restartStep o temp p) rfl (if_neg ?_)
      rcases h with h | h
      · simp [h]
      · rw [show due (getChan (noteTemp o temp p) o).retryAt (noteTemp o temp p) = false from h]; simp
    · intro c
      have hstep := cooledStep_cools hc hh ht
      exact ⟨fun hd => does_of_eq (x := cooledStep o temp p) rfl (hstep.trans (if_pos hd)), fun hd => does_of_eq (x := cooledStep o temp p) rfl (hstep.trans (if_neg (fun hn => absurd (hd.symm.trans hn) (by decide))))⟩
    · refine does_of_eq (x := cooledStep o temp p) rfl (if_neg ?_)
      rcases h with h | h | h
      · simp [h]
      · rw [show (getChan (noteTemp o temp p) o).hot = false from h]; simp
      · simp [not_lt.2 h]

end Sys2Proof.Proofs
end

section
/-! PWM periods, sense slots, diagnostic checks, supply thresholds, the governor and the link to a power die (R112 to R128, R433). -/

namespace Sys2Proof.Proofs
open Sys2Proof Sys2Proof.Machine Sys2Proof.Safety

theorem isChannel_iff {o : Nat} : isChannel o = true ↔ o < 56 := decide_eq_true_iff

theorem isChannel_eq_false {o : Nat} : isChannel o = false ↔ 56 ≤ o := by
  rw [← Bool.not_eq_true, isChannel_iff, Nat.not_lt]

theorem dieSource_eq (d : Die) : dieSource d = if d = .a then 0x10 else 0x11 := by cases d <;> rfl

theorem dieIsland_eq (d : Die) : dieIsland d = if d = .a then 0x0B else 0x0C := by cases d <;> rfl

theorem dieClockBad_iff {khz : Nat} : dieClockBad khz = true ↔ khz < 36000 ∨ 44000 < khz := by simp [dieClockBad]

section Events
variable {p : State}

theorem offStateStep_runs {o mv pulled : Nat} (ho : o < 56) (hd : isOn p (dieDom (dieOf o)) = true) (hm : (getChan p o).drive.mode = 0) (hg : (chanCfg p o).diag = true) (hk : groupOf o ≠ .gd) :
    offStateStep o mv pulled p = reportFlags o (getChan p o) (if groupOf o = .ls then openCheck o (decide (pulled < 2000)) p
      else if 3000 < mv then shortCheck o true p else openCheck o (decide (2000 < pulled)) (shortCheck o false p)) := by
  simp [offStateStep, isChannel_iff.2 ho, hd, hm, hg, hk]

theorem offStateStep_gd {o mv pulled : Nat} (hk : groupOf o = .gd) : offStateStep o mv pulled p = p := by
  simp [offStateStep, hk]

theorem onStateStep_runs {o ma : Nat} (ho : o < 28) (hd : drives p o = true) (hm : (getChan p o).drive.mode ≠ 3) :
    onStateStep o ma p = let q := modChan o (fun c => { c with current := min ma (limitMa p o) }) p
      if (chanCfg p o).onstate = 0 then q else reportFlags o (getChan p o) (modChan o (fun c => { c with openLoad := decide (min ma (limitMa p o) < (chanCfg p o).onstate) }) q) := by
  have hc := isChannel_iff.2 (by omega : o < 56)
  simp [onStateStep, hc, hasSense_iff.2 ho, hd, hm]

/-- The state in which the governor judges: the spans' currents and the die's temperature noted. -/
def governorNoted (d : Die) (temp : Int) (l : List Nat) (p : State) : State :=
  let g := noteSpan d l p
  { g with env := { p.env with temps := setAt (if d = .a then 1 else 2) temp p.env.temps } }

theorem governorStep_on {d : Die} {temp : Int} {l : List Nat} (hd : isOn p (dieDom d) = true) :
    let thr : Int := if d = .a then (tw p).power.govA else (tw p).power.govB
    let hyst : Int := if d = .a then (tw p).power.hystA else (tw p).power.hystB
    let q := governorNoted d temp l p
    governorStep d temp l p =
      if thr ≤ temp then eventsAfter (fun x => breakLearns (shedOne d x)) (modDie d (fun x => { x with coolAt := none }) q)
      else if temp < thr - hyst then
        match (getDie p d).coolAt with
        | some c => if c + 2000000 ≤ p.now then unshedOne d q else q
        | none => modDie d (fun x => { x with coolAt := some p.now }) q
      else modDie d (fun x => { x with coolAt := none }) q := by
  intro thr hyst q
  unfold governorStep
  rw [hd]
  cases d <;> rfl

end Events

/-- Settles O44: each event by what its step makes of the state at its time. -/
theorem powerDieEvents : Obligations.PowerDieEvents := by
  intro s t p low
  refine ⟨fun o mv k ho hd => ?pwm, fun o mv k h => ?noPwm, fun sel x => ?sense, fun o mv pulled ho hd hm hg => ?offState, fun o mv pulled h => ?noOffState,
    fun o ma ho hd hm => ?onState, fun o ma h => ?noOnState, fun d mv => ?supply, fun d temp l hd => ?governor,
    fun d hd hl => does_of_eq (x := linkLossStep d p) rfl ?loss, fun d h => does_of_eq (x := linkLossStep d p) rfl ?noLoss,
    fun d hl hc => does_of_eq (x := linkReturnStep d p) rfl (if_pos (by rw [hl, hc]; rfl)), fun d h => does_of_eq (x := linkReturnStep d p) rfl (if_neg (by rcases h with h | h <;> simp [h])),
    fun d khz hd hc hk => does_of_eq (x := dieClockStep d khz p) rfl (if_pos (by rw [hd, hc, dieClockBad_iff.2 hk]; rfl)), fun d khz h => does_of_eq (x := dieClockStep d khz p) rfl (if_neg ?noClock),
    fun d hd => ⟨?sensor, ?parity⟩, fun d hd => ?off⟩
  case pwm => exact does_of_eq (x := pwmPeriodStep o mv k p) rfl (if_pos (by rw [isChannel_iff.2 ho, hd]; rfl))
  case noPwm =>
    refine does_of_eq (x := pwmPeriodStep o mv k p) rfl (if_neg ?_)
    rcases h with h | h
    · simp [isChannel_eq_false.2 h]
    · simp [h]
  case sense =>
    intro q
    refine ⟨fun hm hd => ?_, fun hm hd => ?_, fun hm hd => ?_, fun hm hd => ?_⟩
    all_goals refine does_of_eq (x := senseSlotStep sel x p) rfl ?_; unfold senseSlotStep
    · rw [hm, if_pos rfl]
      exact (if_neg (by rw [show isOn q .outA = true from hd]; decide)).trans (if_pos hm)
    · rw [hm, if_neg Bool.false_ne_true]
      exact (if_neg (by rw [hd]; decide)).trans (if_neg (by rw [hm]; decide))
    · rw [hm, if_pos rfl]
      exact if_pos (by rw [show isOn q .outA = false from hd]; rfl)
    · rw [hm, if_neg Bool.false_ne_true]
      exact if_pos (by rw [hd]; rfl)
  case offState =>
    have hruns := fun hk => offStateStep_runs (mv := mv) (pulled := pulled) ho hd hm hg hk
    refine ⟨fun hk => does_of_eq (x := offStateStep o mv pulled p) rfl (offStateStep_gd hk), fun hk => ?_, fun hk hl hv => ?_, fun hk hl hv => ?_⟩
    · exact does_of_eq (x := offStateStep o mv pulled p) rfl ((hruns (by rw [hk]; decide)).trans (by rw [if_pos hk]))
    · exact does_of_eq (x := offStateStep o mv pulled p) rfl ((hruns hk).trans (by rw [if_neg hl, if_pos hv]))
    · exact does_of_eq (x := offStateStep o mv pulled p) rfl ((hruns hk).trans (by rw [if_neg hl, if_neg (Nat.not_lt.2 hv)]))
  case noOffState =>
    refine does_of_eq (x := offStateStep o mv pulled p) rfl (if_pos ?_)
    rcases h with h | h | h | h
    · simp [isChannel_eq_false.2 h]
    · simp [h]
    · simp [h]
    · simp [h]
  case onState =>
    intro i q
    exact ⟨fun h => does_of_eq (x := onStateStep o ma p) rfl ((onStateStep_runs ho hd hm).trans (if_pos h)), fun h => does_of_eq (x := onStateStep o ma p) rfl ((onStateStep_runs ho hd hm).trans (if_neg h))⟩
  case noOnState =>
    refine does_of_eq (x := onStateStep o ma p) rfl (if_pos ?_)
    rcases h with h | h | h
    · simp [hasSense_eq_false.2 h]
    · simp [h]
    · simp [h]
  case supply =>
    refine ⟨fun hd => does_of_eq (x := crankStep d mv p) rfl (if_pos hd), fun hd hv => does_of_eq (x := overvoltageStep d mv p) rfl (if_pos (by rw [hd]; exact decide_eq_true hv)), fun h => ?_,
      fun hd ho hv => does_of_eq (x := overvoltageEndStep d mv p) rfl (if_pos (by rw [hd, ho]; exact decide_eq_true hv)), fun h => ?_⟩
    · refine does_of_eq (x := overvoltageStep d mv p) rfl (if_neg ?_)
      rcases h with h | h
      · simp [h]
      · simp [Nat.not_lt.2 h]
    · refine does_of_eq (x := overvoltageEndStep d mv p) rfl (if_neg ?_)
      rcases h with h | h | h
      · simp [h]
      · simp [h]
      · simp [Nat.not_lt.2 h]
  case governor =>
    intro thr hyst g q
    have hstep := governorStep_on (temp := temp) (l := l) hd
    refine ⟨fun h => does_of_eq (x := governorStep d temp l p) rfl (hstep.trans (if_pos h)), fun h hh => ?_, fun h hh hc => ?_, fun k h hh hc hk => ?_, fun k h hh hc hk => ?_⟩
    · exact does_of_eq (x := governorStep d temp l p) rfl (hstep.trans ((if_neg (not_le.2 h)).trans (if_neg (not_lt.2 hh))))
    all_goals
      refine does_of_eq (x := governorStep d temp l p) rfl (hstep.trans ((if_neg (not_le.2 h)).trans ((if_pos hh).trans ?_)))
      rw [hc]
    · rfl
    · exact if_neg (Nat.not_le.2 hk)
    · exact if_pos hk
  case loss =>
    rw [← dieSource_eq]
    exact if_pos (by rw [hd, hl]; rfl)
  case noLoss => exact if_neg (by rcases h with h | h <;> simp [h])
  case noClock =>
    rcases h with h | h | h
    · simp [h]
    · simp [h]
    · simp [dieClockBad, Nat.not_lt.2 h.1, Nat.not_lt.2 h.2]
  case sensor =>
    rw [← dieSource_eq, ← dieIsland_eq]
    exact does_of_eq (x := sensorFailStep d p) rfl (if_pos hd)
  case parity =>
    rw [← dieSource_eq, ← dieIsland_eq]
    exact does_of_eq (x := seqParityStep d p) rfl (if_pos hd)
  case off =>
    have hn : ¬ isOn p (dieDom d) = true := by rw [hd]; decide
    exact ⟨does_of_eq (x := sensorFailStep d p) rfl (if_neg hn), does_of_eq (x := seqParityStep d p) rfl (if_neg hn), fun x => ⟨does_of_eq (x := crankStep d x p) rfl (if_neg hn),
      fun temp l => does_of_eq (x := governorStep d temp l p) rfl (if_pos (by rw [hd]; rfl))⟩⟩

end Sys2Proof.Proofs
end

section
/-! The wiper service and the motion service (R134 to R143). -/

namespace Sys2Proof.Proofs
open Sys2Proof Sys2Proof.Machine Sys2Proof.Safety

/-- The movement in which a pinch is looked for: a closing one at full drive, measured, past its first ripples and inside the zone (R140). -/
abbrev PinchZone (q : State) (n : Nat) (c : TwMotion) : Prop :=
  (getAct q n).state = 1 ∧ (getAct q n).learn = 0 ∧ (getAct q n).opening = false ∧ (getAct q n).renorm = false ∧ (getAct q n).manner ≠ 2 ∧ actMeasured q n = true ∧ 4 ≤ actPos q n ∧ actPos q n ≤ c.zone

section Events
variable {p : State}

theorem parkTimeoutStep_some {c : TwWiper} (hw : (tw p).wiper = some c) :
    parkTimeoutStep p = if p.outs.wiper.phase = .parking ∧ due p.outs.wiper.parkAt p = true then reportMotorFault (pairChannels c.pair).1 (wiperHalt .stopped p) else p := by
  simp [parkTimeoutStep, hw]

theorem wiperStallStep_some {c : TwWiper} (hw : (tw p).wiper = some c) (ma : Nat) :
    wiperStallStep ma p = if groupOf (pairChannels c.pair).1 = .gd ∧ c.stall < ma then wiperStall p else p := by
  simp [wiperStallStep, hw]

/-- What the end of the washer's run leaves before the first wipe after it (R138). -/
def washed (c : TwWiper) (p : State) : State :=
  modWiper (fun w => { w with washAt := none, postWipes := c.postwipe }) (if c.washer = 0xFF then p else applyDrives (putDefault c.washer { freq := (chanCfg p c.washer).pwm } p))

theorem washEndStep_some {c : TwWiper} (hw : (tw p).wiper = some c) :
    washEndStep p = if due p.outs.wiper.washAt p = true then
      if (washed c p).outs.wiper.phase = .wiping ∨ (washed c p).outs.wiper.dead = true ∨ c.postwipe = 0 then washed c p
      else wipeLow (modWiper (fun w => { w with postWipes := w.postWipes - 1 }) (washed c p))
    else p := by
  simp [washEndStep, washed, hw, or_assoc]

theorem wipeIntervalStep_due (hp : p.outs.wiper.phase = .waiting) (hd : due p.outs.wiper.waitAt p = true) :
    wipeIntervalStep p = if p.outs.wiper.mode = 0 ∧ p.mode.mode ≠ .run then wiperHalt .parked p else wipeLow p := by
  simp [wipeIntervalStep, hp, hd]

theorem pinchStep_some {n ma r : Nat} {c : TwMotion} (hc : motionCfg (addRipples n r p) n = some c) :
    let q := addRipples n r p
    pinchStep n ma r p = if PinchZone q n c ∧ (getAct q n).profile.getD (actPos q n / 20) 0 + c.margin < ma then actPinch n q else q := by
  intro q
  simp only [pinchStep, hc]
  refine if_congr ?_ rfl rfl
  simp only [PinchZone, Bool.and_eq_true, Bool.not_eq_true', beq_iff_eq, bne_iff_ne, decide_eq_true_eq, and_assoc]
  rfl

theorem targetStep_some {n r : Nat} {c : TwMotion} (hc : motionCfg (addRipples n r p) n = some c) :
    let q := addRipples n r p
    targetStep n r p = if (if (getAct q n).opening = true then (getAct q n).target ≤ actPos q n else actPos q n ≤ (getAct q n).target) then actReached n q else q := by
  intro q
  have ht : targetStep n r p = if ((motionCfg q n).isSome && (if (getAct q n).opening then decide ((getAct q n).target ≤ actPos q n) else decide (actPos q n ≤ (getAct q n).target))) = true then actReached n q else q := rfl
  rw [ht, hc]
  refine if_congr ?_ rfl rfl
  cases (getAct q n).opening <;> simp

theorem endStopStep_some {n ma k : Nat} {l : List Nat} {c : TwMotion} (hc : motionCfg p n = some c) :
    endStopStep n ma k l p = if actMeasured p n = true ∧ c.stall ≤ ma then actEndStop n k l p else p := by
  simp [endStopStep, hc]

end Events

/-- Settles O45: each event by what its step makes of the state at its time. -/
theorem wiperAndMotionEvents : Obligations.WiperAndMotionEvents := by
  intro s t p
  refine ⟨fun hw => ?noWiper, fun c hw => ?wiper, fun hp hd => does_of_eq (x := stallRetryStep p) rfl (if_pos (by rw [hp, hd]; rfl)),
    fun hp hd => ⟨fun h => does_of_eq (x := wipeIntervalStep p) rfl ((wipeIntervalStep_due hp hd).trans (if_neg ?wipes)), fun hm hr => does_of_eq (x := wipeIntervalStep p) rfl ((wipeIntervalStep_due hp hd).trans (if_pos ⟨hm, hr⟩))⟩,
    fun hp hd => does_of_eq (x := servicePositionStep p) rfl (if_pos (by rw [hp, hd]; rfl)), fun h => does_of_eq (x := stallRetryStep p) rfl (if_neg (by rcases h with h | h <;> simp [h])),
    fun h => does_of_eq (x := wipeIntervalStep p) rfl (if_neg (by rcases h with h | h <;> simp [h])), fun h => does_of_eq (x := servicePositionStep p) rfl (if_neg (by rcases h with h | h <;> simp [h])),
    fun n r => ?motion, fun n hc ma k l => does_of_eq (x := endStopStep n ma k l p) rfl (by simp [endStopStep, hc]), fun n c ma k l hc => ?endStop,
    fun n h => does_of_eq (x := holdToRunStep n p) rfl (if_pos h), fun n h => does_of_eq (x := holdToRunStep n p) rfl (if_neg (by rw [h]; decide))⟩
  case noWiper =>
    exact ⟨does_of_eq (x := wiperParkedStep p) rfl (by simp [wiperParkedStep, hw]), does_of_eq (x := parkTimeoutStep p) rfl (by simp [parkTimeoutStep, hw]), does_of_eq (x := washEndStep p) rfl (by simp [washEndStep, hw]),
      fun ma => does_of_eq (x := wiperStallStep ma p) rfl (by simp [wiperStallStep, hw])⟩
  case wiper =>
    refine ⟨does_of_eq (x := wiperParkedStep p) rfl (if_pos (by rw [hw]; rfl)), fun hp hd => does_of_eq (x := parkTimeoutStep p) rfl ((parkTimeoutStep_some hw).trans (if_pos ⟨hp, hd⟩)),
      fun h => does_of_eq (x := parkTimeoutStep p) rfl ((parkTimeoutStep_some hw).trans (if_neg ?_)),
      fun ma hg hm => does_of_eq (x := wiperStallStep ma p) rfl ((wiperStallStep_some hw ma).trans (if_pos ⟨hg, hm⟩)),
      fun ma h => does_of_eq (x := wiperStallStep ma p) rfl ((wiperStallStep_some hw ma).trans (if_neg ?_)),
      fun hd => does_of_eq (x := washEndStep p) rfl ((washEndStep_some hw).trans (if_neg (by rw [hd]; decide))), fun hd => ?_⟩
    · rintro ⟨hp, hd⟩
      exact h.elim (absurd hp) (fun hf => absurd (hf.symm.trans hd) (by decide))
    · rintro ⟨hg, hm⟩
      exact h.elim (absurd hg) (fun hf => absurd hm (Nat.not_lt.2 hf))
    · intro q
      have hstep := (washEndStep_some hw).trans (if_pos hd)
      refine ⟨fun h => does_of_eq (x := washEndStep p) rfl (hstep.trans (if_pos h)), fun hp hdead hn => does_of_eq (x := washEndStep p) rfl (hstep.trans (if_neg ?_))⟩
      rintro (h | h | h)
      · exact hp h
      · exact absurd (hdead.symm.trans h) (by decide)
      · exact hn h
  case wipes =>
    rintro ⟨hm, hr⟩
    exact h.elim (absurd hm) hr
  case motion =>
    intro q a pos
    refine ⟨fun hc => ⟨fun ma => does_of_eq (x := pinchStep n ma r p) rfl ?_, does_of_eq (x := targetStep n r p) rfl (if_neg ?_)⟩, fun c ma hc => ?_⟩
    · simp only [pinchStep]
      rw [hc]
    · rw [show motionCfg (addRipples n r p) n = none from hc]
      simp
    · intro zone
      have hpinch := pinchStep_some (ma := ma) hc
      have htarget := targetStep_some hc
      refine ⟨fun hz hm => does_of_eq (x := pinchStep n ma r p) rfl (hpinch.trans (if_pos ⟨hz, hm⟩)), fun hz hm => does_of_eq (x := pinchStep n ma r p) rfl (hpinch.trans (if_neg fun h => Nat.not_lt.2 hm h.2)),
        fun hz => does_of_eq (x := pinchStep n ma r p) rfl (hpinch.trans (if_neg fun h => hz h.1)), fun ho hp => ?_, fun ho hp => ?_, fun ho hp => ?_, fun ho hp => ?_⟩
      all_goals refine does_of_eq (x := targetStep n r p) rfl (htarget.trans ?_); rw [show (getAct (addRipples n r p) n).opening = _ from ho]
      · exact if_pos hp
      · exact if_neg (Nat.not_le.2 hp)
      · exact if_pos hp
      · exact if_neg (Nat.not_le.2 hp)
  case endStop =>
    refine ⟨fun hm hs => does_of_eq (x := endStopStep n ma k l p) rfl ((endStopStep_some hc).trans (if_pos ⟨hm, hs⟩)), fun h => does_of_eq (x := endStopStep n ma k l p) rfl ((endStopStep_some hc).trans (if_neg ?_))⟩
    rintro ⟨hm, hs⟩
    exact h.elim (fun hf => absurd (hf.symm.trans hm) (by decide)) (fun hf => absurd hs (Nat.not_le.2 hf))

end Sys2Proof.Proofs
end

section
/-! What a mailbox event and a change of the ignition or the lock leave: the time, the core's memory and the external flash. -/

namespace Sys2Proof.Proofs
open Sys2Proof Sys2Proof.Machine

section Frames
variable (s : State)

@[simp] theorem issue_now (src kind detail : Nat) : (issue src kind detail s).now = s.now := congrArg (·.now) (unreacted_issue s src kind detail)
@[simp] theorem bump_stays (c i n : Nat) : (bump c i n s).now = s.now ∧ (bump c i n s).core.mem = s.core.mem ∧ (bump c i n s).boot.flash = s.boot.flash := by
  unfold bump; split <;> simp

@[simp] theorem applyDrives_now : (applyDrives s).now = s.now := congrArg (·.now) (unreacted_applyDrives s)

@[simp] theorem putEvent_stays (t : Transport) (id code priv : Nat) (b : Bytes) :
    (putEvent t id code priv b s).now = s.now ∧ (putEvent t id code priv b s).core.mem = s.core.mem ∧ (putEvent t id code priv b s).boot.flash = s.boot.flash := by
  unfold putEvent; (repeat' split) <;> simp

@[simp] theorem eventTo_stays (t : Transport) (id code priv : Nat) (b : Bytes) :
    (eventTo t id code priv b s).now = s.now ∧ (eventTo t id code priv b s).core.mem = s.core.mem ∧ (eventTo t id code priv b s).boot.flash = s.boot.flash := by
  unfold eventTo; (repeat' split) <;> simp

@[simp] theorem event_stays (code priv : Nat) (b : Bytes) :
    (event code priv b s).now = s.now ∧ (event code priv b s).core.mem = s.core.mem ∧ (event code priv b s).boot.flash = s.boot.flash := by
  unfold event emitEvent
  split
  · simp
  · exact ⟨foldl_keeps (part := (·.now)) (fun s e => by split <;> simp) _ s, foldl_keeps (part := (·.core.mem)) (fun s e => by split <;> simp) _ s, foldl_keeps (part := (·.boot.flash)) (fun s e => by split <;> simp) _ s⟩

@[simp] theorem levelChanged_stays (src : Nat) : (levelChanged src s).now = s.now ∧ (levelChanged src s).core.mem = s.core.mem ∧ (levelChanged src s).boot.flash = s.boot.flash := by
  unfold levelChanged; dsimp only; (repeat' split) <;> simp

@[simp] theorem motorRun_stays (p : Nat) (f : Bool) (d : Nat) : (motorRun p f d s).now = s.now ∧ (motorRun p f d s).core.mem = s.core.mem ∧ (motorRun p f d s).boot.flash = s.boot.flash := by
  simp [motorRun, putDefault]

@[simp] theorem motorStop_stays (p : Nat) : (motorStop p s).now = s.now ∧ (motorStop p s).core.mem = s.core.mem ∧ (motorStop p s).boot.flash = s.boot.flash := by
  simp [motorStop, putDefault]

@[simp] theorem wiperRun_stays (p : WipePhase) (d : Nat) : (wiperRun p d s).now = s.now ∧ (wiperRun p d s).core.mem = s.core.mem ∧ (wiperRun p d s).boot.flash = s.boot.flash := by
  unfold wiperRun; split <;> simp

@[simp] theorem wiperHalt_stays (p : WipePhase) : (wiperHalt p s).now = s.now ∧ (wiperHalt p s).core.mem = s.core.mem ∧ (wiperHalt p s).boot.flash = s.boot.flash := by
  unfold wiperHalt; split <;> simp

@[simp] theorem wiperRest_stays : (wiperRest s).now = s.now ∧ (wiperRest s).core.mem = s.core.mem ∧ (wiperRest s).boot.flash = s.boot.flash := by
  unfold wiperRest; dsimp only; (repeat' split) <;> simp [putDefault]

@[simp] theorem setIgn_stays (src : Nat) (v : Ign) : (setIgn src v s).now = s.now ∧ (setIgn src v s).core.mem = s.core.mem ∧ (setIgn src v s).boot.flash = s.boot.flash := by
  unfold setIgn; (repeat' split) <;> simp

@[simp] theorem loseIgn_stays : (loseIgn s).now = s.now ∧ (loseIgn s).core.mem = s.core.mem ∧ (loseIgn s).boot.flash = s.boot.flash := by
  unfold loseIgn; split <;> simp

@[simp] theorem loseStation_stays (a : Nat) : (loseStation a s).now = s.now ∧ (loseStation a s).core.mem = s.core.mem ∧ (loseStation a s).boot.flash = s.boot.flash := by
  unfold loseStation; dsimp only; (repeat' split) <;> simp

@[simp] theorem setStn_stays (p a : Nat) (new : StnState) : (setStn p a new s).now = s.now ∧ (setStn p a new s).core.mem = s.core.mem ∧ (setStn p a new s).boot.flash = s.boot.flash := by
  unfold setStn; dsimp only; (repeat' split) <;> simp [modStn]

@[simp] theorem absentAll_stays : (absentAll s).now = s.now ∧ (absentAll s).core.mem = s.core.mem ∧ (absentAll s).boot.flash = s.boot.flash := by
  unfold absentAll
  generalize allAddrs = l
  exact ⟨foldl_keeps (part := (·.now)) (fun s a => (setStn_stays s _ a _).1) l s, foldl_keeps (part := (·.core.mem)) (fun s a => (setStn_stays s _ a _).2.1) l s, foldl_keeps (part := (·.boot.flash)) (fun s a => (setStn_stays s _ a _).2.2) l s⟩

end Frames

end Sys2Proof.Proofs
end

section
/-! The Millrace engine's cycle on a port (R207, R211 to R217, R231 to R235). -/

namespace Sys2Proof.Proofs
open Sys2Proof Sys2Proof.Machine Sys2Proof.Safety

section Events
variable {q : State} {p : Nat}

theorem portRuns_iff : portRuns q p = true ↔ q.mill.on = true ∧ (getEngine q p).running = true := Bool.and_eq_true_iff

theorem portRuns_eq_false : portRuns q p = false ↔ ¬ (q.mill.on = true ∧ (getEngine q p).running = true) := by
  rw [← portRuns_iff, Bool.not_eq_true]

theorem ite_not_eq {α : Type} (b : Bool) (x y : α) : (if (!b) = true then x else y) = if b = true then y else x := by
  cases b <;> rfl

/-- The port at the beginning of its cycle `n` at `t0` (R213). -/
def cycleBegun (p n t0 : Nat) (q : State) : State :=
  modEngine p (fun x => { x with cycle := some n, t0 := t0, code := x.nextCode.getD x.code, nextCode := none, closed := false, outSent := false, computing := none, held := q.ao.severeAt.isSome }) (dropRecords p q)

/-- The number and the time of the cycle that begins (R213). -/
def BeginsAs (q : State) (p n t0 : Nat) : Prop :=
  let e := getEngine q p
  (e.cycle = none ∧ n = 0 ∧ t0 = q.now) ∨ ∃ k, e.cycle = some k ∧ n = (k + 1) % 65536 ∧ t0 = e.t0 + cycleUs q p ∧ t0 ≤ q.now

theorem cycleInstantStep_begins {n t0 : Nat} (hr : portRuns q p = true) (hb : BeginsAs q p n t0) :
    cycleInstantStep p q = if smisaRuns (cycleBegun p n t0 q) = true then
        let g := modEngine p (fun x => { x with start := some (cycleStart (cycleBegun p n t0 q) p n (getEngine q p).stopNext) }) (cycleBegun p n t0 q)
        if (getEngine q p).stopNext = true then millIdle (modEngine p (fun x => { x with running := false, stopNext := false }) g) else raiseExt 4 g
      else cycleBegun p n t0 q := by
  rcases hb with ⟨hc, rfl, rfl⟩ | ⟨k, hc, rfl, rfl, ht⟩
  · simp only [cycleInstantStep, hr, hc, Option.isSome_none, Bool.false_and, Bool.not_true, Bool.or_false, Bool.false_eq_true, if_false]
    exact ite_not_eq _ _ _
  · have hd : decide (q.now < (getEngine q p).t0 + cycleUs q p) = false := decide_eq_false (Nat.not_lt.2 ht)
    simp only [cycleInstantStep, hr, hc, hd, Option.isSome_some, Bool.and_false, Bool.not_true, Bool.or_false, Bool.false_eq_true, if_false, if_true]
    exact ite_not_eq _ _ _

theorem inputFrameStep_runs {f : InputFrame} (hr : portRuns q f.port = true) (hs : smisaRuns q = true) :
    (frameRefused q f = none → inputFrameStep f q = takeFrame f q) ∧ (frameRefused q f = some false → inputFrameStep f q = countDiscard f.port q) ∧
      (frameRefused q f = some true → inputFrameStep f q = tagFailed f.port (countDiscard f.port q)) := by
  unfold inputFrameStep
  rw [hr, hs]
  refine ⟨fun h => ?_, fun h => ?_, fun h => ?_⟩ <;> rw [h] <;> rfl

/-- A frame that is not refused has its form, its tag and its place in the running cycle (R212, R214). -/
theorem frameRefused_eq_none {f : InputFrame} (h : frameRefused q f = none) :
    frameForm q f = true ∧ (tbit (byte f.pdu 2) 0 = true → tagHolds q f.port f.pdu = true) ∧ frameCurrent q f = true := by
  unfold frameRefused at h
  cases hf : frameForm q f <;> cases hc : frameCurrent q f <;> cases hb : tbit (byte f.pdu 2) 0 <;> cases ht : tagHolds q f.port f.pdu <;> simp [hf, hc, hb, ht] at h ⊢

theorem frameForm_said {f : InputFrame} (h : frameForm q f = true) : f.vlan = false ∧ byte f.pdu 0 = 2 ∧ tbit (byte f.pdu 2) 0 = ((portCfg q f.port).getD {}).auth := by
  simp only [frameForm, Bool.and_eq_true, Bool.not_eq_true', beq_iff_eq] at h
  obtain ⟨⟨⟨⟨⟨⟨⟨⟨hv, -⟩, h0⟩, -⟩, -⟩, -⟩, -⟩, -⟩, ha⟩ := h
  exact ⟨hv, h0, ha⟩

theorem frameCurrent_said {f : InputFrame} (h : frameCurrent q f = true) :
    field f.pdu 4 2 = f.port ∧ byte f.pdu 3 = q.mill.epoch ∧ (getEngine q f.port).cycle = some (field f.pdu 6 2) ∧ byte f.pdu 1 = 2 ∧ (getEngine q f.port).closed = false ∧
      q.now * 2 < (getEngine q f.port).t0 * 2 + cycleUs q f.port := by
  simp only [frameCurrent, pastPart, Bool.and_eq_true, Bool.not_eq_true', beq_iff_eq, decide_eq_false_iff_not] at h
  obtain ⟨⟨⟨⟨⟨hp, he⟩, hc⟩, hk⟩, ho⟩, hn⟩ := h
  exact ⟨hp, he, hc, hk, ho, by omega⟩

theorem computeStep_some {c : Nat × List (Nat × Bool × Bytes)} (hc : (getEngine q p).computing = some c) :
    computeStep p q = if portRuns q p = false ∨ smisaRuns q = false then q
      else let f := modEngine p (fun e => { e with computed := some c, computing := none }) q
        if (getEngine q p).outSent = true ∨ (getEngine q p).closed = false then f else sendOutputs p f := by
  simp [computeStep, hc]

/-- The computation is behind and no report of it stands within the last second (R215). -/
def ReportsLate (q : State) (p : Nat) : Prop :=
  (getEngine q p).computing.isSome = true ∧ ∀ k, (getEngine q p).lateAt = some k → k + 1000000 ≤ q.now

theorem outputsReadyStep_reports (hr : portRuns q p = true) (hs : smisaRuns q = true) (hc : (getEngine q p).closed = true) (ho : (getEngine q p).outSent = false) (hp : pastPart q p 14 = true) :
    (ReportsLate q p → outputsReadyStep p q = issue 0x20 0x04 (p * 256) (modEngine p (fun e => { e with lateAt := some q.now }) (sendOutputs p q))) ∧
    (¬ ReportsLate q p → outputsReadyStep p q = sendOutputs p q) := by
  have hgo : (!portRuns q p || !smisaRuns q || !(getEngine q p).closed || (getEngine q p).outSent || !pastPart q p 14) = false := by rw [hr, hs, hc, ho, hp]; rfl
  rw [show p * 256 = stnDetail p 0 from (Nat.add_zero _).symm]
  unfold outputsReadyStep
  dsimp only
  rw [hgo, if_neg Bool.false_ne_true]
  refine ⟨fun h => if_neg ?_, fun h => if_pos ?_⟩
  all_goals
    cases hm : (getEngine q p).computing <;> cases hl : (getEngine q p).lateAt <;> simp [ReportsLate, hm, hl, sec] at h ⊢
    exact h

theorem residualFrameStep_open {src : Nat} {frame : Bytes} (hw : windowOpen q p = true) :
    residualFrameStep p src false frame q = let f := modEngine p (fun e => { e with learnt := if src ∈ e.learnt then e.learnt else e.learnt ++ [src] }) q
      if uplinkRuns f = true ∧ f.bus.up.link = true then upSend { tag := some (((portCfg q p).getD {}).vlan, 0), body := .bridged p ((portCfg q p).getD {}).vlan frame } f else f := by
  simp [residualFrameStep, hw]

/-- The epoch after `k`, and the first epoch of all (R216). -/
def epochAfter (o : Option Nat) (n : Nat) : Nat := match o with
  | some e => (e + 1 + n % 255) % 256
  | none => 0x80

theorem epochAfter_said (o : Option Nat) (n : Nat) : (o = none → epochAfter o n = 0x80) ∧ ∀ k, o = some k → k < 256 → epochAfter o n < 256 ∧ epochAfter o n ≠ k := by
  refine ⟨fun h => by rw [h]; rfl, fun k h hk => ?_⟩
  rw [h]
  show (k + 1 + n % 255) % 256 < 256 ∧ (k + 1 + n % 255) % 256 ≠ k
  omega

theorem engineFresh_eq (q : State) :
    let b := absentAll q
    let ep := epochAfter b.ao.epoch (draw b).1
    engineFresh q = { b with freeCtr := b.freeCtr + 1, ao := { b.ao with epoch := some ep }, mill := { b.mill with on := true, startDue := false, clearing := b.ao.epoch.isNone, parking := false, epoch := ep, startAt := b.now, keys := [], segWait := [], depsDue := true, ports := b.mill.ports.map (fun e => { e with running := false, keyWait := false }), stn := b.mill.stn.map (fun x => { x with fresh := 0, missRow := 0, silent := 0, serial := none, parked := false, got := none, join := none, answer := none }) } } := by
  have hnow := (absentAll_stays q).1
  unfold engineFresh
  generalize absentAll q = b at hnow ⊢
  rw [← hnow]
  rfl

theorem energyStep_eq {us : Nat} : energyStep p us q = if portPhy q p = 2 ∧ 100 ≤ us then wakeEvent 0x48 q else q := by
  simp [energyStep]

theorem portPhy_eq_two : portPhy q p = 2 ↔ (portCfg q p).isSome = true ∧ domSt q .net = .ret ∧ (tw q).power.wakePort = p := by
  unfold portPhy isOn
  cases portCfg q p <;> cases domSt q .net <;> by_cases hw : (tw q).power.wakePort = p <;> simp [hw]

end Events

/-- Settles O46: each event by what its step makes of the state at its time. -/
theorem millraceCycleEvents : Obligations.MillraceCycleEvents := by
  intro s t p q e runs
  have hruns : portRuns q p = true ↔ runs := portRuns_iff
  have hstops : portRuns q p = false ↔ ¬ runs := portRuns_eq_false
  refine ⟨fun h => ?quiet, fun n t0 hr hb => ?instant, fun f => ⟨fun h => ?noFrame, fun hr hs => ?frame⟩, fun f h => ?said, fun hr hs hc ho hp => ?deadline, fun h => ?noDeadline,
    fun c hc hr hs => ?compute, fun h => ?noCompute, fun hr hs hc ho hp => ?ready, fun h => ?notReady, fun src frame hw => ?residual, fun src m frame hw => ?noResidual, fun dst vlan frame => ?uplink,
    fun hw => ?opens, fun hw => ?stays, fun hd hn hs hg hf => ?start, fun h => ?noStart, fun hd ho hs => ?retry, fun h => ?noRetry, fun us hc hd hw hu => ?energy, fun us h => ?noEnergy⟩
  case quiet =>
    refine does_of_eq (x := cycleInstantStep p q) rfl (if_pos ?_)
    rcases h with h | ⟨hc, ht⟩
    · rw [hstops.2 h]; rfl
    · rw [show (getEngine q p).cycle.isSome = true from hc, show decide (q.now < (getEngine q p).t0 + cycleUs q p) = true from decide_eq_true ht]
      exact Bool.or_true _
  case instant =>
    intro f g
    have hstep := cycleInstantStep_begins (hruns.2 hr) hb
    refine ⟨fun hs he => ?_, fun hs he => ?_, fun hs => ?_⟩
    · exact does_of_eq (x := cycleInstantStep p q) rfl (hstep.trans ((if_pos hs).trans (if_neg (fun h => absurd (he.symm.trans h) (by decide)))))
    · exact does_of_eq (x := cycleInstantStep p q) rfl (hstep.trans ((if_pos hs).trans (if_pos he)))
    · exact does_of_eq (x := cycleInstantStep p q) rfl (hstep.trans (if_neg (fun h => absurd (hs.symm.trans h) (by decide))))
  case noFrame => exact does_of_eq (x := inputFrameStep f q) rfl (if_pos (by rcases h with h | h <;> simp [h]))
  case frame =>
    obtain ⟨htake, hdiscard, htag⟩ := inputFrameStep_runs hr hs
    exact ⟨fun h => does_of_eq (x := inputFrameStep f q) rfl (htake h), fun h => does_of_eq (x := inputFrameStep f q) rfl (hdiscard h), fun h => does_of_eq (x := inputFrameStep f q) rfl (htag h)⟩
  case said =>
    intro g auth
    obtain ⟨hform, htag, hcur⟩ := frameRefused_eq_none h
    obtain ⟨hv, h0, ha⟩ := frameForm_said hform
    obtain ⟨hp, he, hc, hk, ho, hn⟩ := frameCurrent_said hcur
    exact ⟨hv, h0, hk, hp, he, hc, ho, hn, ha, fun h => htag (ha.trans h)⟩
  case deadline => exact does_of_eq (x := inputDeadlineStep p q) rfl (if_neg (by simp [hruns.2 hr, hs, show (getEngine q p).cycle ≠ none from Option.isSome_iff_ne_none.1 hc, show (getEngine q p).closed = false from ho, hp]))
  case noDeadline =>
    refine does_of_eq (x := inputDeadlineStep p q) rfl (if_pos ?_)
    rcases h with h | h | h | h | h
    · simp [hstops.2 h]
    · simp [h]
    · simp [show (getEngine q p).cycle = none from h]
    · simp [show (getEngine q p).closed = true from h]
    · simp [h]
  case compute =>
    have hgo : ¬ (portRuns q p = false ∨ smisaRuns q = false) := by simp [hruns.2 hr, hs]
    have hstep := (computeStep_some hc).trans (if_neg hgo)
    refine ⟨fun h => does_of_eq (x := computeStep p q) rfl (hstep.trans (if_pos h)), fun h1 h2 => does_of_eq (x := computeStep p q) rfl (hstep.trans (if_neg ?_))⟩
    rintro (h | h)
    · exact absurd (h1.symm.trans h) (by decide)
    · exact absurd (h2.symm.trans h) (by decide)
  case noCompute =>
    cases hc : (getEngine q p).computing with
    | none => exact does_of_eq (x := computeStep p q) rfl (by simp only [computeStep, hc])
    | some c =>
      refine does_of_eq (x := computeStep p q) rfl ((computeStep_some hc).trans (if_pos ?_))
      rcases h with h | h | h
      · exact absurd (hc.symm.trans h) (by simp)
      · exact .inl (hstops.2 h)
      · exact .inr h
  case ready =>
    obtain ⟨hl, hn⟩ := outputsReadyStep_reports (hruns.2 hr) hs hc ho hp
    exact ⟨fun h => does_of_eq (x := outputsReadyStep p q) rfl (hn h), fun h => does_of_eq (x := outputsReadyStep p q) rfl (hl h)⟩
  case notReady =>
    refine does_of_eq (x := outputsReadyStep p q) rfl (if_pos ?_)
    rcases h with h | h | h | h | h
    · simp [hstops.2 h]
    · simp [h]
    · simp [show (getEngine q p).closed = false from h]
    · simp [show (getEngine q p).outSent = true from h]
    · simp [h]
  case residual =>
    intro f
    refine ⟨does_of_eq (x := residualFrameStep p src true frame q) rfl (if_neg (by rw [hw]; decide)), fun hu hl => ?_, fun h => ?_⟩
    · exact does_of_eq (x := residualFrameStep p src false frame q) rfl ((residualFrameStep_open hw).trans (if_pos ⟨hu, hl⟩))
    · refine does_of_eq (x := residualFrameStep p src false frame q) rfl ((residualFrameStep_open hw).trans (if_neg ?_))
      rintro ⟨hu, hl⟩
      exact h.elim (fun h => absurd (h.symm.trans hu) (by decide)) (fun h => absurd (h.symm.trans hl) (by decide))
  case noResidual => exact does_of_eq (x := residualFrameStep p src m frame q) rfl (if_neg (by rw [hw]; exact Bool.false_ne_true))
  case uplink =>
    exact ⟨fun h => does_of_eq (x := residualUplinkStep dst vlan frame q) rfl (if_neg (by rw [h]; decide)), fun h => does_of_eq (x := residualUplinkStep dst vlan frame q) rfl (if_pos h)⟩
  case opens => exact does_of_eq (x := residualOpenStep p q) rfl (if_neg (by rw [hw]; decide))
  case stays => exact does_of_eq (x := residualOpenStep p q) rfl (if_pos (by rw [hw]; rfl))
  case start =>
    intro b
    refine ⟨epochAfter b.ao.epoch (draw b).1, (epochAfter_said _ _).1, (epochAfter_said _ _).2, ?_⟩
    intro z
    have hz : [0, 1, 2, 3].foldl tryPort (engineFresh q) = z := by rw [engineFresh_eq]
    refine does_of_eq (x := engineStartStep q) rfl ((if_neg (by simp [hd, hn, hs, hg, hf])).trans ?_)
    rw [hz]
  case noStart =>
    refine does_of_eq (x := engineStartStep q) rfl (if_pos ?_)
    rcases h with h | h | h | h | h <;> simp [h]
  case retry => exact does_of_eq (x := keyRetryStep q) rfl (if_pos (by rw [hd, ho, hs]; rfl))
  case noRetry => exact does_of_eq (x := keyRetryStep q) rfl (if_neg (by rcases h with h | h | h <;> simp [h]))
  case energy => exact does_of_eq (x := energyStep p us q) rfl (energyStep_eq.trans (if_pos ⟨portPhy_eq_two.2 ⟨hc, hd, hw⟩, hu⟩))
  case noEnergy =>
    refine does_of_eq (x := energyStep p us q) rfl (energyStep_eq.trans (if_neg ?_))
    rw [portPhy_eq_two]
    rintro ⟨⟨hc, hd, hw⟩, hu⟩
    rcases h with h | h | h | h
    · exact absurd (h ▸ hc) (by decide)
    · exact h hd
    · exact h hw
    · exact Nat.not_lt.2 hu h

end Sys2Proof.Proofs
end

section
/-! DSRC on air: the transaction's beginning, its frames and its end (R260, R265 to R270, R287). -/

namespace Sys2Proof.Proofs
open Sys2Proof Sys2Proof.Machine Sys2Proof.Safety

section Begin
variable {p : State}

/-- What a BST needs before the tag answers it at all (R265, R266). -/
abbrev BstServed (p : State) (channel profile : Nat) : Prop :=
  radioOn p = true ∧ (tw p).tag.dsrc = true ∧ channel ≤ 3 ∧ profile ≤ 1 ∧ p.tag.txn = none ∧ p.tag.state ≠ 0 ∧ p.tag.state ≠ 4 ∧ p.tag.buffer.length < 32 ∧ p.tag.apduRuns = false

/-- A VST went to the beacon within the last ten seconds (R267). -/
abbrev RecentVst (p : State) (beacon : Nat) : Prop := ∃ e, e ∈ p.tag.vstSent ∧ e.1 = beacon ∧ p.now < e.2 + 10000000

/-- The bar of `bstStep`, and what it says (R265, R266). -/
theorem bstStep_unserved {beacon channel profile : Nat} {efc : Bool} {ctx : Bytes} (h : ¬ BstServed p channel profile) : bstStep beacon channel profile efc ctx p = silent p := by
  refine if_pos ?_
  by_contra hn
  simp only [Bool.or_eq_true, not_or, Bool.not_eq_true', Bool.not_eq_false, decide_eq_true_eq, Nat.not_lt, beq_iff_eq, tagBufferFull, Nat.not_le, Bool.not_eq_true,
    Option.isSome_eq_false_iff, Option.isNone_iff_eq_none] at hn
  obtain ⟨⟨⟨⟨⟨⟨⟨⟨hr, hd⟩, hc⟩, hp⟩, ht⟩, h0⟩, h4⟩, hb⟩, ha⟩ := hn
  exact h ⟨hr, hd, hc, hp, ht, h0, h4, hb, ha⟩

/-- The bar is passed by a BST that is served. -/
theorem bstBar_eq_false {channel profile : Nat} (h : BstServed p channel profile) :
    (!radioOn p || !(tw p).tag.dsrc || decide (3 < channel) || decide (1 < profile) || p.tag.txn.isSome || p.tag.state == 0 || p.tag.state == 4 || tagBufferFull p || p.tag.apduRuns) = false := by
  obtain ⟨hr, hd, hc, hp, ht, h0, h4, hb, ha⟩ := h
  simp [hr, hd, hc, hp, ht, h0, h4, hb, ha, tagBufferFull]

theorem bstStep_refused {beacon channel profile : Nat} {efc : Bool} {ctx : Bytes} (h : BstServed p channel profile) (hi : p.tag.ins = 3 ∨ p.tag.ins = 4) :
    bstStep beacon channel profile efc ctx p = refusedAttempt beacon (silent p) := by
  unfold bstStep
  rw [bstBar_eq_false h]
  have hb : (p.tag.ins == 3 || p.tag.ins == 4) = true := by rcases hi with h | h <;> simp [h]
  exact if_pos hb

/-- What the tag answers and begins with the first BST of a beacon (R265 to R267). -/
def bstAnswered (beacon channel profile : Nat) (x : InsSession) (p : State) : State :=
  let a := random (silent p)
  let b := random a.2
  answer (.vst (a.1 % 4294967296) channel profile ((x.contract.attrs.filter (fun e => e.1 == 0)).map (fun e => e.2)) p.otp.serial (b.1 % 4294967296))
    (modTag (fun t => { t with txn := some { beacon := beacon, profile := profile, channel := channel, phase := 1, utc := utcStamp p, life := p.ao.life, rtcSet := p.ao.rtcSet, rnd := b.1 % 4294967296, lastAt := p.now }, vstSent := setN beacon p.now t.vstSent }) (cutWrite b.2))

theorem bstStep_session {beacon channel profile : Nat} {efc : Bool} {ctx : Bytes} {x : InsSession} (h : BstServed p channel profile) (h3 : p.tag.ins ≠ 3) (h4 : p.tag.ins ≠ 4) (hx : p.tag.sess = some x) :
    bstStep beacon channel profile efc ctx p = if p.tag.state ≠ 3 ∨ efc = false ∨ listsContext x.contract ctx = false ∨ RecentVst p beacon then silent p else bstAnswered beacon channel profile x p := by
  unfold bstStep
  dsimp only
  rw [bstBar_eq_false h, if_neg Bool.false_ne_true, if_neg (by simp [h3, h4]), hx]
  refine if_congr ?_ rfl rfl
  rw [show sec 10 = 10000000 from rfl]
  simp [RecentVst, or_assoc]

end Begin

section Frames
variable {p : State} {bit : Bool} {link : Nat} {k : State → State × Option AirOut} {d : Dsrc}

/-- The transaction with the frame's arrival noted: what an APDU of it works on (R267, R287). -/
def freshTxn (bit : Bool) (link : Nat) (p : State) : State :=
  if link = 0 then modTxn (fun x => { x with lastAt := p.now, lastBit := some bit, repeated := false }) p else modTxn (fun x => { x with lastAt := p.now }) p

theorem freshTxn_sess : (freshTxn bit link p).tag.sess = p.tag.sess := by
  unfold freshTxn; split <;> rfl

theorem dsrcFrame_silent (h : p.tag.txn = none ∨ dsrcOn p = false) : dsrcFrame bit link k p = silent p := by
  unfold dsrcFrame
  cases ht : p.tag.txn with
  | none => rfl
  | some d => exact if_pos (by rw [h.resolve_left (by simp [ht])]; rfl)

section Serves
variable (ht : p.tag.txn = some d) (ho : dsrcOn p = true)
include ht ho

theorem dsrcFrame_serves : dsrcFrame bit link k p =
    if link ≠ 0 then
      if d.lastBit ≠ some bit ∨ d.repeated = true ∨ (link = 2 ∧ d.lastOk = false) then p
      else
        let r := k (modTxn (fun x => { x with lastAt := p.now }) p)
        let s1 := modTxn (fun x => { x with lastOk := answerOk r.2 }) r.1
        r.2.elim s1 (fun a => answer (joinAnswer d.lastResp a) (modTxn (fun x => { x with lastResp := some (joinAnswer d.lastResp a) }) s1))
    else if d.lastBit = some bit then modTxn (fun x => { x with lastAt := p.now, repeated := true }) (modTag (fun y => { y with air := d.lastResp }) p)
    else
      let r := k (modTxn (fun x => { x with lastAt := p.now, lastBit := some bit, repeated := false }) p)
      let s1 := modTxn (fun x => { x with lastResp := r.2, lastOk := answerOk r.2 }) r.1
      r.2.elim (silent s1) (fun a => answer a s1) := by
  unfold dsrcFrame
  rw [ht]
  dsimp only
  rw [ho]
  refine (if_neg (by decide)).trans ?_
  refine if_congr (by simp) (if_congr (by simp [or_assoc]) rfl ?_) (if_congr (by simp) rfl ?_)
  · cases (k (modTxn (fun x => { x with lastAt := p.now }) p)).2 <;> rfl
  · cases (k (modTxn (fun x => { x with lastAt := p.now, lastBit := some bit, repeated := false }) p)).2 <;> rfl

theorem dsrcFrame_repeated (hl : link = 0) (hb : d.lastBit = some bit) :
    dsrcFrame bit link k p = modTxn (fun x => { x with lastAt := p.now, repeated := true }) (modTag (fun y => { y with air := d.lastResp }) p) :=
  (dsrcFrame_serves ht ho).trans ((if_neg (fun h => h hl)).trans (if_pos hb))

theorem dsrcFrame_dropped (hl : link ≠ 0) (h : d.lastBit ≠ some bit ∨ d.repeated = true ∨ (link = 2 ∧ d.lastOk = false)) : dsrcFrame bit link k p = p :=
  (dsrcFrame_serves ht ho).trans ((if_pos hl).trans (if_pos h))

section Runs
variable (h0 : link = 0 → d.lastBit ≠ some bit) (h1 : link ≠ 0 → d.lastBit = some bit ∧ d.repeated = false ∧ (link = 2 → d.lastOk = true))
include h0 h1

/-- An APDU that is carried out and answers: its answer alone, or joined to that of the APDU before it (R267). -/
theorem dsrcFrame_replies {w : State} {a : AirOut} (hk : k (freshTxn bit link p) = (w, some a)) :
    (link = 0 → dsrcFrame bit link k p = answer a (modTxn (fun x => { x with lastResp := some a, lastOk := answerOk (some a) }) w)) ∧
    (link ≠ 0 → dsrcFrame bit link k p = answer (joinAnswer d.lastResp a) (modTxn (fun x => { x with lastResp := some (joinAnswer d.lastResp a) }) (modTxn (fun x => { x with lastOk := answerOk (some a) }) w))) := by
  refine ⟨fun hl => (dsrcFrame_serves ht ho).trans ((if_neg (fun h => h hl)).trans ((if_neg (h0 hl)).trans ?_)), fun hl => (dsrcFrame_serves ht ho).trans ((if_pos hl).trans ((if_neg ?_).trans ?_))⟩
  · rw [freshTxn, if_pos hl] at hk
    rw [hk]; rfl
  · obtain ⟨hb, hr, h2⟩ := h1 hl
    simpa [hb, hr] using h2
  · rw [freshTxn, if_neg hl] at hk
    rw [hk]; rfl

/-- An APDU that is carried out and has no answer (R267, R270). -/
theorem dsrcFrame_nothing {w : State} (hk : k (freshTxn bit link p) = (w, none)) :
    (link = 0 → dsrcFrame bit link k p = silent (modTxn (fun x => { x with lastResp := none, lastOk := true }) w)) ∧ (link ≠ 0 → dsrcFrame bit link k p = modTxn (fun x => { x with lastOk := true }) w) := by
  refine ⟨fun hl => (dsrcFrame_serves ht ho).trans ((if_neg (fun h => h hl)).trans ((if_neg (h0 hl)).trans ?_)), fun hl => (dsrcFrame_serves ht ho).trans ((if_pos hl).trans ((if_neg ?_).trans ?_))⟩
  · rw [freshTxn, if_pos hl] at hk
    rw [hk]; rfl
  · obtain ⟨hb, hr, h2⟩ := h1 hl
    simpa [hb, hr] using h2
  · rw [freshTxn, if_neg hl] at hk
    rw [hk]; rfl

end Runs
end Serves

/-- The six commands that carry one APDU of a transaction are frames of it. -/
theorem exists_dsrcFrame {s : State} {t : Nat} {c : Instr} (h : (∃ a x, c = .get t bit link a x) ∨ (∃ a v, c = .set t bit link a v) ∨ (∃ a r j x, c = .actionGetStamped t bit link a r j x) ∨
    (∃ v, c = .actionSetMmi t bit link v) ∨ (∃ v, c = .actionEcho t bit link v) ∨ c = .eventReport t bit link) :
    ∃ k, ∀ w, dsrcFrame bit link k (advance t s) = w → Does c s w := by
  rcases h with ⟨a, x, rfl⟩ | ⟨a, v, rfl⟩ | ⟨a, r, j, x, rfl⟩ | ⟨v, rfl⟩ | ⟨v, rfl⟩ | rfl
  all_goals exact ⟨_, fun w hw => does_of_eq rfl hw⟩

end Frames

/-- Settles O48: the BST, then an APDU of the transaction by its kind, then its time-out. -/
theorem dsrcTransactions : Obligations.DsrcTransactions := by
  intro s t p q
  refine ⟨fun beacon channel profile efc ctx => ?bst, fun c bit link hc => ?frame, fun d bit link ht ho h0 h1 => ?apdu, fun h => does_of_eq (x := txnIdleStep p) rfl (by simp only [txnIdleStep, h]), fun d h => ?idle⟩
  case bst =>
    intro may
    refine ⟨fun h => does_of_eq (x := bstStep beacon channel profile efc ctx p) rfl (bstStep_unserved h), fun h hi => does_of_eq (x := bstStep beacon channel profile efc ctx p) rfl (bstStep_refused h hi),
      fun h h3 h4 x hx => ?_⟩
    intro recent
    refine ⟨fun hn => does_of_eq (x := bstStep beacon channel profile efc ctx p) rfl ((bstStep_session h h3 h4 hx).trans (if_pos hn)), fun hs he hl hr => ?_⟩
    refine ⟨(random q).1 % 4294967296, (random (random q).2).1 % 4294967296, Nat.mod_lt _ (by decide), Nat.mod_lt _ (by decide), ?_⟩
    refine does_of_eq (x := bstStep beacon channel profile efc ctx p) rfl ((bstStep_session h h3 h4 hx).trans (if_neg ?_))
    rintro (hn | hn | hn | hn)
    · exact hn hs
    · exact absurd (hn.symm.trans he) (by decide)
    · exact absurd (hn.symm.trans hl) (by decide)
    · exact hr hn
  case frame =>
    obtain ⟨k, hk⟩ := exists_dsrcFrame (s := s) hc
    exact ⟨fun h => hk _ (dsrcFrame_silent h), fun d ht ho => ⟨fun hl hb => hk _ (dsrcFrame_repeated ht ho hl hb), fun hl h => hk _ (dsrcFrame_dropped ht ho hl h)⟩⟩
  case apdu =>
    intro fresh replies nothing
    have hreplies : ∀ {c : Instr} {k : State → State × Option AirOut} {w : State} {a : AirOut}, (∀ v, dsrcFrame bit link k p = v → Does c s v) → k fresh = (w, some a) → replies c a w :=
      fun hc hk => ⟨fun hl => hc _ ((dsrcFrame_replies ht ho h0 h1 hk).1 hl), fun hl => hc _ ((dsrcFrame_replies ht ho h0 h1 hk).2 hl)⟩
    have hnothing : ∀ {c : Instr} {k : State → State × Option AirOut} {w : State}, (∀ v, dsrcFrame bit link k p = v → Does c s v) → k fresh = (w, none) → nothing c w :=
      fun hc hk => ⟨fun hl => hc _ ((dsrcFrame_nothing ht ho h0 h1 hk).1 hl), fun hl => hc _ ((dsrcFrame_nothing ht ho h0 h1 hk).2 hl)⟩
    refine ⟨fun attrs cred hc => hreplies (fun v hv => does_of_eq rfl hv) (if_pos hc), fun attrs cred hc => hnothing (fun v hv => does_of_eq (x := getStep bit link attrs cred p) rfl hv) (if_neg (by rw [hc]; decide)),
      fun v => hreplies (fun v hv => does_of_eq rfl hv) rfl, fun v => hreplies (fun v hv => does_of_eq rfl hv) rfl, fun a v h33 h34 => hreplies (fun v hv => does_of_eq rfl hv) (if_neg (by simp [h33, h34])),
      fun attrs rnd key cred x hx hc => ?stamped, fun attrs rnd key cred hc => hnothing (fun v hv => does_of_eq (x := stampedStep bit link attrs rnd key cred p) rfl hv) (if_neg (by rw [hc]; decide)),
      fun v => hreplies (fun v hv => does_of_eq rfl hv) rfl, fun v => hreplies (fun v hv => does_of_eq rfl hv) rfl, hnothing (fun v hv => does_of_eq rfl hv) rfl⟩
    intro l
    refine hreplies (fun v hv => does_of_eq (x := stampedStep bit link attrs rnd key cred p) rfl hv) ((if_pos hc).trans ?_)
    dsimp only
    rw [show fresh.tag.sess = some x from freshTxn_sess.trans hx]
  case idle =>
    refine ⟨fun hl hp => does_of_eq (x := txnIdleStep p) rfl ?_, fun hn => does_of_eq (x := txnIdleStep p) rfl ?_⟩
    all_goals unfold txnIdleStep; rw [h]
    · exact if_pos (by rw [decide_eq_true hp, Bool.and_true]; exact decide_eq_true hl)
    · refine if_neg ?_
      rcases hn with hn | hn
      · simp [ms, Nat.not_le.2 hn]
      · simp [Nat.not_lt.2 hn]

end Sys2Proof.Proofs
end

section
/-! The UHF tag on air: inventory, handle, access and its flags (R271 to R274). -/

namespace Sys2Proof.Proofs
open Sys2Proof Sys2Proof.Machine Sys2Proof.Safety

section Events
variable {p : State}

theorem selectStep_eq {target action bank ptr len : Nat} {mask : Bytes} :
    selectStep target action bank ptr len mask p = let b := carrierBack p
      if uhfOn b = true ∧ target ≤ 4 then modUhf (fun u => { selAction target action (selMatch b bank ptr len mask) p.now u with phase := 0 }) (silent b) else silent b := by
  have hn : (carrierBack p).now = p.now := by unfold carrierBack; split <;> rfl
  simp [selectStep, hn]

theorem queryStep_on {sel session n : Nat} {target : Bool} (hu : uhfOn p = true) :
    queryStep sel session target n p = let w := leaveRound session (silent (carrierBack p))
      if (sel < 2 ∨ w.tag.uhf.sl = (sel == 3)) ∧ invFlag w.tag.uhf session = target then drawSlot (n % 16) (modUhf (fun u => { u with session := session, accessHalf := false, accessed := false }) w)
      else modUhf (fun u => { u with phase := 0 }) w := by
  simp [queryStep, hu]

/-- The rounds in which a QueryAdjust or QueryRep of the session reaches the tag. -/
theorem inRound {session : Nat} (hu : uhfOn p = true) (h1 : 1 ≤ p.tag.uhf.phase) (hs : p.tag.uhf.session = session) :
    (!uhfOn p || p.tag.uhf.phase == 0 || p.tag.uhf.session != session) = false := by
  simp [hu, hs]; omega

theorem notInRound {session : Nat} (h : uhfOn p = false ∨ p.tag.uhf.phase = 0 ∨ p.tag.uhf.session ≠ session) : (!uhfOn p || p.tag.uhf.phase == 0 || p.tag.uhf.session != session) = true := by
  rcases h with h | h | h <;> simp [h]

theorem queryAdjustStep_in {session : Nat} {d : Int} (hu : uhfOn p = true) (h1 : 1 ≤ p.tag.uhf.phase) (hs : p.tag.uhf.session = session) :
    queryAdjustStep session d p = if 3 ≤ p.tag.uhf.phase then leaveRound session (silent p) else drawSlot (min 15 ((p.tag.uhf.q : Int) + d).toNat) (silent p) := by
  unfold queryAdjustStep
  dsimp only
  rw [inRound hu h1 hs, if_neg Bool.false_ne_true]

theorem queryRepStep_in {session : Nat} (hu : uhfOn p = true) (h1 : 1 ≤ p.tag.uhf.phase) (hs : p.tag.uhf.session = session) :
    queryRepStep session p = if 3 ≤ p.tag.uhf.phase then leaveRound session (silent p)
      else if p.tag.uhf.phase = 1 ∧ (p.tag.uhf.slot + 32767) % 32768 = 0 then
        answer (.rn16 ((random (silent p)).1 % 65536)) (modUhf (fun u => { u with phase := 2, slot := 0, rn := (random (silent p)).1 % 65536 }) (random (silent p)).2)
      else modUhf (fun u => { u with phase := 1, slot := (p.tag.uhf.slot + 32767) % 32768 }) (silent p) := by
  unfold queryRepStep
  dsimp only
  rw [inRound hu h1 hs, if_neg Bool.false_ne_true]
  exact if_congr Iff.rfl rfl (if_congr (by simp) rfl rfl)

theorem ackStep_acked {rn : Nat} (hu : uhfOn p = true) (h2 : 2 ≤ p.tag.uhf.phase) :
    ackStep rn p = if p.tag.uhf.rn = rn then answer (.epc (pcEpc p).1 (pcEpc p).2 (epcCrc p)) (modUhf (fun u => { u with phase := max 3 u.phase }) p) else silent (modUhf (fun u => { u with phase := 1 }) p) := by
  simp [ackStep, hu, Nat.not_lt.2 h2]

theorem reqRnStep_drawn {rn : Nat} (hu : uhfOn p = true) (h3 : 3 ≤ p.tag.uhf.phase) (hr : p.tag.uhf.rn = rn) :
    reqRnStep rn p = if p.tag.uhf.phase = 3 then answer (.handle ((random p).1 % 65536)) (modUhf (fun u => { u with phase := if accessPw p = 0 then 5 else 4, rn := (random p).1 % 65536 }) (random p).2)
      else answer (.rn16 ((random p).1 % 65536)) (random p).2 := by
  simp [reqRnStep, hu, hr, Nat.not_lt.2 h3]

theorem underHandle_held {handle : Nat} {k : State → State} (hu : uhfOn p = true) (h4 : 4 ≤ p.tag.uhf.phase) (hr : p.tag.uhf.rn = handle) : underHandle handle k p = k p :=
  if_pos (by rw [hu, hr, decide_eq_true h4]; exact beq_self_eq_true handle)

theorem underHandle_other {handle : Nat} {k : State → State} (h : ¬ (uhfOn p = true ∧ 4 ≤ p.tag.uhf.phase ∧ p.tag.uhf.rn = handle)) : underHandle handle k p = silent p :=
  if_neg (by simpa [and_assoc] using h)

theorem rfFieldStep_eq {us : Nat} : rfFieldStep us p = if p.otp.part = .bz7460 ∧ domSt p .rfd = .ret ∧ (tw p).tag.fieldDetect = true ∧ 100 ≤ us then wakeEvent 0x50 p else p := by
  simp [rfFieldStep, hasTag, and_assoc]

section Held
variable {handle : Nat} (hu : uhfOn p = true) (h4 : 4 ≤ p.tag.uhf.phase) (hr : p.tag.uhf.rn = handle)
include hu h4 hr

theorem readStep_bank {bank ptr count : Nat} {b : Bytes} (hb : uhfBank p bank = some b) :
    readStep bank ptr count handle p = let n := if count = 0 then b.length / 2 - ptr else count
      if bank = 0 ∨ (bank = 3 ∧ p.tag.uhf.accessed = false) then answer (.error .memLocked handle) p
      else if 2 * (ptr + n) ≤ b.length ∧ 2 * ptr < b.length then answer (.words (slice b (2 * ptr) (2 * n)) handle) p
      else answer (.error .memOverrun handle) p := by
  rw [readStep, underHandle_held hu h4 hr]
  dsimp only
  rw [hb]
  dsimp only
  rw [show (if (count == 0) = true then b.length / 2 - ptr else count) = if count = 0 then b.length / 2 - ptr else count from if_congr beq_iff_eq rfl rfl]
  refine if_congr (by simp) rfl ?_
  refine Eq.trans ?_ (ite_not _ _ _)
  refine if_congr ?_ rfl rfl
  simp only [Bool.or_eq_true, decide_eq_true_eq, not_and_or, Nat.not_le, Nat.not_lt]

theorem accessStep_held {pw : Nat} :
    accessStep pw handle p = if pw ≠ (if p.tag.uhf.accessHalf then accessPw p % 65536 else accessPw p / 65536) then silent (modUhf (fun u => { u with phase := 1, accessHalf := false }) p)
      else if p.tag.uhf.accessHalf = true then answer (.handle handle) (modUhf (fun u => { u with phase := 5, accessHalf := false, accessed := true }) p)
      else answer (.handle handle) (modUhf (fun u => { u with accessHalf := true }) p) := by
  rw [accessStep, underHandle_held hu h4 hr]
  exact if_congr bne_iff_ne rfl rfl

theorem authenticateStep_held {csi method key : Nat} {ch : Bytes} :
    authenticateStep csi method key ch handle p = if p.tag.state ≠ 3 ∨ p.tag.txn.isSome = true then silent p
      else if csi ≠ 0 ∨ method ≠ 0 ∨ key ≠ 0 then answer (.error .unsupported handle) p
      else p.tag.sess.elim (silent p) (fun x => afterTxn false (logTxn { utc := utcStamp p, life := p.ao.life, kind := 1, phase := 3, rtcSet := p.ao.rtcSet, counted := true } (answer (.tam1 (Config.tam1 x.uhfKey ch) handle) (spend (cutWrite p))))) := by
  rw [authenticateStep, underHandle_held hu h4 hr]
  refine if_congr (by simp) rfl (if_congr (by simp [or_assoc]) rfl ?_)
  cases p.tag.sess <;> rfl

end Held
end Events

/-- Settles O49: each command by what its step makes of the state at its time. -/
theorem uhfCommands : Obligations.UhfCommands := by
  intro s t p q back
  have hback : carrierBack p = back := rfl
  refine ⟨fun target action bank ptr len mask => ?select, fun sel session target n => ?query, fun session => ?round, fun rn => ?number, fun hu h1 => does_of_eq (x := nakStep p) rfl (if_pos (by rw [hu]; exact decide_eq_true h1)),
    fun h => does_of_eq (x := nakStep p) rfl (if_neg (by rcases h with h | h <;> simp [h])), fun handle h => ?other, fun handle hu h4 hr => ?handle, does_of_eq (x := fieldLossStep p) rfl rfl, ?persistence,
    fun us hp hd hf hu => does_of_eq (x := rfFieldStep us p) rfl (rfFieldStep_eq.trans (if_pos ⟨hp, hd, hf, hu⟩)), fun us h => does_of_eq (x := rfFieldStep us p) rfl (rfFieldStep_eq.trans (if_neg ?noField))⟩
  case select =>
    refine ⟨fun hu ht => does_of_eq (x := selectStep target action bank ptr len mask p) rfl (selectStep_eq.trans (if_pos ⟨hu, ht⟩)), fun h => does_of_eq (x := selectStep target action bank ptr len mask p) rfl (selectStep_eq.trans (if_neg ?_))⟩
    rintro ⟨hu, ht⟩
    exact h.elim (fun h => absurd (h.symm.trans hu) (by decide)) (fun h => Nat.not_le.2 h ht)
  case query =>
    refine ⟨fun hu => does_of_eq (x := queryStep sel session target n p) rfl (if_pos (by rw [hu]; rfl)), fun hu => ?_⟩
    intro w
    refine ⟨fun h hf => does_of_eq (x := queryStep sel session target n p) rfl ((queryStep_on hu).trans (if_pos ⟨h, hf⟩)), fun h => does_of_eq (x := queryStep sel session target n p) rfl ((queryStep_on hu).trans (if_neg ?_))⟩
    rintro ⟨hs, hf⟩
    exact h.elim (fun h => h hs) (fun h => h hf)
  case round =>
    intro u
    refine ⟨fun h => ⟨fun d => does_of_eq (x := queryAdjustStep session d p) rfl (if_pos (notInRound h)), does_of_eq (x := queryRepStep session p) rfl (if_pos (notInRound h))⟩,
      fun hu h3 hs => ⟨fun d => does_of_eq (x := queryAdjustStep session d p) rfl ((queryAdjustStep_in hu (Nat.le_trans (by decide) h3) hs).trans (if_pos h3)), does_of_eq (x := queryRepStep session p) rfl ((queryRepStep_in hu (Nat.le_trans (by decide) h3) hs).trans (if_pos h3))⟩,
      fun hu h1 h3 hs => ⟨fun d => does_of_eq (x := queryAdjustStep session d p) rfl ((queryAdjustStep_in hu h1 hs).trans (if_neg (Nat.not_le.2 h3))), ?_⟩⟩
    intro n
    have hstep := (queryRepStep_in hu h1 hs).trans (if_neg (Nat.not_le.2 h3))
    refine ⟨fun h => does_of_eq (x := queryRepStep session p) rfl (hstep.trans (if_neg ?_)), fun hp hn => ⟨(random q).1 % 65536, Nat.mod_lt _ (by decide), does_of_eq (x := queryRepStep session p) rfl (hstep.trans (if_pos ⟨hp, hn⟩))⟩⟩
    rintro ⟨hp, hn⟩
    exact h.elim (fun h => absurd (hp.symm.trans h) (by decide)) (fun h => h hn)
  case number =>
    refine ⟨fun h => does_of_eq (x := ackStep rn p) rfl (if_pos (by rcases h with h | h <;> simp [h])), fun hu h2 hr => does_of_eq (x := ackStep rn p) rfl ((ackStep_acked hu h2).trans (if_pos hr)),
      fun hu h2 hr => does_of_eq (x := ackStep rn p) rfl ((ackStep_acked hu h2).trans (if_neg hr)), fun h => does_of_eq (x := reqRnStep rn p) rfl (if_pos (by rcases h with h | h | h <;> simp [h])),
      fun hu hr => ⟨(random p).1 % 65536, Nat.mod_lt _ (by decide), fun h3 => ?_, fun h3 => ?_⟩⟩
    · exact does_of_eq (x := reqRnStep rn p) rfl ((reqRnStep_drawn hu (Nat.le_of_eq h3.symm) hr).trans (if_pos h3))
    · exact does_of_eq (x := reqRnStep rn p) rfl ((reqRnStep_drawn hu (Nat.le_of_lt h3) hr).trans (if_neg (Nat.ne_of_gt h3)))
  case other =>
    exact ⟨does_of_eq (x := uhfWriteStep handle p) rfl (underHandle_other h), does_of_eq (x := blockWriteStep handle p) rfl (underHandle_other h), does_of_eq (x := blockEraseStep handle p) rfl (underHandle_other h),
      does_of_eq (x := lockStep handle p) rfl (underHandle_other h), does_of_eq (x := killStep handle p) rfl (underHandle_other h), fun a b c => does_of_eq (x := readStep a b c handle p) rfl (underHandle_other h),
      fun a => does_of_eq (x := accessStep a handle p) rfl (underHandle_other h), fun a b c d => does_of_eq (x := authenticateStep a b c d handle p) rfl (underHandle_other h)⟩
  case handle =>
    intro locked
    refine ⟨does_of_eq (x := uhfWriteStep handle p) rfl (underHandle_held hu h4 hr), does_of_eq (x := blockWriteStep handle p) rfl (underHandle_held hu h4 hr), does_of_eq (x := blockEraseStep handle p) rfl (underHandle_held hu h4 hr),
      does_of_eq (x := lockStep handle p) rfl (underHandle_held hu h4 hr), does_of_eq (x := killStep handle p) rfl (underHandle_held hu h4 hr), fun bank ptr count hb => ?_, fun bank ptr count b hb => ?_, fun pw => ?_, fun csi method key ch => ?_⟩
    · refine does_of_eq (x := readStep bank ptr count handle p) rfl ((underHandle_held hu h4 hr).trans ?_)
      dsimp only
      rw [hb]
    · intro n shut inside
      have hstep := readStep_bank hu h4 hr (ptr := ptr) (count := count) hb
      exact ⟨fun hs => does_of_eq (x := readStep bank ptr count handle p) rfl (hstep.trans (if_pos hs)), fun hs hi => does_of_eq (x := readStep bank ptr count handle p) rfl (hstep.trans ((if_neg hs).trans (if_neg hi))),
        fun hs hi => does_of_eq (x := readStep bank ptr count handle p) rfl (hstep.trans ((if_neg hs).trans (if_pos hi)))⟩
    · intro want
      have hstep := accessStep_held hu h4 hr (pw := pw)
      exact ⟨fun hw => does_of_eq (x := accessStep pw handle p) rfl (hstep.trans (if_pos hw)), fun hw hh => does_of_eq (x := accessStep pw handle p) rfl (hstep.trans ((if_neg (not_not.2 hw)).trans (if_pos hh))),
        fun hw hh => does_of_eq (x := accessStep pw handle p) rfl (hstep.trans ((if_neg (not_not.2 hw)).trans (if_neg (by rw [hh]; decide))))⟩
    · have hgo : ∀ {k : State}, p.tag.state = 3 → p.tag.txn = none → (if p.tag.state ≠ 3 ∨ p.tag.txn.isSome = true then silent p else k) = k := fun hs ht => if_neg (by simp [hs, ht])
      refine ⟨fun h => does_of_eq (x := authenticateStep csi method key ch handle p) rfl ((authenticateStep_held hu h4 hr).trans (if_pos h)),
        fun hs ht h => does_of_eq (x := authenticateStep csi method key ch handle p) rfl ((authenticateStep_held hu h4 hr).trans ((hgo hs ht).trans (if_pos h))),
        fun x hs ht hx => does_of_eq (x := authenticateStep 0 0 0 ch handle p) rfl ((authenticateStep_held hu h4 hr).trans ((hgo hs ht).trans ((if_neg (by decide)).trans ?_)))⟩
      rw [hx]; rfl
  case persistence =>
    intro w
    exact ⟨fun h => does_of_eq (x := flagPersistStep p) rfl (if_pos h), fun h => does_of_eq (x := flagPersistStep p) rfl (if_neg (by rw [h]; decide))⟩
  case noField =>
    rintro ⟨hp, hd, hf, hu⟩
    rcases h with h | h | h | h
    · exact h hp
    · exact h hd
    · exact absurd (h.symm.trans hf) (by decide)
    · exact Nat.not_lt.2 hu h

end Sys2Proof.Proofs
end

section
/-! The credential insert: insertion, answers, removal and write-backs (R276 to R284). -/

namespace Sys2Proof.Proofs
open Sys2Proof Sys2Proof.Machine Sys2Proof.Safety

section Events
variable {p : State}

theorem insertionStep_eq : insertionStep p = if p.otp.part ≠ .bz7460 ∨ p.env.insDet = true then p
    else acceptPresent (setIns 1 (bump 0x30 0 1 (wakeEvent 0x58 (modTag (fun x => { x with detAt := some p.now }) { p with env := { p.env with insDet := true } })))) := by
  simp [insertionStep, hasTag]

/-- A block whose check fails is asked for again, three times (R278). -/
def askedAgain (atr : Bool) (p : State) : State := modLink (fun l => { l with retries := l.retries + 1, bwtAt := p.now + (if atr = true then 1500000 else l.bwt) }) p

theorem repeatBlock_getD (atr : Bool) (d : State) : (repeatBlock atr p).getD d = if 3 ≤ p.tag.link.retries then d else askedAgain atr p := by
  unfold repeatBlock
  split <;> rfl

theorem response_accepting {x : Accept} {d : Bytes} {sw : Nat} {ok : Bool} (hx : p.tag.accept = some x) :
    insertResponseStep d sw ok p = if p.enc.avail = false then p
      else if ok = false then (if 3 ≤ p.tag.link.retries then reject p else askedAgain (x.step == 0) p)
      else if x.step ≠ 0 ∧ x.step ≠ 7 ∧ sw ≠ 0x9000 then reject p else acceptData x d p := by
  unfold insertResponseStep
  rw [hx]
  dsimp only
  rw [repeatBlock_getD]
  exact if_congr (by simp) rfl (if_congr (by simp) rfl (if_congr (by simp [and_assoc]) rfl rfl))

theorem response_writing {n sw : Nat} {d : Bytes} {ok : Bool} (ha : p.tag.accept = none) (hw : p.tag.wb = some n) :
    insertResponseStep d sw ok p = if p.enc.avail = false then p
      else if ok = false then (if 3 ≤ p.tag.link.retries then writeDone false p else askedAgain (n == 0) p) else writeData n d sw p := by
  unfold insertResponseStep
  rw [ha, hw]
  dsimp only
  rw [repeatBlock_getD]
  exact if_congr (by simp) rfl (if_congr (by simp) rfl rfl)

theorem response_idle {sw : Nat} {d : Bytes} {ok : Bool} (ha : p.tag.accept = none) (hw : p.tag.wb = none) :
    insertResponseStep d sw ok p = if p.tag.apduRuns = true ∧ ok = true then apduDone 0x00 (d ++ be 2 sw) p else p := by
  unfold insertResponseStep
  rw [ha, hw]
  exact if_congr (by simp) rfl rfl

theorem bwtStep_accepting {x : Accept} (hx : p.tag.accept = some x) : bwtStep p = if p.tag.link.bwtAt ≤ p.now then reject p else p := by
  unfold bwtStep; rw [hx]

theorem bwtStep_writing {n : Nat} (ha : p.tag.accept = none) (hw : p.tag.wb = some n) : bwtStep p = if p.tag.link.bwtAt ≤ p.now then writeDone false p else p := by
  unfold bwtStep; rw [ha, hw]

theorem bwtStep_idle (ha : p.tag.accept = none) (hw : p.tag.wb = none) : bwtStep p = if p.tag.apdu.isSome = true ∧ p.tag.apduAt ≤ p.now then apduDone 0x15 [] p else p := by
  unfold bwtStep
  rw [ha, hw]
  exact if_congr (by simp) rfl rfl

theorem removalStep_none (h : p.otp.part ≠ .bz7460 ∨ p.env.insDet = false) : removalStep p = p :=
  if_pos (by rcases h with h | h <;> simp [hasTag, h])

/-- What a removal leaves, once a running transaction is recorded (R280, R283). -/
def removed (forced : Bool) (w : State) : State :=
  sendApdu (setIns 0 (modTag (fun x => { x with sess := none, accept := none, wb := none, vcc := false, detAt := none, wbAt := none, wbRetry := false, stickyMount := false, forced := forced }) { w with env := { w.env with insDet := false } }))

theorem removalStep_idle (hp : p.otp.part = .bz7460) (hi : p.env.insDet = true) (ht : p.tag.txn = none) :
    removalStep p = if p.tag.vcc = true then tamperEvent 6 (removed true p) else removed false p := by
  unfold removalStep
  rw [show hasTag p = true from beq_iff_eq.2 hp, hi, ht]
  cases hv : p.tag.vcc <;> rfl

theorem removalStep_txn {d : Dsrc} (hp : p.otp.part = .bz7460) (hi : p.env.insDet = true) (ht : p.tag.txn = some d) :
    removalStep p = tamperEvent 6 (removed true
      (logTxn { utc := d.utc, life := d.life, kind := 0, outcome := 1, phase := d.phase, rtcSet := d.rtcSet, counted := d.counted, receipt := d.receipt, mmi := d.mmi, beacon := d.beacon, hash := if d.receipt then receiptHash (sessRec p) else 0 }
        (modTag (fun x => { x with txn := none }) p))) := by
  unfold removalStep
  rw [show hasTag p = true from beq_iff_eq.2 hp, hi, ht]
  cases hv : p.tag.vcc <;> rfl

theorem insEval_eq : insEval p = if p.tag.sess.isSome = true ∧ p.tag.txn = none ∧ p.enc.avail = true then setIns (decideIns p) (reserveNext p) else p :=
  if_congr (by simp [and_assoc]) rfl rfl

/-- What holds a write-back off (R284). -/
abbrev WriteHeld (p : State) : Prop := p.tag.wb.isSome = true ∨ p.tag.apduRuns = true ∨ p.tag.txn.isSome = true ∨ p.tag.sess = none ∨ p.enc.avail = false

theorem startWrite_eq : startWrite p = if WriteHeld p then p else if p.pwr.fallback = true then writeDone false p else activate (modTag (fun x => { x with wb := some 0 }) p) := by
  unfold startWrite WriteHeld
  refine if_congr ?_ rfl rfl
  simp [or_assoc]

theorem takeEvents_taken (hs : smisaRuns p = true) (he : p.enc.avail = true) :
    takeEvents p = p.tag.buffer.foldl (fun acc r => event 0x30E0 1 (txnBytes r) acc) (modTag (fun x => { x with buffer := [] }) p) :=
  if_pos (by rw [hs, he]; rfl)

theorem takeEvents_none (h : smisaRuns p = false ∨ p.enc.avail = false) : takeEvents p = p :=
  if_neg (by rcases h with h | h <;> simp [h])

end Events

/-- Settles O50: each event by what its step makes of the state at its time. -/
theorem insertEvents : Obligations.InsertEvents := by
  intro s t p
  refine ⟨fun h => does_of_eq (x := insertionStep p) rfl (insertionStep_eq.trans (if_pos h)), fun hp hi => does_of_eq (x := insertionStep p) rfl (insertionStep_eq.trans (if_neg (by simp [hp, hi]))),
    ⟨fun x d sw hx => ?accepting, fun n d sw ha hw => ?writing⟩, fun ha hw d sw => ?idle, fun h => does_of_eq (x := removalStep p) rfl (removalStep_none h), fun hp hi => ?removal,
    fun hs ht he => does_of_eq (x := insertTickStep p) rfl (insEval_eq.trans (if_pos ⟨hs, ht, he⟩)), fun h => does_of_eq (x := insertTickStep p) rfl (insEval_eq.trans (if_neg ?noTick)), ?writes,
    fun hs he => does_of_eq (x := eventTakeStep p) rfl (congrArg tagEval (takeEvents_taken hs he)), fun h => does_of_eq (x := eventTakeStep p) rfl (congrArg tagEval (takeEvents_none h))⟩
  case accepting =>
    have hstep := fun ok => response_accepting (d := d) (sw := sw) (ok := ok) hx
    have hserved : p.enc.avail = true → ¬ p.enc.avail = false := fun h hn => absurd (h.symm.trans hn) (by decide)
    refine ⟨fun he ok => does_of_eq (x := insertResponseStep d sw ok p) rfl ((hstep ok).trans (if_pos he)), fun he hr => ?_, fun he hr => ?_, fun he h0 h7 hs => ?_, fun he h => ?_,
      fun h => does_of_eq (x := bwtStep p) rfl ((bwtStep_accepting hx).trans (if_pos h)), fun h => does_of_eq (x := bwtStep p) rfl ((bwtStep_accepting hx).trans (if_neg (Nat.not_le.2 h)))⟩
    · exact does_of_eq (x := insertResponseStep d sw false p) rfl ((hstep false).trans ((if_neg (hserved he)).trans ((if_pos rfl).trans (if_pos hr))))
    · exact does_of_eq (x := insertResponseStep d sw false p) rfl ((hstep false).trans ((if_neg (hserved he)).trans ((if_pos rfl).trans (if_neg (Nat.not_le.2 hr)))))
    · exact does_of_eq (x := insertResponseStep d sw true p) rfl ((hstep true).trans ((if_neg (hserved he)).trans ((if_neg (by decide)).trans (if_pos ⟨h0, h7, hs⟩))))
    · refine does_of_eq (x := insertResponseStep d sw true p) rfl ((hstep true).trans ((if_neg (hserved he)).trans ((if_neg (by decide)).trans (if_neg ?_))))
      rintro ⟨h0, h7, hs⟩
      exact h.elim h0 (fun h => h.elim h7 hs)
  case writing =>
    have hstep := fun ok => response_writing (d := d) (sw := sw) (ok := ok) ha hw
    have hserved : p.enc.avail = true → ¬ p.enc.avail = false := fun h hn => absurd (h.symm.trans hn) (by decide)
    have hdata : p.enc.avail = true → insertResponseStep d sw true p = writeData n d sw p := fun he => (hstep true).trans ((if_neg (hserved he)).trans (if_neg (by decide)))
    refine ⟨fun he ok => does_of_eq (x := insertResponseStep d sw ok p) rfl ((hstep ok).trans (if_pos he)), fun he hr => ?_, fun he hr => ?_, fun he h => ?_, fun he h => ?_, fun he h => ?_,
      fun h => does_of_eq (x := bwtStep p) rfl ((bwtStep_writing ha hw).trans (if_pos h)), fun h => does_of_eq (x := bwtStep p) rfl ((bwtStep_writing ha hw).trans (if_neg (Nat.not_le.2 h)))⟩
    · exact does_of_eq (x := insertResponseStep d sw false p) rfl ((hstep false).trans ((if_neg (hserved he)).trans ((if_pos rfl).trans (if_pos hr))))
    · exact does_of_eq (x := insertResponseStep d sw false p) rfl ((hstep false).trans ((if_neg (hserved he)).trans ((if_pos rfl).trans (if_neg (Nat.not_le.2 hr)))))
    · exact does_of_eq (x := insertResponseStep d sw true p) rfl ((hdata he).trans (by rw [h]; rfl))
    · exact does_of_eq (x := insertResponseStep d sw true p) rfl ((hdata he).trans (by rw [h]; rfl))
    · obtain ⟨m, rfl⟩ : ∃ m, n = m + 2 := ⟨n - 2, by omega⟩
      exact does_of_eq (x := insertResponseStep d sw true p) rfl (hdata he)
  case idle =>
    refine ⟨fun h => does_of_eq (x := insertResponseStep d sw true p) rfl ((response_idle ha hw).trans (if_pos ⟨h, rfl⟩)), fun h => does_of_eq (x := insertResponseStep d sw true p) rfl ((response_idle ha hw).trans (if_neg (by simp [h]))),
      does_of_eq (x := insertResponseStep d sw false p) rfl ((response_idle ha hw).trans (if_neg (by simp))), fun h hn => does_of_eq (x := bwtStep p) rfl ((bwtStep_idle ha hw).trans (if_pos ⟨h, hn⟩)),
      fun h => does_of_eq (x := bwtStep p) rfl ((bwtStep_idle ha hw).trans (if_neg ?_))⟩
    rintro ⟨hi, hn⟩
    exact h.elim (fun h => absurd (h ▸ hi) (by decide)) (fun h => Nat.not_le.2 h hn)
  case removal =>
    intro gone
    exact ⟨fun ht hv => does_of_eq (x := removalStep p) rfl ((removalStep_idle hp hi ht).trans (if_neg (by rw [hv]; decide))), fun ht hv => does_of_eq (x := removalStep p) rfl ((removalStep_idle hp hi ht).trans (if_pos hv)),
      fun d ht => does_of_eq (x := removalStep p) rfl (removalStep_txn hp hi ht)⟩
  case noTick =>
    rintro ⟨hs, ht, he⟩
    rcases h with h | h | h
    · exact absurd (h ▸ hs) (by decide)
    · exact absurd (ht ▸ h) (by decide)
    · exact absurd (h.symm.trans he) (by decide)
  case writes =>
    intro held begun
    have hwrite : ∀ c : Instr, ((c = .writeBack t ∧ p.tag.wbAt.isSome = true ∧ p.tag.wbRetry = false) ∨ (c = .writeBackRetry t ∧ due p.tag.wbAt p = true ∧ p.tag.wbRetry = true)) → ∀ w, startWrite p = w → Does c s w := by
      rintro c (⟨rfl, ha, hr⟩ | ⟨rfl, hd, hr⟩) w hw
      · exact does_of_eq (x := writeBackStep p) rfl ((if_pos (by rw [ha, hr]; rfl)).trans hw)
      · exact does_of_eq (x := writeRetryStep p) rfl ((if_pos (by rw [hd, hr]; rfl)).trans hw)
    refine ⟨fun c hc => ⟨fun hh => hwrite c hc _ (startWrite_eq.trans (if_pos hh)), fun hh hf => hwrite c hc _ (startWrite_eq.trans ((if_neg hh).trans (if_pos hf))),
      fun hh hf => hwrite c hc _ (startWrite_eq.trans ((if_neg hh).trans (if_neg (by rw [hf]; decide))))⟩, fun h => ?_, fun h => ?_⟩
    · exact does_of_eq (x := writeBackStep p) rfl (if_neg (by rcases h with h | h <;> simp [h]))
    · exact does_of_eq (x := writeRetryStep p) rfl (if_neg (by rcases h with h | h <;> simp [h]))

end Sys2Proof.Proofs
end

section
/-! The enclave's start and restart, the tamper monitors and the tamper records (R292 to R297, R322 to R341). -/

namespace Sys2Proof.Proofs
open Sys2Proof Sys2Proof.Machine Sys2Proof.Safety

section Events
variable {p : State} {src : Nat}

theorem activeCheck_eq_false : activeCheck p = false ↔ isOn p .enc = false ∨ p.enc.avail = false := Bool.and_eq_false_iff

/-- A source other than the mesh: one event outside its limits, none inside. -/
theorem tamperEventStep_limits {seen : TamperSeen} {b : Bool} (h : tamperSeen seen = (src, bit b)) (hs : src ≠ 1) : tamperEventStep seen p = if b = true then tamperEvent src p else p := by
  unfold tamperEventStep
  dsimp only
  rw [h]
  refine (if_neg (by simp [hs])).trans ?_
  cases b <;> rfl

theorem tamperEventStep_mesh {driven far : Nat} (ha : activeCheck p = true) :
    tamperEventStep (.mesh driven far) p = ((List.range 24).filter (fun i => driven.testBit i != far.testBit i)).foldl (fun acc _ => tamperEvent 1 acc) p := by
  rw [List.foldl_const]
  refine (if_neg (by rw [ha]; exact Bool.false_ne_true)).trans ?_
  rw [List.foldl_const, List.length_range]
  rfl

/-- A source that counts: a rule that answers, a monitor that is armed and runs (R326). -/
abbrev TamperLive (p : State) (src : Nat) : Prop := (tamperRule p src).response ≠ 0 ∧ (getMon p src).armed = true ∧ monitorRuns p src = true

/-- The events of the source inside its window, this one first (R326). -/
def tamperEvents (p : State) (src : Nat) : List Nat := p.now :: (getMon p src).events.filter (fun x => decide (p.now ≤ x + 1000 * (tamperRule p src).w))

theorem tamperEvent_eq : tamperEvent src p = if ¬ TamperLive p src then p
    else if src ∈ p.ao.alarmed then modMon src (fun m => { m with lastAt := p.now, passes := 0 }) p
    else if (tamperRule p src).n ≤ (tamperEvents p src).length then tamperAlarm src p
    else modMon src (fun m => { m with events := tamperEvents p src, lastAt := p.now }) p := by
  have he : tamperEvents p src = p.now :: (getMon p src).events.filter (fun x => decide (p.now ≤ x + ms (tamperRule p src).w)) := by
    rw [tamperEvents, ms, Nat.mul_comm]
  rw [he]
  refine if_congr ?_ rfl (if_congr List.contains_iff_mem rfl rfl)
  simp only [TamperLive, Bool.or_eq_true, beq_iff_eq, Bool.not_eq_true', not_and_or, not_not, Bool.not_eq_true, or_assoc]

/-- What an alarm of the source leaves and reports before it wakes (R327 to R333). -/
def alarmTold (src : Nat) (p : State) : State :=
  let noted := addPending src (if (tamperRule p src).response = 2 then 2 else 1) 1 (modMon src (fun m => { m with events := [], lastAt := p.now, passes := 0 })
    { p with ao := { p.ao with sticky := p.ao.sticky ||| 2 ^ (src - 1), alarmed := p.ao.alarmed ++ [src] } })
  if (tamperRule p src).response = 2 then issue 0x33 0x02 0 (eraseKeys noted) else issue 0x33 0x01 0 noted

theorem tamperAlarm_eq : tamperAlarm src p = if (alarmTold src p).mode.mode = .parked then callWake 0x68 (alarmTold src p) else alarmTold src p := by
  unfold tamperAlarm alarmTold
  by_cases h : (tamperRule p src).response = 2
  · simp only [h, beq_self_eq_true, if_true, beq_iff_eq]
  · simp only [h, beq_eq_false_iff_ne.2 h, if_false, beq_iff_eq, Bool.false_eq_true]

theorem monitorArmedStep_none (h : src = 0 ∨ 6 < src) : monitorArmedStep src p = p := by
  refine if_neg ?_
  rcases h with h | h
  · simp [h]
  · simp [Nat.not_le.2 h]

/-- A monitor that runs, is not armed and may be: its delay, where it has one, is over (R324). -/
abbrev MonitorReady (p : State) (src : Nat) : Prop := monitorRuns p src = true ∧ (getMon p src).armed = false ∧ ∀ a, (getMon p src).armAt = some a → a ≤ p.now

theorem monitorArmedStep_source (h1 : 1 ≤ src) (h6 : src ≤ 6) :
    (MonitorReady p src → monitorArmedStep src p = modMon src (fun m => { m with armed := true, armAt := none, lastAt := max m.lastAt p.now }) p) ∧
    (¬ MonitorReady p src → monitorArmedStep src p = p) := by
  unfold monitorArmedStep
  cases ha : (getMon p src).armAt with
  | none => exact ⟨fun h => if_pos (by simp [h1, h6, h.1, h.2.1, ha]), fun h => if_neg (by simpa [h1, h6, ha] using h)⟩
  | some a => exact ⟨fun h => if_pos (by simp [h1, h6, h.1, h.2.1, ha, h.2.2 a ha]), fun h => if_neg (by simpa [h1, h6, ha] using h)⟩

theorem rearmStep_eq : rearmStep src p = if (src ≠ 1 ∨ activeCheck p = true) ∧ src ∈ p.ao.alarmed ∧ (getMon p src).armed = true ∧ monitorRuns p src = true ∧ (getMon p src).lastAt + 10000000 ≤ p.now then rearm src p else p := by
  rw [rearmStep, show sec 10 = 10000000 from rfl]
  exact if_congr (by simp [and_assoc]) rfl rfl

/-- A failing slow check: an event of the mesh, and its confirmations to come (R323). -/
def slowFail (k : Nat) (q : State) : State :=
  let e := tamperEvent 1 q
  { e with enc := { e.enc with confirm := if (tamperRule q 1).n ≤ k then none else some k, confirmAt := q.now + 50 } }

theorem slowCheckStep_due {pass : Bool} (ha : activeCheck p = false) (hn : p.enc.slowAt ≤ p.now) :
    let q := { p with enc := { p.enc with slowAt := p.now + 4000000 } }
    slowCheckStep pass p = if pass = true then slowPass q else slowFail 1 q :=
  if_neg (by simp [ha, hn])

theorem slowConfirmStep_some {pass : Bool} {k : Nat} (hk : p.enc.confirm = some k) :
    slowConfirmStep pass p = if activeCheck p = true then { p with enc := { p.enc with confirm := none } } else if p.now < p.enc.confirmAt then p
      else if pass = true then slowPass { p with enc := { p.enc with confirm := none } } else slowFail (k + 1) p := by
  unfold slowConfirmStep
  rw [hk]
  rfl

theorem writePending_cons {r : TamperPending} {l : List TamperPending} (h : p.ao.tamperPending = r :: l) :
    let q := { p with ao := { p.ao with tamperPending := l } }
    writePending p = if 1023 ≤ p.enc.log.length then { q with enc := { q.enc with overflow := modAt (fun x => satAdd 0xFFFF x r.count) (r.source - 1) q.enc.overflow } }
      else fillLog (appendEntry { life := r.life, utc := r.utc, source := r.source, kind := r.kind, rtcSet := r.rtcSet, count := r.count } q) := by
  unfold writePending
  rw [h]

end Events

/-- Settles O51: each event by what its step makes of the state at its time. -/
theorem enclaveAndTamperEvents : Obligations.EnclaveAndTamperEvents := by
  intro s t p resets
  have hreset : encReset p = resets := rfl
  refine ⟨fun h ok => ?noStart, fun he ha hr => ⟨?restart, ?start⟩, fun he ha => ⟨?encr, fun hw => ?watchdog⟩, fun h => ?noEncr, fun h => ?noWatchdog, fun src h => does_of_eq (x := monitorArmedStep src p) rfl (monitorArmedStep_none h),
    fun driven far => ?mesh, ?limits, fun src h1 h6 => ?event, fun src h1 h6 => ?armed, fun src => ?rearm, fun pass h => ?noSlow, fun ha hn => ?slow, fun hc pass => ?noConfirm, fun k hk => ?confirm,
    fun line h => does_of_eq (x := logWriteStep line p) rfl (if_pos (by rw [h]; rfl)), fun h => ?line, fun h => ?nothing, fun r l h => ?pending⟩
  case noStart => exact does_of_eq (x := encStartStep ok p) rfl (if_pos (by rcases h with h | h | h <;> simp [h]))
  case restart => exact does_of_eq (x := encStartStep false p) rfl ((if_neg (by simp [he, ha, hr])).trans ((if_pos rfl).trans hreset))
  case start => exact does_of_eq (x := encStartStep true p) rfl ((if_neg (by simp [he, ha, hr])).trans (if_neg (by decide)))
  case encr => exact does_of_eq (x := encrStep p) rfl ((if_pos (by rw [he, ha]; rfl)).trans hreset)
  case watchdog => exact does_of_eq (x := encWatchdogStep p) rfl ((if_pos (by rw [he, ha]; exact decide_eq_true hw)).trans hreset)
  case noEncr => exact does_of_eq (x := encrStep p) rfl (if_neg (by rcases h with h | h <;> simp [h]))
  case noWatchdog =>
    refine does_of_eq (x := encWatchdogStep p) rfl (if_neg ?_)
    rcases h with h | h | h
    · simp [h]
    · simp [h]
    · simp [Nat.not_le.2 h]
  case mesh =>
    intro fails
    exact ⟨fun h => does_of_eq (x := tamperEventStep (.mesh driven far) p) rfl (if_pos (by rw [h]; rfl)), fun h => does_of_eq (x := tamperEventStep (.mesh driven far) p) rfl (tamperEventStep_mesh h)⟩
  case limits =>
    intro sees
    have hsees : ∀ {seen : TamperSeen} {src : Nat} {b : Bool} {outside : Prop}, tamperSeen seen = (src, bit b) → src ≠ 1 → (b = true ↔ outside) → sees seen outside src := fun hs hn hb =>
      ⟨fun ho => does_of_eq rfl ((tamperEventStep_limits hs hn).trans (if_pos (hb.2 ho))), fun ho => does_of_eq rfl ((tamperEventStep_limits hs hn).trans (if_neg (fun h => ho (hb.1 h))))⟩
    exact ⟨fun mv ns => ⟨hsees rfl (by decide) (by simp), hsees rfl (by decide) (by simp)⟩, fun khz => hsees rfl (by decide) (by simp), fun ns => hsees rfl (by decide) (by simp), fun c => hsees rfl (by decide) (by simp)⟩
  case event =>
    intro r live events
    have hlen : (¬ live → tamperEvent src p = p) := fun h => tamperEvent_eq.trans (if_pos h)
    have hlive : live → tamperEvent src p = _ := fun h => tamperEvent_eq.trans (if_neg (not_not.2 h))
    refine ⟨hlen, fun h hm => (hlive h).trans (if_pos hm), fun h hm hn => (hlive h).trans ((if_neg hm).trans (if_neg (Nat.not_le.2 hn))), fun h hm hn => ?_⟩
    intro noted told
    have halarm : tamperEvent src p = tamperAlarm src p := (hlive h).trans ((if_neg hm).trans (if_pos hn))
    exact ⟨fun hp => halarm.trans (tamperAlarm_eq.trans (if_neg hp)), fun hp => halarm.trans (tamperAlarm_eq.trans (if_pos hp))⟩
  case armed =>
    intro m ready
    obtain ⟨hr, hn⟩ := monitorArmedStep_source (p := p) h1 h6
    exact ⟨fun h => does_of_eq (x := monitorArmedStep src p) rfl (hr h), fun h => does_of_eq (x := monitorArmedStep src p) rfl (hn h)⟩
  case rearm =>
    intro quiet
    exact ⟨fun h => does_of_eq (x := rearmStep src p) rfl (rearmStep_eq.trans (if_pos h)), fun h => does_of_eq (x := rearmStep src p) rfl (rearmStep_eq.trans (if_neg h))⟩
  case noSlow =>
    refine does_of_eq (x := slowCheckStep pass p) rfl (if_pos ?_)
    rcases h with h | h
    · simp [h]
    · simp [h]
  case slow =>
    intro q
    exact ⟨does_of_eq (x := slowCheckStep true p) rfl (slowCheckStep_due ha hn), does_of_eq (x := slowCheckStep false p) rfl (slowCheckStep_due ha hn)⟩
  case noConfirm => exact does_of_eq (x := slowConfirmStep pass p) rfl (by simp only [slowConfirmStep, hc])
  case confirm =>
    intro q
    have hstep := fun pass => slowConfirmStep_some (pass := pass) hk
    have hoff : activeCheck p = false → ¬ activeCheck p = true := fun h hn => absurd (h.symm.trans hn) (by decide)
    refine ⟨fun ha pass => does_of_eq (x := slowConfirmStep pass p) rfl ((hstep pass).trans (if_pos ha)), fun ha hn pass => does_of_eq (x := slowConfirmStep pass p) rfl ((hstep pass).trans ((if_neg (hoff ha)).trans (if_pos hn))), fun ha hn => ?_, fun ha hn => ?_⟩
    · exact does_of_eq (x := slowConfirmStep true p) rfl ((hstep true).trans ((if_neg (hoff ha)).trans (if_neg (Nat.not_lt.2 hn))))
    · exact does_of_eq (x := slowConfirmStep false p) rfl ((hstep false).trans ((if_neg (hoff ha)).trans (if_neg (Nat.not_lt.2 hn))))
  case line =>
    have hn : ¬ (!activeCheck p) = true := by rw [h]; decide
    exact ⟨does_of_eq (x := logWriteStep 0 p) rfl (if_neg hn), does_of_eq (x := logWriteStep 1 p) rfl (if_neg hn), does_of_eq (x := logWriteStep 2 p) rfl (if_neg hn)⟩
  case nothing => unfold writePending; rw [h]
  case pending =>
    intro q
    exact ⟨fun hl => (writePending_cons h).trans (if_pos hl), fun hl => (writePending_cons h).trans (if_neg (Nat.not_le.2 hl))⟩

end Sys2Proof.Proofs
end

section
/-! Rill messages: their arrival, the fault history, acknowledgements, the quiet period and the crossings (R348 to R369, R428). -/

namespace Sys2Proof.Proofs
open Sys2Proof Sys2Proof.Machine Sys2Proof.Safety

section Events
variable {p : State}

/-- A message as its source reports it (R348, R594). -/
def toldAs (src kind island detail : Nat) (p : State) : State := report src kind (arriveIsland src kind island p) (arriveDetail src kind detail) p

theorem arriveIsland_eq (src kind island : Nat) : arriveIsland src kind island p = if src = 0x08 then island else if src = 0x12 then (if island = 0x0C then 0x0C else 0x0B) else islandOf p src kind := by
  simp only [arriveIsland, beq_iff_eq]

theorem arriveDetail_eq (src kind detail : Nat) :
    arriveDetail src kind detail = if src = 0x04 ∨ src = 0x05 ∨ (src = 0x7F ∧ kind = 0x03) then detail else if src = 0x20 then detail % 1024 else if src = 0x08 then detail % 65536 else 0 := by
  simp [arriveDetail, or_assoc]

theorem arriveAs_eq {c : Cls} {src kind island detail : Nat} : arriveAs c src kind island detail p = if (catalogue src kind).isSome = true ∧ classOf p src kind = c then toldAs src kind island detail p else p := by
  simp [arriveAs, toldAs]

theorem arriveAs_other {c : Cls} {src kind island detail : Nat} (h : catalogue src kind = none ∨ classOf p src kind ≠ c) : arriveAs c src kind island detail p = p := by
  refine arriveAs_eq.trans (if_neg ?_)
  rintro ⟨hk, hc⟩
  exact h.elim (fun h => absurd (h ▸ hk) (by decide)) (fun h => h hc)

theorem quietStep_some {k : Nat} (hk : p.ao.severeAt = some k) : quietStep p = if k + (tw p).confluence.quiet * 10000 ≤ p.now then applyDrives { p with ao := { p.ao with severeAt := none } } else p := by
  unfold quietStep
  rw [hk]
  rfl

theorem takerRuns_iff : takerRuns p = true ↔ isOn p .svc = true ∧ p.core.halted = false ∧ (p.boot.runs = 1 ∨ p.boot.runs = 2) := by
  simp [takerRuns, and_assoc]

/-- The first message of the queue goes to the history, and to the taken ones where it waits for its acknowledgement (R354, R362). -/
theorem takeMessage_cons {e : QEntry} {r : List QEntry} (h : p.fab.queue = e :: r) :
    let q := { p with fab := { p.fab with queue := r, history := ({ msg := e.msg, stamp := e.stamp } :: p.fab.history).take 80, taken := if e.unacked = true ∧ p.boot.runs ≠ 2 then p.fab.taken ++ [e] else p.fab.taken } }
    (e.msg.cls = .notice → takeMessage p = logNotice e.msg q) ∧ (e.msg.cls = .recoverable → takeMessage p = logWrite e.msg 0 q) ∧
      ((e.msg.cls = .severe ∨ e.msg.cls = .grave) → takeMessage p = raiseRill e.msg e.stamp (logWrite e.msg 0 q)) := by
  have ht : (if (e.unacked && p.boot.runs != 2) = true then p.fab.taken ++ [e] else p.fab.taken) = if e.unacked = true ∧ p.boot.runs ≠ 2 then p.fab.taken ++ [e] else p.fab.taken :=
    if_congr (by simp) rfl rfl
  unfold takeMessage
  rw [h]
  dsimp only
  rw [ht]
  refine ⟨fun hc => by rw [hc], fun hc => by rw [hc], fun hc => ?_⟩
  rcases hc with hc | hc <;> rw [hc]

theorem ackTimeoutStep_eq : ackTimeoutStep p = if isOn p .svc = true ∧ (p.fab.queue.any (ackLate p) = true ∨ p.fab.taken.any (ackLate p) = true) then
      issue 0x7F 0x02 0 { p with fab := { p.fab with queue := p.fab.queue.map (fun e => if ackLate p e then { e with unacked := false } else e), taken := p.fab.taken.filter (fun e => !ackLate p e) } }
    else p :=
  if_congr (by rw [Bool.and_eq_true, Bool.or_eq_true]) rfl rfl

theorem graveReact_first {m : Rill} {stamp : Nat} (hg : p.ao.grave = none) :
    let h := takeHold p (fun _ => true)
    graveReact m stamp p = callReset (.dom .svc) (applyDrives (hapticOff (failsafeStop
      { h with ao := { h.ao with grave := some { msg := m, stamp := stamp, life := h.ao.life, rtc := utcStamp h, rtcSet := h.ao.rtcSet } }, core := { h.core with halted := true } }))) := by
  unfold graveReact
  rw [hg]

theorem graveReact_again {m : Rill} {stamp : Nat} (hg : p.ao.grave.isSome = true) : graveReact m stamp p = p := by
  obtain ⟨g, hg⟩ := Option.isSome_iff_exists.1 hg
  unfold graveReact
  rw [hg]

theorem bridgeStep_eq {near far ns : Nat} (hn : near < 256) (hf : far < 256) :
    bridgeStep near far ns p = if near ≠ far ∧ 4 * crossingBound near far < ns then report 0x08 0x01 near (far * 256 + near) p else p := by
  rw [bridgeStep, Nat.mod_eq_of_lt hn, Nat.mod_eq_of_lt hf]
  exact if_congr (by simp) rfl rfl

end Events

/-- Settles O52: each event by what its step makes of the state at its time. -/
theorem confluenceEvents : Obligations.ConfluenceEvents := by
  intro s t p sent told
  have hsent : ∀ src kind island detail, report src kind island detail p = sent src kind island detail := fun _ _ _ _ => rfl
  have htold : ∀ src kind island detail, toldAs src kind island detail p = told src kind island detail := fun src kind island detail => by
    show report _ _ _ _ _ = _
    rw [arriveIsland_eq, arriveDetail_eq]
    exact hsent _ _ _ _
  have harrives : ∀ {c : Cls} {src kind island detail : Nat}, (catalogue src kind).isSome = true → classOf p src kind = c → arriveAs c src kind island detail p = told src kind island detail :=
    fun hk hc => (arriveAs_eq.trans (if_pos ⟨hk, hc⟩)).trans (htold _ _ _ _)
  refine ⟨fun src kind island detail hk => ?arrives, fun src kind island detail => ?other, fun k hk => ⟨fun h => ?quiet, fun h => ?notQuiet⟩, fun hk => ?never, fun h => ?noTaker, fun hs hh hr => ?taken,
    fun h => does_of_eq (x := recoverableAckStep p) rfl (if_pos h), fun h => does_of_eq (x := recoverableAckStep p) rfl (if_neg (by rw [h]; decide)), ?late, ?handshake, fun near far ns hn hf => ?bridge⟩
  case arrives =>
    exact ⟨fun hc => does_of_eq (x := noticeStep src kind island detail p) rfl (harrives hk hc), fun hc => does_of_eq (x := recoverableStep src kind island detail p) rfl (harrives hk hc),
      fun hc => does_of_eq (x := severeStep src kind island detail p) rfl (harrives hk hc), fun hc => does_of_eq (x := graveStep src kind island detail p) rfl (harrives hk hc)⟩
  case other =>
    exact ⟨fun h => does_of_eq (x := noticeStep src kind island detail p) rfl (arriveAs_other h), fun h => does_of_eq (x := recoverableStep src kind island detail p) rfl (arriveAs_other h),
      fun h => does_of_eq (x := severeStep src kind island detail p) rfl (arriveAs_other h), fun h => does_of_eq (x := graveStep src kind island detail p) rfl (arriveAs_other h)⟩
  case quiet => exact does_of_eq (x := quietStep p) rfl ((quietStep_some hk).trans (if_pos h))
  case notQuiet => exact does_of_eq (x := quietStep p) rfl ((quietStep_some hk).trans (if_neg (Nat.not_le.2 h)))
  case never => exact does_of_eq (x := quietStep p) rfl (by simp only [quietStep, hk])
  case noTaker =>
    refine does_of_eq (x := historyStep p) rfl (if_neg ?_)
    rw [takerRuns_iff]
    rintro ⟨hs, hh, hr⟩
    rcases h with h | h | ⟨h1, h2⟩
    · exact absurd (h.symm.trans hs) (by decide)
    · exact absurd (h.symm.trans hh) (by decide)
    · exact hr.elim h1 h2
  case taken =>
    have hall : historyStep p = (List.range p.fab.queue.length).foldl (fun acc _ => takeMessage acc) p := if_pos (takerRuns_iff.2 ⟨hs, hh, hr⟩)
    refine ⟨fun hq => does_of_eq (x := historyStep p) rfl (hall.trans (by rw [hq]; rfl)), fun e he => ?_, does_of_eq (x := historyStep p) rfl hall⟩
    intro q
    have hone : historyStep p = takeMessage p := hall.trans (by rw [he]; rfl)
    obtain ⟨hn, hrec, hsev⟩ := takeMessage_cons he
    exact ⟨fun hc => does_of_eq (x := historyStep p) rfl (hone.trans (hn hc)), fun hc => does_of_eq (x := historyStep p) rfl (hone.trans (hrec hc)), fun hc => does_of_eq (x := historyStep p) rfl (hone.trans (hsev hc))⟩
  case late =>
    intro late some'
    exact ⟨fun h => does_of_eq (x := ackTimeoutStep p) rfl (ackTimeoutStep_eq.trans (if_pos h)), fun h => does_of_eq (x := ackTimeoutStep p) rfl (ackTimeoutStep_eq.trans (if_neg h))⟩
  case handshake =>
    intro m k
    refine ⟨fun hg => does_of_eq (x := handshakeStep p) rfl (graveReact_again hg), fun hg => ?_⟩
    intro h
    exact does_of_eq (x := handshakeStep p) rfl (graveReact_first (p := k) hg)
  case bridge =>
    intro late
    exact ⟨fun h => does_of_eq (x := bridgeStep near far ns p) rfl ((bridgeStep_eq hn hf).trans (if_pos h)), fun h => does_of_eq (x := bridgeStep near far ns p) rfl ((bridgeStep_eq hn hf).trans (if_neg h))⟩

end Sys2Proof.Proofs
end

section
/-! Interrupts and the comparison of windows (R376, R379 to R382, R534, R535). -/

namespace Sys2Proof.Proofs
open Sys2Proof Sys2Proof.Machine Sys2Proof.Safety

section Events
variable {p : State}

/-- The state with the source pending at its level (R534). -/
def pendingWith (n level : Nat) (p : State) : State :=
  { p with core := { p.core with levels := setAt n (level % 16) p.core.levels, pend := if n ∈ p.core.pend then p.core.pend else p.core.pend ++ [n] } }

theorem pendAt_eq (n level : Nat) : pendAt n level p = pendingWith n level p := by
  simp [pendAt, pendingWith]

theorem interruptStep_on {n level : Nat} (hd : isOn p .svc = true) (hn : n < 128) : interruptStep n level p = acceptInterrupt (pendingWith n level p) :=
  (if_pos (by rw [hd]; exact decide_eq_true hn)).trans (congrArg acceptInterrupt (pendAt_eq n level))

theorem acceptInterrupt_none (h : bestPending p = none) : acceptInterrupt p = p := by
  unfold acceptInterrupt
  rw [h]

/-- The core takes an interrupt of the level now (R379, R381, R534). -/
abbrev FreeFor (p : State) (l : Nat) : Prop :=
  p.core.r.psr.ie = true ∧ p.core.r.psr.tw = false ∧ p.core.r.psr.ipl < l ∧ p.core.halted = false ∧ p.core.tdx.stopped = false ∧ p.core.tdx.replay = false

theorem acceptInterrupt_some {m l : Nat} (h : bestPending p = some (m, l)) :
    acceptInterrupt p = if FreeFor p l then
        let c := closeWindow { p with core := { p.core with wfi := false } }
        let w := (slideIn c.core.r.pc c).getD c
        if mustWait c = true then c
        else modRegs (fun r => { r with psr := { r.psr with u := false, ie := false, ipl := l }, pc := p.core.vbr + BitVec.ofNat 32 (4 * (64 + m)) }) { w with core := { w.core with pend := p.core.pend.filter (· != m), epc := c.core.r.pc, epsr := c.core.r.psr } }
      else { p with core := { p.core with wfi := false } } := by
  unfold acceptInterrupt
  rw [h]
  exact if_congr (by simp [and_assoc]) rfl rfl

theorem windowCompare_cons {w : ClosedWin} {rest : List ClosedWin} {upset : Word} {addr : Bool} (h : p.core.tdx.closed = w :: rest) :
    let released := releaseStores w.held { p with core := { p.core with tdx := { p.core.tdx with closed := rest, replay := false, passed := if w.access then some w.check.pc else p.core.tdx.passed } } }
    windowCompare upset addr p = if w.misr = w.shadow ^^^ upset ∧ w.bad = false ∧ addr = false then
        if released.core.pend = [] then reschedule released else acceptInterrupt released
      else if p.core.tdx.replay = true then noteSecond { p with core := { p.core with tdx := { emptyTdx p.core.tdx with replay := false, stopped := true } } }
      else noteReplay { p with core := { p.core with tdx := { emptyTdx p.core.tdx with replay := true, replayLen := w.count }, r := w.check } } := by
  unfold windowCompare
  rw [h]
  exact if_congr (by simp [winMatches, and_assoc]) (if_congr List.isEmpty_iff rfl rfl) rfl

theorem tdxBit_iff {task : SmisaTask} : tdxBit task = true ↔ task ≠ .other := by cases task <;> decide

theorem smisaCompare_none {task : SmisaTask} {ok : Bool} (h : smisaRuns p = false ∨ task = .other) : smisaCompare task ok p = p := by
  refine if_pos ?_
  rcases h with h | rfl
  · simp [h]
  · simp [tdxBit]

theorem smisaCompare_runs {task : SmisaTask} {ok : Bool} (hs : smisaRuns p = true) (ht : task ≠ .other) :
    smisaCompare task ok p = if ok = true then { p with core := { p.core with tdx := { p.core.tdx with smisa := if p.core.tdx.smisa = some task then none else p.core.tdx.smisa } } }
      else if p.core.tdx.smisa = some task then noteSecond { p with core := { p.core with tdx := { p.core.tdx with smisa := none, stopped := true } } }
      else noteReplay { p with core := { p.core with tdx := { p.core.tdx with smisa := some task } } } := by
  unfold smisaCompare
  rw [hs, tdxBit_iff.2 ht]
  refine (if_neg (by decide)).trans ?_
  by_cases hc : p.core.tdx.smisa = some task <;> simp [hc]

theorem smisaOk_iff {upset : Word} {addr : Bool} : (upset == 0 && !addr) = true ↔ upset = (0 : Word) ∧ addr = false := by simp

end Events

/-- Settles O54: the interrupt, then the comparison of extension code's window, then that of a Smisa task. -/
theorem interruptsAndComparisons : Obligations.InterruptsAndComparisons := by
  intro s t p counted
  refine ⟨fun n level h => ?outside, fun n level hn hd => ?interrupt, fun upset addr h => ?noWindow, fun w rest upset addr h => ?window, fun task upset addr => ?smisa⟩
  case outside =>
    refine does_of_eq (x := interruptStep n level p) rfl (if_neg ?_)
    rcases h with h | h
    · simp [h]
    · simp [Nat.not_lt.2 h]
  case interrupt =>
    intro q
    have hstep : interruptStep n level p = acceptInterrupt q := interruptStep_on hd hn
    refine ⟨fun h => does_of_eq (x := interruptStep n level p) rfl (hstep.trans (acceptInterrupt_none h)), fun m l h => ?_⟩
    intro free
    have hsome := hstep.trans (acceptInterrupt_some h)
    refine ⟨fun hf => does_of_eq (x := interruptStep n level p) rfl (hsome.trans (if_neg hf)), fun hf => ?_⟩
    intro c w
    exact ⟨fun hm => does_of_eq (x := interruptStep n level p) rfl (hsome.trans ((if_pos hf).trans (if_pos hm))),
      fun hm => does_of_eq (x := interruptStep n level p) rfl (hsome.trans ((if_pos hf).trans (if_neg (fun h => absurd (hm.symm.trans h) (by decide)))))⟩
  case noWindow =>
    refine does_of_eq (x := compareStep none upset addr p) rfl ?_
    show windowCompare upset addr p = p
    unfold windowCompare
    rw [h]
  case window =>
    intro agree released emptied
    have hstep := windowCompare_cons (upset := upset) (addr := addr) h
    exact ⟨fun ha hp => does_of_eq (x := compareStep none upset addr p) rfl (hstep.trans ((if_pos ha).trans (if_pos hp))), fun ha hp => does_of_eq (x := compareStep none upset addr p) rfl (hstep.trans ((if_pos ha).trans (if_neg hp))),
      fun ha hr => does_of_eq (x := compareStep none upset addr p) rfl (hstep.trans ((if_neg ha).trans (if_neg (by rw [hr]; decide)))), fun ha hr => does_of_eq (x := compareStep none upset addr p) rfl (hstep.trans ((if_neg ha).trans (if_pos hr)))⟩
  case smisa =>
    intro agree
    refine ⟨fun h => does_of_eq (x := compareStep (some task) upset addr p) rfl (smisaCompare_none h), fun hs ht => ?_⟩
    have hstep := smisaCompare_runs (ok := upset == 0 && !addr) hs ht
    refine ⟨fun ha hc => ?_, fun ha hc => ?_, fun ha hc => ?_, fun ha hc => ?_⟩
    · exact does_of_eq (x := compareStep (some task) upset addr p) rfl (hstep.trans ((if_pos (smisaOk_iff.2 ha)).trans (by rw [if_pos hc])))
    · exact does_of_eq (x := compareStep (some task) upset addr p) rfl (hstep.trans ((if_pos (smisaOk_iff.2 ha)).trans (by rw [if_neg hc])))
    · exact does_of_eq (x := compareStep (some task) upset addr p) rfl (hstep.trans ((if_neg (fun h => ha (smisaOk_iff.1 h))).trans (if_neg hc)))
    · exact does_of_eq (x := compareStep (some task) upset addr p) rfl (hstep.trans ((if_neg (fun h => ha (smisaOk_iff.1 h))).trans (if_pos hc)))

end Sys2Proof.Proofs
end

section
/-! The canonical form of both byte memories as a rule of simplification: a state literal has it by its core and its banks alone, a choice by both of its branches, a fold by its step. -/

namespace Sys2Proof.Proofs
open Sys2Proof Sys2Proof.Machine Sys2Proof.Safety

section Rules
variable {s : State}

/-- Only the cells of the two memories count. -/
@[simp] theorem memoryWf_mk {now freeCtr env otp ao mbx win mode pwr outs scan rls hap mill bus tag enc fab core ext nvm boot resetDue wakeDue work pending} :
    MemoryWf ⟨now, freeCtr, env, otp, ao, mbx, win, mode, pwr, outs, scan, rls, hap, mill, bus, tag, enc, fab, core, ext, nvm, boot, resetDue, wakeDue, work, pending⟩ ↔
      memWf 0#8 core.mem = true ∧ memWf 255#8 boot.flash = true := Iff.rfl

/-- The cells of one state, taken together again. -/
@[simp] theorem memWf_cells : (memWf 0#8 s.core.mem = true ∧ memWf 255#8 s.boot.flash = true) ↔ MemoryWf s := Iff.rfl

@[simp] theorem memWf_core (h : MemoryWf s) : memWf 0#8 s.core.mem = true := h.1

@[simp] theorem memWf_flash (h : MemoryWf s) : memWf 255#8 s.boot.flash = true := h.2

@[simp] theorem memoryWf_ite {c : Prop} [Decidable c] {a b : State} : MemoryWf (if c then a else b) ↔ if c then MemoryWf a else MemoryWf b := by
  split <;> rfl

@[simp] theorem fst_ite {α β : Type} {c : Prop} [Decidable c] {a b : α × β} : (if c then a else b).1 = if c then a.1 else b.1 := apply_ite Prod.fst c a b

@[simp] theorem snd_ite {α β : Type} {c : Prop} [Decidable c] {a b : α × β} : (if c then a else b).2 = if c then a.2 else b.2 := apply_ite Prod.snd c a b

theorem memoryWf_foldl {α : Type} {f : State → α → State} (h : ∀ t x, MemoryWf t → MemoryWf (f t x)) (l : List α) (hs : MemoryWf s) : MemoryWf (l.foldl f s) := by
  induction l generalizing s with
  | nil => exact hs
  | cons x l ih => exact ih (h s x hs)

theorem memoryWf_foldl_iff {α : Type} {f : State → α → State} (h : ∀ t x, MemoryWf (f t x) ↔ MemoryWf t) (l : List α) : MemoryWf (l.foldl f s) ↔ MemoryWf s := by
  induction l generalizing s with
  | nil => rfl
  | cons x l ih => exact ih.trans (h s x)

theorem memoryWf_of_getD {o : Option State} {t : State} (h : MemoryWf (o.getD s)) (ho : o = some t) : MemoryWf t := by
  rw [ho] at h
  exact h

theorem memoryWf_foldr_iff {α : Type} {f : α → State → State} (h : ∀ x t, MemoryWf (f x t) ↔ MemoryWf t) (l : List α) : MemoryWf (l.foldr f s) ↔ MemoryWf s := by
  induction l with
  | nil => rfl
  | cons x l ih => exact (h x _).trans ih

end Rules

/-- What a core instruction answers has both memories in canonical form: a trap answers no state. -/
def CoreWf : CoreRes → Prop
  | .ok r => MemoryWf r.1
  | .error _ => True

@[simp] theorem coreWf_ok {r : State × Word × Word} : CoreWf (.ok r) ↔ MemoryWf r.1 := Iff.rfl
@[simp] theorem coreWf_error {e : Nat × Word} : CoreWf (.error e) := trivial
@[simp] theorem coreWf_ite {c : Prop} [Decidable c] {a b : CoreRes} : CoreWf (if c then a else b) ↔ if c then CoreWf a else CoreWf b := by split <;> rfl

/-- What a syscall answers has both memories in canonical form. -/
def SysWf : SysRes → Prop
  | .ret _ _ s => MemoryWf s
  | .block _ _ s => MemoryWf s
  | .over s => MemoryWf s

@[simp] theorem sysWf_ret {n : Nat} {l : List Nat} {s : State} : SysWf (.ret n l s) ↔ MemoryWf s := Iff.rfl
@[simp] theorem sysWf_block {w : Waiting} {d : Option Nat} {s : State} : SysWf (.block w d s) ↔ MemoryWf s := Iff.rfl
@[simp] theorem sysWf_over {s : State} : SysWf (.over s) ↔ MemoryWf s := Iff.rfl
@[simp] theorem sysWf_ite {c : Prop} [Decidable c] {a b : SysRes} : SysWf (if c then a else b) ↔ if c then SysWf a else SysWf b := by split <;> rfl

/-- What a mailbox row answers has both memories in canonical form, and what it does once it is answered keeps it. -/
def ReplyWf : Reply → Prop
  | .done _ _ s => MemoryWf s
  | .later s => MemoryWf s
  | .thenDo _ _ s k => MemoryWf s ∧ ∀ t, MemoryWf t → MemoryWf (k t)

@[simp] theorem replyWf_done {n : Nat} {b : Bytes} {s : State} : ReplyWf (.done n b s) ↔ MemoryWf s := Iff.rfl
@[simp] theorem replyWf_later {s : State} : ReplyWf (.later s) ↔ MemoryWf s := Iff.rfl
@[simp] theorem replyWf_thenDo {n : Nat} {b : Bytes} {s : State} {k : State → State} : ReplyWf (.thenDo n b s k) ↔ MemoryWf s ∧ ∀ t, MemoryWf t → MemoryWf (k t) := Iff.rfl
@[simp] theorem replyWf_ite {c : Prop} [Decidable c] {a b : Reply} : ReplyWf (if c then a else b) ↔ if c then ReplyWf a else ReplyWf b := by split <;> rfl

end Sys2Proof.Proofs
end

section
/-! The functions that the rest of the model builds on keep both byte memories in canonical form: the ports, the drives, the rill messages and the mailboxes. -/

namespace Sys2Proof.Proofs
open Sys2Proof Sys2Proof.Machine Sys2Proof.Safety

variable {s : State}

/-! #### Time, free values, the life counters and the mailbox ports -/

@[simp] theorem advance_wf (x0) : MemoryWf (advance x0 s) ↔ MemoryWf s := Iff.rfl

@[simp] theorem draw_wf : MemoryWf (draw s).2 ↔ MemoryWf s := Iff.rfl

@[simp] theorem drawBytes_wf (n) : MemoryWf (drawBytes n s).2 ↔ MemoryWf s := by
  induction n generalizing s with
  | zero => rfl
  | succ n ih => exact ih.trans draw_wf

@[simp] theorem drbgRequest_wf : MemoryWf (drbgRequest s) ↔ MemoryWf s := Iff.rfl

@[simp] theorem random_wf : MemoryWf (random s).2 ↔ MemoryWf s := Iff.rfl

@[simp] theorem randomBytes_wf (n) : MemoryWf (randomBytes n s).2 ↔ MemoryWf s := by simp [randomBytes]

@[simp] theorem bump_wf (cls idx n) : MemoryWf (bump cls idx n s) ↔ MemoryWf s := by simp [bump]

@[simp] theorem setLife_wf (cls idx v) : MemoryWf (setLife cls idx v s) ↔ MemoryWf s := Iff.rfl

@[simp] theorem modPort_wf (x0 f) : MemoryWf (modPort x0 f s) ↔ MemoryWf s := by unfold modPort; split <;> simp

@[simp] theorem modSession_wf (x0 id f) : MemoryWf (modSession x0 id f s) ↔ MemoryWf s := Iff.rfl

@[simp] theorem winIrq_wf (n) : MemoryWf (winIrq n s) ↔ MemoryWf s := Iff.rfl

@[simp] theorem winErr_wf (code) : MemoryWf (winErr code s) ↔ MemoryWf s := Iff.rfl

@[simp] theorem rxLeave_wf (f) : MemoryWf (rxLeave f s) ↔ MemoryWf s := by simp [rxLeave]

@[simp] theorem pushFrame_wf (x0 f) : MemoryWf (pushFrame x0 f s) ↔ MemoryWf s := by unfold pushFrame; split <;> simp

@[simp] theorem makeRoom_wf (x0) : MemoryWf (makeRoom x0 s) ↔ MemoryWf s := by unfold makeRoom; dsimp only; (repeat' split) <;> simp

@[simp] theorem putEvent_wf (x0 id code priv payload) : MemoryWf (putEvent x0 id code priv payload s) ↔ MemoryWf s := by unfold putEvent; (repeat' split) <;> simp

@[simp] theorem eventTo_wf (x0 id code priv payload) : MemoryWf (eventTo x0 id code priv payload s) ↔ MemoryWf s := by unfold eventTo; split <;> simp

@[simp] theorem emitEvent_wf (code priv payload) : MemoryWf (emitEvent code priv payload s) ↔ MemoryWf s :=
  memoryWf_foldl_iff (fun t x => by simp) _

@[simp] theorem event_wf (code priv payload) : MemoryWf (event code priv payload s) ↔ MemoryWf s := by unfold event; split <;> simp

@[simp] theorem releaseEvents_wf : MemoryWf (releaseEvents s) ↔ MemoryWf s := by unfold releaseEvents; (repeat' split) <;> simp [memoryWf_foldl_iff]

@[simp] theorem eventsAfter_wf {f} (hf : ∀ t, MemoryWf (f t) ↔ MemoryWf t) : MemoryWf (eventsAfter f s) ↔ MemoryWf s := by
  simp [eventsAfter, hf]

@[simp] theorem raiseExt_wf (k) : MemoryWf (raiseExt k s) ↔ MemoryWf s := Iff.rfl

@[simp] theorem suspendPolls_wf : MemoryWf (suspendPolls s) ↔ MemoryWf s := Iff.rfl

@[simp] theorem setVbat_wf (mv) : MemoryWf (setVbat mv s) ↔ MemoryWf s := by simp [setVbat]

/-! #### Channels, drives and the power dies -/

@[simp] theorem modDie_wf (d f) : MemoryWf (modDie d f s) ↔ MemoryWf s := by unfold modDie; split <;> simp

@[simp] theorem modChan_wf (o f) : MemoryWf (modChan o f s) ↔ MemoryWf s := Iff.rfl

@[simp] theorem countSwitchOns_wf (old new) : MemoryWf (countSwitchOns old new s) ↔ MemoryWf s :=
  memoryWf_foldl_iff (fun t x => by simp) _

@[simp] theorem applyDrives_wf : MemoryWf (applyDrives s) ↔ MemoryWf s := by simp [applyDrives]

@[simp] theorem takeHold_wf (p) : MemoryWf (takeHold s p) ↔ MemoryWf s := Iff.rfl

@[simp] theorem outFault_wf (o) : MemoryWf (outFault o s) ↔ MemoryWf s := by simp [outFault]

/-! #### The Millrace engines -/

@[simp] theorem modEngine_wf (p f) : MemoryWf (modEngine p f s) ↔ MemoryWf s := Iff.rfl

/-! #### Rill messages and the reactions to them -/

@[simp] theorem callWake_wf (source) : MemoryWf (callWake source s) ↔ MemoryWf s := Iff.rfl

@[simp] theorem callReset_wf (c) : MemoryWf (callReset c s) ↔ MemoryWf s := by unfold callReset; split <;> simp

@[simp] theorem keepCopy_wf (m stamp) : MemoryWf (keepCopy m stamp s) ↔ MemoryWf s := Iff.rfl

@[simp] theorem queueMsg_wf (m) : MemoryWf (queueMsg m s).1 ↔ MemoryWf s := Iff.rfl

@[simp] theorem failsafeStop_wf : MemoryWf (failsafeStop s) ↔ MemoryWf s := by simp [failsafeStop]

@[simp] theorem hapticOff_wf : MemoryWf (hapticOff s) ↔ MemoryWf s := Iff.rfl

@[simp] theorem graveReact_wf (m stamp) : MemoryWf (graveReact m stamp s) ↔ MemoryWf s := by unfold graveReact; split <;> simp

@[simp] theorem bumpRecovery_wf (src) : MemoryWf (bumpRecovery src s) ↔ MemoryWf s := Iff.rfl

@[simp] theorem nextSeq_wf (src) : MemoryWf (nextSeq src s).2 ↔ MemoryWf s := Iff.rfl

@[simp] theorem severeReact_wf (m) : MemoryWf (severeReact m s) ↔ MemoryWf s := by unfold severeReact; (repeat' split) <;> simp

@[simp] theorem severeArrive_wf (m) : MemoryWf (severeArrive m s).1 ↔ MemoryWf s := by unfold severeArrive; dsimp only; (repeat' split) <;> simp

@[simp] theorem escalate_wf (m) : MemoryWf (escalate m s) ↔ MemoryWf s := by simp [escalate]

@[simp] theorem queueLost_wf : MemoryWf (queueLost s) ↔ MemoryWf s := by simp [queueLost]

@[simp] theorem arrive_wf (m) : MemoryWf (arrive m s) ↔ MemoryWf s := by unfold arrive; (repeat' split) <;> simp

@[simp] theorem issueAt_wf (src kind island detail) : MemoryWf (issueAt src kind island detail s) ↔ MemoryWf s := by simp [issueAt]

@[simp] theorem report_wf (src kind island detail) : MemoryWf (report src kind island detail s) ↔ MemoryWf s := by simp [report]

@[simp] theorem flushHeld_wf : MemoryWf (flushHeld s) ↔ MemoryWf s :=
  memoryWf_foldl_iff (fun t x => by simp) _

@[simp] theorem issue_wf (src kind detail) : MemoryWf (issue src kind detail s) ↔ MemoryWf s := by simp [issue]

/-! #### Requests, responses and sessions -/

@[simp] theorem modCan_wf (ch f) : MemoryWf (modCan ch f s) ↔ MemoryWf s := Iff.rfl

@[simp] theorem countDropped_wf (e) : MemoryWf (countDropped e s) ↔ MemoryWf s := by unfold countDropped; split <;> simp

@[simp] theorem canQueue_wf (ch e) : MemoryWf (canQueue ch e s) ↔ MemoryWf s := by unfold canQueue; dsimp only; (repeat' split) <;> simp

@[simp] theorem canRefill_wf (ch) : MemoryWf (canRefill ch s) ↔ MemoryWf s := Iff.rfl

@[simp] theorem isoQueue_wf (b) : MemoryWf (isoQueue b s) ↔ MemoryWf s := by simp [isoQueue]

@[simp] theorem canKick_wf : MemoryWf (canKick s) ↔ MemoryWf s := by unfold canKick; split <;> simp

@[simp] theorem sendFlow_wf (fs) : MemoryWf (sendFlow fs s) ↔ MemoryWf s := by simp [sendFlow]

@[simp] theorem delivered_wf (f) : MemoryWf (delivered f s) ↔ MemoryWf s := by unfold delivered; dsimp only; (repeat' split) <;> simp

@[simp] theorem sendFrame_wf (x0 f) : MemoryWf (sendFrame x0 f s) ↔ MemoryWf s := by simp [sendFrame]

@[simp] theorem respondPlain_wf (code status body r) : MemoryWf (respondPlain code status body r s) ↔ MemoryWf s := by simp [respondPlain]

@[simp] theorem respond_wf (code status body r) : MemoryWf (respond code status body r s) ↔ MemoryWf s := by unfold respond; split <;> simp

@[simp] theorem cacheResponse_wf (r f) : MemoryWf (cacheResponse r f s) ↔ MemoryWf s := Iff.rfl

@[simp] theorem freeSlot_wf (x0 sess seq) : MemoryWf (freeSlot x0 sess seq s) ↔ MemoryWf s := by simp [freeSlot]

@[simp] theorem holdSlot_wf (n sess seq) : MemoryWf (holdSlot n sess seq s) ↔ MemoryWf s := Iff.rfl

@[simp] theorem finish_wf (code status body r) : MemoryWf (finish code status body r s) ↔ MemoryWf s := by unfold finish; split <;> simp

@[simp] theorem complete_wf (x0 sess seq status body) : MemoryWf (complete x0 sess seq status body s) ↔ MemoryWf s := by unfold complete; split <;> simp

@[simp] theorem completeReq_wf (r status body) : MemoryWf (completeReq r status body s) ↔ MemoryWf s := by simp [completeReq]

@[simp] theorem releaseWhere_wf (p) : MemoryWf (releaseWhere p s) ↔ MemoryWf s := by simp [releaseWhere]

@[simp] theorem closeSession_wf (x0 id) : MemoryWf (closeSession x0 id s) ↔ MemoryWf s := by unfold closeSession; dsimp only; (repeat' split) <;> simp

@[simp] theorem closeAuth_wf (p) : MemoryWf (closeAuth p s) ↔ MemoryWf s :=
  memoryWf_foldl_iff (fun t x => by simp) _

@[simp] theorem canClose_wf : MemoryWf (canClose s) ↔ MemoryWf s := by simp [canClose, memoryWf_foldl_iff]

@[simp] theorem stopTransport_wf (x0) : MemoryWf (stopTransport x0 s) ↔ MemoryWf s := by simp [stopTransport]

@[simp] theorem sendAborted_wf (a) : MemoryWf (sendAborted a s) ↔ MemoryWf s := by simp [sendAborted]

@[simp] theorem serveTransport_wf (x0 started) : MemoryWf (serveTransport x0 started s) ↔ MemoryWf s := by unfold serveTransport; (repeat' split) <;> simp [memoryWf_foldl_iff]

end Sys2Proof.Proofs
end

section
/-! The core keeps both byte memories in canonical form; what its instructions answer has it. -/

namespace Sys2Proof.Proofs
open Sys2Proof Sys2Proof.Machine Sys2Proof.Safety

variable {s : State}

/-! #### Registers, windows, traps, loads, stores and branches of the core -/

@[simp] theorem modRegs_wf (f) : MemoryWf (modRegs f s) ↔ MemoryWf s := Iff.rfl

/-- Bytes stored are stored in canonical form. -/
@[simp] theorem storeMem_wf (a b) (hs : MemoryWf s) : MemoryWf (storeMem a b s) := by
  unfold storeMem
  split
  · exact hs
  · exact ⟨Laws.memStore_wf _ _ _ _ hs.1, hs.2⟩

@[simp] theorem closeWindow_wf : MemoryWf (closeWindow s) ↔ MemoryWf s := by simp [closeWindow]

@[simp] theorem openWindow_wf : MemoryWf (openWindow s) ↔ MemoryWf s := by simp [openWindow]

@[simp] theorem foldPair_wf (res ea shRes shEa) : MemoryWf (foldPair res ea shRes shEa s) ↔ MemoryWf s := by simp [foldPair]

@[simp] theorem storeBytes_wf (a b) (hs : MemoryWf s) : MemoryWf (storeBytes a b s) := by simp [storeBytes, hs]

@[simp] theorem releaseStores_wf (n) (hs : MemoryWf s) : MemoryWf (releaseStores n s) := by
  induction n generalizing s with
  | zero => exact hs
  | succ n ih =>
    unfold releaseStores
    split
    · exact hs
    · exact ih (storeMem_wf _ _ hs)

@[simp] theorem doubleTrap_wf : MemoryWf (doubleTrap s) ↔ MemoryWf s := by simp [doubleTrap]

@[simp] theorem spillOne_wf {d} (hs : MemoryWf s) (hd : MemoryWf d) : MemoryWf ((spillOne s).getD d) := by
  unfold spillOne
  dsimp only
  split
  · exact storeMem_wf _ _ hs
  · exact hd

@[simp] theorem wfull_wf {d} (hs : MemoryWf s) (hd : MemoryWf d) : MemoryWf ((wfull s).getD d) := by
  unfold wfull
  split
  next => exact hd
  next s1 h1 =>
    have h := memoryWf_of_getD (spillOne_wf hs hs) h1
    exact spillOne_wf h h

@[simp] theorem refillOne_wf {d} (hs : MemoryWf s) (hd : MemoryWf d) : MemoryWf ((refillOne s).getD d) := by
  unfold refillOne
  dsimp only
  split
  · simp only [Option.getD_some, modRegs_wf, hs]
  · exact hd

@[simp] theorem saveTrap_wf (cause epc eaddr) : MemoryWf (saveTrap cause epc eaddr s) ↔ MemoryWf s := Iff.rfl

@[simp] theorem slide_wf : MemoryWf (slide s) ↔ MemoryWf s := Iff.rfl

@[simp] theorem slideBack_wf : MemoryWf (slideBack s) ↔ MemoryWf s := Iff.rfl

@[simp] theorem roomIn_wf {d} (x) (hs : MemoryWf s) (hd : MemoryWf d) : MemoryWf ((roomIn x s).getD d) := by
  unfold roomIn
  split
  · exact hs
  · exact wfull_wf (by simp [hs]) hd

theorem roomOut_wf {x t} (hs : MemoryWf s) (h : roomOut x s = .ok t) : MemoryWf t := by
  unfold roomOut at h
  split at h
  · cases h; exact hs
  · split at h
    · cases h
    · split at h
      next s1 hr =>
        cases h
        exact memoryWf_of_getD (refillOne_wf (by simp [hs]) hs) hr
      next => cases h

@[simp] theorem slideIn_wf {d} (x) (hs : MemoryWf s) (hd : MemoryWf d) : MemoryWf ((slideIn x s).getD d) := by
  have h := roomIn_wf x hs hd
  unfold slideIn
  cases hr : roomIn x s with
  | none => exact hd
  | some t => rw [hr] at h; exact slide_wf.2 h

theorem slideOut_wf {x t} (hs : MemoryWf s) (h : slideOut x s = .ok t) : MemoryWf t := by
  unfold slideOut at h
  cases hr : roomOut x s with
  | error e => rw [hr] at h; cases h
  | ok r =>
    rw [hr] at h
    cases h
    exact (slideBack_wf).2 (roomOut_wf hs hr)

@[simp] theorem enterTrap_wf (cause epc eaddr) (hs : MemoryWf s) : MemoryWf (enterTrap cause epc eaddr s) := by simp [enterTrap, hs]

@[simp] theorem releaseExtClaims_wf : MemoryWf (releaseExtClaims s) ↔ MemoryWf s := by simp [releaseExtClaims]

@[simp] theorem stopExtension_wf : MemoryWf (stopExtension s) ↔ MemoryWf s := by simp [stopExtension, memoryWf_foldl_iff]

@[simp] theorem extFault_wf (cause epc eaddr) : MemoryWf (extFault cause epc eaddr s) ↔ MemoryWf s := by simp [extFault]

@[simp] theorem trap_wf (cause eaddr) (hs : MemoryWf s) : MemoryWf (trap cause eaddr s) := by unfold trap; dsimp only; (repeat' split) <;> simp [hs]

theorem serial_wf {k} (hk : ∀ t, MemoryWf t → CoreWf (k t)) (hs : MemoryWf s) : CoreWf (serial k s) := by
  have hc : MemoryWf (closeWindow s) := closeWindow_wf.2 hs
  unfold serial
  dsimp only
  split
  · exact hc
  · exact hk _ hc

@[simp] theorem modThread_wf (n f) : MemoryWf (modThread n f s) ↔ MemoryWf s := Iff.rfl

@[simp] theorem switchTo_wf (n) : MemoryWf (switchTo n s) ↔ MemoryWf s := by simp [switchTo]

@[simp] theorem reschedule_wf : MemoryWf (reschedule s) ↔ MemoryWf s := by unfold reschedule; (repeat' split) <;> simp

@[simp] theorem modThreadRegs_wf (n f) : MemoryWf (modThreadRegs n f s) ↔ MemoryWf s := by simp [modThreadRegs]

@[simp] theorem threadReturn_wf (n status res) : MemoryWf (threadReturn n status res s) ↔ MemoryWf s := by simp [threadReturn]

@[simp] theorem threadExit_wf : MemoryWf (threadExit s) ↔ MemoryWf s := by simp [threadExit]

@[simp] theorem nextPc_wf : MemoryWf (nextPc s) ↔ MemoryWf s := Iff.rfl

@[simp] theorem trapStep_wf (cause eaddr) (hs : MemoryWf s) : MemoryWf (trapStep cause eaddr s) := by simp [trapStep, hs]

/-- A core instruction keeps the canonical form when what it answers has it. -/
theorem coreWith_wf {g f} (hf : ∀ t, MemoryWf t → CoreWf (f t)) (hs : MemoryWf s) : MemoryWf (coreWith g f s) := by
  unfold coreWith
  split
  · dsimp only
    have h0 : MemoryWf { s with core := { s.core with cycle := (s.core.cycle + 1) % 2 ^ 64 }, ext := { s.ext with share := if s.core.r.psr.u then s.ext.share - 1 else s.ext.share } } := hs
    split
    · have h1 := hf _ (openWindow_wf.2 h0)
      split
      next s1 res ea hr =>
        rw [hr] at h1
        exact (foldPair_wf ..).2 h1
      next => exact trapStep_wf _ _ h0
    · exact trapStep_wf _ _ h0
  · exact hs

theorem coreStep_wf {f} (hf : ∀ t, MemoryWf t → CoreWf (f t)) (hs : MemoryWf s) : MemoryWf (coreStep f s) := coreWith_wf hf hs

@[simp] theorem alu_wf (rd srcs f) (hs : MemoryWf s) : CoreWf (alu rd srcs f s) := by simp [alu, hs]

@[simp] theorem coreAlu_wf (rd srcs f g) (hs : MemoryWf s) : MemoryWf (coreAlu rd srcs f g s) := coreWith_wf (fun _ ht => alu_wf _ _ _ ht) hs

theorem ownWindow_wf {res ea k} (hk : ∀ t, MemoryWf t → CoreWf (k t)) (hs : MemoryWf s) : CoreWf (ownWindow res ea k s) := by
  have hc : MemoryWf (closeWindow s) := closeWindow_wf.2 hs
  unfold ownWindow
  dsimp only
  split
  · exact hk _ hc
  · split <;> exact hc

theorem accessWindow_wf {res ea k} (hk : ∀ t, MemoryWf t → CoreWf (k t)) (hs : MemoryWf s) : CoreWf (accessWindow res ea k s) := by
  unfold accessWindow
  split
  · exact ownWindow_wf hk hs
  · exact hk s hs

theorem loadWith_wf {n rd ra imm f} (hs : MemoryWf s) : CoreWf (loadWith n rd ra imm f s) := by
  unfold loadWith
  dsimp only
  split
  · split
    · exact coreWf_error
    · split
      · exact accessWindow_wf (fun t ht => by simp [ht]) hs
      · exact coreWf_error
  · exact coreWf_error

@[simp] theorem coreLoad_wf (n rd ra imm f) (hs : MemoryWf s) : MemoryWf (coreLoad n rd ra imm f s) := coreWith_wf (fun _ ht => loadWith_wf ht) hs

theorem storeWith_wf {n ok ra imm f} (hs : MemoryWf s) : CoreWf (storeWith n ok ra imm f s) := by
  have hown : CoreWf (ownWindow (dataWord (f s.core.r)) (effAddr s.core.r ra imm) (fun s' => .ok (nextPc (storeMem (effAddr s.core.r ra imm).toNat (f s.core.r) s'), dataWord (f s.core.r), effAddr s.core.r ra imm)) s) :=
    ownWindow_wf (fun t ht => by simp [ht]) hs
  simp [storeWith, hown, hs]

@[simp] theorem coreStore_wf (n ok ra imm f) (hs : MemoryWf s) : MemoryWf (coreStore n ok ra imm f s) := coreWith_wf (fun _ ht => storeWith_wf ht) hs

theorem jumpTo_wf {target} (hs : MemoryWf s) : CoreWf (jumpTo target s) := by
  unfold jumpTo
  split
  · exact serial_wf (fun t ht => by simp [ht]) hs
  · split <;> simp [hs]

theorem branch_wf {ok taken off} (hs : MemoryWf s) : CoreWf (branch ok taken off s) := by
  unfold branch
  (repeat' split) <;> simp [hs, jumpTo_wf]

@[simp] theorem coreBranch_wf (ok taken shadow off) (hs : MemoryWf s) : MemoryWf (coreBranch ok taken shadow off s) := coreWith_wf (fun _ ht => branch_wf ht) hs

/-! #### Owners, claims and arbitration -/

@[simp] theorem modStn_wf (addr f) : MemoryWf (modStn addr f s) ↔ MemoryWf s := Iff.rfl

@[simp] theorem modOwn_wf (obj f) : MemoryWf (modOwn obj f s) ↔ MemoryWf s := by simp [modOwn]

@[simp] theorem renewLease_wf (o obj) : MemoryWf (renewLease o obj s) ↔ MemoryWf s := by simp [renewLease]

@[simp] theorem releaseObject_wf (obj) : MemoryWf (releaseObject obj s) ↔ MemoryWf s := by simp [releaseObject]

@[simp] theorem grant_wf (o prio obj sess) : MemoryWf (grant o prio obj sess s) ↔ MemoryWf s := by simp [grant]

@[simp] theorem outRequest_wf (o m duty freq) : MemoryWf (outRequest o m duty freq s) ↔ MemoryWf s := by simp [outRequest]

@[simp] theorem answerDiag_wf (o v r status) : MemoryWf (answerDiag o v r status s) ↔ MemoryWf s := by simp [answerDiag]

@[simp] theorem answerClaim_wf (c status owner prio) : MemoryWf (answerClaim c status owner prio s) ↔ MemoryWf s := by unfold answerClaim; split <;> simp

@[simp] theorem refuseClaim_wf (c status) : MemoryWf (refuseClaim c status s) ↔ MemoryWf s := by unfold refuseClaim; split <;> simp

@[simp] theorem decideObject_wf (obj cs) : MemoryWf (decideObject obj cs s) ↔ MemoryWf s := by unfold decideObject; dsimp only; (repeat' split) <;> simp [memoryWf_foldl_iff]

@[simp] theorem arbitrate_wf : MemoryWf (arbitrate s) ↔ MemoryWf s :=
  memoryWf_foldl_iff (fun t x => by simp) _

@[simp] theorem releaseAllClaims_wf : MemoryWf (releaseAllClaims s) ↔ MemoryWf s := by simp [releaseAllClaims, memoryWf_foldl_iff]

@[simp] theorem releaseList_wf (l) : MemoryWf (releaseList l s) ↔ MemoryWf s :=
  memoryWf_foldl_iff (fun t x => by simp) _

/-! #### The lamp, wiper and motion services -/

@[simp] theorem putDefault_wf (o d) : MemoryWf (putDefault o d s) ↔ MemoryWf s := Iff.rfl

@[simp] theorem fadeChan_wf (fadeMs duty o) : MemoryWf (fadeChan fadeMs duty s o) ↔ MemoryWf s := by simp [fadeChan]

@[simp] theorem lampMove_wf (n fadeMs) : MemoryWf (lampMove n fadeMs s) ↔ MemoryWf s := by unfold lampMove; (repeat' split) <;> simp [memoryWf_foldl_iff]

@[simp] theorem lampRequest_wf (n req level fadeMs) : MemoryWf (lampRequest n req level fadeMs s) ↔ MemoryWf s := by simp [lampRequest]

@[simp] theorem refreshLamp_wf (l) : MemoryWf (refreshLamp s l) ↔ MemoryWf s := by simp [refreshLamp]

@[simp] theorem refreshLamps_wf : MemoryWf (refreshLamps s) ↔ MemoryWf s :=
  memoryWf_foldl_iff (fun t x => by simp) _

@[simp] theorem parkLamps_wf : MemoryWf (parkLamps s) ↔ MemoryWf s :=
  memoryWf_foldl_iff (fun t x => by simp) _

@[simp] theorem motorRun_wf (pair forward duty) : MemoryWf (motorRun pair forward duty s) ↔ MemoryWf s := by simp [motorRun]

@[simp] theorem motorStop_wf (pair) : MemoryWf (motorStop pair s) ↔ MemoryWf s := by simp [motorStop]

@[simp] theorem reportMotorFault_wf (o) : MemoryWf (reportMotorFault o s) ↔ MemoryWf s := by simp [reportMotorFault]

@[simp] theorem modWiper_wf (f) : MemoryWf (modWiper f s) ↔ MemoryWf s := Iff.rfl

@[simp] theorem wiperRun_wf (p duty) : MemoryWf (wiperRun p duty s) ↔ MemoryWf s := by unfold wiperRun; split <;> simp

@[simp] theorem wiperHalt_wf (p) : MemoryWf (wiperHalt p s) ↔ MemoryWf s := by unfold wiperHalt; split <;> simp

@[simp] theorem wipeLow_wf : MemoryWf (wipeLow s) ↔ MemoryWf s := by unfold wipeLow; split <;> simp

@[simp] theorem wipeHigh_wf : MemoryWf (wipeHigh s) ↔ MemoryWf s := by unfold wipeHigh; split <;> simp

@[simp] theorem wiperWait_wf (n) : MemoryWf (wiperWait n s) ↔ MemoryWf s := by simp [wiperWait]

@[simp] theorem wiperPark_wf : MemoryWf (wiperPark s) ↔ MemoryWf s := by unfold wiperPark; split <;> simp

@[simp] theorem wiperToService_wf : MemoryWf (wiperToService s) ↔ MemoryWf s := by unfold wiperToService; split <;> simp

@[simp] theorem wiperAction_wf (a afterWipe) : MemoryWf (wiperAction a afterWipe s) ↔ MemoryWf s := by simp [wiperAction]

@[simp] theorem afterWipe_wf : MemoryWf (afterWipe s) ↔ MemoryWf s := by unfold afterWipe; dsimp only; (repeat' split) <;> simp

@[simp] theorem countWipe_wf : MemoryWf (countWipe s) ↔ MemoryWf s := by simp [countWipe]

@[simp] theorem wiperParked_wf : MemoryWf (wiperParked s) ↔ MemoryWf s := by unfold wiperParked; split <;> simp

@[simp] theorem wiperUnparked_wf : MemoryWf (wiperUnparked s) ↔ MemoryWf s := Iff.rfl

@[simp] theorem wiperBegin_wf : MemoryWf (wiperBegin s) ↔ MemoryWf s := by unfold wiperBegin; dsimp only; (repeat' split) <;> simp

@[simp] theorem wiperSet_wf (mode sens interval) : MemoryWf (wiperSet mode sens interval s) ↔ MemoryWf s := by simp [wiperSet]

@[simp] theorem wiperRest_wf : MemoryWf (wiperRest s) ↔ MemoryWf s := by unfold wiperRest; split <;> simp

@[simp] theorem wiperStall_wf : MemoryWf (wiperStall s) ↔ MemoryWf s := by simp [wiperStall]

@[simp] theorem wiperRetry_wf : MemoryWf (wiperRetry s) ↔ MemoryWf s := by unfold wiperRetry; dsimp only; (repeat' split) <;> simp

@[simp] theorem rainChanged_wf (old) : MemoryWf (rainChanged old s) ↔ MemoryWf s := by simp [rainChanged]

@[simp] theorem modAct_wf (n f) : MemoryWf (modAct n f s) ↔ MemoryWf s := Iff.rfl

@[simp] theorem notePos_wf (n) : MemoryWf (notePos n s) ↔ MemoryWf s := Iff.rfl

@[simp] theorem addRipples_wf (n k) : MemoryWf (addRipples n k s) ↔ MemoryWf s := by simp [addRipples]

@[simp] theorem actRun_wf (n opening duty st) : MemoryWf (actRun n opening duty st s) ↔ MemoryWf s := by unfold actRun; split <;> simp

@[simp] theorem learnAbort_wf (n) : MemoryWf (learnAbort n s) ↔ MemoryWf s := by unfold learnAbort; dsimp only; (repeat' split) <;> simp

@[simp] theorem actStop_wf (n) : MemoryWf (actStop n s) ↔ MemoryWf s := by unfold actStop; split <;> simp

@[simp] theorem actMove_wf (n target manner) : MemoryWf (actMove n target manner s) ↔ MemoryWf s := by simp [actMove]

@[simp] theorem actReached_wf (n) : MemoryWf (actReached n s) ↔ MemoryWf s := by simp [actReached]

@[simp] theorem actEndStop_wf (n ripple profile) : MemoryWf (actEndStop n ripple profile s) ↔ MemoryWf s := by unfold actEndStop; dsimp only; (repeat' split) <;> simp

@[simp] theorem actPinch_wf (n) : MemoryWf (actPinch n s) ↔ MemoryWf s := by unfold actPinch; split <;> simp

@[simp] theorem stopAllActs_wf : MemoryWf (stopAllActs s) ↔ MemoryWf s := by simp [stopAllActs]

@[simp] theorem motorTrip_wf (o) : MemoryWf (motorTrip o s) ↔ MemoryWf s := by unfold motorTrip; (repeat' split) <;> simp

@[simp] theorem breakLearns_wf : MemoryWf (breakLearns s) ↔ MemoryWf s := by simp [breakLearns]

end Sys2Proof.Proofs
end

section
/-! The journal, the NVM, the power domains, the modes and the protection of the channels keep both byte memories in canonical form. -/

namespace Sys2Proof.Proofs
open Sys2Proof Sys2Proof.Machine Sys2Proof.Safety

variable {s : State}

/-! #### The life journal -/

@[simp] theorem eraseSector_wf (n) : MemoryWf (eraseSector n s) ↔ MemoryWf s := Iff.rfl

@[simp] theorem eraseSectors_wf (n k) : MemoryWf (eraseSectors n k s) ↔ MemoryWf s := by
  induction k generalizing s n with
  | zero => rfl
  | succ k ih => exact (ih (n + 1)).trans (eraseSector_wf n)

@[simp] theorem bootWrite_wf (f) : MemoryWf (bootWrite f s) ↔ MemoryWf s := Iff.rfl

@[simp] theorem snapCount_wf (page) : MemoryWf (snapCount page s) ↔ MemoryWf s := Iff.rfl

@[simp] theorem nvmOp_wf (us w) : MemoryWf (nvmOp us w s) ↔ MemoryWf s := Iff.rfl

@[simp] theorem logWriteRep_wf (m device rep) : MemoryWf (logWriteRep m device rep s) ↔ MemoryWf s := by simp [logWriteRep]

@[simp] theorem logWrite_wf (m device) : MemoryWf (logWrite m device s) ↔ MemoryWf s := by simp [logWrite]

@[simp] theorem moveHead_wf (oldHead) : MemoryWf (moveHead oldHead s) ↔ MemoryWf s := by unfold moveHead; split <;> simp

@[simp] theorem journalFrame_wf (shutdown) : MemoryWf (journalFrame shutdown s) ↔ MemoryWf s := by simp [journalFrame]

@[simp] theorem raiseNotice_wf (code object) : MemoryWf (raiseNotice code object s) ↔ MemoryWf s := by simp [raiseNotice]

@[simp] theorem storeNotices_wf : MemoryWf (storeNotices s) ↔ MemoryWf s :=
  memoryWf_foldl_iff (fun t x => by simp) _

@[simp] theorem wearNotice_wf (o) : MemoryWf (wearNotice s o) ↔ MemoryWf s := by simp [wearNotice]

@[simp] theorem evalNotices_wf : MemoryWf (evalNotices s) ↔ MemoryWf s := by simp [evalNotices, memoryWf_foldl_iff]

@[simp] theorem flushLife_wf (shutdown) : MemoryWf (flushLife shutdown s) ↔ MemoryWf s := by simp [flushLife]

@[simp] theorem fracAdd_wf (o n) : MemoryWf (fracAdd o n s).1 ↔ MemoryWf s := Iff.rfl

@[simp] theorem loseUnflushed_wf : MemoryWf (loseUnflushed s) ↔ MemoryWf s := Iff.rfl

/-! #### Data NVM operations and what a reset cuts of them -/

@[simp] theorem readPoison_wf (off) : MemoryWf (readPoison off s) ↔ MemoryWf s := by simp [readPoison]

@[simp] theorem startPoisons_wf : MemoryWf (startPoisons s) ↔ MemoryWf s :=
  memoryWf_foldl_iff (fun t x => by simp) _

@[simp] theorem poisonAt_wf (c off) : MemoryWf (poisonAt c off s) ↔ MemoryWf s := by simp [poisonAt]

@[simp] theorem putCopy_wf (n c) : MemoryWf (putCopy n c s) ↔ MemoryWf s := Iff.rfl

@[simp] theorem commitEnd_wf : MemoryWf (commitEnd s) ↔ MemoryWf s := by unfold commitEnd; split <;> simp

@[simp] theorem lineCut_wf (torn) : MemoryWf (lineCut torn s).2 ↔ MemoryWf s := by simp [lineCut]

@[simp] theorem commitCut_wf (torn) : MemoryWf (commitCut torn s) ↔ MemoryWf s := by unfold commitCut; split <;> simp

@[simp] theorem erasedLine_wf (l) : MemoryWf (erasedLine l s).2 ↔ MemoryWf s := Iff.rfl

@[simp] theorem erasedLines_wf (l) : MemoryWf (erasedLines l s).2 ↔ MemoryWf s := by
  induction l generalizing s with
  | nil => rfl
  | cons x l ih => exact ih.trans (erasedLine_wf x)

@[simp] theorem modRaw_wf (a f) : MemoryWf (modRaw a f s) ↔ MemoryWf s := Iff.rfl

@[simp] theorem opCut_wf (torn o) : MemoryWf (opCut torn s o) ↔ MemoryWf s := by unfold opCut; (repeat' split) <;> simp

@[simp] theorem nvmCut_wf (torn) : MemoryWf (nvmCut torn s) ↔ MemoryWf s :=
  (commitCut_wf torn).trans (memoryWf_foldl_iff (fun t x => by simp) _)

/-! #### Key updates and floor raises -/

@[simp] theorem modSlot_wf (n f) : MemoryWf (modSlot n f s) ↔ MemoryWf s := Iff.rfl

@[simp] theorem modUpdate_wf (u f) : MemoryWf (modUpdate u f s) ↔ MemoryWf s := Iff.rfl

@[simp] theorem dropUpdate_wf (u) : MemoryWf (dropUpdate u s) ↔ MemoryWf s := Iff.rfl

@[simp] theorem keyCommit_wf (u) : MemoryWf (keyCommit u s) ↔ MemoryWf s := Iff.rfl

@[simp] theorem keyGo_wf (u) : MemoryWf (keyGo u s) ↔ MemoryWf s := by simp [keyGo]

@[simp] theorem keyStep_wf : MemoryWf (keyStep s) ↔ MemoryWf s :=
  memoryWf_foldl_iff (fun t x => by simp) _

@[simp] theorem keyCut_wf (u) : MemoryWf (keyCut s u) ↔ MemoryWf s := by simp [keyCut]

@[simp] theorem raiseTo_wf (kind v) : MemoryWf (raiseTo kind v s) ↔ MemoryWf s := Iff.rfl

@[simp] theorem dropRaise_wf (u) : MemoryWf (dropRaise u s) ↔ MemoryWf s := Iff.rfl

@[simp] theorem raiseGo_wf (u) : MemoryWf (raiseGo s u) ↔ MemoryWf s := by simp [raiseGo]

@[simp] theorem encStep_wf : MemoryWf (encStep s) ↔ MemoryWf s := by simp [encStep, memoryWf_foldl_iff]

@[simp] theorem raiseCut_wf (u) : MemoryWf (raiseCut s u) ↔ MemoryWf s := by simp [raiseCut]

@[simp] theorem keysCut_wf : MemoryWf (keysCut s) ↔ MemoryWf s := by simp [keysCut, memoryWf_foldl_iff]

@[simp] theorem raisesReturn_wf : MemoryWf (raisesReturn s) ↔ MemoryWf s :=
  memoryWf_foldl_iff (fun t x => by simp) _

@[simp] theorem keysReturn_wf : MemoryWf (keysReturn s) ↔ MemoryWf s := by simp [keysReturn, memoryWf_foldl_iff]

@[simp] theorem keysShutdown_wf : MemoryWf (keysShutdown s) ↔ MemoryWf s :=
  memoryWf_foldl_iff (fun t x => by simp) _

@[simp] theorem raisesShutdown_wf : MemoryWf (raisesShutdown s) ↔ MemoryWf s :=
  memoryWf_foldl_iff (fun t x => by simp) _

/-! #### Levels that mode policy follows -/

@[simp] theorem levelChanged_wf (src) : MemoryWf (levelChanged src s) ↔ MemoryWf s := by unfold levelChanged; dsimp only; (repeat' split) <;> simp

@[simp] theorem setIgn_wf (src v) : MemoryWf (setIgn src v s) ↔ MemoryWf s := by simp [setIgn]

@[simp] theorem loseIgn_wf : MemoryWf (loseIgn s) ↔ MemoryWf s := by simp [loseIgn]

@[simp] theorem setLock_wf (src v) : MemoryWf (setLock src v s) ↔ MemoryWf s := by simp [setLock]

@[simp] theorem setDoor_wf (src v) : MemoryWf (setDoor src v s) ↔ MemoryWf s := by simp [setDoor]

@[simp] theorem readIgn_wf (src v) : MemoryWf (readIgn src v s) ↔ MemoryWf s := by unfold readIgn; split <;> simp

@[simp] theorem readLock_wf (src v) : MemoryWf (readLock src v s) ↔ MemoryWf s := by unfold readLock; split <;> simp

@[simp] theorem feedCan_wf (ch f) : MemoryWf (feedCan ch f s) ↔ MemoryWf s := by simp [feedCan]

@[simp] theorem refreshDoor_wf (src) : MemoryWf (refreshDoor src s) ↔ MemoryWf s := by simp [refreshDoor]

@[simp] theorem feedSwitch_wf (n) : MemoryWf (feedSwitch n s) ↔ MemoryWf s := by simp [feedSwitch]

@[simp] theorem feedLadder_wf (n code) : MemoryWf (feedLadder n code s) ↔ MemoryWf s := by simp [feedLadder]

@[simp] theorem feedStation_wf (addr data) : MemoryWf (feedStation addr data s) ↔ MemoryWf s := by simp [feedStation]

@[simp] theorem loseStation_wf (addr) : MemoryWf (loseStation addr s) ↔ MemoryWf s := by simp [loseStation]

@[simp] theorem setStn_wf (p a new) : MemoryWf (setStn p a new s) ↔ MemoryWf s := by simp [setStn]

@[simp] theorem absentAll_wf : MemoryWf (absentAll s) ↔ MemoryWf s :=
  memoryWf_foldl_iff (fun t x => by simp) _

@[simp] theorem tagEval_wf : MemoryWf (tagEval s) ↔ MemoryWf s := Iff.rfl

@[simp] theorem modSw_wf (n f) : MemoryWf (modSw n f s) ↔ MemoryWf s := Iff.rfl

@[simp] theorem pollAll_wf : MemoryWf (pollAll s) ↔ MemoryWf s :=
  memoryWf_foldl_iff (fun t x => by simp) _

@[simp] theorem initialDebounce_wf : MemoryWf (initialDebounce s) ↔ MemoryWf s := by simp [initialDebounce]

@[simp] theorem scanReturn_wf : MemoryWf (scanReturn s) ↔ MemoryWf s := by simp [scanReturn]

/-! #### Domain states -/

@[simp] theorem countRefusal_wf (c) : MemoryWf (countRefusal c s) ↔ MemoryWf s := Iff.rfl

@[simp] theorem setDom_wf (d x) : MemoryWf (setDom d x s) ↔ MemoryWf s := Iff.rfl

@[simp] theorem canDown_wf (ret) : MemoryWf (canDown ret s) ↔ MemoryWf s := Iff.rfl

@[simp] theorem linDown_wf (ret) : MemoryWf (linDown ret s) ↔ MemoryWf s := Iff.rfl

@[simp] theorem busUp_wf : MemoryWf (busUp s) ↔ MemoryWf s := Iff.rfl

@[simp] theorem millDown_wf : MemoryWf (millDown s) ↔ MemoryWf s := by simp [millDown]

@[simp] theorem serveIf_wf (x0 started) : MemoryWf (serveIf x0 started s) ↔ MemoryWf s := by simp [serveIf]

@[simp] theorem serveAll_wf (started) : MemoryWf (serveAll started s) ↔ MemoryWf s := by simp [serveAll]

@[simp] theorem anaDown_wf : MemoryWf (anaDown s) ↔ MemoryWf s := Iff.rfl

@[simp] theorem rfdDown_wf : MemoryWf (rfdDown s) ↔ MemoryWf s := Iff.rfl

@[simp] theorem encLost_wf : MemoryWf (encLost s) ↔ MemoryWf s := by simp [encLost]

@[simp] theorem leaveOn_wf (d new) : MemoryWf (leaveOn d new s) ↔ MemoryWf s := by unfold leaveOn; split <;> simp

/-- A memory domain that is switched off is cleared, which keeps the form. -/
@[simp] theorem enterState_wf (d new) (hs : MemoryWf s) : MemoryWf (enterState d new s) := by
  unfold enterState
  split
  case h_3 => split; exacts [⟨Laws.memClear_wf _ _ _ _ hs.1, hs.2⟩, hs]
  case h_4 => split; exacts [⟨Laws.memClear_wf _ _ _ _ (Laws.memClear_wf _ _ _ _ hs.1), hs.2⟩, hs]
  case h_5 | h_7 | h_8 => split <;> simp [hs]
  case h_1 | h_2 | h_6 | h_9 => simp [hs]

@[simp] theorem stopMonitors_wf : MemoryWf (stopMonitors s) ↔ MemoryWf s := Iff.rfl

@[simp] theorem clearWindows_wf : MemoryWf (clearWindows s) ↔ MemoryWf s := Iff.rfl

@[simp] theorem armMonitors_wf : MemoryWf (armMonitors s) ↔ MemoryWf s := Iff.rfl

@[simp] theorem lowerDomain_wf (d new) (hs : MemoryWf s) : MemoryWf (lowerDomain d new s) := by simp [lowerDomain, hs]

@[simp] theorem needFull_wf : MemoryWf (needFull s) ↔ MemoryWf s := by simp [needFull]

@[simp] theorem scanUp_wf (was) : MemoryWf (scanUp was s) ↔ MemoryWf s := by simp [scanUp]

@[simp] theorem restartAcks_wf : MemoryWf (restartAcks s) ↔ MemoryWf s := Iff.rfl

@[simp] theorem reachOn_wf (d was) : MemoryWf (reachOn d was s) ↔ MemoryWf s := by unfold reachOn; split <;> simp

@[simp] theorem raiseDomain_wf (d new) : MemoryWf (raiseDomain d new s) ↔ MemoryWf s := by simp [raiseDomain]

@[simp] theorem tryEntry_wf (d new) (hs : MemoryWf s) : MemoryWf (tryEntry d new s) := by unfold tryEntry; (repeat' split) <;> simp [hs]

@[simp] theorem tryLowPower_wf : MemoryWf (tryLowPower s) ↔ MemoryWf s := by unfold tryLowPower; (repeat' split) <;> simp

@[simp] theorem lowerToTargets_wf (hs : MemoryWf s) : MemoryWf (lowerToTargets s) :=
  memoryWf_foldl (fun t x ht => by simp [ht]) _ hs

@[simp] theorem retryEntries_wf (hs : MemoryWf s) : MemoryWf (retryEntries s) :=
  tryLowPower_wf.2 (memoryWf_foldl (fun t x ht => by split <;> simp [ht]) _ hs)

@[simp] theorem raiseAll_wf : MemoryWf (raiseAll s) ↔ MemoryWf s := by unfold raiseAll; split <;> simp

@[simp] theorem recordWake_wf (src) : MemoryWf (recordWake src s) ↔ MemoryWf s := Iff.rfl

@[simp] theorem addSleep_wf : MemoryWf (addSleep s) ↔ MemoryWf s := by unfold addSleep; split <;> simp

@[simp] theorem wakeNow_wf (src) : MemoryWf (wakeNow src s) ↔ MemoryWf s := by simp [wakeNow]

@[simp] theorem sameWake_wf (src) : MemoryWf (sameWake src s) ↔ MemoryWf s := by unfold sameWake; split <;> simp

@[simp] theorem wakeEvent_wf (src) : MemoryWf (wakeEvent src s) ↔ MemoryWf s := by unfold wakeEvent; split <;> simp

/-! #### Tamper events and their log -/

@[simp] theorem modMon_wf (src f) : MemoryWf (modMon src f s) ↔ MemoryWf s := Iff.rfl

@[simp] theorem addPending_wf (src kind n) : MemoryWf (addPending src kind n s) ↔ MemoryWf s := by simp [addPending]

@[simp] theorem eraseKeys_wf : MemoryWf (eraseKeys s) ↔ MemoryWf s := by simp [eraseKeys]

@[simp] theorem tamperAlarm_wf (src) : MemoryWf (tamperAlarm src s) ↔ MemoryWf s := by simp [tamperAlarm]

@[simp] theorem tamperEvent_wf (src) : MemoryWf (tamperEvent src s) ↔ MemoryWf s := by simp [tamperEvent]

@[simp] theorem appendEntry_wf (e) : MemoryWf (appendEntry e s) ↔ MemoryWf s := by simp [appendEntry]

@[simp] theorem fillLog_wf : MemoryWf (fillLog s) ↔ MemoryWf s := by simp [fillLog]

@[simp] theorem writePending_wf : MemoryWf (writePending s) ↔ MemoryWf s := by unfold writePending; split <;> simp

@[simp] theorem commitTamper_wf : MemoryWf (commitTamper s) ↔ MemoryWf s := by simp [commitTamper, memoryWf_foldl_iff]

@[simp] theorem poisonLine_wf : MemoryWf (poisonLine s) ↔ MemoryWf s := by simp [poisonLine]

/-! #### Modes and their transitions -/

@[simp] theorem notifyMode_wf (old new cause) : MemoryWf (notifyMode old new cause s) ↔ MemoryWf s := by simp [notifyMode]

@[simp] theorem endOverrides_wf (new) (hs : MemoryWf s) : MemoryWf (endOverrides new s) := by simp [endOverrides, hs]

@[simp] theorem freshChannels_wf : MemoryWf (freshChannels s) ↔ MemoryWf s := by simp [freshChannels]

@[simp] theorem dropDebounce_wf : MemoryWf (dropDebounce s) ↔ MemoryWf s := Iff.rfl

@[simp] theorem disarmPins_wf : MemoryWf (disarmPins s) ↔ MemoryWf s := Iff.rfl

@[simp] theorem disarmWake0_wf : MemoryWf (disarmWake0 s) ↔ MemoryWf s := Iff.rfl

@[simp] theorem autoPark_wf : MemoryWf (autoPark s) ↔ MemoryWf s := by simp [autoPark]

@[simp] theorem enterMode_wf (new cause) (hs : MemoryWf s) : MemoryWf (enterMode new cause s) := by simp [enterMode, hs]

@[simp] theorem crankFollow_wf : MemoryWf (crankFollow s) ↔ MemoryWf s := by simp [crankFollow]

@[simp] theorem millPark_wf : MemoryWf (millPark s) ↔ MemoryWf s := by simp [millPark]

@[simp] theorem shutdownS1_wf (supply) : MemoryWf (shutdownS1 supply s) ↔ MemoryWf s := by simp [shutdownS1]

@[simp] theorem beginShutdown_wf (target cause) (hs : MemoryWf s) : MemoryWf (beginShutdown target cause s) := by simp [beginShutdown, hs]

@[simp] theorem takeTransport_wf : MemoryWf (takeTransport s) ↔ MemoryWf s := by simp [takeTransport]

@[simp] theorem parkEntry_wf (target cause) (hs : MemoryWf s) : MemoryWf (parkEntry target cause s) := by unfold parkEntry; split <;> simp [hs]

@[simp] theorem policyStep_wf (cause) (hs : MemoryWf s) : MemoryWf (policyStep cause s) := by unfold policyStep; split <;> simp [hs]

@[simp] theorem modeEval_wf (cause) (hs : MemoryWf s) : MemoryWf (modeEval cause s) := by simp [modeEval, hs]

@[simp] theorem startAwake_wf : MemoryWf (startAwake s) ↔ MemoryWf s := Iff.rfl

@[simp] theorem abortShutdown_wf (hs : MemoryWf s) : MemoryWf (abortShutdown s) := by simp [abortShutdown, hs]

@[simp] theorem closeTransports_wf : MemoryWf (closeTransports s) ↔ MemoryWf s := by simp [closeTransports]

@[simp] theorem sleepNow_wf (w) (hs : MemoryWf s) : MemoryWf (sleepNow w s) := by unfold sleepNow; (repeat' split) <;> simp [hs]

@[simp] theorem allOff_wf (hs : MemoryWf s) : MemoryWf (allOff s) := by
  have h : MemoryWf (allDomains.foldl (fun acc d => lowerDomain d .off acc) (closeTransports s)) :=
    memoryWf_foldl (fun t x ht => by simp [ht]) _ (by simp [hs])
  unfold allOff
  generalize allDomains = l at h ⊢
  exact ⟨h.1, h.2⟩

@[simp] theorem transportEnd_wf (d) (hs : MemoryWf s) : MemoryWf (transportEnd d s) := by
  have h : MemoryWf (allDomains.foldl (fun acc x => tryEntry x .off acc) (closeTransports s)) :=
    memoryWf_foldl (fun t x ht => by simp [ht]) _ (by simp [hs])
  unfold transportEnd
  generalize allDomains.foldl (fun acc x => tryEntry x .off acc) (closeTransports s) = s1 at h ⊢
  dsimp only
  (repeat' split) <;> simp [h]

@[simp] theorem finishShutdown_wf (d) (hs : MemoryWf s) : MemoryWf (finishShutdown d s) := by unfold finishShutdown; split <;> simp [hs]

@[simp] theorem flushDone_wf : MemoryWf (flushDone s) ↔ MemoryWf s := by simp [flushDone]

@[simp] theorem stepDone_wf (d) (hs : MemoryWf s) : MemoryWf (stepDone d s) := by unfold stepDone; split <;> simp [hs]

@[simp] theorem supplyShutdown_wf (hs : MemoryWf s) : MemoryWf (supplyShutdown s) := by unfold supplyShutdown; split <;> simp [hs]

@[simp] theorem leaveService_wf (cause) (hs : MemoryWf s) : MemoryWf (leaveService cause s) := by simp [leaveService, hs]

/-! #### Channel protection -/

@[simp] theorem trip_wf (thermal o) : MemoryWf (trip thermal o s) ↔ MemoryWf s := by simp [trip]

@[simp] theorem limitHoldStep_wf (o onUs) : MemoryWf (limitHoldStep o onUs s) ↔ MemoryWf s := by simp [limitHoldStep]

@[simp] theorem overcurrentStep_wf (o) : MemoryWf (overcurrentStep o s) ↔ MemoryWf s := by simp [overcurrentStep]

@[simp] theorem noteTemp_wf (o x1) : MemoryWf (noteTemp o x1 s) ↔ MemoryWf s := Iff.rfl

@[simp] theorem thermalStep_wf (o x1) : MemoryWf (thermalStep o x1 s) ↔ MemoryWf s := by simp [thermalStep]

@[simp] theorem bootstrapStep_wf (o) : MemoryWf (bootstrapStep o s) ↔ MemoryWf s := by simp [bootstrapStep]

@[simp] theorem restart_wf (o) : MemoryWf (restart o s) ↔ MemoryWf s := by simp [restart]

@[simp] theorem restartStep_wf (o x1) : MemoryWf (restartStep o x1 s) ↔ MemoryWf s := by simp [restartStep]

@[simp] theorem cooledStep_wf (o x1) : MemoryWf (cooledStep o x1 s) ↔ MemoryWf s := by simp [cooledStep]

@[simp] theorem restoreStep_wf (o) : MemoryWf (restoreStep o s) ↔ MemoryWf s := by unfold restoreStep; split <;> simp

@[simp] theorem inrushEndStep_wf (o) : MemoryWf (inrushEndStep o s) ↔ MemoryWf s := by simp [inrushEndStep]

@[simp] theorem applyOne_wf (o) : MemoryWf (applyOne o s) ↔ MemoryWf s := by simp [applyOne]

@[simp] theorem stepFade_wf (o) : MemoryWf (stepFade o s) ↔ MemoryWf s := by unfold stepFade; split <;> simp

@[simp] theorem stepMotion_wf (o ripples) : MemoryWf (stepMotion o ripples s) ↔ MemoryWf s := by unfold stepMotion; split <;> simp

@[simp] theorem pwmPeriodStep_wf (o mv ripples) : MemoryWf (pwmPeriodStep o mv ripples s) ↔ MemoryWf s := by simp [pwmPeriodStep]

@[simp] theorem noteShunt_wf (n x) : MemoryWf (noteShunt n x s) ↔ MemoryWf s := Iff.rfl

@[simp] theorem isnsSample_wf (n x) : MemoryWf (isnsSample n x s) ↔ MemoryWf s := by simp [isnsSample]

@[simp] theorem senseSlotStep_wf (sel x) : MemoryWf (senseSlotStep sel x s) ↔ MemoryWf s := by simp [senseSlotStep]

@[simp] theorem reportFlags_wf (o old) : MemoryWf (reportFlags o old s) ↔ MemoryWf s := by simp [reportFlags]

@[simp] theorem shortCheck_wf (o bad) : MemoryWf (shortCheck o bad s) ↔ MemoryWf s := Iff.rfl

@[simp] theorem openCheck_wf (o bad) : MemoryWf (openCheck o bad s) ↔ MemoryWf s := Iff.rfl

@[simp] theorem offStateStep_wf (o mv pulled) : MemoryWf (offStateStep o mv pulled s) ↔ MemoryWf s := by simp [offStateStep]

@[simp] theorem onStateStep_wf (o ma) : MemoryWf (onStateStep o ma s) ↔ MemoryWf s := by simp [onStateStep]

@[simp] theorem crankStep_wf (d mv) : MemoryWf (crankStep d mv s) ↔ MemoryWf s := by simp [crankStep]

@[simp] theorem overvoltageStep_wf (d mv) : MemoryWf (overvoltageStep d mv s) ↔ MemoryWf s := by simp [overvoltageStep]

@[simp] theorem overvoltageEndStep_wf (d mv) : MemoryWf (overvoltageEndStep d mv s) ↔ MemoryWf s := by simp [overvoltageEndStep]

@[simp] theorem noteSpan_wf (d ma) : MemoryWf (noteSpan d ma s) ↔ MemoryWf s := Iff.rfl

@[simp] theorem shedOne_wf (d) : MemoryWf (shedOne d s) ↔ MemoryWf s := by unfold shedOne; split <;> simp

@[simp] theorem unshedOne_wf (d) : MemoryWf (unshedOne d s) ↔ MemoryWf s := by unfold unshedOne; split <;> simp

@[simp] theorem governorStep_wf (d x1 ma) : MemoryWf (governorStep d x1 ma s) ↔ MemoryWf s := by unfold governorStep; dsimp only; (repeat' split) <;> simp

@[simp] theorem linkLossStep_wf (d) : MemoryWf (linkLossStep d s) ↔ MemoryWf s := by simp [linkLossStep]

@[simp] theorem linkReturnStep_wf (d) : MemoryWf (linkReturnStep d s) ↔ MemoryWf s := by simp [linkReturnStep]

@[simp] theorem dieClockStep_wf (d khz) : MemoryWf (dieClockStep d khz s) ↔ MemoryWf s := by simp [dieClockStep]

@[simp] theorem sensorFailStep_wf (d) : MemoryWf (sensorFailStep d s) ↔ MemoryWf s := by simp [sensorFailStep]

@[simp] theorem seqParityStep_wf (d) : MemoryWf (seqParityStep d s) ↔ MemoryWf s := by simp [seqParityStep]

end Sys2Proof.Proofs
end

section
/-! Motors, haptics and inputs, the banks, and the mailbox rows of outputs, updates and system keep both byte memories in canonical form. -/

namespace Sys2Proof.Proofs
open Sys2Proof Sys2Proof.Machine Sys2Proof.Safety

variable {s : State}

/-! #### Motor events -/

@[simp] theorem wiperParkedStep_wf : MemoryWf (wiperParkedStep s) ↔ MemoryWf s := by simp [wiperParkedStep]

@[simp] theorem parkTimeoutStep_wf : MemoryWf (parkTimeoutStep s) ↔ MemoryWf s := by unfold parkTimeoutStep; split <;> simp

@[simp] theorem wiperStallStep_wf (ma) : MemoryWf (wiperStallStep ma s) ↔ MemoryWf s := by unfold wiperStallStep; split <;> simp

@[simp] theorem stallRetryStep_wf : MemoryWf (stallRetryStep s) ↔ MemoryWf s := by simp [stallRetryStep]

@[simp] theorem wipeIntervalStep_wf : MemoryWf (wipeIntervalStep s) ↔ MemoryWf s := by simp [wipeIntervalStep]

@[simp] theorem washEndStep_wf : MemoryWf (washEndStep s) ↔ MemoryWf s := by unfold washEndStep; split <;> simp

@[simp] theorem servicePositionStep_wf : MemoryWf (servicePositionStep s) ↔ MemoryWf s := by simp [servicePositionStep]

@[simp] theorem pinchStep_wf (n ma ripples) : MemoryWf (pinchStep n ma ripples s) ↔ MemoryWf s := by unfold pinchStep; dsimp only; (repeat' split) <;> simp

@[simp] theorem endStopStep_wf (n ma ripple profile) : MemoryWf (endStopStep n ma ripple profile s) ↔ MemoryWf s := by unfold endStopStep; split <;> simp

@[simp] theorem targetStep_wf (n ripples) : MemoryWf (targetStep n ripples s) ↔ MemoryWf s := by simp [targetStep]

@[simp] theorem holdToRunStep_wf (n) : MemoryWf (holdToRunStep n s) ↔ MemoryWf s := by simp [holdToRunStep]

/-! #### The haptic sequencer -/

@[simp] theorem modHap_wf (f) : MemoryWf (modHap f s) ↔ MemoryWf s := Iff.rfl

@[simp] theorem coilNotice_wf (old) : MemoryWf (coilNotice old s) ↔ MemoryWf s := by simp [coilNotice]

@[simp] theorem hapIgnored_wf : MemoryWf (hapIgnored s) ↔ MemoryWf s := Iff.rfl

@[simp] theorem i2tNotice_wf : MemoryWf (i2tNotice s) ↔ MemoryWf s := by simp [i2tNotice]

@[simp] theorem hapBegin_wf (c rank n amp) : MemoryWf (hapBegin c rank n amp s) ↔ MemoryWf s := Iff.rfl

@[simp] theorem hapStart_wf (c rank n amp) : MemoryWf (hapStart c rank n amp s) ↔ MemoryWf s := Iff.rfl

@[simp] theorem hapEnd_wf : MemoryWf (hapEnd s) ↔ MemoryWf s := Iff.rfl

@[simp] theorem hapBrake_wf (c start) : MemoryWf (hapBrake c start s) ↔ MemoryWf s := Iff.rfl

@[simp] theorem bemfCheck_wf (c p) : MemoryWf (bemfCheck c p s) ↔ MemoryWf s := by simp [bemfCheck]

@[simp] theorem coilResult_wf (r) : MemoryWf (coilResult r s) ↔ MemoryWf s := by simp [coilResult]

@[simp] theorem testEnd_wf : MemoryWf (testEnd s) ↔ MemoryWf s := by simp [testEnd]

@[simp] theorem hapTick_wf : MemoryWf (hapTick s) ↔ MemoryWf s := by unfold hapTick; dsimp only; (repeat' split) <;> simp

@[simp] theorem hapTake_wf (c rank n amp) : MemoryWf (hapTake c rank n amp s) ↔ MemoryWf s := by unfold hapTake; split <;> simp

@[simp] theorem hapTrigger_wf (rank n amp) : MemoryWf (hapTrigger rank n amp s) ↔ MemoryWf s := by unfold hapTrigger; split <;> simp

@[simp] theorem bindTrigger_wf (key press) : MemoryWf (bindTrigger key press s) ↔ MemoryWf s := by unfold bindTrigger; (repeat' split) <;> simp

@[simp] theorem i2tUpdate_wf (ma) : MemoryWf (i2tUpdate ma s) ↔ MemoryWf s := by unfold i2tUpdate; dsimp only; (repeat' split) <;> simp

/-! #### Switches, pins and keys -/

@[simp] theorem modPin_wf (n f) : MemoryWf (modPin n f s) ↔ MemoryWf s := Iff.rfl

@[simp] theorem inChange_wf : MemoryWf (inChange s) ↔ MemoryWf s := by simp [inChange]

@[simp] theorem noteChange_wf (i) : MemoryWf (noteChange i s) ↔ MemoryWf s := by simp [noteChange]

@[simp] theorem swChange_wf (n closed) : MemoryWf (swChange n closed s) ↔ MemoryWf s := by unfold swChange; dsimp only; (repeat' split) <;> simp

@[simp] theorem swConfirmed_wf (n closed) : MemoryWf (swConfirmed n closed s) ↔ MemoryWf s := by simp [swConfirmed]

@[simp] theorem pollActive_wf (n rd) : MemoryWf (pollActive n rd s) ↔ MemoryWf s := by simp [pollActive]

@[simp] theorem pollParked_wf (n rd) : MemoryWf (pollParked n rd s) ↔ MemoryWf s := by simp [pollParked]

@[simp] theorem pollSample_wf (n mv) : MemoryWf (pollSample n mv s).1 ↔ MemoryWf s := Iff.rfl

@[simp] theorem startPins_wf : MemoryWf (startPins s) ↔ MemoryWf s := Iff.rfl

@[simp] theorem anSample_wf (n mv) : MemoryWf (anSample n mv s) ↔ MemoryWf s := by unfold anSample; split <;> simp

@[simp] theorem anSamples_wf (n l) : MemoryWf (anSamples n l s) ↔ MemoryWf s := by
  induction l generalizing s n with
  | nil => rfl
  | cons v l ih => exact (ih (n + 1)).trans (anSample_wf n (min 3300 v))

@[simp] theorem ghostEvent_wf (x v) : MemoryWf (ghostEvent x v s) ↔ MemoryWf s := by simp [ghostEvent]

@[simp] theorem rowFaults_wf (idle deb) : MemoryWf (rowFaults idle deb s) ↔ MemoryWf s :=
  memoryWf_foldl_iff (fun t x => by simp) _

@[simp] theorem ghosts_wf (rows deb) : MemoryWf (ghosts rows deb s) ↔ MemoryWf s := by simp [ghosts, memoryWf_foldl_iff]

@[simp] theorem keyEvent_wf (n) : MemoryWf (keyEvent n s) ↔ MemoryWf s := by simp [keyEvent]

@[simp] theorem reportKeys_wf (before) : MemoryWf (reportKeys before s) ↔ MemoryWf s := by simp [reportKeys, memoryWf_foldl_iff]

@[simp] theorem freshScan_wf (rows before) : MemoryWf (freshScan rows before s) ↔ MemoryWf s := by simp [freshScan]

@[simp] theorem scanMatrix_wf (rows idle) : MemoryWf (scanMatrix rows idle s) ↔ MemoryWf s := by simp [scanMatrix]

/-! #### Rain, light and mount sensing -/

@[simp] theorem modRls_wf (f) : MemoryWf (modRls f s) ↔ MemoryWf s := Iff.rfl

@[simp] theorem setIntensity_wf (n) : MemoryWf (setIntensity n s) ↔ MemoryWf s := by simp [setIntensity]

@[simp] theorem takeCover_wf (c cov) : MemoryWf (takeCover c cov s) ↔ MemoryWf s := by simp [takeCover]

@[simp] theorem rainBurst_wf (g0 g1) : MemoryWf (rainBurst g0 g1 s) ↔ MemoryWf s := by unfold rainBurst; (repeat' split) <;> simp

@[simp] theorem lightEval_wf : MemoryWf (lightEval s) ↔ MemoryWf s := by simp [lightEval]

@[simp] theorem alsTake_wf (raw0 ok0 raw1 ok1) : MemoryWf (alsTake raw0 ok0 raw1 ok1 s) ↔ MemoryWf s := by simp [alsTake]

@[simp] theorem mountChange_wf (removed) : MemoryWf (mountChange removed s) ↔ MemoryWf s := by simp [mountChange]

@[simp] theorem mountRead_wf (v) : MemoryWf (mountRead v s) ↔ MemoryWf s := by unfold mountRead; split <;> simp

/-! #### Answers of a mailbox row -/

@[simp] theorem deny_wf (status) : ReplyWf (deny status s) ↔ MemoryWf s := Iff.rfl

@[simp] theorem okay_wf (body) : ReplyWf (okay body s) ↔ MemoryWf s := Iff.rfl

@[simp] theorem inMode_wf (code r k) (hs : MemoryWf s) (hk : ReplyWf k) : ReplyWf (inMode code r s k) := by
  simp [inMode, hs, hk]

/-! #### Output, lamp and wiper rows -/

@[simp] theorem hOutGet_wf (r) (hs : MemoryWf s) : ReplyWf (hOutGet r s) := by simp [hOutGet, hs]

@[simp] theorem hOutSet_wf (r) (hs : MemoryWf s) : ReplyWf (hOutSet r s) := by simp [hOutSet, hs]

@[simp] theorem hOutClaim_wf (r) (hs : MemoryWf s) : ReplyWf (hOutClaim r s) := by simp [hOutClaim, hs]

@[simp] theorem hOutRelease_wf (r) (hs : MemoryWf s) : ReplyWf (hOutRelease r s) := by simp [hOutRelease, hs]

@[simp] theorem hOutKeep_wf (r) (hs : MemoryWf s) : ReplyWf (hOutKeep r s) := by simp [hOutKeep, hs]

@[simp] theorem clearLatch_wf (o) : MemoryWf (clearLatch o s) ↔ MemoryWf s := by simp [clearLatch]

@[simp] theorem hOutClear_wf (r) (hs : MemoryWf s) : ReplyWf (hOutClear r s) := by simp [hOutClear, hs]

@[simp] theorem hOutOwners_wf (r) (hs : MemoryWf s) : ReplyWf (hOutOwners r s) := by simp [hOutOwners, hs]

@[simp] theorem hOutStnowners_wf (r) (hs : MemoryWf s) : ReplyWf (hOutStnowners r s) := by simp [hOutStnowners, hs]

@[simp] theorem hLampGet_wf (r) (hs : MemoryWf s) : ReplyWf (hLampGet r s) := by unfold hLampGet; dsimp only; (repeat' split) <;> simp [hs]

@[simp] theorem hLampSet_wf (r) (hs : MemoryWf s) : ReplyWf (hLampSet r s) := by unfold hLampSet; dsimp only; (repeat' split) <;> simp [hs]

@[simp] theorem sceneApply_wf (c) : MemoryWf (sceneApply c s) ↔ MemoryWf s :=
  memoryWf_foldl_iff (fun t x => by simp) _

@[simp] theorem hLampScene_wf (r) (hs : MemoryWf s) : ReplyWf (hLampScene r s) := by unfold hLampScene; split <;> simp [hs]

@[simp] theorem hWipeGet_wf (r) (hs : MemoryWf s) : ReplyWf (hWipeGet r s) := by simp [hWipeGet, hs]

@[simp] theorem hWipeSet_wf (r) (hs : MemoryWf s) : ReplyWf (hWipeSet r s) := by simp [hWipeSet, hs]

@[simp] theorem washBegin_wf (us) : MemoryWf (washBegin us s) ↔ MemoryWf s := by unfold washBegin; split <;> simp

@[simp] theorem hWipeWash_wf (r) (hs : MemoryWf s) : ReplyWf (hWipeWash r s) := by simp [hWipeWash, hs]

@[simp] theorem hMotnGet_wf (r) (hs : MemoryWf s) : ReplyWf (hMotnGet r s) := by simp [hMotnGet, hs]

@[simp] theorem hMotnMove_wf (r) (hs : MemoryWf s) : ReplyWf (hMotnMove r s) := by simp [hMotnMove, hs]

@[simp] theorem hMotnStop_wf (r) (hs : MemoryWf s) : ReplyWf (hMotnStop r s) := by simp [hMotnStop, hs]

@[simp] theorem learnStart_wf (n req) : MemoryWf (learnStart n req s) ↔ MemoryWf s := by simp [learnStart]

@[simp] theorem hMotnLearn_wf (r) (hs : MemoryWf s) : ReplyWf (hMotnLearn r s) := by simp [hMotnLearn, hs]

/-! #### Banks, staging and floors -/

@[simp] theorem setBank_wf (n b) : MemoryWf (setBank n b s) ↔ MemoryWf s := by simp [setBank]

@[simp] theorem checkBank_wf (n) : MemoryWf (checkBank n s) ↔ MemoryWf s := by simp [checkBank]

@[simp] theorem copyBegun_wf (before target us) : MemoryWf (copyBegun before target us s) ↔ MemoryWf s := Iff.rfl

@[simp] theorem copyCut_wf : MemoryWf (copyCut s) ↔ MemoryWf s := by unfold copyCut; split <;> simp

@[simp] theorem copyBanks_wf : MemoryWf (copyBanks s) ↔ MemoryWf s := by simp [copyBanks]

@[simp] theorem trialStep_wf (c) : MemoryWf (trialStep c s) ↔ MemoryWf s := by simp [trialStep]

@[simp] theorem runBank_wf : MemoryWf (runBank s) ↔ MemoryWf s := by simp [runBank]

@[simp] theorem bootSelect_wf (c rescue) : MemoryWf (bootSelect c rescue s) ↔ MemoryWf s := by simp [bootSelect]

@[simp] theorem raiseFloor_wf (kind) : MemoryWf (raiseFloor kind s) ↔ MemoryWf s := by unfold raiseFloor; split <;> simp

@[simp] theorem confirmActive_wf : MemoryWf (confirmActive s) ↔ MemoryWf s := by simp [confirmActive]

@[simp] theorem autoConfirm_wf : MemoryWf (autoConfirm s) ↔ MemoryWf s := by simp [autoConfirm]

@[simp] theorem autoConfirmStep_wf : MemoryWf (autoConfirmStep s) ↔ MemoryWf s := by simp [autoConfirmStep]

@[simp] theorem floorRetryStep_wf : MemoryWf (floorRetryStep s) ↔ MemoryWf s := by simp [floorRetryStep]

@[simp] theorem bankCheckStep_wf : MemoryWf (bankCheckStep s) ↔ MemoryWf s := by simp [bankCheckStep]

/-! #### Update rows -/

@[simp] theorem readSfdp_wf : MemoryWf (readSfdp s) ↔ MemoryWf s := Iff.rfl

@[simp] theorem hUpdInfo_wf (r) (hs : MemoryWf s) : ReplyWf (hUpdInfo r s) := by simp [hUpdInfo, hs]

/-- A sector erased and bytes programmed are stored in canonical form. -/
@[simp] theorem flashWrite_wf (a d) (hs : MemoryWf s) : MemoryWf (flashWrite a d s) := by
  refine ⟨hs.1, Laws.memStore_wf _ _ _ _ ?_⟩
  split
  · exact Laws.memClear_wf _ _ _ _ hs.2
  · exact hs.2

@[simp] theorem hUpdWrite_wf (r) (hs : MemoryWf s) : ReplyWf (hUpdWrite r s) := by simp [hUpdWrite, hs]

@[simp] theorem hUpdStage_wf (r) (hs : MemoryWf s) : ReplyWf (hUpdStage r s) := by simp [hUpdStage, hs]

@[simp] theorem resetAfterReply_wf (r c) : MemoryWf (resetAfterReply r c s) ↔ MemoryWf s := by unfold resetAfterReply; split <;> simp

@[simp] theorem hUpdActivate_wf (r) (hs : MemoryWf s) : ReplyWf (hUpdActivate r s) := by simp [hUpdActivate, hs]

@[simp] theorem hUpdConfirm_wf (r) (hs : MemoryWf s) : ReplyWf (hUpdConfirm r s) := by unfold hUpdConfirm; dsimp only; (repeat' split) <;> simp [hs]

/-! #### System, mode and power rows -/

@[simp] theorem hSysInfo_wf (r) (hs : MemoryWf s) : ReplyWf (hSysInfo r s) := by simp [hSysInfo, hs]

@[simp] theorem hSysStatus_wf (r) (hs : MemoryWf s) : ReplyWf (hSysStatus r s) := by simp [hSysStatus, hs]

@[simp] theorem hSysReset_wf (r) (hs : MemoryWf s) : ReplyWf (hSysReset r s) := by unfold hSysReset; split <;> simp [hs]

@[simp] theorem hSysGettime_wf (r) (hs : MemoryWf s) : ReplyWf (hSysGettime r s) := by simp [hSysGettime, hs]

@[simp] theorem setTime_wf (utc trim) : MemoryWf (setTime utc trim s) ↔ MemoryWf s := by simp [setTime]

@[simp] theorem hSysSettime_wf (r) (hs : MemoryWf s) : ReplyWf (hSysSettime r s) := by simp [hSysSettime, hs]

@[simp] theorem hSysResetlog_wf (r) (hs : MemoryWf s) : ReplyWf (hSysResetlog r s) := by simp [hSysResetlog, hs]

@[simp] theorem hSysWake_wf (r) (hs : MemoryWf s) : ReplyWf (hSysWake r s) := by simp [hSysWake, hs]

@[simp] theorem hModeGet_wf (r) (hs : MemoryWf s) : ReplyWf (hModeGet r s) := by simp [hModeGet, hs]

@[simp] theorem modeAnswer_wf (hs : MemoryWf s) : ReplyWf (modeAnswer s) := by simp [modeAnswer, hs]

@[simp] theorem takeMode_wf (m) (hs : MemoryWf s) : MemoryWf (takeMode m s) := by unfold takeMode; split <;> simp [hs]

@[simp] theorem endService_wf (hs : MemoryWf s) : ReplyWf (endService s) := by simp [endService, hs]

@[simp] theorem setService_wf (r) (hs : MemoryWf s) : ReplyWf (setService r s) := by unfold setService; split <;> simp [hs]

@[simp] theorem setTransport_wf (hs : MemoryWf s) : ReplyWf (setTransport s) := by
  unfold setTransport
  (repeat' split) <;> simp +contextual [hs]

@[simp] theorem hModeSet_wf (r) (hs : MemoryWf s) : ReplyWf (hModeSet r s) := by simp [hModeSet, hs]

@[simp] theorem hModeHold_wf (r) (hs : MemoryWf s) : ReplyWf (hModeHold r s) := by simp [hModeHold, hs]

@[simp] theorem hPwrGet_wf (r) (hs : MemoryWf s) : ReplyWf (hPwrGet r s) := by simp [hPwrGet, hs]

@[simp] theorem setOverride_wf (d o) : MemoryWf (setOverride d o s) ↔ MemoryWf s := Iff.rfl

@[simp] theorem hPwrSet_wf (r) (hs : MemoryWf s) : ReplyWf (hPwrSet r s) := by
  unfold hPwrSet
  dsimp only
  (repeat' split) <;> simp +contextual [hs, inMode]

@[simp] theorem hPwrRefusals_wf (r) (hs : MemoryWf s) : ReplyWf (hPwrRefusals r s) := by simp [hPwrRefusals, hs]

/-! #### Diagnostic services -/

@[simp] theorem nrc_wf (sid code) : MemoryWf (nrc sid code s).2 ↔ MemoryWf s := Iff.rfl

@[simp] theorem positive_wf (sub b) : MemoryWf (positive sub b s).2 ↔ MemoryWf s := Iff.rfl

@[simp] theorem dtcStatuses_wf (l) : MemoryWf (dtcStatuses l s).2 ↔ MemoryWf s := by
  induction l generalizing s with
  | nil => rfl
  | cons d l ih => exact ih.trans draw_wf

@[simp] theorem dtcNow_wf : MemoryWf (dtcNow s).2 ↔ MemoryWf s := by unfold dtcNow; split <;> simp

@[simp] theorem modDiag_wf (f) : MemoryWf (modDiag f s) ↔ MemoryWf s := Iff.rfl

@[simp] theorem diagSession_wf (r b) : MemoryWf (diagSession r b s).2 ↔ MemoryWf s := by unfold diagSession; dsimp only; (repeat' split) <;> simp

@[simp] theorem diagReset_wf (r b) : MemoryWf (diagReset r b s).2 ↔ MemoryWf s := by simp [diagReset]

@[simp] theorem diagClear_wf (b) : MemoryWf (diagClear b s).2 ↔ MemoryWf s := by simp [diagClear]

@[simp] theorem diagDtcs_wf (b) : MemoryWf (diagDtcs b s).2 ↔ MemoryWf s := by unfold diagDtcs; dsimp only; (repeat' split) <;> simp

@[simp] theorem diagRead_wf (b) : MemoryWf (diagRead b s).2 ↔ MemoryWf s := by simp [diagRead]

@[simp] theorem diagWrite_wf (r b) : MemoryWf (diagWrite r b s).2 ↔ MemoryWf s := by unfold diagWrite; dsimp only; (repeat' split) <;> simp

@[simp] theorem diagClaim_wf (r b) : MemoryWf (diagClaim r b s) ↔ MemoryWf s := Iff.rfl

@[simp] theorem diagControl_wf (b) : MemoryWf (diagControl b s).2 ↔ MemoryWf s := by unfold diagControl; (repeat' split) <;> simp

@[simp] theorem diagWiper_wf (sub) : MemoryWf (diagWiper sub s).2 ↔ MemoryWf s := by simp [diagWiper]

@[simp] theorem diagLearn_wf (sub n) : MemoryWf (diagLearn sub n s).2 ↔ MemoryWf s := by simp [diagLearn]

@[simp] theorem diagRoutine_wf (b) : MemoryWf (diagRoutine b s).2 ↔ MemoryWf s := by unfold diagRoutine; (repeat' split) <;> simp

@[simp] theorem diagPresent_wf (b) : MemoryWf (diagPresent b s).2 ↔ MemoryWf s := by simp [diagPresent]

@[simp] theorem diagSetting_wf (b) : MemoryWf (diagSetting b s).2 ↔ MemoryWf s := by unfold diagSetting; dsimp only; (repeat' split) <;> simp

@[simp] theorem diagServe_wf (r b) : MemoryWf (diagServe r b s).2 ↔ MemoryWf s := by unfold diagServe; split <;> simp

@[simp] theorem hDiagReq_wf (r) (hs : MemoryWf s) : ReplyWf (hDiagReq r s) := by simp [hDiagReq, hs]

@[simp] theorem s3TimeoutStep_wf : MemoryWf (s3TimeoutStep s) ↔ MemoryWf s := by simp [s3TimeoutStep]

end Sys2Proof.Proofs
end

section
/-! The tag, the enclave, the buses and Millrace keep both byte memories in canonical form. -/

namespace Sys2Proof.Proofs
open Sys2Proof Sys2Proof.Machine Sys2Proof.Safety

variable {s : State}

/-! #### The tag and its insert -/

@[simp] theorem modTag_wf (f) : MemoryWf (modTag f s) ↔ MemoryWf s := Iff.rfl

@[simp] theorem modRec_wf (serial f) : MemoryWf (modRec serial f s) ↔ MemoryWf s := Iff.rfl

@[simp] theorem takeEvents_wf : MemoryWf (takeEvents s) ↔ MemoryWf s := by simp [takeEvents, memoryWf_foldl_iff]

@[simp] theorem setIns_wf (v) : MemoryWf (setIns v s) ↔ MemoryWf s := by simp [setIns]

@[simp] theorem reserve_wf : MemoryWf (reserve s) ↔ MemoryWf s := by unfold reserve; split <;> simp

@[simp] theorem reserveNext_wf : MemoryWf (reserveNext s) ↔ MemoryWf s := by simp [reserveNext]

@[simp] theorem insEval_wf : MemoryWf (insEval s) ↔ MemoryWf s := by simp [insEval]

@[simp] theorem spend_wf : MemoryWf (spend s) ↔ MemoryWf s := by unfold spend; split <;> simp

@[simp] theorem logTxn_wf (r) : MemoryWf (logTxn r s) ↔ MemoryWf s := by simp [logTxn]

@[simp] theorem sendApdu_wf : MemoryWf (sendApdu s) ↔ MemoryWf s := by unfold sendApdu; split <;> simp

@[simp] theorem afterTxn_wf (receipt) : MemoryWf (afterTxn receipt s) ↔ MemoryWf s := by simp [afterTxn]

@[simp] theorem endTxn_wf (outcome) : MemoryWf (endTxn outcome s) ↔ MemoryWf s := by unfold endTxn; split <;> simp

@[simp] theorem modLink_wf (f) : MemoryWf (modLink f s) ↔ MemoryWf s := Iff.rfl

@[simp] theorem activate_wf : MemoryWf (activate s) ↔ MemoryWf s := Iff.rfl

@[simp] theorem sendPps_wf (l) : MemoryWf (sendPps l s) ↔ MemoryWf s := Iff.rfl

@[simp] theorem modAccept_wf (f) : MemoryWf (modAccept f s) ↔ MemoryWf s := Iff.rfl

@[simp] theorem sendInsert_wf (a) : MemoryWf (sendInsert a s) ↔ MemoryWf s := Iff.rfl

@[simp] theorem repeatBlock_wf (atr) (hs : MemoryWf s) : MemoryWf ((repeatBlock atr s).getD s) := by unfold repeatBlock; split <;> simp [hs]

@[simp] theorem startAccept_wf (raise) : MemoryWf (startAccept raise s) ↔ MemoryWf s := by simp [startAccept]

@[simp] theorem reject_wf : MemoryWf (reject s) ↔ MemoryWf s := by simp [reject]

@[simp] theorem ensureRec_wf (serial) : MemoryWf (ensureRec serial s) ↔ MemoryWf s := by simp [ensureRec]

@[simp] theorem countInsertion_wf (serial raise) : MemoryWf (countInsertion serial raise s) ↔ MemoryWf s := by simp [countInsertion]

@[simp] theorem openInsert_wf (x c keys) : MemoryWf (openInsert x c keys s) ↔ MemoryWf s := by simp [openInsert]

@[simp] theorem acceptCard_wf (n) : MemoryWf (acceptCard n s) ↔ MemoryWf s := by unfold acceptCard; split <;> simp

@[simp] theorem acceptData_wf (x d) : MemoryWf (acceptData x d s) ↔ MemoryWf s := by unfold acceptData; dsimp only; (repeat' split) <;> simp

@[simp] theorem apduDone_wf (status body) : MemoryWf (apduDone status body s) ↔ MemoryWf s := by unfold apduDone; split <;> simp

@[simp] theorem writeDone_wf (ok) : MemoryWf (writeDone ok s) ↔ MemoryWf s := by simp [writeDone]

@[simp] theorem writeCard_wf (n) : MemoryWf (writeCard n s) ↔ MemoryWf s := by unfold writeCard; split <;> simp

@[simp] theorem writeData_wf (step d sw) : MemoryWf (writeData step d sw s) ↔ MemoryWf s := by unfold writeData; split <;> simp

@[simp] theorem startWrite_wf : MemoryWf (startWrite s) ↔ MemoryWf s := by simp [startWrite]

@[simp] theorem cutWrite_wf : MemoryWf (cutWrite s) ↔ MemoryWf s := by simp [cutWrite]

@[simp] theorem insertResponseStep_wf (d sw crcOk) : MemoryWf (insertResponseStep d sw crcOk s) ↔ MemoryWf s := by
  have hagain : ∀ atr t, (MemoryWf t ↔ MemoryWf s) → (MemoryWf ((repeatBlock atr s).getD t) ↔ MemoryWf s) := fun atr t ht => by
    unfold repeatBlock
    split
    · exact ht
    · simp
  unfold insertResponseStep
  (repeat' split) <;> simp [hagain]

@[simp] theorem bwtStep_wf : MemoryWf (bwtStep s) ↔ MemoryWf s := by unfold bwtStep; split <;> simp

@[simp] theorem acceptPresent_wf : MemoryWf (acceptPresent s) ↔ MemoryWf s := by simp [acceptPresent]

@[simp] theorem insertionStep_wf : MemoryWf (insertionStep s) ↔ MemoryWf s := by simp [insertionStep]

@[simp] theorem removalStep_wf : MemoryWf (removalStep s) ↔ MemoryWf s := by unfold removalStep; (repeat' split) <;> simp

@[simp] theorem insertTickStep_wf : MemoryWf (insertTickStep s) ↔ MemoryWf s := by simp [insertTickStep]

@[simp] theorem writeBackStep_wf : MemoryWf (writeBackStep s) ↔ MemoryWf s := by simp [writeBackStep]

@[simp] theorem writeRetryStep_wf : MemoryWf (writeRetryStep s) ↔ MemoryWf s := by simp [writeRetryStep]

@[simp] theorem eventTakeStep_wf : MemoryWf (eventTakeStep s) ↔ MemoryWf s := by simp [eventTakeStep]

/-! #### Enclave sessions and counters -/

@[simp] theorem sysEntry_wf (kind) : MemoryWf (sysEntry kind s) ↔ MemoryWf s := by simp [sysEntry]

@[simp] theorem takePolicy_wf : MemoryWf (takePolicy s) ↔ MemoryWf s := by simp [takePolicy]

@[simp] theorem sweepSlots_wf : MemoryWf (sweepSlots s) ↔ MemoryWf s :=
  memoryWf_foldl_iff (fun t x => by simp) _

@[simp] theorem checkIdentity_wf : MemoryWf (checkIdentity s) ↔ MemoryWf s := by simp [checkIdentity]

@[simp] theorem checkGens_wf : MemoryWf (checkGens s) ↔ MemoryWf s := by simp [checkGens]

@[simp] theorem checkAo_wf : MemoryWf (checkAo s) ↔ MemoryWf s := by simp [checkAo]

@[simp] theorem encReset_wf : MemoryWf (encReset s) ↔ MemoryWf s := by simp [encReset]

@[simp] theorem encStartStep_wf (entropyOk) : MemoryWf (encStartStep entropyOk s) ↔ MemoryWf s := by simp [encStartStep]

@[simp] theorem encWatchdogStep_wf : MemoryWf (encWatchdogStep s) ↔ MemoryWf s := by simp [encWatchdogStep]

@[simp] theorem encrStep_wf : MemoryWf (encrStep s) ↔ MemoryWf s := by simp [encrStep]

@[simp] theorem tamperEventStep_wf (seen) : MemoryWf (tamperEventStep seen s) ↔ MemoryWf s := by simp [tamperEventStep, memoryWf_foldl_iff]

@[simp] theorem rearm_wf (src) : MemoryWf (rearm src s) ↔ MemoryWf s := Iff.rfl

@[simp] theorem slowPass_wf : MemoryWf (slowPass s) ↔ MemoryWf s := by simp [slowPass]

@[simp] theorem slowCheckStep_wf (pass) : MemoryWf (slowCheckStep pass s) ↔ MemoryWf s := by simp [slowCheckStep]

@[simp] theorem slowConfirmStep_wf (pass) : MemoryWf (slowConfirmStep pass s) ↔ MemoryWf s := by unfold slowConfirmStep; split <;> simp

@[simp] theorem monitorArmedStep_wf (src) : MemoryWf (monitorArmedStep src s) ↔ MemoryWf s := by simp [monitorArmedStep]

@[simp] theorem rearmStep_wf (src) : MemoryWf (rearmStep src s) ↔ MemoryWf s := by simp [rearmStep]

@[simp] theorem logWriteStep_wf (line) : MemoryWf (logWriteStep line s) ↔ MemoryWf s := by unfold logWriteStep; (repeat' split) <;> simp

/-! #### Configuration and life rows -/

@[simp] theorem hCfgInfo_wf (r) (hs : MemoryWf s) : ReplyWf (hCfgInfo r s) := by unfold hCfgInfo; split <;> simp [hs]

@[simp] theorem setStaging_wf (g) : MemoryWf (setStaging g s) ↔ MemoryWf s := Iff.rfl

@[simp] theorem hCfgBegin_wf (r) (hs : MemoryWf s) : ReplyWf (hCfgBegin r s) := by simp [hCfgBegin, hs]

@[simp] theorem hCfgData_wf (r) (hs : MemoryWf s) : ReplyWf (hCfgData r s) := by unfold hCfgData; split <;> simp [hs]

@[simp] theorem countCommit_wf : MemoryWf (countCommit s) ↔ MemoryWf s := Iff.rfl

@[simp] theorem commitImage_wf (img crc) : MemoryWf (commitImage img crc s) ↔ MemoryWf s := by simp [commitImage]

@[simp] theorem commitStart_wf (img crc r) (hs : MemoryWf s) : ReplyWf (commitStart img crc r s) := by simp [commitStart, hs]

@[simp] theorem hCfgCommit_wf (r) (hs : MemoryWf s) : ReplyWf (hCfgCommit r s) := by unfold hCfgCommit; (repeat' split) <;> simp [hs]

@[simp] theorem hCfgRead_wf (r) (hs : MemoryWf s) : ReplyWf (hCfgRead r s) := by unfold hCfgRead; split <;> simp [hs]

@[simp] theorem hCfgAbort_wf (r) (hs : MemoryWf s) : ReplyWf (hCfgAbort r s) := by unfold hCfgAbort; split <;> simp [hs]

@[simp] theorem stagingIdleStep_wf : MemoryWf (stagingIdleStep s) ↔ MemoryWf s := by unfold stagingIdleStep; split <;> simp

@[simp] theorem hLifeClock_wf (r) (hs : MemoryWf s) : ReplyWf (hLifeClock r s) := by simp [hLifeClock, hs]

@[simp] theorem hLifeCounter_wf (r) (hs : MemoryWf s) : ReplyWf (hLifeCounter r s) := by unfold hLifeCounter; dsimp only; (repeat' split) <;> simp [hs]

@[simp] theorem hLifeNotices_wf (r) (hs : MemoryWf s) : ReplyWf (hLifeNotices r s) := by simp [hLifeNotices, hs]

@[simp] theorem ackNotice_wf (code object page) : MemoryWf (ackNotice code object page s) ↔ MemoryWf s := by unfold ackNotice; split <;> simp

@[simp] theorem hLifeAck_wf (r) (hs : MemoryWf s) : ReplyWf (hLifeAck r s) := by simp [hLifeAck, hs]

/-! #### Enclave and tamper rows -/

@[simp] theorem withEnc_wf (k) (hs : MemoryWf s) (hk : ReplyWf k) : ReplyWf (withEnc s k) := by
  unfold withEnc
  split
  · exact hs
  · exact hk

@[simp] theorem withBasic_wf (k) (hs : MemoryWf s) (hk : ReplyWf k) : ReplyWf (withBasic s k) := by simp [withBasic, hs, hk]

@[simp] theorem withIdentity_wf (k) (hs : MemoryWf s) (hk : ReplyWf k) : ReplyWf (withIdentity s k) := by simp [withIdentity, hs, hk]

@[simp] theorem hTagGet_wf (x) (hs : MemoryWf s) : ReplyWf (hTagGet x s) := by simp [hTagGet, hs]

@[simp] theorem hTagEnable_wf (r) (hs : MemoryWf s) : ReplyWf (hTagEnable r s) := by simp [hTagEnable, hs]

@[simp] theorem hTagTxnlog_wf (r) (hs : MemoryWf s) : ReplyWf (hTagTxnlog r s) := by simp [hTagTxnlog, hs]

@[simp] theorem hInsGet_wf (x) (hs : MemoryWf s) : ReplyWf (hInsGet x s) := by unfold hInsGet; split <;> simp [hs]

@[simp] theorem hInsApdu_wf (r) (hs : MemoryWf s) : ReplyWf (hInsApdu r s) := by simp [hInsApdu, hs]

@[simp] theorem hEncCert_wf (r) (hs : MemoryWf s) : ReplyWf (hEncCert r s) := by simp [hEncCert, hs]

@[simp] theorem hEncOpen_wf (r) (hs : MemoryWf s) : ReplyWf (hEncOpen r s) := by simp [hEncOpen, hs]

@[simp] theorem hEncProve_wf (r) (hs : MemoryWf s) : ReplyWf (hEncProve r s) := by unfold hEncProve; dsimp only; (repeat' split) <;> simp [hs]

@[simp] theorem hEncClose_wf (r) (hs : MemoryWf s) : ReplyWf (hEncClose r s) := by simp [hEncClose, hs]

@[simp] theorem hEncAttest_wf (r) (hs : MemoryWf s) : ReplyWf (hEncAttest r s) := by simp [hEncAttest, hs]

@[simp] theorem countUpdate_wf (slot) : MemoryWf (countUpdate slot s) ↔ MemoryWf s := Iff.rfl

@[simp] theorem keyUpdate_wf (slot c r) (hs : MemoryWf s) : ReplyWf (keyUpdate slot c r s) := by unfold keyUpdate; split <;> simp [hs]

@[simp] theorem hEncKeyupd_wf (r) (hs : MemoryWf s) : ReplyWf (hEncKeyupd r s) := by
  refine withEnc_wf _ hs ?_
  (repeat' split) <;> simp [hs, inMode]
  split <;> simp [hs]

@[simp] theorem hEncKeyinfo_wf (r) (hs : MemoryWf s) : ReplyWf (hEncKeyinfo r s) := by simp [hEncKeyinfo, hs]

@[simp] theorem hEncCounter_wf (r) (hs : MemoryWf s) : ReplyWf (hEncCounter r s) := by simp [hEncCounter, hs]

@[simp] theorem hTmpFlags_wf (x) (hs : MemoryWf s) : ReplyWf (hTmpFlags x s) := by simp [hTmpFlags, hs]

@[simp] theorem hTmpLog_wf (r) (hs : MemoryWf s) : ReplyWf (hTmpLog r s) := by simp [hTmpLog, hs]

@[simp] theorem hTmpExport_wf (r) (hs : MemoryWf s) : ReplyWf (hTmpExport r s) := by unfold hTmpExport; split <;> simp [hs]

@[simp] theorem hTmpTest_wf (r) (hs : MemoryWf s) : ReplyWf (hTmpTest r s) := by simp [hTmpTest, hs]

/-! #### Input, haptic and motion rows -/

@[simp] theorem hInGet_wf (r) (hs : MemoryWf s) : ReplyWf (hInGet r s) := by simp [hInGet, hs]

@[simp] theorem hInWatch_wf (r) (hs : MemoryWf s) : ReplyWf (hInWatch r s) := by simp [hInWatch, hs]

@[simp] theorem hKeyGet_wf (r) (hs : MemoryWf s) : ReplyWf (hKeyGet r s) := by simp [hKeyGet, hs]

@[simp] theorem hRlsGet_wf (r) (hs : MemoryWf s) : ReplyWf (hRlsGet r s) := by simp [hRlsGet, hs]

@[simp] theorem hRlsCal_wf (r) (hs : MemoryWf s) : ReplyWf (hRlsCal r s) := by unfold hRlsCal; dsimp only; (repeat' split) <;> simp [hs]

@[simp] theorem hapPlay_wf (n amp) : MemoryWf (hapPlay n amp s).2 ↔ MemoryWf s := by simp [hapPlay]

@[simp] theorem hHapPlay_wf (r) (hs : MemoryWf s) : ReplyWf (hHapPlay r s) := by simp [hHapPlay, hs]

@[simp] theorem hHapArm_wf (r) (hs : MemoryWf s) : ReplyWf (hHapArm r s) := by simp [hHapArm, hs]

@[simp] theorem hHapGet_wf (r) (hs : MemoryWf s) : ReplyWf (hHapGet r s) := by simp [hHapGet, hs]

/-! #### CAN, LIN and the uplink -/

@[simp] theorem modUp_wf (f) : MemoryWf (modUp f s) ↔ MemoryWf s := Iff.rfl

@[simp] theorem modStream_wf (n f) : MemoryWf (modStream n f s) ↔ MemoryWf s := Iff.rfl

@[simp] theorem upSend_wf (f) : MemoryWf (upSend f s) ↔ MemoryWf s := Iff.rfl

@[simp] theorem dropMsg_wf (n k) : MemoryWf (dropMsg n k s) ↔ MemoryWf s := Iff.rfl

@[simp] theorem closeBatch_wf (n) : MemoryWf (closeBatch n s) ↔ MemoryWf s := by simp [closeBatch]

@[simp] theorem openBatch_wf (n batch m) : MemoryWf (openBatch n batch m s) ↔ MemoryWf s := by simp [openBatch]

@[simp] theorem addMessage_wf (n batch m) : MemoryWf (addMessage n batch m s) ↔ MemoryWf s := by simp [addMessage]

@[simp] theorem routeCan_wf (ch f) : MemoryWf (routeCan ch f s) ↔ MemoryWf s := by unfold routeCan; split <;> simp

@[simp] theorem extReceive_wf (ch f) : MemoryWf (extReceive ch f s) ↔ MemoryWf s := by simp [extReceive]

@[simp] theorem discardMsg_wf (n) : MemoryWf (discardMsg n s) ↔ MemoryWf s := Iff.rfl

@[simp] theorem routeEth_wf (n m) : MemoryWf (routeEth n s m) ↔ MemoryWf s := by unfold routeEth; (repeat' split) <;> simp

@[simp] theorem ntscfStep_wf (vlan etherType pdu) : MemoryWf (ntscfStep vlan etherType pdu s) ↔ MemoryWf s := by unfold ntscfStep; (repeat' split) <;> simp [memoryWf_foldl_iff]

@[simp] theorem batchCloseStep_wf (n) : MemoryWf (batchCloseStep n s) ↔ MemoryWf s := by simp [batchCloseStep]

@[simp] theorem answerSend_wf (status e) : MemoryWf (answerSend status s e) ↔ MemoryWf s := by unfold answerSend; split <;> simp

@[simp] theorem busOffStep_wf (ch) : MemoryWf (busOffStep ch s) ↔ MemoryWf s := by simp [busOffStep, memoryWf_foldl_iff]

@[simp] theorem busOffRecoveryStep_wf (ch) : MemoryWf (busOffRecoveryStep ch s) ↔ MemoryWf s := by simp [busOffRecoveryStep]

@[simp] theorem sendTimeoutStep_wf (ch) : MemoryWf (sendTimeoutStep ch s) ↔ MemoryWf s :=
  memoryWf_foldl_iff (fun t x => by simp) _

@[simp] theorem isoContinue_wf (x) : MemoryWf (isoContinue x s) ↔ MemoryWf s := by simp [isoContinue]

@[simp] theorem isoSent_wf : MemoryWf (isoSent s) ↔ MemoryWf s := by unfold isoSent; split <;> simp

@[simp] theorem isoAdvance_wf (isFirst) : MemoryWf (isoAdvance isFirst s) ↔ MemoryWf s := by unfold isoAdvance; split <;> simp

@[simp] theorem isoAbandon_wf : MemoryWf (isoAbandon s) ↔ MemoryWf s := Iff.rfl

@[simp] theorem nAsCheck_wf : MemoryWf (nAsCheck s) ↔ MemoryWf s := by unfold nAsCheck; split <;> simp

@[simp] theorem canSentStep_wf (ch errs) : MemoryWf (canSentStep ch errs s) ↔ MemoryWf s := by unfold canSentStep; dsimp only; (repeat' split) <;> simp

@[simp] theorem isoFlow_wf (b) : MemoryWf (isoFlow b s) ↔ MemoryWf s := by unfold isoFlow; split <;> simp

@[simp] theorem nBsStep_wf : MemoryWf (nBsStep s) ↔ MemoryWf s := by unfold nBsStep; dsimp only; (repeat' split) <;> simp

@[simp] theorem wufStep_wf (f) : MemoryWf (wufStep f s) ↔ MemoryWf s := by unfold wufStep; split <;> simp

@[simp] theorem wakeErrorStep_wf (n) : MemoryWf (wakeErrorStep n s) ↔ MemoryWf s := by simp [wakeErrorStep]

@[simp] theorem modLin_wf (ch f) : MemoryWf (modLin ch f s) ↔ MemoryWf s := Iff.rfl

@[simp] theorem linBegin_wf (ch) : MemoryWf (linBegin ch s) ↔ MemoryWf s := by unfold linBegin; dsimp only; (repeat' split) <;> simp

@[simp] theorem linSlotStep_wf (ch resp collision) : MemoryWf (linSlotStep ch resp collision s) ↔ MemoryWf s := by unfold linSlotStep; dsimp only; (repeat' split) <;> simp

@[simp] theorem linFaultStep_wf (ch dominantMs) : MemoryWf (linFaultStep ch dominantMs s) ↔ MemoryWf s := by simp [linFaultStep]

@[simp] theorem linStartStep_wf (ch) : MemoryWf (linStartStep ch s) ↔ MemoryWf s := by simp [linStartStep]

@[simp] theorem modGptp_wf (f) : MemoryWf (modGptp f s) ↔ MemoryWf s := Iff.rfl

@[simp] theorem pdelaySend_wf : MemoryWf (pdelaySend s) ↔ MemoryWf s := by simp [pdelaySend]

@[simp] theorem linkPollStep_wf (up speed full) : MemoryWf (linkPollStep up speed full s) ↔ MemoryWf s := by simp [linkPollStep]

@[simp] theorem gptpJudge_wf : MemoryWf (gptpJudge s) ↔ MemoryWf s := Iff.rfl

@[simp] theorem rtcFollow_wf : MemoryWf (rtcFollow s) ↔ MemoryWf s := by simp [rtcFollow]

@[simp] theorem gptpSyncStep_wf (domain seq twoStep ns interval) : MemoryWf (gptpSyncStep domain seq twoStep ns interval s) ↔ MemoryWf s := by simp [gptpSyncStep]

@[simp] theorem followUpStep_wf (domain seq ns) : MemoryWf (followUpStep domain seq ns s) ↔ MemoryWf s := by unfold followUpStep; split <;> simp

@[simp] theorem pdelayStep_wf (peer t1 t2 t3 t4) : MemoryWf (pdelayStep peer t1 t2 t3 t4 s) ↔ MemoryWf s := by unfold pdelayStep; (repeat' split) <;> simp

@[simp] theorem announceStep_wf (domain valid offset) : MemoryWf (announceStep domain valid offset s) ↔ MemoryWf s := by simp [announceStep]

@[simp] theorem gptpInvalidStep_wf : MemoryWf (gptpInvalidStep s) ↔ MemoryWf s := Iff.rfl

@[simp] theorem arpStep_wf (vlan target sender) : MemoryWf (arpStep vlan target sender s) ↔ MemoryWf s := by simp [arpStep]

@[simp] theorem icmpStep_wf (vlan target sender ident seq data) : MemoryWf (icmpStep vlan target sender ident seq data s) ↔ MemoryWf s := by simp [icmpStep]

/-! #### The Millrace cycle and its stations -/

@[simp] theorem millIdle_wf : MemoryWf (millIdle s) ↔ MemoryWf s := by simp [millIdle]

@[simp] theorem dropRecords_wf (p) : MemoryWf (dropRecords p s) ↔ MemoryWf s := Iff.rfl

@[simp] theorem cycleInstantStep_wf (p) : MemoryWf (cycleInstantStep p s) ↔ MemoryWf s := by simp [cycleInstantStep]

@[simp] theorem countDiscard_wf (seg) : MemoryWf (countDiscard seg s) ↔ MemoryWf s := Iff.rfl

@[simp] theorem tagFailed_wf (seg) : MemoryWf (tagFailed seg s) ↔ MemoryWf s := by unfold tagFailed; split <;> simp

@[simp] theorem noteSender_wf (f) : MemoryWf (noteSender f s) ↔ MemoryWf s := by unfold noteSender; split <;> simp

@[simp] theorem takeInput_wf (p via r) : MemoryWf (takeInput p via r s) ↔ MemoryWf s := by unfold takeInput; split <;> simp

@[simp] theorem takeJoin_wf (p via r) : MemoryWf (takeJoin p via r s) ↔ MemoryWf s := by simp [takeJoin]

@[simp] theorem takeRecord_wf (p via r) : MemoryWf (takeRecord p via s r) ↔ MemoryWf s := by unfold takeRecord; (repeat' split) <;> simp

@[simp] theorem takeFrame_wf (f) : MemoryWf (takeFrame f s) ↔ MemoryWf s := by simp [takeFrame, memoryWf_foldl_iff]

@[simp] theorem inputFrameStep_wf (f) : MemoryWf (inputFrameStep f s) ↔ MemoryWf s := by unfold inputFrameStep; (repeat' split) <;> simp

@[simp] theorem admitStation_wf (p a j) : MemoryWf (admitStation p a j s) ↔ MemoryWf s := by simp [admitStation]

@[simp] theorem refuseJoin_wf (p a reason) : MemoryWf (refuseJoin p a reason s) ↔ MemoryWf s := by simp [refuseJoin]

@[simp] theorem countMiss_wf (a) : MemoryWf (countMiss a s) ↔ MemoryWf s := Iff.rfl

@[simp] theorem inputRows_wf (p a) : MemoryWf (inputRows p a s) ↔ MemoryWf s := by unfold inputRows; dsimp only; (repeat' split) <;> simp

@[simp] theorem evalStation_wf (p a) : MemoryWf (evalStation p s a) ↔ MemoryWf s := by unfold evalStation; dsimp only; (repeat' split) <;> simp

@[simp] theorem evalStray_wf (p e) : MemoryWf (evalStray p s e) ↔ MemoryWf s := by unfold evalStray; split <;> simp

@[simp] theorem evalPort_wf (p) : MemoryWf (evalPort p s) ↔ MemoryWf s := by simp [evalPort, memoryWf_foldl_iff]

@[simp] theorem holdFresh_wf : MemoryWf (holdFresh s) ↔ MemoryWf s := Iff.rfl

@[simp] theorem depChannel_wf (d) : MemoryWf (depChannel d s) ↔ MemoryWf s := Iff.rfl

@[simp] theorem depField_wf (d) : MemoryWf (depField d s) ↔ MemoryWf s := Iff.rfl

@[simp] theorem actDeps_wf : MemoryWf (actDeps s) ↔ MemoryWf s := by
  simp only [actDeps, refreshDoor_wf, applyDrives_wf, memoryWf_mk, memWf_cells]
  exact (memoryWf_foldl_iff (fun t x => by split <;> simp) _).trans (by simp)

@[simp] theorem parkCheck_wf (p) : MemoryWf (parkCheck p s) ↔ MemoryWf s := by simp [parkCheck]

@[simp] theorem inputDeadlineStep_wf (p) : MemoryWf (inputDeadlineStep p s) ↔ MemoryWf s := by simp [inputDeadlineStep]

@[simp] theorem sendOutputs_wf (p) : MemoryWf (sendOutputs p s) ↔ MemoryWf s := Iff.rfl

@[simp] theorem computeStep_wf (p) : MemoryWf (computeStep p s) ↔ MemoryWf s := by unfold computeStep; split <;> simp

@[simp] theorem outputsReadyStep_wf (p) : MemoryWf (outputsReadyStep p s) ↔ MemoryWf s := by simp [outputsReadyStep]

@[simp] theorem residualFrameStep_wf (p src millrace frame) : MemoryWf (residualFrameStep p src millrace frame s) ↔ MemoryWf s := by simp [residualFrameStep]

@[simp] theorem residualUplinkStep_wf (dst vlan frame) : MemoryWf (residualUplinkStep dst vlan frame s) ↔ MemoryWf s := by simp [residualUplinkStep]

@[simp] theorem residualOpenStep_wf (p) : MemoryWf (residualOpenStep p s) ↔ MemoryWf s := by simp [residualOpenStep]

@[simp] theorem startPort_wf (p key) : MemoryWf (startPort p key s) ↔ MemoryWf s := Iff.rfl

@[simp] theorem tryPort_wf (p) : MemoryWf (tryPort s p) ↔ MemoryWf s := by unfold tryPort; (repeat' split) <;> simp

@[simp] theorem tryRelay_wf (c) : MemoryWf (tryRelay s c) ↔ MemoryWf s := by unfold tryRelay; split <;> simp

@[simp] theorem armKeyRetry_wf : MemoryWf (armKeyRetry s) ↔ MemoryWf s := Iff.rfl

@[simp] theorem newEpoch_wf : MemoryWf (newEpoch s) ↔ MemoryWf s := Iff.rfl

@[simp] theorem engineFresh_wf : MemoryWf (engineFresh s) ↔ MemoryWf s := by simp [engineFresh]

@[simp] theorem engineStartStep_wf : MemoryWf (engineStartStep s) ↔ MemoryWf s := by simp [engineStartStep, memoryWf_foldl_iff]

@[simp] theorem keyRetryStep_wf : MemoryWf (keyRetryStep s) ↔ MemoryWf s := by simp [keyRetryStep, memoryWf_foldl_iff]

@[simp] theorem energyStep_wf (p us) : MemoryWf (energyStep p us s) ↔ MemoryWf s := by simp [energyStep]

/-! #### Station rows -/

@[simp] theorem hStnList_wf (x) (hs : MemoryWf s) : ReplyWf (hStnList x s) := by simp [hStnList, hs]

@[simp] theorem hStnGet_wf (r) (hs : MemoryWf s) : ReplyWf (hStnGet r s) := by unfold hStnGet; split <;> simp [hs]

@[simp] theorem imagePut_wf (c off d) : MemoryWf (imagePut c off d s) ↔ MemoryWf s := Iff.rfl

@[simp] theorem hStnWrite_wf (r) (hs : MemoryWf s) : ReplyWf (hStnWrite r s) := by unfold hStnWrite; split <;> simp [hs]

@[simp] theorem hStnCycle_wf (r) (hs : MemoryWf s) : ReplyWf (hStnCycle r s) := by unfold hStnCycle; split <;> simp [hs]

/-! #### The fabric and crossings -/

@[simp] theorem arriveAs_wf (c src kind island detail) : MemoryWf (arriveAs c src kind island detail s) ↔ MemoryWf s := by simp [arriveAs]

@[simp] theorem noticeStep_wf (src kind island detail) : MemoryWf (noticeStep src kind island detail s) ↔ MemoryWf s := by simp [noticeStep]

@[simp] theorem recoverableStep_wf (src kind island detail) : MemoryWf (recoverableStep src kind island detail s) ↔ MemoryWf s := by simp [recoverableStep]

@[simp] theorem severeStep_wf (src kind island detail) : MemoryWf (severeStep src kind island detail s) ↔ MemoryWf s := by simp [severeStep]

@[simp] theorem graveStep_wf (src kind island detail) : MemoryWf (graveStep src kind island detail s) ↔ MemoryWf s := by simp [graveStep]

@[simp] theorem quietStep_wf : MemoryWf (quietStep s) ↔ MemoryWf s := by unfold quietStep; split <;> simp

@[simp] theorem raiseRill_wf (m stamp) : MemoryWf (raiseRill m stamp s) ↔ MemoryWf s := by simp [raiseRill]

@[simp] theorem logNotice_wf (m) : MemoryWf (logNotice m s) ↔ MemoryWf s := by unfold logNotice; dsimp only; (repeat' split) <;> simp

@[simp] theorem takeMessage_wf : MemoryWf (takeMessage s) ↔ MemoryWf s := by unfold takeMessage; (repeat' split) <;> simp

@[simp] theorem takeAll_wf : MemoryWf (takeAll s) ↔ MemoryWf s := by simp [takeAll, memoryWf_foldl_iff]

@[simp] theorem historyStep_wf : MemoryWf (historyStep s) ↔ MemoryWf s := by simp [historyStep]

@[simp] theorem recoverableAckStep_wf : MemoryWf (recoverableAckStep s) ↔ MemoryWf s := by simp [recoverableAckStep]

@[simp] theorem ackTimeoutStep_wf : MemoryWf (ackTimeoutStep s) ↔ MemoryWf s := by simp [ackTimeoutStep]

@[simp] theorem handshakeStep_wf : MemoryWf (handshakeStep s) ↔ MemoryWf s := by simp [handshakeStep]

@[simp] theorem bridgeStep_wf (near far ns) : MemoryWf (bridgeStep near far ns s) ↔ MemoryWf s := by simp [bridgeStep]

/-! #### Bus rows -/

@[simp] theorem hBusGet_wf (r) (hs : MemoryWf s) : ReplyWf (hBusGet r s) := by simp [hBusGet, hs]

@[simp] theorem hBusRoute_wf (r) (hs : MemoryWf s) : ReplyWf (hBusRoute r s) := by simp [hBusRoute, hs]

@[simp] theorem hBusSend_wf (r) (hs : MemoryWf s) : ReplyWf (hBusSend r s) := by simp [hBusSend, hs]

@[simp] theorem hBusLinsched_wf (r) (hs : MemoryWf s) : ReplyWf (hBusLinsched r s) := by simp [hBusLinsched, hs]

end Sys2Proof.Proofs
end

section
/-! Start-up, the syscalls, the service of a request and the rounds after a command keep both byte memories in canonical form. -/

namespace Sys2Proof.Proofs
open Sys2Proof Sys2Proof.Machine Sys2Proof.Safety

variable {s : State}

/-! #### Supply, shutdown and wake -/

@[simp] theorem holdExpiryStep_wf : MemoryWf (holdExpiryStep s) ↔ MemoryWf s := by unfold holdExpiryStep; split <;> simp

@[simp] theorem triggerStep_wf (tr) : MemoryWf (triggerStep tr s) ↔ MemoryWf s := by unfold triggerStep; (repeat' split) <;> simp

@[simp] theorem modeEvalStep_wf (hs : MemoryWf s) : MemoryWf (modeEvalStep s) := by simp [modeEvalStep, hs]

@[simp] theorem lingerStep_wf (hs : MemoryWf s) : MemoryWf (lingerStep s) := by simp [lingerStep, hs]

@[simp] theorem approachStep_wf (hs : MemoryWf s) : MemoryWf (approachStep s) := by simp [approachStep, hs]

@[simp] theorem inactivityStep_wf (hs : MemoryWf s) : MemoryWf (inactivityStep s) := by simp [inactivityStep, hs]

@[simp] theorem crankLimitStep_wf : MemoryWf (crankLimitStep s) ↔ MemoryWf s := by simp [crankLimitStep]

@[simp] theorem ignTimeoutStep_wf : MemoryWf (ignTimeoutStep s) ↔ MemoryWf s := by simp [ignTimeoutStep]

@[simp] theorem ignInvalidStep_wf : MemoryWf (ignInvalidStep s) ↔ MemoryWf s := by simp [ignInvalidStep]

@[simp] theorem wake0Step_wf : MemoryWf (wake0Step s) ↔ MemoryWf s := by simp [wake0Step]

@[simp] theorem supplyTriggerStep_wf (mv) (hs : MemoryWf s) : MemoryWf (supplyTriggerStep mv s) := by simp [supplyTriggerStep, hs]

@[simp] theorem supplyReturnStep_wf (mv) (hs : MemoryWf s) : MemoryWf (supplyReturnStep mv s) := by unfold supplyReturnStep; dsimp only; (repeat' split) <;> simp [hs]

@[simp] theorem supplyRestartStep_wf (mv) : MemoryWf (supplyRestartStep mv s) ↔ MemoryWf s := by simp [supplyRestartStep]

@[simp] theorem awakeExpiryStep_wf (hs : MemoryWf s) : MemoryWf (awakeExpiryStep s) := by simp [awakeExpiryStep, hs]

@[simp] theorem policyShutdownStep_wf (target) (hs : MemoryWf s) : MemoryWf (policyShutdownStep target s) := by simp [policyShutdownStep, hs]

@[simp] theorem stepCompleteStep_wf (hs : MemoryWf s) : MemoryWf (stepCompleteStep s) := by unfold stepCompleteStep; split <;> simp [hs]

@[simp] theorem entryRetryStep_wf (hs : MemoryWf s) : MemoryWf (entryRetryStep s) := by unfold entryRetryStep; split <;> simp [hs]

@[simp] theorem domainOnStep_wf (d) : MemoryWf (domainOnStep d s) ↔ MemoryWf s := by simp [domainOnStep]

@[simp] theorem wakeStep_wf (src) : MemoryWf (wakeStep src s) ↔ MemoryWf s := by simp [wakeStep]

@[simp] theorem wakeTimerStep_wf : MemoryWf (wakeTimerStep s) ↔ MemoryWf s := by simp [wakeTimerStep]

@[simp] theorem wakeHeldStep_wf (mv) : MemoryWf (wakeHeldStep mv s) ↔ MemoryWf s := by unfold wakeHeldStep; dsimp only; (repeat' split) <;> simp

@[simp] theorem cutTransport_wf (x0) : MemoryWf (cutTransport x0 s) ↔ MemoryWf s := by simp [cutTransport]

@[simp] theorem enterFallback_wf : MemoryWf (enterFallback s) ↔ MemoryWf s := by simp [enterFallback]

@[simp] theorem clockCheck_wf : MemoryWf (clockCheck s) ↔ MemoryWf s := by simp [clockCheck]

@[simp] theorem xtalFailStep_wf (seen) : MemoryWf (xtalFailStep seen s) ↔ MemoryWf s := by simp [xtalFailStep]

@[simp] theorem aokReport_wf : MemoryWf (aokReport s) ↔ MemoryWf s := by simp [aokReport]

@[simp] theorem aokFailStep_wf (noEdge) : MemoryWf (aokFailStep noEdge s) ↔ MemoryWf s := by simp [aokFailStep]

@[simp] theorem aokRetryStep_wf (runs) : MemoryWf (aokRetryStep runs s) ↔ MemoryWf s := by simp [aokRetryStep]

@[simp] theorem aorcCalStep_wf : MemoryWf (aorcCalStep s) ↔ MemoryWf s := by simp [aorcCalStep]

@[simp] theorem regFaultStep_wf : MemoryWf (regFaultStep s) ↔ MemoryWf s := by simp [regFaultStep]

@[simp] theorem borStep_wf (d) : MemoryWf (borStep d s) ↔ MemoryWf s := by simp [borStep]

@[simp] theorem lpboStep_wf (ua us) : MemoryWf (lpboStep ua us s) ↔ MemoryWf s := by simp [lpboStep]

@[simp] theorem wdtStep_wf (gap) : MemoryWf (wdtStep gap s) ↔ MemoryWf s := by simp [wdtStep]

@[simp] theorem domResetStep_wf (d) : MemoryWf (domResetStep d s) ↔ MemoryWf s := by simp [domResetStep]

/-! #### Resets and start-up -/

@[simp] theorem resetAct_wf (pos a) : MemoryWf (resetAct pos a s).2 ↔ MemoryWf s := by unfold resetAct; split <;> simp

@[simp] theorem resetActs_wf (ps i l) : MemoryWf (resetActs ps i l s).2 ↔ MemoryWf s := by
  induction l generalizing s i with
  | nil => rfl
  | cons a l ih => exact (ih (i + 1)).trans (by simp)

@[simp] theorem placeActs_wf (ps old) : MemoryWf (placeActs ps old s) ↔ MemoryWf s := by simp [placeActs]

/-- A device reset empties the core's memory and leaves the flash. -/
@[simp] theorem deviceReset_wf (c) (hs : MemoryWf s) : MemoryWf (deviceReset c s) := by
  have h : MemoryWf (copyCut (nvmCut (weakCause c) (keysCut s))) := by simp [hs]
  exact (placeActs_wf _ _).2 ⟨rfl, h.2⟩

@[simp] theorem resetSeq_wf (p) : MemoryWf (resetSeq p s) ↔ MemoryWf s := Iff.rfl

@[simp] theorem svcReset_wf (c) (hs : MemoryWf s) : MemoryWf (svcReset c s) := by
  have h : MemoryWf (copyCut (nvmCut false s)) := by simp [hs]
  exact restartAcks_wf.2 ((resetSeq_wf _).2 ((placeActs_wf _ _).2 ⟨rfl, h.2⟩))

@[simp] theorem logReject_wf (e) : MemoryWf (logReject e s) ↔ MemoryWf s := by simp [logReject]

@[simp] theorem selectTwill_wf (l) : MemoryWf (selectTwill l s) ↔ MemoryWf s := by
  induction l generalizing s with
  | nil => rfl
  | cons n l ih =>
    unfold selectTwill
    split
    · split
      · simp
      · simp [ih]
    · exact ih

@[simp] theorem applyTwill_wf (whole) : MemoryWf (applyTwill whole s) ↔ MemoryWf s := Iff.rfl

@[simp] theorem readParkSwitch_wf : MemoryWf (readParkSwitch s) ↔ MemoryWf s := by unfold readParkSwitch; split <;> simp

@[simp] theorem startLife_wf (c) : MemoryWf (startLife c s) ↔ MemoryWf s := by simp [startLife]

@[simp] theorem requeueCopies_wf : MemoryWf (requeueCopies s) ↔ MemoryWf s := Iff.rfl

@[simp] theorem raiseDomains_wf : MemoryWf (raiseDomains s) ↔ MemoryWf s := Iff.rfl

@[simp] theorem divideExt_wf (n) : MemoryWf (divideExt n s) ↔ MemoryWf s := by simp [divideExt]

@[simp] theorem prepareExt_wf : MemoryWf (prepareExt s) ↔ MemoryWf s := by unfold prepareExt; split <;> simp

@[simp] theorem takeControl_wf : MemoryWf (takeControl s) ↔ MemoryWf s := by simp [takeControl]

@[simp] theorem smisaServe_wf (c) (hs : MemoryWf s) : MemoryWf (smisaServe c s) := by simp [smisaServe, hs]

@[simp] theorem smisaStart_wf (c whole) (hs : MemoryWf s) : MemoryWf (smisaStart c whole s) := by simp [smisaStart, hs]

@[simp] theorem graveRill_wf : MemoryWf (graveRill s) ↔ MemoryWf s := by unfold graveRill; split <;> simp

@[simp] theorem graveStart_wf (c whole) : MemoryWf (graveStart c whole s) ↔ MemoryWf s := by simp [graveStart]

@[simp] theorem rescueStart_wf (hs : MemoryWf s) : MemoryWf (rescueStart s) := by
  unfold rescueStart
  simp only [memoryWf_mk, memWf_cells, serveAll_wf, takeControl_wf, busUp_wf]
  exact memoryWf_foldl (fun t x ht => by split <;> simp [ht]) _ hs

@[simp] theorem comparatorTest_wf : MemoryWf (comparatorTest s) ↔ MemoryWf s := by simp [comparatorTest]

@[simp] theorem bootFrom_wf (c whole rescue) (hs : MemoryWf s) : MemoryWf (bootFrom c whole rescue s) := by simp [bootFrom, hs]

@[simp] theorem startWake_wf (c) : MemoryWf (startWake c s) ↔ MemoryWf s := by unfold startWake; split <;> simp

@[simp] theorem startDevice_wf (c rescue) (hs : MemoryWf s) : MemoryWf (startDevice c rescue s) := by simp [startDevice, hs]

@[simp] theorem domReset_wf (d) (hs : MemoryWf s) : MemoryWf (domReset d s) := by simp [domReset, hs]

@[simp] theorem runReset_wf (c) (hs : MemoryWf s) : MemoryWf (runReset c s) := by unfold runReset; split <;> simp [hs]

@[simp] theorem porStep_wf (below28 below18 testPin isMode ok) (hs : MemoryWf s) : MemoryWf (porStep below28 below18 testPin isMode ok s) := by simp [porStep, hs]

@[simp] theorem pinAssert_wf (hs : MemoryWf s) : MemoryWf (pinAssert s) := by simp [pinAssert, hs]

@[simp] theorem pinResetStep_wf (release lowNs csnLow heldMs) (hs : MemoryWf s) : MemoryWf (pinResetStep release lowNs csnLow heldMs s) := by simp [pinResetStep, hs]

@[simp] theorem startWaiting_wf (hs : MemoryWf s) : MemoryWf (startWaiting s) := by unfold startWaiting; split <;> simp [hs]

/-! #### Extension threads and their syscalls -/

@[simp] theorem saveBase_wf (n) : MemoryWf (saveBase n s).2 ↔ MemoryWf s := Iff.rfl

/-- The extension's start clears the shared memory, which keeps the form. -/
@[simp] theorem extStart_wf (auto) (hs : MemoryWf s) : MemoryWf (extStart auto s) := ⟨Laws.memClear_wf _ _ _ _ hs.1, hs.2⟩

@[simp] theorem extensionStartStep_wf (hs : MemoryWf s) : MemoryWf (extensionStartStep s) := by simp [extensionStartStep, hs]

@[simp] theorem extensionRestartStep_wf (hs : MemoryWf s) : MemoryWf (extensionRestartStep s) := by simp [extensionRestartStep, hs]

@[simp] theorem timeSliceStep_wf : MemoryWf (timeSliceStep s) ↔ MemoryWf s := by unfold timeSliceStep; (repeat' split) <;> simp

@[simp] theorem sharePeriodStep_wf : MemoryWf (sharePeriodStep s) ↔ MemoryWf s := Iff.rfl

@[simp] theorem hExtInfo_wf (x) (hs : MemoryWf s) : ReplyWf (hExtInfo x s) := by unfold hExtInfo; split <;> simp [hs]

@[simp] theorem hExtCtrl_wf (r) (hs : MemoryWf s) : ReplyWf (hExtCtrl r s) := by unfold hExtCtrl; (repeat' split) <;> simp [hs]

@[simp] theorem hExtMsg_wf (r) (hs : MemoryWf s) : ReplyWf (hExtMsg r s) := by simp [hExtMsg, hs]

@[simp] theorem extMsgTimeoutStep_wf (id) : MemoryWf (extMsgTimeoutStep id s) ↔ MemoryWf s := by unfold extMsgTimeoutStep; split <;> simp

@[simp] theorem sysEnd_wf {r} (h : SysWf r) : MemoryWf (sysEnd r) := by
  rcases r with ⟨status, res, t⟩ | ⟨w, d, t⟩ | t
  · simpa [sysEnd] using h
  · simpa [sysEnd] using h
  · exact h

theorem syscall_wf {f : Sys} (hf : ∀ a b c d t, MemoryWf t → SysWf (f a b c d t)) (hs : MemoryWf s) : CoreWf (syscall f s) := by
  unfold syscall
  refine serial_wf (fun t ht => ?_) hs
  split
  next => trivial
  next s2 h =>
    have h2 := memoryWf_of_getD (slideIn_wf _ ht ht) h
    split
    · simp [ht]
    · split
      · simp [ht]
      · exact sysEnd_wf (hf _ _ _ _ _ (by simp [h2]))

@[simp] theorem sret_wf (status) : SysWf (sret status s) ↔ MemoryWf s := Iff.rfl

@[simp] theorem sysMode_wf (code k) (hs : MemoryWf s) (hk : SysWf k) : SysWf (sysMode code s k) := by simp [sysMode, hs, hk]

@[simp] theorem sysStill_wf (k) (hs : MemoryWf s) (hk : SysWf k) : SysWf (sysStill s k) := by simp [sysStill, hs, hk]

@[simp] theorem sysEnc_wf (k) (hs : MemoryWf s) (hk : SysWf k) : SysWf (sysEnc s k) := by simp [sysEnc, hs, hk]

@[simp] theorem sysExit_wf (x0 x1 x2 x3) (hs : MemoryWf s) : SysWf (sysExit x0 x1 x2 x3 s) := by simp [sysExit, hs]

@[simp] theorem sysThread_wf (x0 x1 x2 x3) (hs : MemoryWf s) : SysWf (sysThread x0 x1 x2 x3 s) := by unfold sysThread; (repeat' split) <;> simp [hs]

@[simp] theorem sysYield_wf (x0 x1 x2 x3) (hs : MemoryWf s) : SysWf (sysYield x0 x1 x2 x3 s) := by unfold sysYield; dsimp only; (repeat' split) <;> simp [hs]

@[simp] theorem sysSleep_wf (x0 x1 x2 x3) (hs : MemoryWf s) : SysWf (sysSleep x0 x1 x2 x3 s) := by simp [sysSleep, hs]

@[simp] theorem sysWait_wf (x0 x1 x2 x3) (hs : MemoryWf s) : SysWf (sysWait x0 x1 x2 x3 s) := by simp [sysWait, hs]

@[simp] theorem sysTime_wf (x0 x1 x2 x3) (hs : MemoryWf s) : SysWf (sysTime x0 x1 x2 x3 s) := by simp [sysTime, hs]

@[simp] theorem sysLastfault_wf (x0 x1 x2 x3) (hs : MemoryWf s) : SysWf (sysLastfault x0 x1 x2 x3 s) := by simp [sysLastfault, hs]

@[simp] theorem sysTdx_wf (x0 x1 x2 x3) (hs : MemoryWf s) : SysWf (sysTdx x0 x1 x2 x3 s) := by simp [sysTdx, hs]

@[simp] theorem takeMsg_wf (buf m) (hs : MemoryWf s) : MemoryWf (takeMsg buf m s) := by simp [takeMsg, hs]

@[simp] theorem sysMsgWait_wf (x0 x1 x2 x3) (hs : MemoryWf s) : SysWf (sysMsgWait x0 x1 x2 x3 s) := by unfold sysMsgWait; (repeat' split) <;> simp [hs]

@[simp] theorem sysMsgReply_wf (x0 x1 x2 x3) (hs : MemoryWf s) : SysWf (sysMsgReply x0 x1 x2 x3 s) := by unfold sysMsgReply; (repeat' split) <;> simp [hs]

@[simp] theorem sysBody_wf (buf size body) (hs : MemoryWf s) : SysWf (sysBody buf size body s) := by simp [sysBody, hs]

@[simp] theorem sysInGet_wf (x0 x1 x2 x3) (hs : MemoryWf s) : SysWf (sysInGet x0 x1 x2 x3 s) := by simp [sysInGet, hs]

@[simp] theorem sysKeyGet_wf (x0 x1 x2 x3) (hs : MemoryWf s) : SysWf (sysKeyGet x0 x1 x2 x3 s) := by simp [sysKeyGet, hs]

@[simp] theorem sysModeGet_wf (x0 x1 x2 x3) (hs : MemoryWf s) : SysWf (sysModeGet x0 x1 x2 x3 s) := by simp [sysModeGet, hs]

@[simp] theorem sysWatch_wf (x0 x1 x2 x3) (hs : MemoryWf s) : SysWf (sysWatch x0 x1 x2 x3 s) := by simp [sysWatch, hs]

@[simp] theorem sysOutClaim_wf (x0 x1 x2 x3) (hs : MemoryWf s) : SysWf (sysOutClaim x0 x1 x2 x3 s) := by simp [sysOutClaim, hs]

@[simp] theorem sysOutRelease_wf (x0 x1 x2 x3) (hs : MemoryWf s) : SysWf (sysOutRelease x0 x1 x2 x3 s) := by simp [sysOutRelease, hs]

@[simp] theorem sysOutSet_wf (x0 x1 x2 x3) (hs : MemoryWf s) : SysWf (sysOutSet x0 x1 x2 x3 s) := by simp [sysOutSet, hs]

@[simp] theorem sysOutGet_wf (x0 x1 x2 x3) (hs : MemoryWf s) : SysWf (sysOutGet x0 x1 x2 x3 s) := by simp [sysOutGet, hs]

@[simp] theorem sysHapPlay_wf (x0 x1 x2 x3) (hs : MemoryWf s) : SysWf (sysHapPlay x0 x1 x2 x3 s) := by simp [sysHapPlay, hs]

@[simp] theorem sysStnGet_wf (x0 x1 x2 x3) (hs : MemoryWf s) : SysWf (sysStnGet x0 x1 x2 x3 s) := by unfold sysStnGet; split <;> simp [hs]

@[simp] theorem sysStnWrite_wf (x0 x1 x2 x3) (hs : MemoryWf s) : SysWf (sysStnWrite x0 x1 x2 x3 s) := by unfold sysStnWrite; split <;> simp [hs]

@[simp] theorem sysCanFilter_wf (x0 x1 x2 x3) (hs : MemoryWf s) : SysWf (sysCanFilter x0 x1 x2 x3 s) := by simp [sysCanFilter, hs]

@[simp] theorem canRecord_wf (ch f) : MemoryWf (canRecord ch f s).2 ↔ MemoryWf s := by simp [canRecord]

@[simp] theorem takeCan_wf (buf) (hs : MemoryWf s) : MemoryWf (takeCan buf s) := by unfold takeCan; split <;> simp [hs]

@[simp] theorem sysCanRecv_wf (x0 x1 x2 x3) (hs : MemoryWf s) : SysWf (sysCanRecv x0 x1 x2 x3 s) := by simp [sysCanRecv, hs]

@[simp] theorem sysCanSend_wf (x0 x1 x2 x3) (hs : MemoryWf s) : SysWf (sysCanSend x0 x1 x2 x3 s) := by simp [sysCanSend, hs]

@[simp] theorem readPoisons_wf (a off n) : MemoryWf (readPoisons a off n s) ↔ MemoryWf s := by simp [readPoisons, memoryWf_foldl_iff]

@[simp] theorem sysNdRead_wf (x0 x1 x2 x3) (hs : MemoryWf s) : SysWf (sysNdRead x0 x1 x2 x3 s) := by simp [sysNdRead, hs]

@[simp] theorem sysNdWrite_wf (x0 x1 x2 x3) (hs : MemoryWf s) : SysWf (sysNdWrite x0 x1 x2 x3 s) := by simp [sysNdWrite, hs]

@[simp] theorem eraseCut_wf (a) : MemoryWf (eraseCut a s) ↔ MemoryWf s := by simp [eraseCut]

@[simp] theorem sysNdAppend_wf (x0 x1 x2 x3) (hs : MemoryWf s) : SysWf (sysNdAppend x0 x1 x2 x3 s) := by simp [sysNdAppend, hs]

@[simp] theorem sysNdErase_wf (x0 x1 x2 x3) (hs : MemoryWf s) : SysWf (sysNdErase x0 x1 x2 x3 s) := by simp [sysNdErase, hs]

@[simp] theorem sysSha256_wf (x0 x1 x2 x3) (hs : MemoryWf s) : SysWf (sysSha256 x0 x1 x2 x3 s) := by simp [sysSha256, hs]

@[simp] theorem sysRandom_wf (x0 x1 x2 x3) (hs : MemoryWf s) : SysWf (sysRandom x0 x1 x2 x3 s) := by simp [sysRandom, hs]

@[simp] theorem sysCmac_wf (x0 x1 x2 x3) (hs : MemoryWf s) : SysWf (sysCmac x0 x1 x2 x3 s) := by unfold sysCmac; (repeat' split) <;> simp [hs]

@[simp] theorem sysGcmSeal_wf (x0 x1 x2 x3) (hs : MemoryWf s) : SysWf (sysGcmSeal x0 x1 x2 x3 s) := by
  unfold sysGcmSeal
  split
  · exact hs
  · refine sysEnc_wf _ hs ?_
    split <;> simp [hs]

@[simp] theorem sysGcmOpen_wf (x0 x1 x2 x3) (hs : MemoryWf s) : SysWf (sysGcmOpen x0 x1 x2 x3 s) := by unfold sysGcmOpen; dsimp only; (repeat' split) <;> simp [hs]

@[simp] theorem sysCtrGet_wf (x0 x1 x2 x3) (hs : MemoryWf s) : SysWf (sysCtrGet x0 x1 x2 x3 s) := by simp [sysCtrGet, hs]

@[simp] theorem sysCtrRaise_wf (x0 x1 x2 x3) (hs : MemoryWf s) : SysWf (sysCtrRaise x0 x1 x2 x3 s) := by simp [sysCtrRaise, hs]

@[simp] theorem sysTable_wf (n x1 x2 x3 x4) (hs : MemoryWf s) : SysWf (sysTable n x1 x2 x3 x4 s) := by unfold sysTable; split <;> simp [hs]

@[simp] theorem wakeThread_wf (n) (hs : MemoryWf s) : MemoryWf (wakeThread s n) := by unfold wakeThread; dsimp only; (repeat' split) <;> simp [hs]

@[simp] theorem wakeThreads_wf (hs : MemoryWf s) : MemoryWf (wakeThreads s) := by
  unfold wakeThreads
  split
  · exact memoryWf_foldl (fun t x ht => by simp [ht]) _ hs
  · exact hs

@[simp] theorem syscallTimeoutStep_wf (n) : MemoryWf (syscallTimeoutStep n s) ↔ MemoryWf s := by unfold syscallTimeoutStep; dsimp only; (repeat' split) <;> simp

/-! #### Fault rows -/

@[simp] theorem hFltRead_wf (r) (hs : MemoryWf s) : ReplyWf (hFltRead r s) := by simp [hFltRead, hs]

@[simp] theorem hFltCounters_wf (r) (hs : MemoryWf s) : ReplyWf (hFltCounters r s) := by simp [hFltCounters, hs]

@[simp] theorem hFltClear_wf (r) (hs : MemoryWf s) : ReplyWf (hFltClear r s) := by simp [hFltClear, hs]

@[simp] theorem hTdxStatus_wf (x) (hs : MemoryWf s) : ReplyWf (hTdxStatus x s) := by simp [hTdxStatus, hs]

/-! #### Serving a request -/

@[simp] theorem handle_wf (code r) (hs : MemoryWf s) : ReplyWf (handle code r s) := by unfold handle; split <;> simp [hs]

@[simp] theorem serveCode_wf (code r) (hs : MemoryWf s) : ReplyWf (serveCode code r s) := by unfold serveCode; (repeat' split) <;> simp [hs]

@[simp] theorem renewLeases_wf (code r) : MemoryWf (renewLeases code r s) ↔ MemoryWf s := by unfold renewLeases; (repeat' split) <;> simp [memoryWf_foldl_iff]

@[simp] theorem runRequest_wf (code r) (hs : MemoryWf s) : MemoryWf (runRequest code r s) := by
  have h := serveCode_wf (s := { s with mbx := { s.mbx with hold := some [] } }) code r hs
  unfold runRequest
  split
  next status body s1 hr => rw [hr] at h; simpa using h
  next s1 hr => rw [hr] at h; simpa using h
  next status body s1 k hr =>
    rw [hr] at h
    exact h.2 _ (by simpa using h.1)

@[simp] theorem startSlot_wf (x) (hs : MemoryWf s) : MemoryWf (startSlot x s) := by unfold startSlot; split <;> simp [hs]

@[simp] theorem markStarted_wf (x0 sess seq) : MemoryWf (markStarted x0 sess seq s) ↔ MemoryWf s := by simp [markStarted]

@[simp] theorem pumpOne_wf (x0) (hs : MemoryWf s) : MemoryWf (pumpOne x0 s) := by unfold pumpOne; split <;> simp [hs]

@[simp] theorem pumpLane_wf (x n) (hs : MemoryWf s) : MemoryWf (pumpLane x n s) := by
  induction n generalizing s with
  | zero => exact hs
  | succ n ih => exact ih (pumpOne_wf x hs)

@[simp] theorem pump_wf (hs : MemoryWf s) : MemoryWf (pump s) := pumpLane_wf _ _ (pumpLane_wf _ _ (pumpLane_wf _ _ hs))

@[simp] theorem macFailure_wf (x) : MemoryWf (macFailure x s) ↔ MemoryWf s := by simp [macFailure]

@[simp] theorem resend_wf (r f) : MemoryWf (resend r f s) ↔ MemoryWf s := by unfold resend; split <;> simp

@[simp] theorem noteAccepted_wf (code r x isNew) : MemoryWf (noteAccepted code r x isNew s) ↔ MemoryWf s := by simp [noteAccepted]

@[simp] theorem accept_wf (code r x isNew) (hs : MemoryWf s) : MemoryWf (accept code r x isNew s) := by simp [accept, hs]

@[simp] theorem macGood_wf (r) : MemoryWf (macGood r s) ↔ MemoryWf s := Iff.rfl

@[simp] theorem classify_wf (code r x) (hs : MemoryWf s) : MemoryWf (Machine.classify code r x s) := by
  unfold Machine.classify
  (repeat' split) <;> simp [hs]

@[simp] theorem checkSession_wf (code r) (hs : MemoryWf s) : MemoryWf (checkSession code r s) := by unfold checkSession; split <;> simp [hs]

@[simp] theorem lostRequest_wf (x0) : MemoryWf (lostRequest x0 s) ↔ MemoryWf s := by simp [lostRequest]

@[simp] theorem request_wf (code r) (hs : MemoryWf s) : MemoryWf (request code r s) := by simp [request, hs]

@[simp] theorem requestAt_wf (code r) (hs : MemoryWf s) : MemoryWf (requestAt code r s) := by simp [requestAt, hs]

@[simp] theorem frameIn_wf (x0 src b) (hs : MemoryWf s) : MemoryWf (frameIn x0 src b s) := by unfold frameIn; (repeat' split) <;> simp [hs]

@[simp] theorem sessionIdleStep_wf (x0 id) : MemoryWf (sessionIdleStep x0 id s) ↔ MemoryWf s := by unfold sessionIdleStep; split <;> simp

@[simp] theorem unprovenStep_wf (x0 id) : MemoryWf (unprovenStep x0 id s) ↔ MemoryWf s := by unfold unprovenStep; split <;> simp

@[simp] theorem arbitrationStep_wf : MemoryWf (arbitrationStep s) ↔ MemoryWf s := by simp [arbitrationStep]

@[simp] theorem leaseStep_wf (obj) : MemoryWf (leaseStep obj s) ↔ MemoryWf s := by simp [leaseStep]

/-! #### Frames and datagrams received -/

@[simp] theorem spiEdge_wf : MemoryWf (spiEdge s) ↔ MemoryWf s := by simp [spiEdge]

@[simp] theorem flushEvents_wf : MemoryWf (flushEvents s) ↔ MemoryWf s := by simp [flushEvents]

@[simp] theorem popRx_wf : MemoryWf (popRx s) ↔ MemoryWf s := by simp [popRx]

@[simp] theorem irqClear_wf (v) : MemoryWf (irqClear v s) ↔ MemoryWf s := Iff.rfl

@[simp] theorem irqEnable_wf (v) : MemoryWf (irqEnable v s) ↔ MemoryWf s := Iff.rfl

@[simp] theorem errClear_wf : MemoryWf (errClear s) ↔ MemoryWf s := Iff.rfl

@[simp] theorem winWrite_wf (off v) : MemoryWf (winWrite off v s) ↔ MemoryWf s := by unfold winWrite; split <;> simp

@[simp] theorem shiftOut_wf (b) : MemoryWf (shiftOut b s) ↔ MemoryWf s := Iff.rfl

@[simp] theorem registerWriteStep_wf (off b) : MemoryWf (registerWriteStep off b s) ↔ MemoryWf s := by simp [registerWriteStep]

@[simp] theorem irqWriteStep_wf (v) : MemoryWf (irqWriteStep v s) ↔ MemoryWf s := by simp [irqWriteStep]

@[simp] theorem irqEnWriteStep_wf (v) : MemoryWf (irqEnWriteStep v s) ↔ MemoryWf s := by simp [irqEnWriteStep]

@[simp] theorem evflushStep_wf : MemoryWf (evflushStep s) ↔ MemoryWf s := by simp [evflushStep]

@[simp] theorem rxdropStep_wf : MemoryWf (rxdropStep s) ↔ MemoryWf s := by simp [rxdropStep]

@[simp] theorem errWriteStep_wf : MemoryWf (errWriteStep s) ↔ MemoryWf s := by simp [errWriteStep]

@[simp] theorem frameWrite_wf (b) (hs : MemoryWf s) : MemoryWf (frameWrite b s) := by simp [frameWrite, hs]

@[simp] theorem frameRead_wf (n) : MemoryWf (frameRead n s) ↔ MemoryWf s := by unfold frameRead; split <;> simp

@[simp] theorem frameWriteStep_wf (b) (hs : MemoryWf s) : MemoryWf (frameWriteStep b s) := by simp [frameWriteStep, hs]

@[simp] theorem frameReadStep_wf (n) : MemoryWf (frameReadStep n s) ↔ MemoryWf s := by simp [frameReadStep]

@[simp] theorem readOut_wf (v n) : MemoryWf (readOut v n s) ↔ MemoryWf s := Iff.rfl

@[simp] theorem opcodeStep_wf (op off n) (hs : MemoryWf s) : MemoryWf (opcodeStep op off n s) := by unfold opcodeStep; (repeat' split) <;> simp [hs]

@[simp] theorem hspiWakeStep_wf : MemoryWf (hspiWakeStep s) ↔ MemoryWf s := by simp [hspiWakeStep]

@[simp] theorem datagramStep_wf (d) (hs : MemoryWf s) : MemoryWf (datagramStep d s) := by simp [datagramStep, hs]

@[simp] theorem isoComplete_wf (b) (hs : MemoryWf s) : MemoryWf (isoComplete b s) := by simp [isoComplete, hs]

@[simp] theorem isoSingle_wf (d) (hs : MemoryWf s) : MemoryWf (isoSingle d s) := by simp [isoSingle, hs]

@[simp] theorem isoBegin_wf (n b) : MemoryWf (isoBegin n b s) ↔ MemoryWf s := Iff.rfl

@[simp] theorem isoFirstFrame_wf (d) : MemoryWf (isoFirstFrame d s) ↔ MemoryWf s := by unfold isoFirstFrame; dsimp only; (repeat' split) <;> simp

@[simp] theorem isoConsecutive_wf (d) (hs : MemoryWf s) : MemoryWf (isoConsecutive d s) := by unfold isoConsecutive; split <;> simp [hs]

@[simp] theorem isoReceive_wf (d) (hs : MemoryWf s) : MemoryWf (isoReceive d s) := by unfold isoReceive; split <;> simp [hs]

@[simp] theorem canReceive_wf (ch f) (hs : MemoryWf s) : MemoryWf (canReceive ch f s) := by simp [canReceive, hs]

@[simp] theorem deliverWuf_wf (hs : MemoryWf s) : MemoryWf (deliverWuf s) := by unfold deliverWuf; split <;> simp [hs]

@[simp] theorem canReceivedStep_wf (ch f errs) (hs : MemoryWf s) : MemoryWf (canReceivedStep ch f errs s) := by simp [canReceivedStep, hs]

@[simp] theorem mbxFrameStep_wf (kind f) (hs : MemoryWf s) : MemoryWf (mbxFrameStep kind f s) := by simp [mbxFrameStep, hs]

@[simp] theorem firstFrameStep_wf (f) (hs : MemoryWf s) : MemoryWf (firstFrameStep f s) := by simp [firstFrameStep, hs]

@[simp] theorem consecutiveFrameStep_wf (f) (hs : MemoryWf s) : MemoryWf (consecutiveFrameStep f s) := by simp [consecutiveFrameStep, hs]

@[simp] theorem flowControlStep_wf (f) (hs : MemoryWf s) : MemoryWf (flowControlStep f s) := by simp [flowControlStep, hs]

@[simp] theorem nCrStep_wf (hs : MemoryWf s) : MemoryWf (nCrStep s) := by unfold nCrStep; split <;> simp [hs]

/-! #### The rounds that follow a command -/

@[simp] theorem followUp_wf (hs : MemoryWf s) : MemoryWf (followUp s) := by
  have h : MemoryWf (wakeThreads (canKick (pump (deliverWuf (clockCheck (aokReport (acceptPresent s))))))) :=
    wakeThreads_wf (canKick_wf.2 (pump_wf (deliverWuf_wf (by simp [hs]))))
  simp [followUp, h]

@[simp] theorem settleOnce_wf (hs : MemoryWf s) : MemoryWf (settleOnce s) := by
  unfold settleOnce
  split
  · simp [hs]
  · split
    · simp [hs]
    · simp only [memoryWf_ite]
      simp [hs]

@[simp] theorem settleLoop_wf (n) (hs : MemoryWf s) : MemoryWf (settleLoop n s) := by
  induction n generalizing s with
  | zero => exact hs
  | succ n ih =>
    unfold settleLoop
    split
    · exact hs
    · exact ih (settleOnce_wf hs)

@[simp] theorem settle_wf (hs : MemoryWf s) : MemoryWf (settle s) := by simp [settle, hs]

/-! #### The CXV coprocessor -/

@[simp] theorem cxvResult_wf (vd v) (hs : MemoryWf s) : CoreWf (cxvResult vd v s) := by simp [cxvResult, hs]

@[simp] theorem cxvLanes_wf (vd va vb f) (hs : MemoryWf s) : CoreWf (cxvLanes vd va vb f s) := by simp [cxvLanes, hs]

@[simp] theorem cxvSat_wf (vd va vb f) (hs : MemoryWf s) : CoreWf (cxvSat vd va vb f s) := by simp [cxvSat, hs]

@[simp] theorem shadowAccs_wf (p) : MemoryWf (shadowAccs p s) ↔ MemoryWf s := by simp [shadowAccs]

@[simp] theorem cxvMac_wf (va vb sub) (hs : MemoryWf s) : CoreWf (cxvMac va vb sub s) := by simp [cxvMac, hs]

@[simp] theorem cxvClear_wf (hs : MemoryWf s) : CoreWf (cxvClear s) := by simp [cxvClear, hs]

@[simp] theorem cxvRead_wf (vd sh) (hs : MemoryWf s) : CoreWf (cxvRead vd sh s) := by simp [cxvRead, hs]

theorem vload_wf {vd ra imm} (hs : MemoryWf s) : CoreWf (vload vd ra imm s) := by
  unfold vload
  dsimp only
  split
  · split
    · exact coreWf_error
    · split
      · exact accessWindow_wf (fun t ht => by simp [ht]) hs
      · exact coreWf_error
  · exact coreWf_error

theorem dmaFeed_wf {va} (hs : MemoryWf s) : CoreWf (dmaFeed va s) := by
  unfold dmaFeed
  split
  · trivial
  · exact serial_wf (fun t ht => by simp [ht]) hs

/-! #### Calls, returns, control registers, interrupts and comparisons -/

@[simp] theorem callTo_wf (target) (hs : MemoryWf s) : CoreWf (callTo target s) := by simp [callTo, hs]

theorem windowTrap_wf {due k} (hk : ∀ t, MemoryWf t → CoreWf (k t)) (hs : MemoryWf s) : CoreWf (windowTrap due k s) := by
  unfold windowTrap
  split
  · exact serial_wf hk hs
  · exact hk s hs

theorem callWindow_wf {target} (hs : MemoryWf s) : CoreWf (callWindow target s) := by
  refine windowTrap_wf (fun t ht => ?_) hs
  split
  next => trivial
  next s1 h =>
    have h1 := memoryWf_of_getD (roomIn_wf _ ht ht) h
    (repeat' split) <;> simp [h1]

theorem returnWindow_wf (hs : MemoryWf s) : CoreWf (returnWindow s) := by
  unfold returnWindow
  dsimp only
  split
  · exact serial_wf (fun t ht => by simp [ht]) hs
  · refine windowTrap_wf (fun t ht => ?_) hs
    split
    next => trivial
    next s1 h =>
      have h1 := roomOut_wf ht h
      (repeat' split) <;> simp [h1]

theorem privileged_wf {f} (hf : ∀ t, MemoryWf t → CoreWf (f t)) (hs : MemoryWf s) : CoreWf (privileged f s) := by
  unfold privileged
  split
  · trivial
  · exact serial_wf hf hs

theorem trapReturn_wf (hs : MemoryWf s) : CoreWf (trapReturn s) := by
  unfold trapReturn
  dsimp only
  split
  · simp [hs]
  · split
    next => trivial
    next s1 h => simp [slideOut_wf hs h]

theorem windowSpill_wf (hs : MemoryWf s) : CoreWf (windowSpill s) := by
  unfold windowSpill
  split
  next s1 h => simp [memoryWf_of_getD (spillOne_wf hs hs) h]
  next => trivial

theorem windowFill_wf (hs : MemoryWf s) : CoreWf (windowFill s) := by
  unfold windowFill
  split
  · trivial
  · split
    next s1 h => simp [memoryWf_of_getD (refillOne_wf hs hs) h]
    next => trivial

theorem csrRead1_wf {rd n} (hs : MemoryWf s) : CoreWf (csrRead1 rd n s) := by
  unfold csrRead1
  split
  · split
    · exact coreWf_error
    · exact serial_wf (fun t ht => by simp [ht]) hs
  · exact coreWf_error

/-- A write of a control register leaves the memory. -/
theorem csrWrite_mem {c d : Core} {n w} (h : csrWrite c n w = some d) : d.mem = c.mem := by
  unfold csrWrite at h
  dsimp only at h
  (repeat' split at h) <;> cases h <;> rfl

theorem csrWrite1_wf {ra n} (hs : MemoryWf s) : CoreWf (csrWrite1 ra n s) := by
  unfold csrWrite1
  split
  · refine serial_wf (fun t ht => ?_) hs
    split
    next => trivial
    next c hc => simp [csrWrite_mem hc, ht]
  · trivial

@[simp] theorem acceptInterrupt_wf (hs : MemoryWf s) : MemoryWf (acceptInterrupt s) := by unfold acceptInterrupt; split <;> simp [hs]

@[simp] theorem pendAt_wf (source level) : MemoryWf (pendAt source level s) ↔ MemoryWf s := Iff.rfl

@[simp] theorem interruptStep_wf (source level) (hs : MemoryWf s) : MemoryWf (interruptStep source level s) := by simp [interruptStep, hs]

@[simp] theorem noteReplay_wf : MemoryWf (noteReplay s) ↔ MemoryWf s := by simp [noteReplay]

@[simp] theorem noteSecond_wf : MemoryWf (noteSecond s) ↔ MemoryWf s := by simp [noteSecond]

@[simp] theorem windowCompare_wf (upset addr) (hs : MemoryWf s) : MemoryWf (windowCompare upset addr s) := by unfold windowCompare; split <;> simp [hs]

@[simp] theorem smisaCompare_wf (task ok) : MemoryWf (smisaCompare task ok s) ↔ MemoryWf s := by simp [smisaCompare]

@[simp] theorem compareStep_wf (task upset addr) (hs : MemoryWf s) : MemoryWf (compareStep task upset addr s) := by unfold compareStep; split <;> simp [hs]

/-! #### Input events -/

@[simp] theorem noteSwitch_wf (n mv) : MemoryWf (noteSwitch n mv s) ↔ MemoryWf s := Iff.rfl

@[simp] theorem switchPollStep_wf (n mv) : MemoryWf (switchPollStep n mv s) ↔ MemoryWf s := by simp [switchPollStep]

@[simp] theorem confirmPollStep_wf (n mv) : MemoryWf (confirmPollStep n mv s) ↔ MemoryWf s := by simp [confirmPollStep]

@[simp] theorem switchStuckStep_wf (n) : MemoryWf (switchStuckStep n s) ↔ MemoryWf s := by simp [switchStuckStep]

@[simp] theorem wakeEdgeStep_wf (pin high) : MemoryWf (wakeEdgeStep pin high s) ↔ MemoryWf s := Iff.rfl

@[simp] theorem armWake0_wf (pin) : MemoryWf (armWake0 pin s) ↔ MemoryWf s := by simp [armWake0]

@[simp] theorem wakeFilteredStep_wf (pin) : MemoryWf (wakeFilteredStep pin s) ↔ MemoryWf s := by simp [wakeFilteredStep]

@[simp] theorem keyStuckStep_wf (n) : MemoryWf (keyStuckStep n s) ↔ MemoryWf s := by simp [keyStuckStep]

@[simp] theorem anyKeyStep_wf (rows) : MemoryWf (anyKeyStep rows s) ↔ MemoryWf s := by simp [anyKeyStep]

@[simp] theorem intensityFallStep_wf : MemoryWf (intensityFallStep s) ↔ MemoryWf s := by unfold intensityFallStep; split <;> simp

@[simp] theorem rainFailedStep_wf : MemoryWf (rainFailedStep s) ↔ MemoryWf s := by unfold rainFailedStep; split <;> simp

@[simp] theorem alsFailedStep_wf (ch) : MemoryWf (alsFailedStep ch s) ↔ MemoryWf s := by unfold alsFailedStep; dsimp only; (repeat' split) <;> simp

@[simp] theorem rainLightStep_wf : MemoryWf (rainLightStep s) ↔ MemoryWf s := by simp [rainLightStep]

@[simp] theorem htrigStep_wf (rising) : MemoryWf (htrigStep rising s) ↔ MemoryWf s := by unfold htrigStep; split <;> simp

@[simp] theorem effectEndStep_wf (bemf) : MemoryWf (effectEndStep bemf s) ↔ MemoryWf s := by unfold effectEndStep; split <;> simp

@[simp] theorem brakeEndStep_wf : MemoryWf (brakeEndStep s) ↔ MemoryWf s := by unfold brakeEndStep; dsimp only; (repeat' split) <;> simp

@[simp] theorem timeLimitStep_wf : MemoryWf (timeLimitStep s) ↔ MemoryWf s := by unfold timeLimitStep; split <;> simp

@[simp] theorem resistanceStep_wf (mv ua) : MemoryWf (resistanceStep mv ua s) ↔ MemoryWf s := by simp [resistanceStep]

@[simp] theorem hapticLowStep_wf (mv) : MemoryWf (hapticLowStep mv s) ↔ MemoryWf s := by simp [hapticLowStep]

/-! #### The life clock and the RTC -/

@[simp] theorem clockSecond_wf : MemoryWf (clockSecond s) ↔ MemoryWf s := Iff.rfl

@[simp] theorem chanSecond_wf (o) : MemoryWf (chanSecond s o) ↔ MemoryWf s := by simp [chanSecond]

@[simp] theorem hotSecond_wf (idx temp thr) : MemoryWf (hotSecond idx temp thr s) ↔ MemoryWf s := by simp [hotSecond]

@[simp] theorem actSecond_wf (n) : MemoryWf (actSecond s n) ↔ MemoryWf s := by simp [actSecond]

@[simp] theorem wiperSecond_wf : MemoryWf (wiperSecond s) ↔ MemoryWf s := by simp [wiperSecond]

@[simp] theorem modeSecond_wf : MemoryWf (modeSecond s) ↔ MemoryWf s := by simp [modeSecond]

@[simp] theorem countSecond_wf : MemoryWf (countSecond s) ↔ MemoryWf s := by simp [countSecond, memoryWf_foldl_iff]

@[simp] theorem lifeSecondStep_wf : MemoryWf (lifeSecondStep s) ↔ MemoryWf s := by simp [lifeSecondStep]

@[simp] theorem journalStep_wf : MemoryWf (journalStep s) ↔ MemoryWf s := by simp [journalStep]

@[simp] theorem formerEraseStep_wf : MemoryWf (formerEraseStep s) ↔ MemoryWf s := by simp [formerEraseStep]

/-! #### SWAP and ECC errors -/

@[simp] theorem dropWindowStores_wf : MemoryWf (dropWindowStores s) ↔ MemoryWf s := by simp [dropWindowStores]

theorem withEcc_wf {ecc ea f} (hf : ∀ t, MemoryWf t → CoreWf (f t)) (hs : MemoryWf s) : CoreWf (withEcc ecc ea f s) := by
  have h := hf s hs
  unfold withEcc
  cases ecc with
  | clean => exact h
  | corrected =>
    cases hr : f s with
    | error e => trivial
    | ok r => rw [hr] at h; simpa using h
  | uncorrected => cases hr : f s <;> simp [hs]
  | fetchUncorr => simp [hs]

theorem swapMem_wf {rd ra imm} (hs : MemoryWf s) : CoreWf (swapMem rd ra imm s) := by
  unfold swapMem
  dsimp only
  split
  · split
    · exact coreWf_error
    · split
      · exact coreWf_error
      · split
        · exact coreWf_error
        · split
          · exact ownWindow_wf (fun t ht => by simp [ht]) hs
          · simp [hs]
  · exact coreWf_error

/-! #### DSRC and UHF -/

@[simp] theorem answer_wf (a) : MemoryWf (answer a s) ↔ MemoryWf s := Iff.rfl

@[simp] theorem silent_wf : MemoryWf (silent s) ↔ MemoryWf s := Iff.rfl

@[simp] theorem modTxn_wf (f) : MemoryWf (modTxn f s) ↔ MemoryWf s := Iff.rfl

@[simp] theorem refusedAttempt_wf (beacon) : MemoryWf (refusedAttempt beacon s) ↔ MemoryWf s := by simp [refusedAttempt]

@[simp] theorem bstStep_wf (beacon channel profile efc ctx) : MemoryWf (bstStep beacon channel profile efc ctx s) ↔ MemoryWf s := by unfold bstStep; (repeat' split) <;> simp

@[simp] theorem dsrcFrame_wf {k} (bit link) (hk : ∀ t, MemoryWf (k t).1 ↔ MemoryWf t) : MemoryWf (dsrcFrame bit link k s) ↔ MemoryWf s := by
  unfold dsrcFrame
  dsimp only
  (repeat' split) <;> simp [hk]

@[simp] theorem reach_wf (p) : MemoryWf (reach p s) ↔ MemoryWf s := Iff.rfl

@[simp] theorem withCredential_wf {k} (cred) (hk : ∀ t, MemoryWf (k t).1 ↔ MemoryWf t) : MemoryWf (withCredential cred k s).1 ↔ MemoryWf s := by
  simp [withCredential, hk]

@[simp] theorem getStep_wf (bit link attrs cred) : MemoryWf (getStep bit link attrs cred s) ↔ MemoryWf s := by simp [getStep]

@[simp] theorem setStep_wf (bit link attr value) : MemoryWf (setStep bit link attr value s) ↔ MemoryWf s := by simp [setStep]

@[simp] theorem stampedStep_wf (bit link attrs rnd key cred) : MemoryWf (stampedStep bit link attrs rnd key cred s) ↔ MemoryWf s := by simp [stampedStep]

@[simp] theorem mmiStep_wf (bit link v) : MemoryWf (mmiStep bit link v s) ↔ MemoryWf s := by simp [mmiStep]

@[simp] theorem echoStep_wf (bit link d) : MemoryWf (echoStep bit link d s) ↔ MemoryWf s := by simp [echoStep]

@[simp] theorem releaseStep_wf (bit link) : MemoryWf (releaseStep bit link s) ↔ MemoryWf s := by simp [releaseStep]

@[simp] theorem txnIdleStep_wf : MemoryWf (txnIdleStep s) ↔ MemoryWf s := by unfold txnIdleStep; split <;> simp

@[simp] theorem modUhf_wf (f) : MemoryWf (modUhf f s) ↔ MemoryWf s := Iff.rfl

@[simp] theorem carrierBack_wf : MemoryWf (carrierBack s) ↔ MemoryWf s := by simp [carrierBack]

@[simp] theorem selectStep_wf (target action bank ptr len mask) : MemoryWf (selectStep target action bank ptr len mask s) ↔ MemoryWf s := by simp [selectStep]

@[simp] theorem drawSlot_wf (q) : MemoryWf (drawSlot q s) ↔ MemoryWf s := by simp [drawSlot]

@[simp] theorem leaveRound_wf (session) : MemoryWf (leaveRound session s) ↔ MemoryWf s := Iff.rfl

@[simp] theorem queryStep_wf (sel session target q) : MemoryWf (queryStep sel session target q s) ↔ MemoryWf s := by simp [queryStep]

@[simp] theorem queryAdjustStep_wf (session updn) : MemoryWf (queryAdjustStep session updn s) ↔ MemoryWf s := by simp [queryAdjustStep]

@[simp] theorem queryRepStep_wf (session) : MemoryWf (queryRepStep session s) ↔ MemoryWf s := by simp [queryRepStep]

@[simp] theorem ackStep_wf (rn) : MemoryWf (ackStep rn s) ↔ MemoryWf s := by simp [ackStep]

@[simp] theorem nakStep_wf : MemoryWf (nakStep s) ↔ MemoryWf s := by simp [nakStep]

@[simp] theorem reqRnStep_wf (rn) : MemoryWf (reqRnStep rn s) ↔ MemoryWf s := by simp [reqRnStep]

@[simp] theorem underHandle_wf {k} (handle) (hk : ∀ t, MemoryWf (k t) ↔ MemoryWf t) : MemoryWf (underHandle handle k s) ↔ MemoryWf s := by
  simp [underHandle, hk]

@[simp] theorem readStep_wf (bank ptr count handle) : MemoryWf (readStep bank ptr count handle s) ↔ MemoryWf s :=
  underHandle_wf handle (fun t => by dsimp only; (repeat' split) <;> simp)

@[simp] theorem accessStep_wf (pw handle) : MemoryWf (accessStep pw handle s) ↔ MemoryWf s := by simp [accessStep]

@[simp] theorem authenticateStep_wf (csi method keyId challenge handle) : MemoryWf (authenticateStep csi method keyId challenge handle s) ↔ MemoryWf s :=
  underHandle_wf handle (fun t => by dsimp only; (repeat' split) <;> simp)

@[simp] theorem uhfWriteStep_wf (handle) : MemoryWf (uhfWriteStep handle s) ↔ MemoryWf s := by simp [uhfWriteStep]

@[simp] theorem blockWriteStep_wf (handle) : MemoryWf (blockWriteStep handle s) ↔ MemoryWf s := by simp [blockWriteStep]

@[simp] theorem blockEraseStep_wf (handle) : MemoryWf (blockEraseStep handle s) ↔ MemoryWf s := by simp [blockEraseStep]

@[simp] theorem lockStep_wf (handle) : MemoryWf (lockStep handle s) ↔ MemoryWf s := by simp [lockStep]

@[simp] theorem killStep_wf (handle) : MemoryWf (killStep handle s) ↔ MemoryWf s := by simp [killStep]

@[simp] theorem fieldLossStep_wf : MemoryWf (fieldLossStep s) ↔ MemoryWf s := Iff.rfl

@[simp] theorem flagPersistStep_wf : MemoryWf (flagPersistStep s) ↔ MemoryWf s := by simp [flagPersistStep]

@[simp] theorem rfFieldStep_wf (us) : MemoryWf (rfFieldStep us s) ↔ MemoryWf s := by simp [rfFieldStep]

end Sys2Proof.Proofs
end

section
/-! Every step keeps both byte memories in canonical form (O58): a core instruction by what it answers, a mailbox row by the service of its request, an event by its own step. -/

namespace Sys2Proof.Proofs
open Sys2Proof Sys2Proof.Machine Sys2Proof.Safety

variable {s t : State}

/-- The rounds that follow a command keep the form. -/
theorem next_wf {q : State} (hq : MemoryWf q) (h : (.next (settle q) : Host.Outcome State Fault Refusal) = .next t) : MemoryWf t := by
  cases h
  exact settle_wf hq

theorem coreNext_wf {g f} (hf : ∀ u, MemoryWf u → CoreWf (f u)) (hs : MemoryWf s) (h : (.next (settle (coreWith g f s)) : Host.Outcome State Fault Refusal) = .next t) : MemoryWf t :=
  next_wf (coreWith_wf hf hs) h

theorem syscNext_wf {f : Sys} (hf : ∀ a b c d u, MemoryWf u → SysWf (f a b c d u)) (hs : MemoryWf s) (h : (.next (settle (coreStep (syscall f) s)) : Host.Outcome State Fault Refusal) = .next t) : MemoryWf t :=
  next_wf (coreStep_wf (fun _ hu => syscall_wf hf hu) hs) h

/-- Every command keeps the canonical form: the core's instructions that answer by a shared operation first, then the ALU, load, store and branch forms, the mailbox rows and the events, whose steps keep it by their own lemmas. -/
theorem exec_wf (c : Instr) (hs : MemoryWf s) (h : exec c s = .next t) : MemoryWf t := by
  cases c
  case mulh | mulhu | div | divu | rem | remu => exact coreNext_wf (fun _ hu => alu_wf _ _ _ hu) hs h
  case lw => exact coreNext_wf (fun _ hu => withEcc_wf (fun _ hv => loadWith_wf hv) hu) hs h
  case swap => exact coreNext_wf (fun _ hu => swapMem_wf hu) hs h
  case j | ret => exact coreNext_wf (fun _ hu => jumpTo_wf hu) hs h
  case jr => exact coreNext_wf (fun _ hu => by simp [hu, jumpTo_wf]) hs h
  case call => exact coreNext_wf (fun _ hu => callTo_wf _ hu) hs h
  case callr => exact coreNext_wf (fun _ hu => by simp [hu]) hs h
  case callw => exact coreNext_wf (fun _ hu => callWindow_wf hu) hs h
  case callwr => exact coreNext_wf (fun _ hu => by simp [hu, callWindow_wf]) hs h
  case retw => exact coreNext_wf (fun _ hu => returnWindow_wf hu) hs h
  case tret => exact coreNext_wf (fun _ hu => privileged_wf (fun _ hv => trapReturn_wf hv) hu) hs h
  case wspill => exact coreNext_wf (fun _ hu => privileged_wf (fun _ hv => windowSpill_wf hv) hu) hs h
  case wfill => exact coreNext_wf (fun _ hu => privileged_wf (fun _ hv => windowFill_wf hv) hu) hs h
  case wfi | halt => exact coreNext_wf (fun _ hu => privileged_wf (fun _ hv => by simp [hv]) hu) hs h
  case csrr => exact coreNext_wf (fun _ hu => csrRead1_wf hu) hs h
  case csrw => exact coreNext_wf (fun _ hu => csrWrite1_wf hu) hs h
  case vadd | vadds | vsub | vsubs | vand | vor | vxor | vmul | vmac | vmsu | vaclr | vacrd | vmovg | vmovv | vsplat =>
    exact coreNext_wf (fun _ hu => by simp [hu]) hs h
  case vld => exact coreNext_wf (fun _ hu => vload_wf hu) hs h
  case cxvDma => exact coreNext_wf (fun _ hu => dmaFeed_wf hu) hs h
  case sysc => exact syscNext_wf (fun _ _ _ _ _ hu => sysTable_wf _ _ _ _ _ hu) hs h
  case syscExit | syscThread | syscYield | syscSleep | syscWait | syscTime | syscLastfault | syscTdx | syscMsgWait | syscMsgReply
      | syscInGet | syscKeyGet | syscModeGet | syscWatch | syscOutClaim | syscOutRelease | syscOutSet | syscOutGet | syscHapPlay
      | syscStnGet | syscStnWrite | syscCanFilter | syscCanRecv | syscCanSend | syscNdRead | syscNdWrite | syscNdAppend | syscNdErase
      | syscSha256 | syscRandom | syscCmac | syscGcmSeal | syscGcmOpen | syscCtrGet | syscCtrRaise =>
    exact syscNext_wf (fun _ _ _ _ _ hu => by simp [hu]) hs h
  all_goals exact next_wf (by simp [hs]) h

theorem step_wf (hs : MemoryWf s) (h : step s = .next t) : MemoryWf t := by
  unfold step at h
  split at h
  · cases h
    exact hs
  next c rest _ =>
    have hrest : MemoryWf { s with pending := rest } := hs
    exact exec_wf c hrest h

/-- Settles O58: whatever command stands at the front of the queue, its step and the rounds after it keep the cells of both memories canonical. -/
theorem everyStepKeepsTheMemoriesCanonical : Obligations.EveryStepKeepsTheMemoriesCanonical :=
  fun _ _ hs h => step_wf hs h

end Sys2Proof.Proofs
end
